-- ==== Sys2Proof/Word.lean ====
section
/-! DEFINITION. The word types of the module and their plainest arithmetic. -/

namespace Sys2Proof

/-- A register word: every register is 32 bits wide (R73). -/
abbrev Word := BitVec 32

/-- A word of an input or output image: 64 bits (R175). -/
abbrev DWord := BitVec 64

/-- A byte of a memory window. -/
abbrev Byte := BitVec 8

end Sys2Proof
end

