-- ==== Sys2Proof/Syntax.lean ====
section
/-! DEFINITION. The commands of the Lemlis 936: one constructor of `Instr` for each row of the
table of operations and events, with the row's operands, and the operand types. -/

namespace Sys2Proof

/-- The initiators of a register access, with the codes of R71. -/
inductive Init where
  | lane (l : Fin 3)
  | vote
  | svc (n : Fin 4)
  | mgmt
  | dma
  | pcie
  | troika
  | hw
  deriving DecidableEq, Repr

/-- What a reader of protected memory finds: the word as written, a corrected single-bit error, or an
uncorrectable error (R155, R265). -/
inductive Ecc where
  | clean
  | corrected
  | uncorrectable
  deriving DecidableEq, Repr

/-- An ECC error that a view met as it read the line store (R265): camera, ring slot and pixel of the word, and whether it
could not be corrected. -/
structure LineEcc where
  cam : Fin 8
  slot : Nat
  x : Nat
  lost : Bool
  deriving DecidableEq, Repr

/-- How the three copies of a T3 word depart from the word last written (R78): the bits that differ in
each copy, and whether the copy's parity bit has itself changed. -/
structure Upset where
  d0 : Word
  d1 : Word
  d2 : Word
  q0 : Bool
  q1 : Bool
  q2 : Bool
  deriving DecidableEq, Repr

/-- The instruction-set options of R150; `absent` stands for every other instruction. -/
inductive IsaOption where
  | base
  | mul
  | float
  | compressed
  | zicsr
  | zifencei
  | wfi
  | timeCsr
  | absent
  deriving DecidableEq, Repr

/-- Where a retiring instruction writes its result: nowhere, an x or an f register (R158, `tag[8:7]`). -/
inductive WbKind where
  | none
  | x
  | f
  deriving DecidableEq, Repr

/-- What a Zicsr instruction does with the word it names: write, set or clear bits. -/
inductive CsrKind where
  | write
  | set
  | clear
  deriving DecidableEq, Repr

/-- A Zicsr instruction (R150): the CSR's number, its kind, the source operand (none where its register is x0 and nothing
is written), and the x register that takes the old value. -/
structure CsrOp where
  num : Nat
  kind : CsrKind
  src : Option Word
  rd : Nat
  deriving DecidableEq, Repr

/-- The bus access of a retiring instruction (R158, `tag[1:0]`): nothing, a load, a store, each with its
address, its size in bytes, whether a load extends the sign, and a store's data. The datum of a load is what the state holds. -/
inductive BusOp where
  | none
  | load (addr : Word) (bytes : Nat) (signed : Bool)
  | store (addr : Word) (bytes : Nat) (data : Word)
  deriving DecidableEq, Repr

/-- What one retiring instruction of a lane core does: its pc and the pc after it, its option of
R150, its write-back and its bus access; `idle` LCLK cycles without a retirement come before it.
`shadowDev` is how the shadow core's input vector departs from the main core's (0 without an upset). -/
structure Retire where
  idle : Nat
  pc : Word
  nextPc : Word
  opt : IsaOption
  wb : WbKind
  wbReg : Nat
  /-- The value written, where the instruction is neither a load nor a Zicsr instruction. -/
  wbv : Word
  bus : BusOp
  csr : Option CsrOp
  /-- Exception flags that a floating-point instruction adds to fcsr. -/
  fflags : Nat
  /-- `some c` when the instruction itself raises the exception with mcause `c`. -/
  exc : Option Nat
  /-- It is MRET, the return from an exception (R150). -/
  mret : Bool
  /-- What its load of an SRAM word, and the fetch of its own word, find there (R155). -/
  ecc : Ecc
  fetchEcc : Ecc
  shadowDev : DWord
  /-- The shadow core's own instruction, as it runs in SPLIT (R164). -/
  shadow : Bool
  deriving DecidableEq, Repr

/-- What a debugger asks of a lane core (R166). -/
inductive DebugAct where
  | halt
  | step
  | write
  | trigger
  deriving DecidableEq, Repr

/-- A CAN frame as it stands on the bus (R332). -/
structure CanFrame where
  id : Nat
  ide : Bool
  fdf : Bool
  brs : Bool
  esi : Bool
  rtr : Bool
  dlc : Nat
  data : List Byte
  deriving DecidableEq, Repr

/-- The field of a frame in which a bus error fell (R349, R350). -/
inductive CanField where
  | arbitration
  | control
  | data
  | crc
  | other
  deriving DecidableEq, Repr

/-- A frame on one MVB line, or its absence (R356, R357). -/
inductive MvbFrame where
  | master (port : Nat) (fcode : Nat) (own : Bool)
  | slave (data : List Byte)
  | bad
  deriving DecidableEq, Repr

/-- The PTP content of an Ethernet frame (R368, R369). -/
inductive PtpMsg where
  | none
  | sync
  | delayReq
  | pdelayReq
  | pdelayResp
  | pdelayFollowUp
  | other
  deriving DecidableEq, Repr

/-- The encapsulations of an event message (R368, R370); `udp6short` has no bytes after the message. -/
inductive PtpEncap where
  | l2
  | udp4
  | udp6
  | udp6short
  deriving DecidableEq, Repr

/-- An Ethernet frame as the switch sees it (R362 to R370, R391): `len` is its length in bytes, `payload` the bytes that
follow its Ethertype and `corr` the correctionField of a PTP message. -/
structure EthFrame where
  src : Nat
  dst : Nat
  ethertype : Nat
  pcp : Option Nat
  len : Nat
  payload : List Byte
  ptp : PtpMsg
  encap : PtpEncap
  ptpVersion : Nat
  domain : Nat
  sequenceId : Nat
  corr : Nat
  fcsOk : Bool
  deriving DecidableEq, Repr

/-- A Selcy frame, or the payload of an Ethernet heartbeat, as received: its bytes (R389, R391). -/
structure XFrame where
  raw : List Byte
  deriving DecidableEq, Repr

/-- A base address register of the PCIe function (R375): register pages, shared SRAM, MSI-X. -/
inductive Bar where
  | barRegs
  | barSram
  | barMsix
  deriving DecidableEq, Repr

/-- A display return report as received: its 64 bytes (R314). -/
structure Report where
  raw : List Byte
  deriving DecidableEq, Repr

/-- One 128-bit frame of the isolation link (R226, R229, R251): whether it came at all, its sixteen bytes as received with the
CRC-16 in the last two, and what they carry, whose layout the manual does not give: the field side's copies of the samples and of
the commands it received, the field supply in mV, and the load currents that refresh FO_STAT, by channel. -/
structure IsoFrame where
  synced : Bool
  raw : List Byte
  fi : Word
  rb : Word
  fo : Word
  fieldMv : Nat
  currents : List Nat
  deriving DecidableEq, Repr

/-- The outcome of a tack-room operation's own arithmetic, which the manual leaves to the named standards
(R406): success with the output's bytes, or a wrong tag or signature. -/
inductive CryptoOut where
  | ok (out : List Byte)
  | bad
  deriving DecidableEq, Repr

/-- An image as the boot checks see it (R409, R410): the outcome of each signature and digest, its
security version. -/
structure ImageHdr where
  type : Nat
  secVer : Nat := 0
  evopelOk : Bool := true
  customerOk : Bool := true
  digestOk : Bool := true
  fwVersion : Word := 0
  deriving DecidableEq, Repr

/-- A lane image (R154, R206, R212): its code area, the working data copied at reintegration, its retain section and layout
ID, and its bytes (code and initial values) by lane address; a byte not listed is 0. -/
structure LaneImage where
  codeBase : Nat := 0
  codeBytes : Nat := 0x0010_0000
  dataBase : Nat := 0x0010_0000
  dataKb : Nat := 512
  retainBase : Nat := 0x0010_0000
  retainKb : Nat := 0
  compat610 : Bool := false
  layoutId : Word := 0
  cells : List (Nat × Byte) := []
  deriving DecidableEq, Repr

/-- A signed tack set in MRAM (R109 to R113): the outcome of each check, its build number and its contents
as values for register and table words, by page, whether it is a table word, and offset or index. -/
structure TackSet where
  empty : Bool := true
  readOk : Bool := true
  formatOk : Bool := true
  sigOk : Bool := true
  build : Word := 0
  contents : List (Nat × Bool × Nat × Word) := []
  deriving DecidableEq, Repr

/-- One component of an update package (R428, R410): its image header, and for a bundle its four tack sets, for a lane image
what it declares. -/
structure Component where
  hdr : ImageHdr
  tacks : List TackSet := []
  image : LaneImage := {}
  deriving DecidableEq, Repr

/-- What a power-on reset finds: whether the always-on region was fed, the levels that it samples at the strap pins and at
MOVING_N (R29, R30, R38): PROF1:PROF0, SLOT_ID, SVC_MODE_N low, MOVING_N low; and, in boot phase 1, an open lid, a broken mesh and
whether the OTP passes its integrity check (R415). -/
structure PowerOn where
  aonKept : Bool
  prof : BitVec 2
  slotId : Bool
  svcModeLow : Bool
  movingLow : Bool
  lidOpen : Bool
  meshBroken : Bool
  otpOk : Bool
  deriving DecidableEq, Repr

/-- A cold RESTART: the mailbox instance, and the levels at PROF1:PROF0 that the reset samples (R30). -/
structure ColdStart where
  inst : Fin 3
  prof : BitVec 2
  deriving DecidableEq, Repr

/-- An exit from a gait: the always-on time since the last save, and the levels at PROF1:PROF0, which an exit from STABLE samples
(R30). -/
structure ExitNow where
  elapsedNs : Nat
  prof : BitVec 2
  deriving DecidableEq, Repr

/-- What the safe-state line shows at its inputs (R31, R51): SAFE_N low after its filter, the two rails complementary. -/
structure SafeLine where
  low : Bool
  railsOk : Bool
  deriving DecidableEq, Repr

/-- The loss of a reference source, and the measurement of another source that is delivered in the same TBCLK cycle, if any
(R134, R146): its source, t and θ. -/
structure RefLoss where
  src : Fin 5
  also : Option (Fin 5 × Nat × Int)
  deriving DecidableEq, Repr

/-- The commands, in the table's order. -/
inductive Instr where
  -- registers, the bridle and the mailbox
  | generalRegisterWrite (i : Init) (addr : Word) (bytes : Nat) (vs : List Word) (atomic : Bool)
  | indDataRead (i : Init) (page : Fin 128)
  | indDataWrite (i : Init) (page : Fin 128) (v : Word)
  | kpValueWrite (i : Init) (addr : Word) (v : Word)
  | keyNWrite (i : Init) (page : Fin 128) (v : Word)
  | keyWrite (i : Init) (page : Fin 128) (v : Word)
  | keypairExpiry (page : Nat)
  | t3ScrubVisit (key : Nat) (u : Upset)
  | abWrite (i : Init) (addr : Word) (v : Word)
  | boundaryApply (page : Nat) (inst : Nat)
  | apply (i : Init) (page : Fin 128) (v : Word)
  | wmRegisterWrite (i : Init) (addr : Word) (v : Word)
  | evrPendW1c (i : Init) (bank : Fin 5) (w : Fin 8) (v : Word)
  | routeWordWrite (i : Init) (n : Fin 256) (v : Word)
  | eventOccurrence (n : Fin 256) (p0 p1 p2 : Word) (unacked : Bool)
  | votedWriteArrival (l : Fin 3) (addr : Word) (v : Word)
  | bridleRetry (i : Init) (addr : Word) (v : Option Word)
  | bridleTimeout (i : Init) (addr : Word) (write : Bool)
  | semAcquire (i : Init) (k : Fin 16)
  | semRelease (i : Init) (k : Fin 16)
  | semForce (i : Init) (k : Fin 16)
  | mboxDoorbell (i : Init) (v : Word)
  | mboxCommandComplete (inst : Fin 3) (err : BitVec 8) (resp : List Word)
  -- mailbox commands
  | ping (inst : Fin 3)
  | getId (inst : Fin 3)
  | profileSelectStore (inst : Fin 3)
  | profileSelectImmediate (inst : Fin 3)
  | profileSelectRevoke (inst : Fin 3)
  | profileQuery (inst : Fin 3)
  | gaitSet (inst : Fin 3)
  | gaitQuery (inst : Fin 3)
  | bistRun (inst : Fin 3)
  | bistResult (inst : Fin 3)
  | updOpen (inst : Fin 3)
  | updWrite (inst : Fin 3)
  | updVerify (inst : Fin 3) (comps : List Component)
  | updActivate (inst : Fin 3)
  | updConfirm (inst : Fin 3)
  | updAbort (inst : Fin 3)
  | updStatus (inst : Fin 3)
  | ownerLockQuery (inst : Fin 3)
  | ownerLockSet (inst : Fin 3)
  | ownerLockClear (inst : Fin 3)
  | recRead (inst : Fin 3)
  | recExport (inst : Fin 3)
  | recClearStudbook (inst : Fin 3)
  | martingaleSet (inst : Fin 3)
  | timeSetWall (inst : Fin 3)
  | getChallenge (inst : Fin 3)
  | submit (inst : Fin 3) (sigOk : Bool)
  | zeroize (inst : Fin 3)
  | duplexRoleQuery (inst : Fin 3)
  | duplexRoleSetInhibit (inst : Fin 3)
  | duplexRoleClearInhibit (inst : Fin 3)
  | duplexYield (inst : Fin 3)
  | restartWarm (inst : Fin 3)
  | restartCold (x : ColdStart)
  -- supplies, resets and pins
  | powerOnReset (x : PowerOn) (elapsedNs : Nat)
  | bootPhaseOverrun (phase : Fin 9)
  | logicLow (mv : Nat)
  | logicInReturn (within10ms : Bool)
  | powerFailReset (returned : Bool) (elapsedNs : Nat)
  | safeNFilterExpiry (x : SafeLine)
  | roleInChange (asserted : Bool)
  -- time base
  | ppsIn (back : Nat)
  | tbNsRead (i : Init)
  | measOfsHiWrite (i : Init) (v : Word)
  | tbMeasurement (src : Fin 5) (t : Nat) (theta : Int)
  | refSourceTimeout (x : RefLoss)
  | tbCapture (src : Fin 63)
  -- Troika, lanes and reintegration
  | fwatchVerdictRead (returned : Bool)
  | laneCompletion (l : Fin 3) (k : Word) (cyc : Nat)
  | laneSafeWrite (l : Fin 3) (demand : Bool)
  | reintStart (i : Init) (v : Word)
  | reintAbort (i : Init)
  | autoReintStart (l : Fin 3)
  | laneBootDone (l : Fin 3) (hashOk : Bool)
  | laneBootTimeout (l : Fin 3)
  | reintCopyPassDone (dirtied : List Nat)
  | laneInstruction (l : Fin 3) (r : Retire)
  | laneWindowFull (l : Fin 3)
  | lockstepCompare (l : Fin 3) (railsOk : Bool) (selfTestFlagged : Bool)
  | laneSramScrub (l : Fin 3) (word : Nat) (e : Ecc)
  | laneClockCheck (l : Fin 3) (ppm : Int) (stopped : Bool)
  | splitReq (i : Init) (l : Fin 3)
  | failReq (i : Init) (l : Fin 3)
  | debugRequest (l : Fin 3) (a : DebugAct)
  -- the control program
  | modeReqRun (i : Init) (cold : Bool)
  | modeReqStop (i : Init)
  | modeReqHold (i : Init)
  | retainRecordWrite (done : Bool) (mramOk : Bool)
  | ocOpen (i : Init)
  | ocWinWrite (i : Init) (off : Fin 512) (v : Word)
  | ocArm (i : Init) (areas : List (Nat × Nat × Nat))
  | ocAbort (i : Init)
  | ocCheckDone (sigOk : Bool) (hashOk : Bool) (listBytes : Nat)
  | forceWrite (i : Init) (sig : Fin 4096) (word : Fin 3) (v : Word)
  | stationLost (st : Fin 64)
  | mapCrcCheck (mapEcc : Bool)
  -- field inputs, outputs and the interlock table
  | isoLinkFrame (f : IsoFrame)
  | couplerCheckDone (fiFault : Word) (rbFault : Word) (outFault : Word)
  | inputSample (fi : Word) (rb : Word)
  | fieldCounterEdge (c : Fin 8) (rising : Bool)
  | foShort (n : Fin 24)
  | foOvertemp (n : Fin 24)
  | foOpenLoad (n : Fin 24)
  | foReadback (n : Fin 24)
  | outputSwitchOff (n : Fin 24) (currentMa : Nat) (decayUs : Nat)
  | fieldWarn (mv : Nat)
  | fieldNormal (mv : Nat)
  | fieldSag (mv : Nat)
  | fieldLost (mv : Nat)
  | fieldOk (mv : Nat)
  -- the vision path
  | camRun (c : Fin 8) (i : Init) (v : Word)
  | camLinkTrained (c : Fin 8)
  | camLinkTrainTimeout (c : Fin 8)
  | camLinkLost (c : Fin 8)
  | camPacket (c : Fin 8) (vc : Nat) (dt : Nat) (hdr : Ecc) (crcOk : Bool) (payload : List Byte)
  | camFrameStart (c : Fin 8) (frameNo : BitVec 16)
  | camLineArrival (c : Fin 8) (y : Nat) (pixels : List Nat) (queueFull : Bool) (back : Nat)
  | camFrameEnd (c : Fin 8) (frameNo : BitVec 16)
  | camFrameStartMissing (c : Fin 8)
  | cameraSyncStrobe (c : Fin 8)
  | i2cStart (c : Fin 8) (i : Init) (v : Word)
  | i2cDone (c : Fin 8) (ack : Bool) (answered : Bool) (data : List Byte)
  | pcommit (v : Fin 6) (k : Word)
  | viewFrameStart (v : Fin 6)
  | dspEnable (d : Fin 6)
  | dspLinkTrained (d : Fin 6) (bcUp : Bool)
  | dspTrainTimeout (d : Fin 6)
  | dspLinkLost (d : Fin 6)
  | displayFrameStart (d : Fin 6)
  | dcsSend (d : Fin 6) (i : Init) (v : Word)
  | dcsSent (d : Fin 6)
  | offsetComputeDone (v : Fin 6)
  | refOutEmission (v : Fin 6)
  | dofsChange (d : Fin 6) (v : Word)
  | metadataLineCheck (d : Fin 6) (syncOk : Bool) (readerTiles : List Word) (frame : BitVec 16)
  | displayReportReceived (d : Fin 6) (r : Report)
  | reportJudgement (d : Fin 6) (n : BitVec 16) (histOk : Bool)
  | fwatchRelease (v : Fin 6)
  -- CAN
  | canModeWrite (n : Fin 6) (i : Init) (v : Word)
  | canIntegrated (n : Fin 6)
  | canFrameReceived (n : Fin 6) (f : CanFrame) (sofBack : Nat)
  | rxqPop (n : Fin 6) (q : Fin 2) (i : Init)
  | canObjectUpdate (n : Fin 6) (o : Fin 64) (i : Init)
  | evbReq (n : Fin 6) (i : Init) (v : Word)
  | evbAbort (n : Fin 6) (i : Init) (v : Word)
  | canTxDone (n : Fin 6) (buf : Fin 96) (sofNs : Word)
  | canFrameError (n : Fin 6) (own : Bool) (buf : Option (Fin 96)) (fld : CanField) (tec : Nat) (rec : Nat)
  | canRecover (n : Fin 6) (i : Init)
  | canBusoffRecovered (n : Fin 6)
  | canReferenceReceived (n : Fin 6) (f : CanFrame) (sofBack : Nat) (elapsed : Nat)
  | canReferenceMissing (n : Fin 6)
  | canMasterReferenceSend (n : Fin 6) (lostTo : Option Nat)
  | canBackupReferenceSend (n : Fin 6) (lostTo : Option Nat)
  | canInitWatchExpiry (n : Fin 6) (lostTo : Option Nat)
  | canExclusiveWindow (n : Fin 6) (w : Fin 32) (busIdle : Bool)
  | canArbitratingWindow (n : Fin 6) (w : Fin 32)
  | canWakePattern (n : Fin 6)
  -- MVB, Ethernet, precision time and bulk transfer
  | mvbFrameReceived (a : MvbFrame) (b : MvbFrame)
  | mvbPollMiss (e : Nat)
  | ethFrameReceived (port : Fin 5) (f : EthFrame) (egressDelay : Nat)
  | ethLink (port : Fin 4) (up : Bool) (speed : Nat)
  | ethAddressAgeing (mac : Nat)
  | ethGateChange (port : Fin 4) (waited : Bool)
  | dsCommit (i : Init) (v : Word)
  | outSeqWrite (k : Word)
  | dmaTailWrite (c : Fin 8) (i : Init) (v : Word)
  | dmaEnable (c : Fin 8) (i : Init)
  | dmaDisable (c : Fin 8) (i : Init)
  | dmaResume (c : Fin 8) (i : Init)
  | dmaDescriptorDone (c : Fin 8) (desc : List Word) (src : List Byte) (err : Nat)
  | pcieInboundAccess (bar : Bar) (addr : Nat) (bytes : Nat) (w : Option (List Word))
  | pcieLinkUp (gen : Nat) (width : Nat)
  -- duplex
  | xlinkFrameReceived (f : XFrame)
  | ethHeartbeatReceived (f : XFrame)
  -- the farrier
  | farrierBlockDone (sig : Word) (supplyOk clockOk tempOk : Bool)
  | farrierPrecheckRetry (supplyOk clockOk tempOk : Bool) (expired : Bool)
  -- the tack room and the spook alarm
  | tackOpAesGcmEncrypt (i : Init) (v : Word)
  | tackOpAesGcmDecrypt (i : Init) (v : Word)
  | tackOpAesCtr (i : Init) (v : Word)
  | tackOpAesCmac (i : Init) (v : Word)
  | tackOpSha256 (i : Init) (v : Word)
  | tackOpSha384 (i : Init) (v : Word)
  | tackOpHmacSha256 (i : Init) (v : Word)
  | tackOpHmacSha384 (i : Init) (v : Word)
  | tackOpEcdsaSignP256 (i : Init) (v : Word)
  | tackOpEcdsaSignP384 (i : Init) (v : Word)
  | tackOpEcdsaVerifyP256 (i : Init) (v : Word)
  | tackOpEcdsaVerifyP384 (i : Init) (v : Word)
  | tackOpEcdhP256 (i : Init) (v : Word)
  | tackOpEcdhP384 (i : Init) (v : Word)
  | tackOpHkdf (i : Init) (v : Word)
  | tackOpDrbgGenerate (i : Init) (v : Word)
  | tackOpGenerateKey (i : Init) (v : Word)
  | tackOpImportWrapped (i : Init) (v : Word)
  | tackOpExportWrapped (i : Init) (v : Word)
  | tackOpDelete (i : Init) (v : Word)
  | tackOpImportPlaintext (i : Init) (v : Word)
  | tackOpDone (out : CryptoOut)
  | drbgReseed (healthOk : Bool)
  | spookTrigger (srcs : BitVec 12)
  | spookLatchW1c (i : Init) (v : Word)
  | otpRecheck (ok : Bool)
  -- update
  | updServicePause (fwOk : Bool) (serviceOk : Bool) (ms : Nat)
  -- the recorder
  | recordAccept (vendor : Option (Word × Word × Word × Word))
  | appCodeWrite (i : Init) (v : Word)
  | recFlush (ringOk : Bool) (studOk : Bool)
  | expPortRead (i : Init)
  | mramRefresh (readOk : Bool)
  -- gaits
  | gaitExit (x : ExitNow)
  | fieldInputWakeSample (fi : Word)
  | dieTempSample (temp : Int) (mv : Nat)
  -- rows added at the table's end
  | farrierPreconditionFail (supplyOk clockOk tempOk : Bool)
  | foDriverCooled (n : Fin 24)
  | usbVbusChange (above : Bool)
  | romRecoveryImage (provision : Bool) (h : ImageHdr)
  | displayLineEmission (v : Fin 6) (line : Nat) (ecc : List LineEcc)
  | pcieCompletionTimeout (c : Fin 8)
  -- rows without operands (they stand last so that compiled code can build every command)
  | votedWriteExecute
  | votedWriteTimeout
  | faultReset
  | mgmtWatchdogReset
  | logicInInterruption
  | powerFail
  | holdupCharged
  | movingFilterMoving
  | movingFilterStationary
  | wakeNWake
  | secondMark
  | tbWrap
  | monoTimeSave
  | controlTick
  | collectDeadline
  | reintResetDone
  | syncTimeout
  | programStart
  | holdTimeout
  | fieldSideLinkTimeout
  | linkSyncTimeout
  | ilkCrcCheck
  | mvbBasicPeriod
  | mvbSilenceExpiry
  | mvbCollisionReset
  | pcieLinkDown
  | xlinkFrameSend
  | xlinkUp
  | xlinkDown
  | roleHoldTimeout
  | laneRotation
  | debugChallengeExpiry
  | updSessionTimeout
  | martingaleRefill
  | martingaleSecondEnd
  | recFlushInterval
  | recExportTimeout
  | gaitTransitionStart
  | rtcAlarmWake
  deriving DecidableEq, Repr

end Sys2Proof
end

