-- ==== Sys2Proof/Config.lean ====
section
/-! DEFINITION. What an implementation fixes and the values the manual leaves open, as constants without a body: nothing
can be proved about them. -/

namespace Sys2Proof

/-- The serial number (SYS.SERIAL, OTP, low and high word). -/
opaque Config.serialLo : Word
opaque Config.serialHi : Word
/-- The hardware revision of SYS.HW_REV. -/
opaque Config.hwRev : Word
/-- The PCIe vendor ID of PCIE.IDS (OTP). -/
opaque Config.pcieVendor : BitVec 16
/-- The module's own MAC address, from which its heartbeats come (R391). -/
opaque Config.ownMac : Nat
/-- A value that the manual leaves open and that may differ each time: the n-th one drawn. -/
opaque Config.freeWord : Nat → Word
/-- A parameter word of an event that the raising chapter does not define (R61, R447): the event, the word's index, the draws
made, the entries waiting in the inlet, TB_NS and TB_EPOCH. -/
opaque Config.eventParam : Nat → Nat → Nat → Nat → Word → Word → Word
/-- The relocation list in the header of a new image (R213): base in the old half, base in the new half, bytes; Mixait's layout of
that header is not given. -/
opaque Config.relocList : List (Nat × Byte) → List (Nat × Nat × Nat)
/-- The contents of the lane boot ROM, by byte (R149). -/
opaque Config.bootRom : Nat → Byte
/-- The value of `len` bits from bit `start` of big-endian data (R220 names the format and no bit numbering). -/
opaque Config.beExtract : List Byte → Nat → Nat → Nat
/-- Data with `len` bits from bit `start` set to a value, big-endian. -/
opaque Config.beInsert : List Byte → Nat → Nat → Nat → List Byte

/-- Whether a quotient that is not whole is rounded up (its parity): the manual names no rounding for fixed-point products,
interpolation and blending. -/
opaque Config.roundUp : Int → Nat → Nat
/-- The median of eight values (R261, stage 2: an even number of them), and the value of a pixel with fewer
neighbours. -/
opaque Config.median8 : List Nat → Nat
opaque Config.dpcEdge : List Nat → Nat → Nat
/-- A curve of tone mapping (R261, stage 4): LTM, the histogram that it is formed from as counts by value, a 24-bit value. -/
opaque Config.toneCurve : Word → List (Nat × Nat) → Nat → Nat
/-- Demosaic (R261, stage 6) over a 5 × 5 window: CFA, parities of line and column, window; red, green, blue. -/
opaque Config.demosaic : Nat → Nat → Nat → List (List Nat) → Nat × Nat × Nat
/-- Noise reduction (R261, stage 8) of one channel over a 5 × 5 window at a strength. -/
opaque Config.noise : Nat → List (List Nat) → Nat
/-- The resampling filter of one axis (R267): coefficient set of a band, phase, four taps. -/
opaque Config.filter : Nat → Nat → List Int → Int
/-- Upper limits of bands 1 to 6 of the local step in 1/8192 (R267 gives those of bands 0 and 7). -/
opaque Config.bandLimit : Nat → Nat
/-- Whether a primitive covers an output pixel that R271 does not decide: its eight words, x, y. -/
opaque Config.covers : List Word → Nat → Nat → Bool

end Sys2Proof
end

