-- ==== Sys2Proof/Machine/State.lean ====
section
/-! DEFINITION. The state of the module as plain data, with the value every field has right after
power-on reset beside it. Every register and table word that stands at an address of R494 is held in
`regs` (its reset value is the spec's, by `Machine/RegMap.lean`); the other fields hold the state that the
manual gives the units behind the registers. -/

namespace Sys2Proof.Machine

/-- The ordering codes of R1. -/
inductive Variant where
  | f
  | c
  | n
  deriving DecidableEq, Repr

/-- The answer of the register bus to the last access (R71, R73): the datum of a read, with those of the further
parts of a wide one, and whether the initiator got a bus error. -/
structure BusAnswer where
  data : Word := 0
  more : List Word := []
  err : Bool := false
  deriving DecidableEq, Repr

/-- A pending key-pair value of a page (R79): the key of the location in `regs`, its byte address, the value
written and the code of its initiator. -/
structure KpPend where
  page : Nat
  key : Nat
  addr : Word
  val : Word
  ini : Nat
  deriving DecidableEq, Repr

/-- The supplies, the hold-up store and the pins that outlast a register (R28 to R34, R41 to R45). -/
structure Pins where
  /-- LOGIC_IN has let the module out of power-on reset (R42). -/
  running : Bool := false
  /-- LOGIC_IN is below 12.0 V and the hold-up store carries the module (R43). -/
  interrupted : Bool := false
  /-- When LOGIC_IN last fell below 12.0 V (R43, R456). -/
  fellAt : Nat := 0
  /-- The hold-up store has reached its charge threshold (R45). -/
  holdup : Bool := false
  /-- The power-fail sequence of R43 runs. -/
  pfActive : Bool := false
  /-- LOGIC_IN returned above 14.0 V after the sequence had started (R44). -/
  pfReturned : Bool := false
  /-- The boot that the power-fail sequence broke off was a power-on boot (R123). -/
  porBroken : Bool := false
  /-- The filtered SAFE_N demand (R31). -/
  safeN : Bool := false
  /-- The filtered state of MOVING_N: it starts as moving (R32). -/
  moving : Bool := true
  /-- The strap pins PROF1:PROF0 (R29; both open read 3). -/
  prof : BitVec 2 := 3
  /-- The strap pin SLOT_ID (R29; open reads 1). -/
  slotId : Bool := true
  /-- SVC_MODE_N is low (R38). -/
  svcModeLow : Bool := false
  /-- MOVING_N is low at the pin (R32; its pull-down). -/
  movingNLow : Bool := true
  /-- The instant at which TB_PPS_OUT last rose; it stays high for 100 ms (R37, R141). -/
  ppsRise : Option Nat := none
  /-- USB_VBUS is above 4.4 V: the USB device port enumerates (R28). -/
  usb : Bool := false
  /-- The boot ROM is in ROM recovery (R409, R411). -/
  recovery : Bool := false
  deriving DecidableEq, Repr

/-- What a generator's last strobe carried (R144, R145): its due instant in 2^−16 ns, and the STEPPED flag. -/
structure Strobe where
  due : Option Nat := none
  stepped : Bool := false
  deriving DecidableEq, Repr

/-- The time base behind the TB page (R128 to R146). F itself is TB.FREQ. -/
structure TimeBase where
  /-- TB_EPOCH:TB_NS. -/
  count : Nat := 0
  /-- The 32-bit fraction of R128. -/
  frac : Nat := 0
  /-- The phase term P of R128. -/
  p : Int := 0
  /-- θ_prev and t_prev of R137. -/
  thetaPrev : Int := 0
  tPrev : Nat := 0
  /-- The next measurement is the first since a step or a source change (R137). -/
  first : Bool := true
  /-- Consecutive measurements inside and outside LOCK_NS (R135). -/
  inLock : Nat := 0
  outLock : Nat := 0
  /-- Consecutive measurements of sources 1 to 4 (R134), at index code − 1. -/
  consec : List Nat := [0, 0, 0, 0]
  /-- The instant of the last step (R134), and the local time t of each source's last measurement. -/
  lastStep : Nat := 0
  lastT : List Nat := [0, 0, 0, 0]
  /-- The generators whose next strobe carries STEPPED (R145), a bit each: 0 the control tick, 1 + c camera sync c,
  9 + d display d. -/
  stepped : Nat := 0
  /-- The last strobe of each of these generators. -/
  strobes : List Strobe := List.replicate 15 {}
  /-- The instant of the last entry into HOLDOVER (R136). -/
  holdAt : Nat := 0
  /-- The instant of the last second mark (R141). -/
  lastMark : Option Nat := none
  /-- Epoch latches of the initiator codes 0x4 to 0xA (R130). -/
  latches : List Word := [0, 0, 0, 0, 0, 0, 0]
  deriving DecidableEq, Repr

/-- An entry of the recorder inlet queue (R61). -/
structure Inlet where
  code : Nat
  sev : Nat
  ns : Word
  epoch : Word
  p0 : Word
  p1 : Word
  p2 : Word
  /-- Wall time as it stood at the occurrence, and whether it was valid, for the record's WALL_S (R446). -/
  wallValid : Bool
  wallS : Word
  deriving DecidableEq, Repr

/-- One write number in the write vote (R87): the arrivals so far, the match, and what has been done. -/
structure VwSlot where
  num : Nat
  got : List (Nat × Word × Word)
  matched : Option (Word × Word) := none
  executed : Bool := false
  dropped : Bool := false
  splitRaised : Bool := false
  deriving DecidableEq, Repr

/-- The write vote of R87 to R89: the open write numbers, how many writes each lane has issued, and how
many numbers have been resolved. -/
structure WriteVote where
  slots : List VwSlot := []
  issued : List Nat := [0, 0, 0]
  base : Nat := 0
  deriving DecidableEq, Repr

/-- A register access of a lane on its way out (R161); for a load also where its datum goes. -/
structure Egress where
  write : Bool
  addr : Word
  bytes : Nat
  data : Word
  pc : Word
  signed : Bool := false
  wb : WbKind := .none
  wbReg : Nat := 0
  deriving DecidableEq, Repr

/-- A lock-step window that has closed and waits for its comparison (R160). -/
structure Closed where
  sigMain : DWord
  sigShadow : DWord
  entry : Option Egress
  deriving DecidableEq, Repr

/-- The architectural state of one core of a lane (R150): pc, x, f and CSR registers keyed by number, user mode (machine mode
otherwise), mcycle and minstret. The pc after a reset is the start of the lane boot ROM (DESIGN CHOICE, log 2). -/
structure Core where
  pc : Word := 0x0800_0000
  xs : List (Nat × Word) := []
  fs : List (Nat × Word) := []
  csrs : List (Nat × Word) := []
  user : Bool := false
  mcycle : Nat := 0
  minstret : Nat := 0
  deriving DecidableEq, Repr

/-- What a lane holds besides its LANE register set (R149 to R164): its main core, and the rest. -/
structure Lane extends Core where
  /-- The shadow core while it runs on its own, in SPLIT (R164); in lock-step it follows the main core 2 cycles later (R157). -/
  shadow : Core := {}
  /-- Signature registers S of the main and the shadow core (R158). -/
  sigMain : DWord := 0xFFFF_FFFF_FFFF_FFFF
  sigShadow : DWord := 0xFFFF_FFFF_FFFF_FFFF
  /-- Cycles of the window in progress, and the WIN_LOG2 it runs with (R159). -/
  winCyc : Nat := 0
  winLog2 : Nat := 10
  /-- Windows waiting for their comparison, oldest first; each holds at most one egress entry (R160). -/
  closed : List Closed := []
  /-- Released accesses on their way to the register bus or the write vote (R161). -/
  ioq : List Egress := []
  /-- A split request accepted and not yet taken (R164). -/
  splitPend : Bool := false
  /-- The completion write has left; the output window is closed (R156). -/
  outLocked : Bool := false
  /-- A TRIPLE_FAULT in WIN_CFG: WIN_LOG2 = 10 is loaded at the next reset of the lane (R173). -/
  winFault : Bool := false
  /-- An automatic reintegration is due after one control cycle, the automatic starts used, and the ban
  after a HASH result (R193). -/
  autoDue : Bool := false
  autoUsed : Nat := 0
  hashBan : Bool := false
  /-- Consecutive late cycles and disagreements (R184). -/
  late : Nat := 0
  dis : Nat := 0
  /-- The IOCLK cycle in which the completion for the current collect was performed (R182). -/
  doneAt : Option Nat := none
  /-- The last cycle that the lane has completed, with the program time of its snapshot (R208). -/
  lastDone : Option (Word × DWord) := none
  /-- The lane is held by a program start or the boot and has finished its boot ROM (R167, R205). -/
  bootReady : Bool := false
  deriving DecidableEq, Repr

/-- What a vote decided about the cycle's image (R183). -/
inductive VoteRes where
  | none
  | image
  | hold
  deriving DecidableEq, Repr

/-- Troika behind VOTE and CYC (R174 to R194). -/
structure Troika where
  /-- Demands on the safe-state line (R51): management and spook (SAFE_N is in `Pins`, lanes in LANE_SAFE). -/
  mgmtDemand : Bool := true
  spookDemand : Bool := false
  /-- The two rails of the safe-state line are complementary (R51). -/
  railsOk : Bool := true
  /-- Some source demanded in the current control cycle (R189). -/
  demandSeen : Bool := true
  /-- A collect is open for cycle `collectK`; it is the extended collect of an overrun (R210). -/
  collecting : Bool := false
  collectK : Word := 0
  extended : Bool := false
  /-- The vote of the cycle: its result, that two or more lanes were present and none disagreed (R189). -/
  vote : VoteRes := .none
  voteClean : Bool := false
  /-- A tick has been sampled since reset; the first control cycle has begun (R174, R107). -/
  ticked : Bool := false
  /-- An image has been committed since the program started; since the reset (R202, R389). -/
  committed : Bool := false
  everCommitted : Bool := false
  /-- A commit was performed at the last tick, and at the tick before it (R389). -/
  commitNow : Bool := false
  commitPrev : Bool := false
  /-- The snapshot before was skipped by an overrun (R179); FIRST and WARM of the next snapshot. -/
  skipped : Bool := false
  first : Bool := true
  warm : Bool := false
  /-- Lanes that enter VOTING at the next tick (R179, FLAGS[18:16]), bit l. -/
  entered : Nat := 0
  /-- READY: number of the last snapshot written (R177, R179). -/
  ready : Word := 0
  /-- The frame-watch verdicts of the verdict read, and that it has returned (R177). -/
  verdicts : List Word := [0, 0, 0, 0, 0, 0]
  verdictOk : Bool := false
  /-- The instant of the last reset (SYS.BOOT_TIME), and the boot's end by an overrun of phase 8 (R107). -/
  bootAt : Nat := 0
  bootOver : Bool := false
  /-- A fault state of VOTE or CYC (R195). -/
  faultVote : Bool := false
  faultCyc : Bool := false
  deriving DecidableEq, Repr

/-- The reintegration unit behind VOTE.REINT_STAT (R190 to R193). -/
structure Reint where
  /-- RELOAD of the start in progress. -/
  reload : Bool := false
  /-- 4 KB pages of the data area that the pass in progress copies, and those dirtied since it began (R191). -/
  dirty : List Nat := []
  next : List Nat := []
  /-- The last page has been copied by a passed FINAL test (R191). -/
  finalOk : Bool := false
  deriving DecidableEq, Repr

/-- The retain record in MRAM (R207 to R209), with the CRC-32 that its header holds of each part. -/
structure Retain where
  valid : Bool := false
  consumed : Bool := false
  crcSection : Word := 0
  crcForces : Word := 0
  crcImage : Word := 0
  layoutId : Word := 0
  sizeKb : Nat := 0
  cycle : Word := 0
  progNs : Word := 0
  progEpoch : Word := 0
  section_ : List Host.Cell := []
  forces : List (Nat × Word) := []
  image : List (Nat × DWord) := []
  outLen : Nat := 0
  deriving DecidableEq, Repr

/-- A mode request accepted and waiting for the tick (R203), with the instant at which it executed (R219). -/
structure ModeReq where
  mode : Nat
  cold : Bool
  reason : Nat
  at_ : Nat
  deriving DecidableEq, Repr

/-- Where a retain record in the making stands (R208): the trigger and whether a completion has come. -/
inductive RetainTrig where
  | powerFail
  | stop
  | restart
  | gait
  deriving DecidableEq, Repr

/-- The received value of one signal (R217): its last value, the cycle of its last update, whether it has
been GOOD since the last reset, and the last good value. -/
structure SigRx where
  val : DWord := 0
  cyc : Nat := 0
  upd : Bool := false
  everGood : Bool := false
  lastGood : DWord := 0
  deriving DecidableEq, Repr

/-- The program behind PRG and SIG (R201 to R224). -/
structure Prog where
  req : Option ModeReq := none
  /-- A STOP that no request may replace waits for the tick, with its reason: HOLD_MAX (5), a second overrun (7) (R203, R211). -/
  forced : Option Nat := none
  /-- A start by R205 has come to the end of phase 7 and waits for its tick (R205). -/
  starting : Bool := false
  image : LaneImage := {}
  /-- The lane image in force has been authenticated (R409). -/
  imageOk : Bool := false
  /-- The service images have failed authentication (R409): the service cores are held in reset. -/
  svcHeld : Bool := false
  retainTrig : Option RetainTrig := none
  /-- The running image's code half is the alternate one; an online change's image is kept in the MRAM reserve
  (R212, R214). -/
  altHalf : Bool := false
  ocKept : Bool := false
  /-- The relocation list of the online change in progress: base in the old half, base in the new one, bytes (R213). -/
  ocAreas : List (Nat × Nat × Nat) := []
  /-- Lanes that rejoin only with RELOAD = 1 (R214), bit l. -/
  needReload : Nat := 0
  sigs : List (Nat × SigRx) := []
  faultPrg : Bool := false
  faultSig : Bool := false
  /-- The restart requested by the reset in progress is cold (R105, R106). -/
  restartCold : Bool := false
  /-- Build number of the tack set in force (R111). -/
  build : Word := 0
  /-- The monotonic time of the last entry into HOLD (HOLD_LEFT of R221). -/
  holdSince : Nat := 0
  deriving DecidableEq, Repr

/-- An update slot (R428 to R434): whether it holds a verified package, its BUILD and its components. -/
structure Slot where
  valid : Bool := false
  build : Word := 0
  comps : List Component := []
  deriving DecidableEq, Repr

/-- A slot whose management firmware, lane image and service image authenticate. -/
def Slot.factory : Slot := { valid := true, comps := [{ hdr := { type := 1 } }, { hdr := { type := 2 } }, { hdr := { type := 3 } }] }

/-- A record of the event recorder (R446). -/
structure Rec where
  code : Nat
  source : Nat
  sev : Nat
  wallValid : Bool
  studbook : Bool := false
  pf : Bool := false
  bypass : Bool := false
  seq : Word := 0
  ns : Word
  epoch : Word
  wallS : Word
  p0 : Word
  p1 : Word
  p2 : Word
  deriving DecidableEq, Repr

/-- What a reset of any kind leaves in MRAM, OTP and the always-on region. -/
structure Keep where
  tackSets : List TackSet := [{}, {}, {}, {}]
  /-- The stored tack-set selection (R109). -/
  stored : Option (Fin 4) := none
  /-- Resets since MRAM initialisation (R125, BOOTS). -/
  boots : Nat := 0
  retain : Retain := {}
  slotA : Slot := .factory
  slotB : Slot := {}
  /-- The slot pointer: the active slot is B (R437). -/
  activeB : Bool := false
  /-- The trial of R441: running, its boots, the instant it started, UPD_ABORT accepted in it. -/
  trial : Bool := false
  trialBoots : Nat := 0
  trialStart : Nat := 0
  trialAbort : Bool := false
  /-- The copy-pending mark of R430. -/
  copyPending : Bool := false
  /-- The owner lock and the plane that set it (R436). -/
  ownerLock : Option (Fin 3) := none
  /-- Saved monotonic time and F (R132). -/
  monoSaved : Nat := 0
  freqSaved : Word := 0
  /-- The recorder's MRAM area (R457, R458): ring, general studbook and alarm records, next SEQ (R455). -/
  ring : List Rec := []
  studGen : List Rec := []
  studAlarm : List Rec := []
  nextSeq : Word := 0
  /-- REC_STUDBOOK_FULL has been raised since the studbook filled (R458). -/
  studFull : Bool := false
  /-- OTP: erase epochs burned (R417), anti-rollback steps burned (R412), integrity (R415), golden
  signatures of the farrier's blocks (R115). -/
  epochs : Nat := 0
  arb : Nat := 0
  otpOk : Bool := true
  golden : List (Nat × Word) := []
  /-- The farrier's blocks marked UNUSABLE, bit b: from a FAIL until a PASS or the next boot test (R118). -/
  unusable : Nat := 0
  /-- The customer root blob exists (R410), and the wrapped blobs of slots 0 to 31 with their attribute words
  (R404). -/
  customerRoot : Bool := true
  blobs : List (Nat × Word) := []
  /-- Always-on: consecutive failed unlocks (R420), RTC seconds and alarm (R478). -/
  dbgFail : Nat := 0
  rtcS : Nat := 0
  rtcAlarm : Nat := 0
  /-- Some lane was debugged since the last power-on reset or cold restart (R166), bit l. -/
  debugSplit : Nat := 0
  /-- Spook latches and pending alarms raised while the management plane did not run (R415, R475). -/
  spookHeld : Nat := 0
  /-- Times the static MRAM areas have been rewritten (R491). -/
  refreshes : Nat := 0
  /-- Instants of the last management watchdog resets (R105, cause 0x05). -/
  wdTimes : List Nat := []
  deriving DecidableEq, Repr

/-- A mailbox instance behind its registers (R98 to R101): the latched command word and arguments, and
whether CMD held a completed key pair for the KP command when it was latched (R100). -/
structure Box where
  cmd : Word := 0
  args : List Word := []
  kpDone : Bool := false
  /-- The management firmware works on the latched command, which completes later (R99). -/
  running : Bool := false
  deriving DecidableEq, Repr

/-- The run of the farrier in progress (R120). -/
inductive FarrRun where
  | idle
  | boot
  | runtime (inst : Fin 3)
  | rotation (l : Fin 3)
  deriving DecidableEq, Repr

/-- The farrier behind FARR (R115 to R121): the run, the blocks left, those tested, CHECK passed. -/
structure Farrier where
  run : FarrRun := .idle
  left : List Nat := []
  tested : List Nat := []
  checked : Bool := false
  /-- The instant at which the run started (FARR.DURATION). -/
  started : Nat := 0
  /-- Some block of the run has failed (R120). -/
  anyFail : Bool := false
  deriving DecidableEq, Repr

/-- The field domain behind FIO and ILK (R225 to R249). -/
structure Field where
  /-- Filter counts of the 24 readback stages (R231, R238). -/
  rbCnt : List Nat := List.replicate 24 0
  /-- Consecutive link frames with a bad CRC (R226), and frames in which a channel's copy differed (R229). -/
  crcRun : Nat := 0
  cplRun : List (Nat × Nat) := []
  /-- The coupler check has completed since the last entry into SERIAL (R228, R243). -/
  cplChecked : Bool := false
  /-- Channels that were OFF when SAG was entered (R235, stage 6). -/
  sagOff : Word := 0
  /-- After LOST the outputs wait for the first commit in PARALLEL (R243). -/
  waitCommit : Bool := false
  /-- The field-side controller has switched every output off for want of frames (R226). -/
  sideOff : Bool := false
  /-- Drivers above their thermal restart threshold (R236). -/
  hot : Word := 0
  /-- The last raw samples that the couplers delivered (R229). -/
  rawFi : Word := 0
  rawRb : Word := 0
  /-- The channels that the field side has latched (R236); FIO.FO_LATCHED follows at the next frame (R249). -/
  latch : Word := 0
  faultIlk : Bool := false
  deriving DecidableEq, Repr

/-- A slot of a camera's ring in the line store (R262, R263, R265). -/
structure RingSlot where
  slot : Nat
  tag : Nat
  valid : Bool
  pix : List Word
  deriving DecidableEq, Repr

/-- A camera port behind CAMc (R255 to R265). -/
structure Cam where
  /-- Raw lines of the frame that still lie in the demosaic and noise-reduction windows, newest first. -/
  raw : List (Nat × List Nat) := []
  ring : List RingSlot := []
  /-- The frame in progress: open, marked bad, the next image line expected. -/
  opened : Bool := false
  bad : Bool := false
  nextLine : Nat := 0
  /-- Bytes of embedded data received in this frame (R257), and its embedded lines before and after the image (R255). -/
  embBytes : Nat := 0
  embTop : Nat := 0
  embBot : Nat := 0
  /-- Pixels that defect correction has replaced in this frame (R261, R285). -/
  dpcN : Nat := 0
  /-- Zone histograms of the frame in progress and of the previous one (R261): counts by 2^24 · zone + value. -/
  hist : List (Nat × Nat) := []
  histPrev : List (Nat × Nat) := []
  /-- The last frame whose line 0 has arrived: its index k of R294 and its number. -/
  planned : Option (Int × Nat) := none
  /-- No frame has ended since the port entered STREAMING; the previous frame's number (R308). -/
  firstFrame : Bool := true
  prevNo : Nat := 0
  /-- Arrivals of line REF_IN by view that reads the camera as SRC_A and by frame index: the instant, none for a line that arrived
  bad (R302). -/
  refIn : List (Nat × Int × Option Nat) := []
  /-- Sync edges forwarded to the sensor (R259). -/
  strobes : Nat := 0
  deriving DecidableEq, Repr

/-- A view behind VIEWv (R266 to R275). -/
structure View where
  /-- Write bank and ready bank of the parameter area, by byte offset; a word not listed has its reset value (R274). -/
  writeBank : List (Nat × Word) := []
  readyBank : List (Nat × Word) := []
  /-- What the last commit gave each parameter word that the map names (R274). -/
  sent : List (Nat × Word) := []
  /-- The offset computation for the present values has ended (R300). -/
  ofsDone : Bool := false
  /-- The values in force have not been checked since they came with a tack set (R272, R282). -/
  recheck : Bool := true
  /-- The source camera has linked again with new timing: the view passes through WAIT (R305). -/
  through : Bool := false
  /-- Glyph words that other views have taken already, as this view still shows them until its own frame start (R284). -/
  glyphOld : List (Nat × Word) := []
  /-- Numbers of the camera frames whose lines the display frame in progress shows (R265, R302). -/
  expA : Option Nat := none
  expB : Option Nat := none
  deriving DecidableEq, Repr

/-- A display port behind DSPd, with frame watch's history of it (R276 to R281, R310 to R316). -/
structure Dsp where
  /-- The DCS long write that waits for vertical blanking: its length and data words (R281). -/
  dcs : Option (Nat × List Word) := none
  /-- The frame being sent is a blank one (R321); a line of it used FILL (R310). -/
  blank : Bool := false
  fillUsed : Bool := false
  /-- TB_NS of the frame's start, and SEQ of its metadata (R310). -/
  fsNs : Word := 0
  seq : Word := 0
  /-- The running CRC registers of the 16 columns of the tile row in progress, the finished tiles of the frame
  (R311). -/
  acc : List Nat := List.replicate 16 0xFFFF_FFFF
  tiles : List Word := []
  /-- Formatter CRCs of the last 4 frames sent, by FRAME (R313). -/
  hist : List (Nat × List Word) := []
  /-- FRAME of the last metadata line the second reader took (R312). -/
  lastFrame : Option Nat := none
  /-- The last valid report since the previous judgement, the missing frames in a row (R316). -/
  report : Option Report := none
  missRun : Nat := 0
  /-- The pixels of the line last emitted (R266), and the payload of the metadata line last built (R310). -/
  line : List Word := []
  metaLine : List Byte := []
  /-- The frame as emitted so far, pixels in order, with the metadata line's payload after them: what a DMA tap copies (R373). -/
  shown : List Word := []
  /-- Index k of the sync due instant S that the frame in progress belongs to (R296). -/
  frameIx : Int := 0
  /-- A changed DOFS waits for its first frame start: the offset until then, and that instant in 2^−16 ns (R305). -/
  turn : Option (Nat × Nat) := none
  /-- GEAR and FMT in force since the last entry into TRAINING (R292). -/
  gear : Nat := 3
  fmt : Bool := false
  deriving DecidableEq, Repr

/-- What frame watch knows of a view (R308, R319): the last judgement of each source camera, of the display and of the
latency, and whether a check has failed since the last judgement point. -/
structure Watch where
  freshA : Bool := false
  freshB : Bool := false
  expA : Bool := false
  expB : Bool := false
  tileInt : Bool := false
  tileDsp : Bool := false
  dspFresh : Bool := false
  returnOk : Bool := true
  latency : Bool := false
  backlight : Bool := false
  temp : Word := 0
  bad : Bool := false
  /-- Frame watch demands fallback frames, blank ones (R321). -/
  demand : Bool := false
  demandBlank : Bool := false
  deriving DecidableEq, Repr

/-- A CAN channel behind CANn (R326 to R351). -/
structure Can where
  rxq0 : List (List Word) := []
  rxq1 : List (List Word) := []
  seq0 : Nat := 0
  seq1 : Nat := 0
  /-- Objects whose data has been complete at least once (R333, KEEP), bit o; the complete data words, by
  16 · object + word; the time at which each object was last completed. -/
  written : Nat := 0
  objData : List (Nat × Word) := []
  readyAt : List (Nat × Nat) := []
  /-- The object (0 to 63) or buffer (64 + number) whose frame a window has started; buffers whose abort waits for
  the frame in progress (R334), bit b. -/
  onBus : Option Nat := none
  abortPend : Nat := 0
  /-- The frame that the channel last started in a window, sent as a reference, or completed in EVENT mode: words 0 and 1 as objects
  have them, then the data as it stood at the start-of-frame (R333, R339, R341). -/
  frame : List Word := []
  /-- The arbitrating window that last began: its start and its end (R342). -/
  winFrom : Nat := 0
  winTo : Nat := 0
  /-- MODE was written to OFF while a frame was on the bus, and when a listening channel was stopped: the frame that it was receiving
  is completed (R327). -/
  stopPend : Bool := false
  stopAt : Option Nat := none
  /-- NBT, DBT and TDC in force (R328). -/
  nbt : Word := 0x001F_1F7E
  dbt : Word := 0x0009_091C
  tdc : Word := 0
  /-- Consecutive bit errors after arbitration, by identifier (R350). -/
  coll : List (Nat × Nat) := []
  /-- Local time L at the last local reference mark, in 2^−16 NTU (R338), and the generator period in 2^−16 ns. -/
  refMark : Nat := 0
  period : Nat := 65536000
  /-- The last reference of the current master: its start-of-frame in ns and its Master_Ref_Mark (R343). -/
  lastRef : Option (Nat × Nat) := none
  /-- References of the observation run so far; none while it waits for a Cycle_Count of 0 (R348). -/
  run : Option Nat := none
  /-- Exclusive windows are suppressed in this basic cycle by a missing reference (R344). -/
  missSuppress : Bool := false
  deriving DecidableEq, Repr

/-- The MVB controller behind MVB (R355 to R361). -/
structure Mvb where
  /-- Consecutive missed and consecutive valid frames of lines A and B (R356). -/
  missA : Nat := 0
  missB : Nat := 0
  okA : Nat := 0
  okB : Nat := 0
  bothRaised : Bool := false
  /-- The master frame that the next slave frame answers: port address and F-code (R357). -/
  asked : Option (Nat × Nat) := none
  /-- The silence time has passed: MASTER from the next basic-period start (R360). -/
  claim : Bool := false
  /-- The collision count j (R361). -/
  coll : Nat := 0
  /-- Poll entries of the basic period that are still to be polled (R358), and the start of the last basic period. -/
  due : List Nat := []
  lastStart : Option Nat := none
  /-- The last master frame heard, or the entry into STANDBY, from which the silence time runs (R360). -/
  heard : Nat := 0
  /-- Since the last collision the module has become MASTER, or has heard another administrator, at `collAt` (R361). -/
  calm : Bool := false
  collAt : Nat := 0
  /-- The last slave frame that the module sent as an answer (R355, R357). -/
  answer : List Byte := []
  deriving DecidableEq, Repr

/-- A frame that waits in an egress queue of the switch (R363): port, queue, length, correctionField, bytes. -/
structure EgressFrame where
  port : Nat
  queue : Nat
  len : Nat
  corr : Nat
  /-- The frame as it will be sent, without its FCS. -/
  bytes : List Byte
  deriving DecidableEq, Repr

/-- An MSI-X vector: the address and data of its message, its mask, which is set after reset, and its pending bit (R375). -/
structure MsixVec where
  addr : Nat := 0
  data : Word := 0
  masked : Bool := true
  pending : Bool := false
  deriving DecidableEq, Repr

/-- The switch, the datasets, DMA and PCIe behind ETH, PTP, DMA and PCIE (R362 to R377). -/
structure Net where
  /-- The address table: MAC address and port (R362). -/
  addrs : List (Nat × Nat) := []
  /-- When each address was last seen as a source (R362). -/
  seen : List (Nat × Nat) := []
  /-- The 8 receive and 8 transmit queues of port 4, oldest first (R365). -/
  rxQ : List (List (List Byte)) := List.replicate 8 []
  txQ : List (List (List Byte)) := List.replicate 8 []
  /-- Frames waiting for an open gate, oldest first (R363, R364). -/
  egress : List EgressFrame := []
  /-- The gate-list entry in force on each port, and when it and its list cycle began (R364). -/
  gate : List Nat := [0, 0, 0, 0]
  gateAt : List Nat := [0, 0, 0, 0]
  cycAt : List Nat := [0, 0, 0, 0]
  /-- The last frame sent on each external port, as its pins have shown it: its correctionField (R370) and its bytes. -/
  sent : List Nat := [0, 0, 0, 0]
  wire : List (List Byte) := [[], [], [], []]
  /-- Write bank and ready bank of the output datasets, by dataset · 2048 + byte; the payload of an input dataset
  stands in the ready bank (R366). -/
  dsWrite : List Host.Cell := []
  dsReady : List Host.Cell := []
  /-- Bytes that chained descriptors of each DMA channel have gathered for a transmit queue (R371, CHAIN). -/
  txPart : List (List Byte) := List.replicate 8 []
  /-- The MSI-X vectors behind BAR4 (R375): 0 to 7 for the DMA channels, 8 for PCIE_LINK. -/
  msix : List MsixVec := List.replicate 9 {}
  deriving DecidableEq, Repr

/-- The duplex unit behind XLINK (R384 to R400). -/
structure Duplex where
  /-- A valid frame of an ACTIVE partner arrived in the window on each path (R393); one with YIELD (R394). -/
  winXl : Bool := false
  winEth : Bool := false
  winYield : Bool := false
  ethSeen : Bool := false
  /-- The windows, newest first, in which a frame showed the partner as a healthy OUTRIDER (R394, 4). -/
  partnerOk : List Bool := []
  winPartnerOk : Bool := false
  /-- The image of the mirror is valid, the tick it carries (R395). -/
  mirrorOk : Bool := false
  mirrorTick : Nat := 0
  /-- The start-of-frame of the last valid partner frame (R395, GAP_NS). -/
  lastSof : Option Nat := none
  /-- A yield is to be sent in the next frame, and the role falls at the tick after it (R386, R396). -/
  yieldNext : Bool := false
  yieldSent : Bool := false
  /-- The mailbox instance whose DUPLEX_YIELD waits for the role to fall (R396). -/
  yieldBox : Option (Fin 3) := none
  /-- The instant at which the boot ended, from which START_WAIT counts (R394). -/
  bootEnd : Nat := 0
  /-- A health word has been received (R392). -/
  heard : Bool := false
  /-- The lane rotation in progress and the next lane in its order (R397). -/
  rotating : Option (Fin 3) := none
  rotNext : Nat := 0
  rotPass : Bool := true
  rotCnt : Nat := 0
  /-- UPD_ACTIVATE of this mailbox instance waits for the yield of R399; a gait transition for that of R471. -/
  pauseAfter : Option (Fin 3) := none
  gaitAfter : Bool := false
  /-- Own DIGEST of the last committed cycle (R389, R402), LAST_COMMIT of the partner's last frame. -/
  digest : Word := 0
  peerCommit : Word := 0
  /-- HB_SEQ of the next frame, and the bytes of the last frame sent, as the pins have shown it (R389); a tick's frame has not left
  yet. -/
  hbNext : Nat := 0
  sent : Option XFrame := none
  frameDue : Bool := false
  /-- The tick at which a frame with ALIVE = 1 last restarted the hold timer (R385). -/
  aliveAt : Nat := 0
  /-- A takeover waits for ROLE_IN (R394, 2): its trigger, and the end of the wait. -/
  tryUntil : Option (Nat × Nat) := none
  fault : Bool := false
  deriving DecidableEq, Repr

/-- A tack-room operation in progress (R407). -/
structure TackOp where
  op : Nat
  slot : Nat
  slot2 : Nat
  final : Bool
  inLen : Nat
  deriving DecidableEq, Repr

/-- The tack room and the spook alarm behind TACK and SPOOK (R404 to R423). -/
structure Security where
  /-- The KEK is held (R405), attribute words of the volatile slots (R404). -/
  kek : Bool := false
  volatile : List (Nat × Word) := []
  op : Option TackOp := none
  /-- The streamed operation between its steps (R407). -/
  stream : Option Nat := none
  /-- Generate requests since the last seeding (R408). -/
  drbg : Nat := 0
  /-- A challenge is valid (R420): its eight nonce words, and when it was drawn. -/
  nonce : Option (List Word) := none
  nonceAt : Nat := 0
  /-- When the last erase sequence is complete (R417): until then no trigger starts another (R423). -/
  eraseEnd : Nat := 0
  /-- LOCK until the next power-on reset by a core-debug unlock (R421); OTP roots read-blocked (R422). -/
  lockToPor : Bool := false
  otpBlocked : Bool := false
  fault : Bool := false
  deriving DecidableEq, Repr

/-- The update manager behind UPD (R431 to R437): a session is held; bytes of the package written into the inactive slot, by
offset; the instant of the last accepted session command. -/
structure Update where
  held : Bool := false
  bytes : List Host.Cell := []
  lastCmd : Nat := 0
  deriving DecidableEq, Repr

/-- A martingale bucket (R450): code, RATE, BURST and level. -/
structure Bucket where
  code : Nat
  rate : Nat
  burst : Nat
  level : Nat
  deriving DecidableEq, Repr

/-- What was suppressed under a code in the current second (R452): count and the first one's TB_NS. -/
structure Supp where
  code : Nat
  count : Nat
  firstNs : Word
  deriving DecidableEq, Repr

/-- An export in progress (R463): the area, the words of the record in hand, the records still to fetch. -/
structure Export where
  area : Nat
  words : List Word
  recs : List Rec := []
  /-- When a word was last read, or the export began. -/
  readAt : Nat := 0
  deriving DecidableEq, Repr

/-- The recorder behind REC (R446 to R463). -/
structure Recorder where
  staged : List Rec := []
  buckets : List Bucket := []
  defLevel : Nat := 8000
  supp : List Supp := []
  /-- Records accepted in the current second (R451), and that second's number. -/
  second : Nat := 0
  secNo : Nat := 0
  /-- The instants of the last refill, second's end and flush interval (R450, R452, R454). -/
  refillAt : Option Nat := none
  endAt : Option Nat := none
  flushAt : Option Nat := none
  /-- The trigger of the flush that is due (R454). -/
  flushDue : Option Nat := none
  /-- A record was lost for want of staging room and its gap record is owed (R454): records lost. -/
  gapOwed : Nat := 0
  exp : Option Export := none
  /-- A TRIPLE_FAULT in CFG: every record is studbook-grade and flushed at once (R466). -/
  cfgFault : Bool := false
  /-- The power-fail flush of R456 is under way. -/
  pf : Bool := false
  deriving DecidableEq, Repr

/-- Where a downward transition stands (R471): accepted, waiting for the yield, for the tick that stops the program, for the
retain record. -/
inductive GaitStage where
  | none
  | accepted
  | yield
  | stop
  | retain
  deriving DecidableEq, Repr

/-- The gait controller behind GAIT (R467 to R475). -/
structure Gaits where
  stage : GaitStage := .none
  /-- When the accepted transition starts, 1 ms after its acceptance (R469). -/
  startAt : Nat := 0
  /-- A wake source has acted and the exit is due (R472): its code. -/
  wake : Option Nat := none
  /-- The target of a transition that a wake source has stopped before its end (R475). -/
  cut : Option Nat := none
  /-- A TRIPLE_FAULT in POLICY (R477). -/
  polFault : Bool := false
  /-- Channels whose transceiver may wake the module, bit n, the field inputs at entry, and
  those that differed in the last sample (R472). -/
  canWake : Nat := 0
  entryFi : Word := 0
  lastDiff : Word := 0
  deriving DecidableEq, Repr

/-- The state of the module, with the queue of the commands that wait. -/
structure State where
  /-- Commands that wait, first in first out. -/
  pending : List Instr := []
  /-- The fitted variant (R1). -/
  variant : Variant := .f
  /-- Registers and table words that differ from their reset value. -/
  regs : List (Nat × Word) := []
  /-- Shadow copies of AB words (R84). -/
  shadow : List (Nat × Word) := []
  /-- T3 words whose copies differ (R78). -/
  upsets : List (Nat × Upset) := []
  /-- Words of images that are not zero. -/
  img : List (Nat × DWord) := []
  /-- Bytes of the memories that are not zero. -/
  mem : List Host.Cell := []
  kp : List KpPend := []
  bus : BusAnswer := {}
  /-- The model's own field: how many free values have been drawn. -/
  freeIx : Nat := 0
  pins : Pins := {}
  tb : TimeBase := {}
  inlet : List Inlet := []
  vw : WriteVote := {}
  lanes : List Lane := [{}, {}, {}]
  tro : Troika := {}
  reint : Reint := {}
  prog : Prog := {}
  keep : Keep := {}
  boxes : List Box := [{}, {}, {}]
  /-- Mailbox instances whose command has not been started, in doorbell order (R99). -/
  bells : List Nat := []
  farr : Farrier := {}
  field : Field := {}
  cams : List Cam := List.replicate 8 {}
  views : List View := List.replicate 6 {}
  dsps : List Dsp := List.replicate 6 {}
  watches : List Watch := List.replicate 6 {}
  cans : List Can := List.replicate 6 {}
  mvb : Mvb := {}
  net : Net := {}
  dup : Duplex := {}
  sec : Security := {}
  upd : Update := {}
  recd : Recorder := {}
  gait : Gaits := {}
  deriving DecidableEq, Repr

/-- Reasons the block stops with a fault. -/
inductive Fault where
  /-- Raised by no meaning: the manual names no happening at which the module itself stops for good. Safe. -/
  | halted
  deriving DecidableEq, Repr

/-- Reasons a command is refused. -/
inductive Refusal where
  /-- Raised by an arm of `exec` whose command has no meaning in the model yet. Safe. -/
  | notModelled (mnemonic : String)
  deriving DecidableEq, Repr

/-- The module right after power-on reset, before LOGIC_IN has stood long enough for R42: every register at
the value the spec states, the queue empty. -/
def State.reset : State := {}

end Sys2Proof.Machine
end

