-- ==== Sys2Proof/Machine/RegMap.lean ====
section
/-! DEFINITION. The register pages of R494 as data: for every register and table word its reset value, the
bits a write reaches and how it reaches them, and the ranges its field table states. -/

namespace Sys2Proof.Machine

/-- How a word answers (access codes of the register tables): its reset value, the bits that a plain write
sets, the bits that only a completed key pair sets (R79), the bits that a written 1 clears, whether the
write is buffered (R84), stored in triplicate (R78), loaded from the tack set (R15), and the ranges that a
key pair's value must respect: low bit, width, least and greatest value. -/
structure Acc where
  rst : Nat := 0
  rw : Nat := 0
  kp : Nat := 0
  w1c : Nat := 0
  ab : Bool := false
  t3 : Bool := false
  ts : Bool := false
  rng : List (Nat × Nat × Nat × Nat) := []

/-- Words at `first`, `first + stride`, … , `count` of them, answering alike. -/
structure Row where
  first : Nat
  stride : Nat
  count : Nat
  acc : Acc

/-- When the owning chapter allows a write of 1 to APPLY (R85); `none_` is EVR's read-only register. -/
inductive ApplyRule where
  | none_
  | refused
  | inStop
  deriving DecidableEq, Repr

/-- A family of pages of one block: the first page index of R97, how many instances follow it, the block ID,
the first event and its step per instance, the number of event bits and those in use, when APPLY is
allowed, and the words of the page and of its table (the table's upper index limit is `top`). -/
structure Block where
  page : Nat
  inst : Nat := 1
  id : Nat
  instId : Nat := 0
  ev : Nat := 0
  evStep : Nat := 0
  evCnt : Nat := 0
  evMask : Nat := 0
  apply : ApplyRule := .refused
  rows : List Row := []
  tabs : List Row := []
  top : Nat := 0

/-- Read-only word. -/
def ro (rst : Nat := 0) : Acc := { rst := rst }
/-- RW over `m`. -/
def rw (m : Nat) (rst : Nat := 0) : Acc := { rst := rst, rw := m }
/-- RW over `m`, loaded from the tack set. -/
def rwTs (m rst : Nat) : Acc := { rst := rst, rw := m, ts := true }
/-- RW·T3 over `m`, loaded from the tack set. -/
def t3Ts (m rst : Nat) : Acc := { rst := rst, rw := m, t3 := true, ts := true }
/-- RW·AB over `m`, loaded from the tack set. -/
def abTs (m : Nat) (rst : Nat := 0) : Acc := { rst := rst, rw := m, ab := true, ts := true }
/-- RW·KP·T3 over `m`, loaded from the tack set. -/
def kpTs (m : Nat) (rst : Nat := 0) (rng : List (Nat × Nat × Nat × Nat) := []) : Acc :=
  { rst := rst, kp := m, t3 := true, ts := true, rng := rng }
/-- RW·KP·T3·AB over `m`, loaded from the tack set. -/
def kpAbTs (m : Nat) (rst : Nat := 0) (rng : List (Nat × Nat × Nat × Nat) := []) : Acc :=
  { rst := rst, kp := m, ab := true, t3 := true, ts := true, rng := rng }

/-- One word. -/
def one (off : Nat) (a : Acc) : Row := ⟨off, 4, 1, a⟩
/-- `n` words a word apart. -/
def run (off n : Nat) (a : Acc) : Row := ⟨off, 4, n, a⟩
/-- `n` words of a table. -/
def tabRun (ix n : Nat) (a : Acc) : Row := ⟨ix, 1, n, a⟩

/-- All bits of a word. -/
def all32 : Nat := 0xFFFF_FFFF

/-- SYS (R125). The serial number is OTP's: `Config.serial`, seen through the read view. -/
def blkSys : Block :=
  { page := 0x00, id := 0x100, ev := 0, evCnt := 11, evMask := 0x7E1
    rows := [one 0x40 (ro 1), one 0x50 (ro 1)] }

/-- MBOX, the three instances (R98). -/
def mboxRows : List Row :=
  [one 0x40 (rw all32), run 0x44 14 (rw all32), one 0x80 { w1c := 2 }]
def blkMbox0 : Block := { page := 0x01, id := 1, ev := 1, evCnt := 2, evMask := 3, rows := mboxRows }
def blkMbox1 : Block :=
  { page := 0x80, inst := 2, id := 1, instId := 1, ev := 1, evCnt := 2, evMask := 3, rows := mboxRows }

/-- EVR (R65 to R67). Pending banks answer through their own command. -/
def blkEvr : Block :=
  { page := 0x02, id := 2, apply := .none_
    rows := [one 0x08 { rw := 1, kp := 0x100 }, one 0x40 (rw 0xFFFF)]
    tabs := [tabRun 0 256 { rst := 0x260, kp := 0x77F, t3 := true, ts := true }, tabRun 0x100 256 (rw 0xFFFF)]
    top := 0x3FF }

/-- BRIDLE (R96, R97). -/
def blkBridle : Block :=
  { page := 0x03, id := 3, ev := 24, evCnt := 2, evMask := 3
    rows := [run 0x40 3 (rw 0xFFFF), run 0x80 16 (ro 0xF), run 0xC0 8 (kpTs 0xFFFF_FFF2)]
    tabs := [tabRun 0 128 (kpTs 0x3FFF 0x300)], top := 0x7F }

/-- FARR (R126, R127). -/
def blkFarr : Block := { page := 0x04, id := 4, ev := 16, evCnt := 4, evMask := 0xF, top := 0x7F }

/-- TB (R147, R148). -/
def blkTb : Block :=
  { page := 0x05, id := 5, ev := 32, evCnt := 8, evMask := 0xFF
    rows := [one 0x08 (kpTs 7 7), one 0x4C { kp := all32 },
      one 0x50 (kpTs 0xFFFF_FFFF 0x0BB8_4321 [(0, 4, 0, 4), (4, 4, 0, 4), (8, 4, 0, 4), (12, 4, 0, 4), (16, 3, 0, 5), (19, 13, 1, 8191)]),
      one 0x54 (kpTs 0x1FF_FF07 0x0064_0A02 [(8, 8, 1, 255), (16, 9, 1, 500)]),
      one 0x58 (kpTs 0xFFFF 0x3E8), run 0x64 4 (rw all32), ⟨0xA0, 0x10, 4, rw 0x17F⟩] }

/-- LANE (R170, R171). -/
def blkLane : Block :=
  { page := 0x06, id := 6, ev := 48, evCnt := 30, evMask := 0x3FFF_FFFF
    rows := [⟨0x80, 0x40, 3, { kp := 3 }⟩, ⟨0x88, 0x40, 3, kpTs 0x1F 0xA [(0, 5, 6, 16)]⟩,
      ⟨0x90, 0x40, 3, rw 0xFFFF⟩, ⟨0xA4, 0x40, 3, rw 0xFFFF⟩, ⟨0xB0, 0x40, 3, rw 0xFFFF⟩] }

/-- VOTE (R196 to R198). -/
def blkVote : Block :=
  { page := 0x07, id := 7, ev := 81, evCnt := 4, evMask := 0xF
    rows := [one 0x0C (ro 1), one 0x44 (ro 4),
      one 0x48 (kpTs 0x1_0FF1 0x130 [(4, 4, 1, 15), (8, 4, 1, 15)]),
      one 0x4C (kpTs 0xFF_FFFF), one 0x50 (kpTs 0xFF_FFFF), one 0x5C { rw := 0, kp := 0x1133 },
      run 0x68 2 (rw 0xFFFF), run 0x74 2 (rw 0xFFFF)]
    tabs := [tabRun 0 512 (kpTs all32)], top := 0x1FF }

/-- CYC (R199). -/
def blkCyc : Block :=
  { page := 0x08, id := 8, ev := 80, evCnt := 11, evMask := 0x421, apply := .inStop
    rows := [one 0x40 (kpAbTs 0x1_FFFF 0x64 [(0, 17, 10, 100000)]), one 0x44 (kpAbTs 0x3FFF 8 [(0, 14, 8, 8192)]),
      one 0x48 (rw 0xFFF_FFFF), one 0x4C (kpAbTs 0x3FFF 2 [(0, 14, 2, 8192)]),
      run 0x64 3 (ro 0xFFF_FFFF), one 0x70 (rw 0xFFF_FFFF 0xFFF_FFFF), one 0x74 (rw 0xFFFF)] }

/-- PRG (R221). OC_WIN is a memory window of its own command. -/
def blkPrg : Block :=
  { page := 0x09, id := 9, ev := 86, evCnt := 4, evMask := 0xF
    rows := [one 0x40 { kp := 0x13 }, one 0x44 (ro 0xA00), one 0x48 (kpTs 3 3),
      one 0x4C (kpTs 0x3FFF 0x2710 [(0, 14, 1, 10000)]), one 0x68 { kp := 3 }, one 0x70 (rw 0x1F_FFFF)] }

/-- SIG (R222, R223). -/
def blkSig : Block :=
  { page := 0x0A, id := 0xA, ev := 91, evCnt := 1, evMask := 1, apply := .inStop
    rows := [one 0x40 (kpTs 0x1FFF 0 [(0, 13, 8, 8064)]), one 0x58 (kpTs all32)]
    tabs := [tabRun 0 0x4000 (abTs all32), ⟨0x4000, 4, 0x1000, { kp := 1 }⟩, ⟨0x4001, 4, 0x1000, { kp := all32 }⟩,
      ⟨0x4002, 4, 0x1000, { kp := all32 }⟩, tabRun 0x8000 64 (kpTs 0x1_FFFF)]
    top := 0x807F }

/-- FIO (R250, R252). -/
def blkFio : Block :=
  { page := 0x0B, id := 0xB, ev := 96, evCnt := 14, evMask := 0x37FF, apply := .inStop
    rows := [one 0x40 (ro 0x30), one 0x48 (kpAbTs 0x7FF 0x64 [(0, 11, 50, 2000)]), one 0x4C (kpAbTs all32),
      one 0x54 (t3Ts all32 0), one 0x58 (kpAbTs 0xFFFF), one 0x5C (kpAbTs 0xFFF), one 0x70 (kpAbTs 0xFF_FFFF),
      one 0x74 (kpTs 0xFFFF 0x504 [(0, 8, 1, 255), (8, 8, 1, 255)]), one 0x78 (kpTs 0x3F 4 [(0, 6, 1, 40)]),
      one 0x7C (kpTs 0xFF_FFFF), one 0x80 (kpTs 0xFF 0xA0 [(0, 8, 1, 200)]), one 0x84 (rw 0xFFFF), run 0x90 2 (rw 0xFFFF)]
    tabs := [tabRun 0 32 (kpAbTs 0xFF 0xA [(0, 8, 1, 255)])], top := 0x5F }

/-- ILK (R253, R254). -/
def blkIlk : Block :=
  { page := 0x0C, id := 0xC, ev := 107, evCnt := 1, evMask := 1, apply := .inStop
    rows := [one 0x50 (kpTs all32)]
    tabs := [⟨0, 2, 64, kpAbTs all32⟩, ⟨1, 2, 64, kpAbTs 0xFF_FFFF⟩, tabRun 0x80 64 (rw 0xFFFF)], top := 0xFF }

/-- CAN0 to CAN5 (R352, R354). -/
def blkCan : Block :=
  { page := 0x10, inst := 6, id := 0x10, ev := 176, evStep := 5, evCnt := 5, evMask := 0x1F
    rows := [one 0x40 (rwTs 0x17 4), one 0x48 (rwTs 0x1F7F_7FFF 0x001F_1F7E), one 0x4C (rwTs 0x1F0F_0F1F 0x0009_091C),
      one 0x50 (rwTs 0x17F 0), one 0x60 (rw 0xFFFF), one 0x64 (rw all32), one 0x68 (rw 0xFFFF), run 0x78 2 (ro all32),
      one 0x90 (abTs 0x7FF1_3FFF 0x3E8), one 0x94 (abTs 0x7_FFFF 0x1388), one 0x98 (abTs 0xFF_FFFF 0x4_1002),
      one 0x9C (abTs 0xFFFF 0x2710), one 0xAC (rw all32), one 0xB0 (rw 0xFFFF), one 0xB4 (rw all32)]
    tabs := [⟨0, 4, 128, rwTs 0x7FFF_FFFF 0⟩, ⟨1, 4, 128, rwTs 0x7FFF_FFFF 0⟩, ⟨2, 4, 128, rwTs 0xF 0⟩,
      ⟨0x800, 32, 64, rwTs all32 0⟩, ⟨0x801, 32, 64, rwTs 0x70F 0⟩,
      ⟨0x1000, 32, 32, rw all32⟩, ⟨0x1001, 32, 32, rw 0x20F⟩,
      tabRun 0x1400 32 (abTs all32), tabRun 0x2000 2048 (abTs all32)]
    top := 0x27FF }

/-- MVB (R379). -/
def blkMvb : Block :=
  { page := 0x18, id := 0x18, ev := 208, evCnt := 6, evMask := 0x3F
    rows := [one 0x40 (kpTs 0xFFF_00F1), one 0x48 (rw 0xFFFF), one 0x50 (rw 0xFFFF), one 0x54 (rw all32)]
    tabs := [tabRun 0 1024 (abTs 0xBFFF_7FFF), ⟨0x400, 16, 256, rwTs 0x8003_7FFF 0⟩], top := 0x13FF }

/-- ETH (R380). -/
def blkEth : Block :=
  { page := 0x20, id := 0x20, ev := 216, evCnt := 4, evMask := 0xF
    rows := [run 0x40 4 (kpTs 0x3FF_FF33 0x100 [(0, 2, 0, 2)]), run 0x60 5 (t3Ts 0xFF_FFFF 0x00FA_C688), one 0x74 (rw 0x3FF),
      one 0x80 (rw 0xFF), one 0x84 (rw 0xFFFF)]
    tabs := [tabRun 0 1024 (abTs all32 0xFF), ⟨0x400, 4, 4, abTs all32 0xF4240⟩, ⟨0x401, 4, 4, abTs all32⟩,
      ⟨0x402, 4, 4, abTs all32⟩, ⟨0x403, 4, 4, abTs 0x1FF 1⟩, tabRun 0x800 1024 (kpTs 0x3FF_0FFF),
      tabRun 0x1000 4096 (kpTs all32), tabRun 0x2000 0x50 (rw all32)]
    top := 0x204F }

/-- PTP (R381). -/
def blkPtp : Block :=
  { page := 0x21, id := 0x21, ev := 220, evCnt := 2, evMask := 3
    rows := [one 0x40 (kpTs 0xFF_0303 1), run 0x50 4 (kpTs all32), run 0x60 4 (rw 0xFF_FFFF), one 0x70 (rw 0xFFFF),
      one 0x78 (rw 0xFF_FFFF)]
    top := 0xFF }

/-- DMA (R382). -/
def blkDma : Block :=
  { page := 0x22, id := 0x22, ev := 222, evCnt := 2, evMask := 3
    rows := [⟨0x40, 0x20, 8, rw 0xFFFF_FFE1⟩, ⟨0x44, 0x20, 8, rw all32⟩, ⟨0x48, 0x20, 8, rw 0xF 2⟩, ⟨0x50, 0x20, 8, rw 0xFFFF⟩,
      ⟨0x54, 0x20, 8, rw 0xF01 0x100⟩] }

/-- PCIE (R383). -/
def blkPcie : Block :=
  { page := 0x23, id := 0x23, ev := 224, evCnt := 1, evMask := 1
    rows := [one 0x40 (kpTs 0x2F73 0x2440 [(4, 3, 1, 4), (8, 4, 1, 4)]), one 0x4C { rst := 0x2710, kp := 0xFFFF, rng := [(0, 16, 50, 50000)] },
      one 0x50 (rw all32), one 0x54 (rw 0xFFFF)] }

/-- VIS (R283, R284). -/
def blkVis : Block :=
  { page := 0x30, id := 0x30, ev := 170, evCnt := 1, evMask := 1
    rows := [one 0x08 (t3Ts 1 0), run 0x48 2 (rw 0xFFFF)], tabs := [tabRun 0 0x4000 (abTs all32)], top := 0x3FFF }

/-- CAM0 to CAM7 (R285 to R287). The unit matrix stands in CCM0, CCM2 and CCM4, in 4.12 form as the WB gains. -/
def blkCam : Block :=
  { page := 0x31, inst := 8, id := 0x31, ev := 128, evStep := 2, evCnt := 2, evMask := 3
    rows := [one 0x40 (rwTs 3 0), one 0x44 (abTs 0xF7 3), one 0x48 (abTs 0x1_F73F 0x2C), one 0x4C (abTs 0xFFF_0FFF 0x0438_0780),
      one 0x50 (abTs 0xFFF 0x465), one 0x54 (abTs 0x1FF_3FFF 0x8_0000), run 0x58 2 (abTs all32), one 0x60 (abTs 0x1_0FFF 0x1_0100),
      one 0x64 (abTs 0x1FF), one 0x68 (abTs all32 0x1000_1000), one 0x6C (abTs 0xFFFF 0x1000),
      one 0x70 (abTs all32 0x1000), one 0x74 (abTs all32), one 0x78 (abTs all32 0x1000), one 0x7C (abTs all32),
      one 0x80 (abTs 0xFFFF 0x1000), run 0x84 3 (abTs 0xFFF), one 0x90 (abTs 0xF 4),
      one 0x94 (rw 0x3FFF), one 0x98 (rw 0xFFFF), run 0x9C 2 (rw all32), one 0xA4 { w1c := 2 }, one 0xB8 (rw 0xFFFF),
      run 0xC0 2 (rw 0xFFFF), one 0xCC (rw 0xFFFF)]
    tabs := [tabRun 0 33 (abTs 0xFF_FFFF)], top := 0x7FF }

/-- VIEW0 to VIEW5 (R288 to R290). -/
def blkView : Block :=
  { page := 0x39, inst := 6, id := 0x39, ev := 144, evStep := 2, evCnt := 2, evMask := 3
    rows := [one 0x40 (abTs 0x7773), one 0x44 (abTs 0xFFF_0FFF 0x02D0_0780), one 0x48 (abTs all32 0x2000_2000),
      one 0x4C (abTs 0x1FF_0FFF), one 0x50 (abTs all32 0x0100_0100), run 0x54 2 (abTs all32), one 0x5C (abTs 0x3FFF_FFFF),
      one 0x6C (rw 0xFFFF), one 0x20C (ro 0x100)]
    tabs := [tabRun 0 0x1081 (abTs all32), tabRun 0x2000 0x1081 (abTs all32), ⟨0x4000, 1, 0xC00, abTs 0x3FF⟩, tabRun 0x4C00 16 (abTs 0x3FFF_FFFF)]
    top := 0x4C0F }

/-- DSP0 to DSP5 (R291, R292). -/
def blkDsp : Block :=
  { page := 0x40, inst := 6, id := 0x40, ev := 156, evStep := 1, evCnt := 1, evMask := 1
    rows := [one 0x40 (abTs 0x1_0173 0x1_0030), one 0x44 (ro 0x40), one 0x48 (abTs 0x3FFF_FFFF), one 0x4C (abTs 0xFFFF_0FFF),
      run 0x50 2 (abTs all32), one 0x58 (abTs 0x3FFF_FFFF 0x3FFF_FFFF), one 0x60 (rw 0xFFFF), one 0x64 { rw := 0x1F, w1c := 0x200 },
      run 0x68 4 (rw all32)] }

/-- VTIM (R306). -/
def blkVtim : Block :=
  { page := 0x48, id := 0x48
    rows := [⟨0x40, 0x20, 8, abTs all32 0x502A_AAAB⟩, ⟨0x44, 0x20, 8, abTs 0xFF_FFFF 0xFE⟩, ⟨0x48, 0x20, 8, abTs all32⟩,
      ⟨0x4C, 0x20, 8, abTs 0xFFFF⟩, ⟨0x50, 0x20, 8, abTs all32⟩,
      ⟨0x140, 0x20, 6, abTs 0xFFF_0FFF 0x0438_0780⟩, ⟨0x144, 0x20, 6, abTs 0xFF_1FFF 0x002C_0898⟩, ⟨0x148, 0x20, 6, abTs 0xFFF 0x94⟩,
      ⟨0x14C, 0x20, 6, abTs 0xFF_0FFF 0x0005_0465⟩, ⟨0x150, 0x20, 6, abTs 0xFFF 0x24⟩, ⟨0x154, 0x20, 6, abTs all32⟩,
      ⟨0x200, 0x20, 6, abTs 0xFFF_0FFF⟩, ⟨0x204, 0x20, 6, abTs all32⟩, ⟨0x20C, 0x20, 6, rw all32⟩, ⟨0x210, 0x20, 6, rw 0xFFFF⟩] }

/-- FWATCH (R323 to R325). -/
def blkFwatch : Block :=
  { page := 0x49, id := 0x49, ev := 162, evCnt := 8, evMask := 0xFF
    rows := [⟨0x40, 0x40, 6, abTs 0xFFFE_07FF 0x1000_0000⟩, ⟨0x44, 0x40, 6, abTs 0xFFFF 0x4E20⟩, ⟨0x5C, 0x40, 6, rw 0xFFFF⟩,
      ⟨0x60, 0x40, 6, rw 0xFFFF⟩, ⟨0x64, 0x40, 6, rw 0xFFFF⟩, ⟨0x68, 0x40, 6, rw 0xFFFF⟩, ⟨0x6C, 0x40, 6, rw 0xFFFF⟩,
      ⟨0x70, 0x40, 6, rw all32⟩, ⟨0x74, 0x40, 6, rw 0xFFFF⟩]
    top := 0x105F }

/-- XLINK (R401 to R403). -/
def blkXlink : Block :=
  { page := 0x50, id := 0x50, ev := 228, evCnt := 8, evMask := 0xFF
    rows := [one 0x40 (kpTs 0xFFFF_00F7 0x01F4_0000), one 0x44 (kpTs 0xFFF 0x3C [(0, 12, 1, 3600)]), one 0x48 (kpTs 0xFFFF),
      one 0x4C (kpTs all32), one 0x50 (kpTs 0xFFFF), one 0x54 (kpTs 0x13F), one 0x58 (ro 0xF), run 0x78 4 (rw 0xFFFF)]
    top := 0x3FFF }

/-- TACK (R424, R425). The counts held in OTP and the always-on region come from `Keep`. -/
def blkTack : Block :=
  { page := 0x60, id := 0x60, ev := 237, evCnt := 5, evMask := 0x1F
    rows := [one 0x40 (kpTs 3), one 0x44 (rw 0x033F_3FFF), one 0x48 (rw 0xFFF), one 0x4C { w1c := 6 }, run 0x60 24 (rw all32),
      run 0x800 512 (rw all32)]
    top := 0x3F }

/-- SPOOK (R426, R427). -/
def blkSpook : Block :=
  { page := 0x61, id := 0x61, ev := 236, evCnt := 1, evMask := 1
    rows := [one 0x40 (kpTs all32 0x1111_1222), one 0x44 (kpTs 0xFFFF 0x1111), run 0x58 12 (rw 0xFFFF)] }

/-- REC (R465, R466). -/
def blkRec : Block :=
  { page := 0x70, id := 0x70, ev := 247, evCnt := 4, evMask := 0xF
    rows := [one 0x40 (kpTs 0x707 0x405), run 0x54 2 (rw 0xFFFF), one 0x60 (ro all32)]
    top := 0x7FF }

/-- UPD (R444, R445). -/
def blkUpd : Block :=
  { page := 0x71, id := 0x71, ev := 244, evCnt := 3, evMask := 7
    rows := [one 0x40 (kpAbTs 7 7), one 0x70 (rw 0xFFFF)] }

/-- GAIT (R476 to R478). The always-on words are `Keep`'s. -/
def blkGait : Block :=
  { page := 0x72, id := 0x72, ev := 3, evCnt := 2, evMask := 3
    rows := [one 0x40 (kpTs 0x37 0 [(0, 3, 0, 4)]), one 0x48 (t3Ts 0xD 0x12), one 0x4C (t3Ts all32 0)]
    top := 1 }

/-- Every block of the module. -/
def blocks : List Block :=
  [blkSys, blkMbox0, blkEvr, blkBridle, blkFarr, blkTb, blkLane, blkVote, blkCyc, blkPrg, blkSig, blkFio, blkIlk, blkCan, blkMvb,
    blkEth, blkPtp, blkDma, blkPcie, blkVis, blkCam, blkView, blkDsp, blkVtim, blkFwatch, blkXlink, blkTack, blkSpook, blkRec,
    blkUpd, blkGait, blkMbox1]

/-- The block of a page index, none for an unassigned page. -/
def blockOf (p : Nat) : Option Block := blocks.find? (fun b => b.page ≤ p && p < b.page + b.inst)

/-- The row of a list that holds index `x`. -/
def rowOf (rows : List Row) (x : Nat) : Option Row :=
  rows.find? (fun r => r.first ≤ x && (x - r.first) % r.stride == 0 && (x - r.first) / r.stride < r.count)

/-- Key of the register at `off` of page `p` in `State.regs`. -/
def rk (p off : Nat) : Nat := p * 0x20000 + off
/-- Key of word `ix` of page `p`'s table. -/
def tk (p ix : Nat) : Nat := p * 0x20000 + 0x10000 + ix
/-- The page of a key. -/
def keyPage (k : Nat) : Nat := k / 0x20000
/-- The key is a table word's. -/
def keyIsTab (k : Nat) : Bool := 0x10000 ≤ k % 0x20000
/-- The byte offset or table index of a key. -/
def keyOff (k : Nat) : Nat := k % 0x10000

/-- The common header's words (R69, R70): identity, version, event enables and the route of the page. -/
def headerAcc (b : Block) (p off : Nat) : Acc :=
  if off = 0x00 then ro (b.id + 0x1_0000 * (b.instId + (p - b.page)))
  else if off = 0x04 then ro 0x1_0001
  else if off = 0x14 then { rst := b.evMask, rw := b.evMask, t3 := true, ts := true }
  else if off = 0x18 then { w1c := b.evMask }
  else if off = 0x1C then ro (b.evCnt * 0x100 + (if b.evCnt = 0 then 0 else b.ev + b.evStep * (p - b.page)))
  else ro 0

/-- How the word with key `k` answers; a word that no table names reads zero and ignores writes (R73, R81). -/
def accOf (k : Nat) : Acc :=
  match blockOf (keyPage k) with
  | none => {}
  | some b =>
    if keyIsTab k then ((rowOf b.tabs (keyOff k)).map Row.acc).getD {}
    else ((rowOf b.rows (keyOff k)).map Row.acc).getD (headerAcc b (keyPage k) (keyOff k))

/-- PWL point i of a camera's table resets to the identity (R287); every other word to its table's value. -/
def resetWord (k : Nat) : Word :=
  if 0x31 ≤ keyPage k ∧ keyPage k ≤ 0x38 ∧ keyIsTab k ∧ keyOff k ≤ 32 then
    BitVec.ofNat 32 (min (keyOff k * 0x8_0000) 0xFF_FFFF)
  else BitVec.ofNat 32 (accOf k).rst

end Sys2Proof.Machine
end

