-- ==== Sys2Proof/Machine/Operands.lean ====
section
/-! DEFINITION. The forms of operands and fields: bit fields of a word, initiator codes, the pages of an
address, signed and wrapping numbers. -/

namespace Sys2Proof.Machine

/-- The field of `n` bits at bit `lo` of a word. -/
def fld (w : Word) (lo n : Nat) : Nat := (w.toNat / 2 ^ lo) % 2 ^ n
/-- Bit `i` of a word. -/
def bit (w : Word) (i : Nat) : Bool := w.getLsbD i
/-- A word from a number, its low 32 bits. -/
def w32 (n : Nat) : Word := BitVec.ofNat 32 n
/-- A signed number as the low 32 bits of its two's complement. -/
def wInt (x : Int) : Word := BitVec.ofInt 32 x
/-- `w` with the field of `n` bits at `lo` set to the low bits of `x`. -/
def setFld (w : Word) (lo n x : Nat) : Word :=
  w32 (w.toNat - fld w lo n * 2 ^ lo + (x % 2 ^ n) * 2 ^ lo)
/-- `w` with bit `i` set to `b`. -/
def setBit (w : Word) (i : Nat) (b : Bool) : Word := setFld w i 1 (if b then 1 else 0)
/-- 1 for true. -/
def b2n (b : Bool) : Nat := if b then 1 else 0
/-- The bits of `new` where the mask is 1, those of `old` elsewhere. -/
def merge (mask old new : Word) : Word := (old &&& ~~~mask) ||| (new &&& mask)
/-- The word whose bit `i` is 1 for each `i` below `n` with `p i`. -/
def bitsOf (n : Nat) (p : Nat → Bool) : Word :=
  w32 ((List.range n).foldl (fun a i => a + (if p i then 2 ^ i else 0)) 0)
/-- The number of bits set in the low `n` bits of a number. -/
def popcount (n x : Nat) : Nat := ((List.range n).filter (fun i => x.testBit i)).length
/-- The value of an `n`-bit two's-complement field. -/
def signed (n x : Nat) : Int := if x % 2 ^ n < 2 ^ (n - 1) then (x % 2 ^ n : Nat) else ((x % 2 ^ n : Nat) : Int) - 2 ^ n
/-- Saturation of a signed number to 32 bits. -/
def sat32 (x : Int) : Int := max (-2147483648) (min 2147483647 x)
/-- R17: `a` is later than `b` as `n`-bit wrapping numbers. -/
def later (n a b : Nat) : Bool :=
  let d := (a + 2 ^ n - b % 2 ^ n) % 2 ^ n
  1 ≤ d && d ≤ 2 ^ (n - 1) - 1
/-- WM write (R77): bits 31 to 16 choose which of bits 15 to 0 take the written value. -/
def wmMerge (old v : Word) : Word :=
  let m := w32 (fld v 16 16)
  merge m (w32 (fld old 0 16)) (w32 (fld v 0 16))

/-- The initiator codes of R71. -/
def initCode : Init → Nat
  | .lane l => l.val
  | .vote => 3
  | .svc n => 4 + n.val
  | .mgmt => 8
  | .dma => 9
  | .pcie => 0xA
  | .troika => 0xB
  | .hw => 0xC

/-- The initiator is a lane. -/
def isLane : Init → Bool
  | .lane _ => true
  | _ => false

/-- The initiator is a service core. -/
def isSvc : Init → Bool
  | .svc _ => true
  | _ => false

/-- The three planes and the crossing units (R46, R47). -/
inductive Plane where
  | control
  | data
  | management
  | crossing
  deriving DecidableEq, Repr

/-- The plane of a page (R46); the MBOX instances go with the plane that reaches them (R98). -/
def pagePlane (p : Nat) : Plane :=
  if p = 0x01 then .control
  else if p = 0x80 then .data
  else if p = 0x81 then .management
  else if p = 0x02 ∨ p = 0x03 ∨ p = 0x05 then .crossing
  else if (0x06 ≤ p ∧ p ≤ 0x18) ∨ p = 0x50 then .control
  else if 0x20 ≤ p ∧ p ≤ 0x4F then .data
  else .management

/-- The MBOX instance that an initiator reaches (R47), as a page of the model. -/
def mboxPage : Init → Nat
  | .svc _ | .dma | .pcie => 0x80
  | .mgmt => 0x81
  | _ => 0x01

/-- The page index of R97 of a register address, with the MBOX instance of the initiator. -/
def pageOf (i : Init) (addr : Word) : Nat :=
  let p := (addr.toNat - 0x4000_0000) / 0x1000
  if p = 0x01 then mboxPage i else p

/-- The byte offset of an address in its page. -/
def offOf (addr : Word) : Nat := addr.toNat % 0x1000

/-- The byte address of an offset in a page; the MBOX instances share one address. -/
def addrOf (p off : Nat) : Word :=
  w32 (0x4000_0000 + 0x1000 * (if p = 0x80 ∨ p = 0x81 then 1 else p) + off)

/-- The address lies in register space, 0x4000_0000 to 0x40FF_FFFF. -/
def isRegSpace (addr : Word) : Bool := 0x4000_0000 ≤ addr.toNat && addr.toNat < 0x4100_0000

/-- A page is assigned to an address (R494). -/
def assigned (p : Nat) : Bool := p < 0x80 && (blockOf p).isSome

/-- MBOX page of instance `n`. -/
def boxPage (n : Nat) : Nat := if n = 0 then 0x01 else 0x7F + n

/-- The farrier blocks of R115 whose FAIL holds a page (R118). -/
def pageBlocks (p : Nat) : List Nat :=
  if p = 0x07 ∨ p = 0x08 then [3]
  else if p = 0x0A ∨ p = 0x09 then [4]
  else if p = 0x0B then [5, 6]
  else if p = 0x0C then [7]
  else if p = 0x05 then [8]
  else if p = 0x02 then [9]
  else if p = 0x03 then [10]
  else if p = 0x60 then [12]
  else if p = 0x50 then [13]
  else if p = 0x18 then [14]
  else if 0x10 ≤ p ∧ p ≤ 0x15 then [p]
  else if p = 0x20 ∨ p = 0x21 then [22]
  else if p = 0x22 ∨ p = 0x23 then [23]
  else if p = 0x30 then [29]
  else if p = 0x49 then [30]
  else if 0x31 ≤ p ∧ p ≤ 0x38 then [p - 0x31 + 32]
  else if 0x39 ≤ p ∧ p ≤ 0x3E then [p - 0x39 + 40]
  else if 0x40 ≤ p ∧ p ≤ 0x45 then [p - 0x40 + 46]
  else []

/-- The page belongs to a unit that the variant lacks (R1). -/
def pageAbsent (v : Variant) (p : Nat) : Bool :=
  match v with
  | .f => false
  | .c => p = 0x23 || (0x30 ≤ p && p ≤ 0x49)
  | .n => p = 0x0B || p = 0x0C || p = 0x18

/-- Every unit of a farrier block is missing in the variant, or the block is not assigned (R117). -/
def blockAbsent (v : Variant) (b : Nat) : Bool :=
  (b = 15 || b = 31 || 52 ≤ b) ||
    (match v with
    | .f => false
    | .c => b = 29 || b = 30 || 32 ≤ b
    | .n => b = 5 || b = 6 || b = 7 || b = 14)

/-- The page and bit whose header carries an event (R70, R495); the events 20 to 23 and 26 to 29 have none. -/
def evHome (n : Nat) : Option (Nat × Nat) :=
  if n = 0 ∨ (5 ≤ n ∧ n ≤ 10) then some (0x00, n)
  else if n = 3 ∨ n = 4 then some (0x72, n - 3)
  else if 16 ≤ n ∧ n ≤ 19 then some (0x04, n - 16)
  else if n = 24 ∨ n = 25 then some (0x03, n - 24)
  else if 32 ≤ n ∧ n ≤ 39 then some (0x05, n - 32)
  else if 48 ≤ n ∧ n ≤ 77 then some (0x06, n - 48)
  else if n = 80 ∨ n = 85 ∨ n = 90 then some (0x08, n - 80)
  else if 81 ≤ n ∧ n ≤ 84 then some (0x07, n - 81)
  else if 86 ≤ n ∧ n ≤ 89 then some (0x09, n - 86)
  else if n = 91 then some (0x0A, 0)
  else if n = 107 then some (0x0C, 0)
  else if 96 ≤ n ∧ n ≤ 109 then some (0x0B, n - 96)
  else if 128 ≤ n ∧ n ≤ 143 then some (0x31 + (n - 128) / 2, (n - 128) % 2)
  else if 144 ≤ n ∧ n ≤ 155 then some (0x39 + (n - 144) / 2, (n - 144) % 2)
  else if 156 ≤ n ∧ n ≤ 161 then some (0x40 + (n - 156), 0)
  else if 162 ≤ n ∧ n ≤ 169 then some (0x49, n - 162)
  else if n = 170 then some (0x30, 0)
  else if 176 ≤ n ∧ n ≤ 205 then some (0x10 + (n - 176) / 5, (n - 176) % 5)
  else if 208 ≤ n ∧ n ≤ 213 then some (0x18, n - 208)
  else if 216 ≤ n ∧ n ≤ 219 then some (0x20, n - 216)
  else if n = 220 ∨ n = 221 then some (0x21, n - 220)
  else if n = 222 ∨ n = 223 then some (0x22, n - 222)
  else if n = 224 then some (0x23, 0)
  else if 228 ≤ n ∧ n ≤ 235 then some (0x50, n - 228)
  else if n = 236 then some (0x61, 0)
  else if 237 ≤ n ∧ n ≤ 241 then some (0x60, n - 237)
  else if 244 ≤ n ∧ n ≤ 246 then some (0x71, n - 244)
  else if 247 ≤ n ∧ n ≤ 250 then some (0x70, n - 247)
  else none

/-- The event belongs to a unit that the variant lacks (R3). -/
def evAbsent (v : Variant) (n : Nat) : Bool := (evHome n).any (fun h => pageAbsent v h.1)

/-- The event numbers that R495 reserves. -/
def evReserved (n : Nat) : Bool :=
  256 ≤ n ||
    [11, 12, 13, 14, 15, 30, 31, 40, 41, 42, 43, 44, 45, 46, 47, 78, 79, 92, 93, 94, 95, 206, 207, 214, 215, 225, 226, 227, 242,
      243, 251, 252, 253, 254, 255].contains n ||
    (110 ≤ n && n ≤ 127) || (171 ≤ n && n ≤ 175)

/-- The events whose MGMT and REC bits read 1 (R62). -/
def evForced (n : Nat) : Bool := [8, 21, 23, 83, 236, 238, 240].contains n

/-- Every field of a value lies in the range that its field table states (R79). -/
def inRange (a : Acc) (v : Word) : Bool :=
  a.rng.all (fun (lo, n, mn, mx) => mn ≤ fld v lo n && fld v lo n ≤ mx)

/-- CRC-32 of R311 (IEEE 802.3, reflected, initial and final complement): one byte into the register. -/
def crcByte (c : Nat) (b : Nat) : Nat :=
  (List.range 8).foldl (fun x _ => if x % 2 = 1 then Nat.xor (x / 2) 0xEDB8_8320 else x / 2) (Nat.xor c (b % 256))
/-- The register after a list of bytes. -/
def crcBytes (c : Nat) (bs : List Nat) : Nat := bs.foldl crcByte c
/-- CRC-32 of a list of bytes. -/
def crc32 (bs : List Nat) : Word := w32 (Nat.xor (crcBytes 0xFFFF_FFFF bs) 0xFFFF_FFFF)
/-- CRC-16 of R226 (0x1021, not reflected, without a final XOR): one byte into the register, its high bit first. -/
def crc16Byte (c b : Nat) : Nat :=
  (List.range 8).foldl (fun x _ => if 0x8000 ≤ x then Nat.xor (x * 2 % 0x1_0000) 0x1021 else x * 2) (Nat.xor c (b % 256 * 256))
/-- CRC-16 of a list of bytes from 0xFFFF. -/
def crc16 (bs : List Nat) : Nat := bs.foldl crc16Byte 0xFFFF
/-- The four bytes of a word, low byte first. -/
def wordBytes (w : Word) : List Nat := [fld w 0 8, fld w 8 8, fld w 16 8, fld w 24 8]

end Sys2Proof.Machine
end

