-- ==== Sys2Proof/Machine/Ops.lean ====
section
/-! DEFINITION. The named operations over the state: sparse stores, registers and table words, image and
memory cells, counters, errors, events, key pairs and triplicated fields. -/

namespace Sys2Proof.Machine

/-! ### Sorted association lists: the canonical form of every store -/

/-- The value listed at a key. -/
def alGet {α : Type} : List (Nat × α) → Nat → Option α
  | [], _ => none
  | (a, x) :: r, k => if a = k then some x else alGet r k

/-- The list with `v` at key `k`, in rising order of keys. -/
def alSet {α : Type} : List (Nat × α) → Nat → α → List (Nat × α)
  | [], k, v => [(k, v)]
  | (a, x) :: r, k, v => if k < a then (k, v) :: (a, x) :: r else if k = a then (k, v) :: r else (a, x) :: alSet r k v

/-- The list without key `k`. -/
def alDel {α : Type} (l : List (Nat × α)) (k : Nat) : List (Nat × α) := l.filter (fun c => c.1 ≠ k)

/-- The value at a key of a store whose unlisted keys read as `d`. -/
def stGet {α : Type} (d : α) (l : List (Nat × α)) (k : Nat) : α := (alGet l k).getD d

/-- A store with `v` at `k`, where `d` is what an unlisted `k` reads as: no entry equals it. -/
def stSet {α : Type} [DecidableEq α] (d : α) (l : List (Nat × α)) (k : Nat) (v : α) : List (Nat × α) :=
  if v = d then alDel l k else alSet l k v

/-- Keys rise strictly and no entry equals what its key reads as when it is not listed. -/
def stWf {α : Type} [DecidableEq α] (d : Nat → α) : List (Nat × α) → Bool
  | [] => true
  | [(k, v)] => decide (v ≠ d k)
  | (k, v) :: (k', v') :: r => decide (v ≠ d k) && decide (k < k') && stWf d ((k', v') :: r)

/-- The canonical form of the byte memories: strictly rising addresses and no byte equal to 0, which is what
an unlisted address reads as. -/
def Memory.wf (m : List Host.Cell) : Bool := stWf (fun _ => (0 : Byte)) m

/-! ### Registers, table words, images, memories -/

/-- The word with key `k`. -/
def State.key (s : State) (k : Nat) : Word := stGet (resetWord k) s.regs k
/-- `s` with the word of key `k` set. -/
def State.setKey (s : State) (k : Nat) (v : Word) : State := { s with regs := stSet (resetWord k) s.regs k v }
/-- The register at offset `off` of page `p`. -/
def State.rd (s : State) (p off : Nat) : Word := s.key (rk p off)
/-- `s` with that register set. -/
def State.wr (s : State) (p off : Nat) (v : Word) : State := s.setKey (rk p off) v
/-- Word `ix` of page `p`'s table. -/
def State.tab (s : State) (p ix : Nat) : Word := s.key (tk p ix)
/-- `s` with that table word set. -/
def State.setTab (s : State) (p ix : Nat) (v : Word) : State := s.setKey (tk p ix) v

/-- Word `w` of image `id`. -/
def State.image (s : State) (id w : Nat) : DWord := stGet 0 s.img (id * 0x10000 + w)
/-- `s` with that image word set. -/
def State.setImage (s : State) (id w : Nat) (v : DWord) : State := { s with img := stSet 0 s.img (id * 0x10000 + w) v }
/-- The words of image `id`, keyed by word number. -/
def State.imageCells (s : State) (id : Nat) : List (Nat × DWord) :=
  (s.img.filter (fun c => c.1 / 0x10000 = id)).map (fun c => (c.1 % 0x10000, c.2))
/-- `s` with image `id` cleared. -/
def State.clearImage (s : State) (id : Nat) : State := { s with img := s.img.filter (fun c => c.1 / 0x10000 ≠ id) }
/-- `s` with the words listed written into image `id`. -/
def State.putImage (s : State) (id : Nat) (cells : List (Nat × DWord)) : State :=
  cells.foldl (fun t c => t.setImage id c.1 c.2) s
/-- `s` with image `dst` a copy of image `src`. -/
def State.copyImage (s : State) (src dst : Nat) : State := (s.clearImage dst).putImage dst (s.imageCells src)

/-- The byte at an address of the module's memories; a byte that nothing has written reads 0. -/
def State.byte (s : State) (a : Nat) : Byte := stGet 0 s.mem a
/-- `s` with that byte set. -/
def State.setByte (s : State) (a : Nat) (v : Byte) : State := { s with mem := stSet 0 s.mem a v }
/-- `s` with consecutive bytes set. -/
def State.setBytes (s : State) : Nat → List Byte → State
  | _, [] => s
  | a, v :: r => (s.setByte a v).setBytes (a + 1) r
/-- `n` consecutive bytes. -/
def State.bytes (s : State) (a n : Nat) : List Byte := (List.range n).map (fun i => s.byte (a + i))
/-- The little-endian word at an address. -/
def State.memWord (s : State) (a : Nat) : Word :=
  w32 ((s.byte a).toNat + 0x100 * (s.byte (a + 1)).toNat + 0x1_0000 * (s.byte (a + 2)).toNat + 0x100_0000 * (s.byte (a + 3)).toNat)
/-- The bytes of a word, low byte first. -/
def bytesOf (w : Word) : List Byte := (wordBytes w).map (BitVec.ofNat 8)

/-- Bytes as one little-endian number. -/
def leNat : List Byte → Nat
  | [] => 0
  | b :: r => b.toNat + 256 * leNat r
/-- A word of four bytes, low byte first. -/
def bytesWord (bs : List Byte) : Word := w32 (leNat (bs.take 4))
/-- Consecutive words as bytes. -/
def wordsBytes (ws : List Word) : List Byte := ws.flatMap bytesOf

/-! Where the memories lie in `State.mem`: each SRAM and buffer of the module has a region of its own. -/

/-- Byte `a` of lane `l`'s 4 MB SRAM (R153). -/
def laneMem (l a : Nat) : Nat := l * 0x100_0000 + a
/-- Byte `a` of the 16 MB shared SRAM (R46). -/
def sramMem (a : Nat) : Nat := 0x1000_0000 + a
/-- Byte `a` of the USB update buffer (R433). -/
def usbMem (a : Nat) : Nat := 0x2000_0000 + a
/-- Byte `a` of the alternate code half in which an online change is written (R212). -/
def ocMem (a : Nat) : Nat := 0x3000_0000 + a
/-- Byte `a` of the 2 MB network buffers (R371, kind 5). -/
def netMem (a : Nat) : Nat := 0x4000_0000 + a
/-- Byte `a` of the image that an online change has left in the MRAM reserve (R214). -/
def keptMem (a : Nat) : Nat := 0x5000_0000 + a
/-- Byte `a` of host memory behind the PCIe port, as DMA sees it (R371): a 64-bit address. -/
def hostMem (a : Nat) : Nat := 0x1_0000_0000 + a

/-! Numbers of the images in `State.img`. -/

/-- Input image window of lane `l` (R151, R177). -/
def imgIn (l : Nat) : Nat := l
/-- Output image window of lane `l` (R156). -/
def imgOut (l : Nat) : Nat := 4 + l
/-- The image that the last vote has produced and the next tick commits (R178). -/
def imgVoted : Nat := 8
/-- The committed image in force, with safe-state values where the latch is set (R186). -/
def imgCommitted : Nat := 9
/-- The mirror image of the duplex partner (R395). -/
def imgMirror : Nat := 10
/-- The snapshot captured at the tick (R177). -/
def imgSnap : Nat := 11

/-! ### Small updates -/

/-- `s` with field `n` bits at `lo` of a register set. -/
def State.wrFld (s : State) (p off lo n x : Nat) : State := s.wr p off (setFld (s.rd p off) lo n x)
/-- `s` with bit `i` of a register set to `b`. -/
def State.wrBit (s : State) (p off i : Nat) (b : Bool) : State := s.wr p off (setBit (s.rd p off) i b)
/-- A field of a register. -/
def State.rf (s : State) (p off lo n : Nat) : Nat := fld (s.rd p off) lo n
/-- A bit of a register. -/
def State.rb (s : State) (p off i : Nat) : Bool := bit (s.rd p off) i
/-- A 16-bit counter at bits 15 to 0, saturating (R497). -/
def State.sat16 (s : State) (p off : Nat) : State := s.wrFld p off 0 16 (min 0xFFFF (s.rf p off 0 16 + 1))
/-- A 16-bit counter at bits 31 to 16, saturating. -/
def State.sat16hi (s : State) (p off : Nat) : State := s.wrFld p off 16 16 (min 0xFFFF (s.rf p off 16 16 + 1))
/-- A 16-bit counter at bits 15 to 0 advanced by `n`, saturating. -/
def State.sat16by (s : State) (p off n : Nat) : State := s.wrFld p off 0 16 (min 0xFFFF (s.rf p off 0 16 + n))
/-- A 32-bit counter, wrapping (R497). -/
def State.inc32 (s : State) (p off : Nat) : State := s.wr p off (s.rd p off + 1)

/-- Lane `l`. -/
def State.lane (s : State) (l : Nat) : Lane := s.lanes.getD l {}
/-- `s` with lane `l` changed by `f`. -/
def State.modLane (s : State) (l : Nat) (f : Lane → Lane) : State := { s with lanes := s.lanes.modify l f }
/-- Camera port `c`. -/
def State.cam (s : State) (c : Nat) : Cam := s.cams.getD c {}
def State.modCam (s : State) (c : Nat) (f : Cam → Cam) : State := { s with cams := s.cams.modify c f }
/-- View `v`. -/
def State.view (s : State) (v : Nat) : View := s.views.getD v {}
def State.modView (s : State) (v : Nat) (f : View → View) : State := { s with views := s.views.modify v f }
/-- Display port `d`. -/
def State.dsp (s : State) (d : Nat) : Dsp := s.dsps.getD d {}
def State.modDsp (s : State) (d : Nat) (f : Dsp → Dsp) : State := { s with dsps := s.dsps.modify d f }
/-- What frame watch knows of view `v`. -/
def State.watch (s : State) (v : Nat) : Watch := s.watches.getD v {}
def State.modWatch (s : State) (v : Nat) (f : Watch → Watch) : State := { s with watches := s.watches.modify v f }
/-- CAN channel `n`. -/
def State.can (s : State) (n : Nat) : Can := s.cans.getD n {}
def State.modCan (s : State) (n : Nat) (f : Can → Can) : State := { s with cans := s.cans.modify n f }
/-- Mailbox instance `n`. -/
def State.box (s : State) (n : Nat) : Box := s.boxes.getD n {}
def State.modBox (s : State) (n : Nat) (f : Box → Box) : State := { s with boxes := s.boxes.modify n f }

/-- `f s` where `c` holds, `s` otherwise. -/
def State.when (s : State) (c : Bool) (f : State → State) : State := if c then f s else s

/-- The state after a command: its effect, with the queue and the fitted variant as they were. -/
def answer (s t : State) : Host.Outcome State Fault Refusal :=
  .next { t with pending := s.pending, variant := s.variant }

/-- A free value of the manual: the state's counter of draws names which one, and the draw advances it. -/
def State.draw (s : State) : State := { s with freeIx := s.freeIx + 1 }

/-! ### Time (R128) -/

/-- TB_NS. -/
def State.ns (s : State) : Word := w32 s.tb.count
/-- TB_EPOCH. -/
def State.epoch (s : State) : Word := w32 (s.tb.count / 2 ^ 32)

/-! ### Held and absent units -/

/-- The result of farrier block `b` (R117): bits of FARR.RES0 to RES3. -/
def State.blockRes (s : State) (b : Nat) : Nat := s.rf 0x04 (0x40 + 4 * (b / 16)) (2 * (b % 16)) 2
/-- Block `b` is UNUSABLE: it failed its last completed test (R118). -/
def State.blockBad (s : State) (b : Nat) : Bool := s.keep.unusable.testBit b
/-- The page belongs to a unit that failed its test and is held in reset (R118). -/
def State.pageHeld (s : State) (p : Nat) : Bool := (pageBlocks p).any s.blockBad
/-- The page's unit is fitted and not held. -/
def State.pageUp (s : State) (p : Nat) : Bool := !pageAbsent s.variant p && !s.pageHeld p

/-! ### Events (R58 to R64) -/

/-- The route word of event `n`, with the bits that R62 fixes. -/
def State.routeWord (s : State) (n : Nat) : Word :=
  if evForced n then s.tab 0x02 n ||| 0x60 else s.tab 0x02 n

/-- R63: the occurrence counter, unless COUNT_FREEZE holds it, and the instant of the occurrence. -/
def State.countEvent (s : State) (n : Nat) : State :=
  (if s.rb 0x02 0x08 0 then s
    else s.setTab 0x02 (0x100 + n) (w32 (min 0xFFFF (fld (s.tab 0x02 (0x100 + n)) 0 16 + 1)))).setTab 0x02 (0x200 + n) s.ns

/-- R60: the event's bit in bank `b`, where the route word has it. -/
def State.pendBank (s : State) (n b : Nat) (on : Bool) : State :=
  if on then s.wrBit 0x02 (0x100 + 0x20 * b + 4 * (n / 32)) (n % 32) true else s

/-- Wall offset of R139, 0 while it is not valid. -/
def State.wallOffset (s : State) : Int :=
  if s.rb 0x05 0x7C 0 then signed 64 ((s.rd 0x05 0x74).toNat + 2 ^ 32 * (s.rd 0x05 0x78).toNat) else 0
/-- Wall seconds at a monotonic time. -/
def State.wallSeconds (s : State) (c : Nat) : Word := wInt (((c : Int) + s.wallOffset) / 1_000_000_000)
/-- The network buffers lose what they hold: the queues of the switch and the datasets (R422, R467). -/
def State.clearNet (s : State) : State :=
  { s with net := { s.net with rxQ := List.replicate 8 [], txQ := List.replicate 8 [], egress := [], dsWrite := [], dsReady := []
                               txPart := List.replicate 8 [] }
           mem := s.mem.filter (fun c => !(netMem 0 ≤ c.1 && c.1 < netMem 0x20_0000)) }
/-- The service pause of an update runs (R437). -/
def State.inPause (s : State) : Bool := s.rf 0x71 0x44 0 3 = 3
/-- R61: the entry for the recorder's inlet, or its loss. -/
def State.enterInlet (s : State) (e : Inlet) : State :=
  if s.inlet.length < 256 then { s with inlet := s.inlet ++ [e] } else s.sat16 0x02 0x40

/-- An entry put into a list of entries by event number, after those with its own number (R61). -/
def insertInlet (e : Inlet) : List Inlet → List Inlet
  | [] => [e]
  | x :: r => if e.code < x.code then e :: x :: r else x :: insertInlet e r
/-- What `f` does lies in one IOCLK cycle: its entries join the inlet queue in ascending order of event number (R61). -/
def State.oneCycle (f : State → State) (s : State) : State :=
  let t := f { s with inlet := [] }
  (t.inlet.foldl (fun l e => insertInlet e l) []).foldl State.enterInlet { t with inlet := s.inlet }

/-- Router stage and delivery (R58). -/
def State.route (s : State) (n : Nat) (p0 p1 p2 : Word) : State :=
  let r := s.routeWord n
  let e : Inlet := ⟨n, fld r 8 3, s.ns, s.epoch, p0, p1, p2, s.rb 0x05 0x7C 0, s.wallSeconds s.tb.count⟩
  let s := s.countEvent n
  let s := (((s.pendBank n 0 (bit r 1)).pendBank n 1 (bit r 2)).pendBank n 2 (bit r 3)).pendBank n 3 (bit r 4)
  let s := s.pendBank n 4 (bit r 5)
  let s := if bit r 0 then s.wrBit 0x02 (0x60 + 4 * (n / 32)) (n % 32) true else s
  if bit r 6 then s.enterInlet e else s

/-- A unit raises event `n` on the page and bit named (R58, R70): the pending bit is set whether or not the
event is enabled, and only an enabled one goes to the router. -/
def State.raiseAt (s : State) (page b n : Nat) (p0 p1 p2 : Word) : State :=
  if pageAbsent s.variant page then s
  else if bit (s.rd page 0x14) b then (s.wrBit page 0x18 b true).route n p0 p1 p2 else s.wrBit page 0x18 b true

/-- Event `n` occurs with the three words given (R58). Reserved events and events of an absent unit never do (R3, R495). -/
def State.occur (s : State) (n : Nat) (p0 p1 p2 : Word) : State :=
  if evReserved n then s
  else match evHome n with
    | none => s.route n p0 p1 p2
    | some (page, b) => s.raiseAt page b n p0 p1 p2

/-- The words of a lane event that the manual defines, as a mask: P0 of LANE_LATE, P0 and P1 of the next two. -/
def laneWords (i : Nat) : Nat := if i = 7 then 1 else if i = 8 || i = 9 then 3 else 0
/-- The words of a CAN event, with P0: CAN_TT_ERR has a P1 for the drift guard alone (R345). -/
def canWords (i : Nat) (p0 : Word) : Nat := if i = 3 then (if p0 = 3 then 3 else 1) else if i = 4 then 1 else 3
/-- ECC_CORR and ECC_UNCORR: line stores and the history give P0 alone (R265, R325). -/
def eccWords (p0 : Word) : Nat := if 0x100 ≤ p0.toNat && p0.toNat < 0x300 then 1 else 3
/-- Which of P0 to P2 the raising chapter defines for event `n` with that P0, as a mask of three bits (R61, R447). -/
def eventWords (n : Nat) (p0 : Word) : Nat :=
  if 25 ≤ n && n ≤ 29 || n = 20 || n = 21 then 7
  else if n = 22 || n = 23 then eccWords p0
  else if 48 ≤ n && n < 78 then laneWords ((n - 48) % 10)
  else if 128 ≤ n && n < 144 then (if n % 2 = 0 then 2 else 3)
  else if 144 ≤ n && n < 156 then 3
  else if 156 ≤ n && n < 162 then 2
  else if 176 ≤ n && n < 206 then canWords ((n - 176) % 5) p0
  else if n = 105 || n = 224 || n = 250 then (if p0 = 1 then 3 else 1)
  else if n ∈ [3, 5, 32, 34, 35, 39, 81, 86, 96, 97, 107, 109, 162, 163, 164, 165, 167, 168, 170, 210, 216, 219, 220, 222, 223,
      232, 234, 236, 238, 240, 241, 247] then 3
  else if n ∈ [0, 2, 4, 6, 8, 18, 19, 38, 80, 83, 84, 85, 88, 91, 98, 100, 101, 102, 103, 104, 106, 108, 166, 208, 209, 211, 212,
      213, 217, 218, 221, 230, 231, 239, 244, 245, 246, 248] then 1
  else 0

/-- The value of a word of event `n` that no chapter defines: a free value. -/
def State.openWord (s : State) (n ix : Nat) : Word := Config.eventParam n ix s.freeIx s.inlet.length s.ns s.epoch

/-- A unit raises event `n` with the words that its chapter defines; the others are free. -/
def State.raise (s : State) (n : Nat) (p0 p1 p2 : Word) : State :=
  let m := eventWords n p0
  s.occur n (if m.testBit 0 then p0 else s.openWord n 0) (if m.testBit 1 then p1 else s.openWord n 1)
    (if m.testBit 2 then p2 else s.openWord n 2)

/-! ### Access errors (R71) -/

/-- The ERRINFO word of an error. -/
def errWord (off ini cause cnt : Nat) : Word := w32 (off % 0x1000 + ini % 16 * 0x1000 + cause % 256 * 0x1_0000 + cnt % 256 * 0x100_0000)

/-- An error on page `p`: ERRINFO takes it and ERRCNT advances; event `ev` carries the address and ERRINFO. -/
def State.error (s : State) (p off ini cause ev : Nat) (p0 : Word) : State :=
  let w := errWord off ini cause (s.rf p 0x38 24 8 + 1)
  (s.wr p 0x38 w).raise ev p0 w 0

/-- ACCESS_FAULT with a cause of R71. -/
def State.accessFault (s : State) (i : Init) (addr : Word) (cause : Nat) : State :=
  s.error (pageOf i addr) (offOf addr) (initCode i) cause 26 addr

/-- The bus answers an error to the initiator. -/
def State.busError (s : State) : State := { s with bus := { data := 0, err := true } }
/-- The bus answers a datum. -/
def State.busData (s : State) (v : Word) : State := { s with bus := { data := v, err := false } }

/-! ### Key pairs (R79) -/

/-- The pending key-pair value of a page. -/
def State.kpPend (s : State) (p : Nat) : Option KpPend := s.kp.find? (fun k => k.page = p)
/-- `s` with nothing pending on the page. -/
def State.kpDrop (s : State) (p : Nat) : State := { s with kp := s.kp.filter (fun k => k.page ≠ p) }
/-- KEYPAIR_FAIL on a page, with the address P0. -/
def State.kpFail (s : State) (p ini : Nat) (p0 : Word) : State := s.error p (p0.toNat % 0x1000) ini 5 27 p0

/-- A value write to a KP location: it becomes the page's pending value; one that was pending is dropped with
KEYPAIR_FAIL. -/
def State.kpStart (s : State) (k : KpPend) : State :=
  let s := if (s.kpPend k.page).isSome then s.kpFail k.page k.ini k.addr else s
  let s := s.kpDrop k.page
  { s with kp := k :: s.kp }

/-! ### Triplicated fields (R78) -/

/-- Even parity of a word. -/
def parity (w : Word) : Bool := popcount 32 w.toNat % 2 = 1

/-- A copy that departs by `d`, its own parity bit changed or not, still has correct parity. -/
def goodCopy (d : Word) (q : Bool) : Bool := parity d = q

/-- What a judgement finds: three good and equal copies, a repair to the value at the departure given, or an unrecoverable
field that reads as the bitwise majority (given as its departure from the word last written). -/
inductive T3Judge where
  | sound (dev : Word)
  | repair (dev : Word)
  | fault (dev : Word)
  deriving DecidableEq, Repr

/-- Judgement of the three copies. -/
def judgeT3 (u : Upset) : T3Judge :=
  let g0 := goodCopy u.d0 u.q0
  let g1 := goodCopy u.d1 u.q1
  let g2 := goodCopy u.d2 u.q2
  if g0 && g1 && g2 && u.d0 == u.d1 && u.d1 == u.d2 then .sound u.d0
  else if g0 && g1 && u.d0 == u.d1 then .repair u.d0
  else if g0 && g2 && u.d0 == u.d2 then .repair u.d0
  else if g1 && g2 && u.d1 == u.d2 then .repair u.d1
  else .fault ((u.d0 &&& u.d1) ||| (u.d0 &&& u.d2) ||| (u.d1 &&& u.d2))

/-- Upsets add up until a write or a repair. -/
def addUpset (a b : Upset) : Upset :=
  ⟨a.d0 ^^^ b.d0, a.d1 ^^^ b.d1, a.d2 ^^^ b.d2, xor a.q0 b.q0, xor a.q1 b.q1, xor a.q2 b.q2⟩

/-- The departures of the copies of the word at `k`. -/
def State.upset (s : State) (k : Nat) : Upset := (alGet s.upsets k).getD ⟨0, 0, 0, false, false, false⟩

/-- A write sets all three copies and their parity bits (R78). -/
def State.setT3 (s : State) (k : Nat) (v : Word) : State := { s.setKey k v with upsets := alDel s.upsets k }

/-! ### Buffered writes (R84) -/

/-- The shadow of the word at `k`. -/
def State.shadowOf (s : State) (k : Nat) : Option Word := alGet s.shadow k
/-- A write to an AB word goes to its shadow and sets APPLY_STAT.PENDING. -/
def State.setShadow (s : State) (k : Nat) (v : Word) : State :=
  ({ s with shadow := alSet s.shadow k v }).wrBit (keyPage k) 0x24 0 true
/-- Shadow entries of a page that `sel` chooses. -/
def State.shadows (s : State) (p : Nat) (sel : Nat → Bool) : List (Nat × Word) :=
  s.shadow.filter (fun c => keyPage c.1 = p && sel c.1)
/-- Take the chosen shadows of a page into force, without counting an apply. -/
def State.takeShadows (s : State) (p : Nat) (sel : Nat → Bool) : State :=
  let l := s.shadows p sel
  let s := l.foldl (fun t c => t.setT3 c.1 c.2) s
  let s := { s with shadow := s.shadow.filter (fun c => !(keyPage c.1 = p && sel c.1)) }
  s.wrBit p 0x24 0 (s.shadow.any (fun c => keyPage c.1 = p))
/-- The boundary of the chosen shadows of a page (R84): with one pending, all take effect, PENDING follows what
is left, APPLY_CNT advances and REFUSED clears; with none pending nothing changes. -/
def State.applyShadows (s : State) (p : Nat) (sel : Nat → Bool) : State :=
  if (s.shadows p sel).isEmpty then s
  else
    let t := s.takeShadows p sel
    (t.wrFld p 0x24 8 8 (t.rf p 0x24 8 8 + 1)).wrBit p 0x24 1 false
/-- The chosen shadows of a page are discarded at their boundary, which counts no apply. -/
def State.dropShadows (s : State) (p : Nat) (sel : Nat → Bool) : State :=
  let s := { s with shadow := s.shadow.filter (fun c => !(keyPage c.1 = p && sel c.1)) }
  s.wrBit p 0x24 0 (s.shadow.any (fun c => keyPage c.1 = p))
/-- The value that the word at `k` will have once its shadow is applied. -/
def State.nextKey (s : State) (k : Nat) : Word := (s.shadowOf k).getD (s.key k)

/-- Every word that a tack set loads (R15) back at the value it had before any load. -/
def State.clearTs (s : State) (sel : Nat → Bool) : State :=
  { s with
    regs := s.regs.filter (fun c => !((accOf c.1).ts && sel c.1))
    shadow := s.shadow.filter (fun c => !((accOf c.1).ts && sel c.1))
    upsets := s.upsets.filter (fun c => !((accOf c.1).ts && sel c.1)) }

end Sys2Proof.Machine
end

