-- ==== Sys2Proof/Machine/Flags.lean ====
section
/-! DEFINITION. The conditions that many rules share: modes and states read from their registers, and the
signal-map entries behind them. -/

namespace Sys2Proof.Machine

/-- The named codes of PRG.MODE_STAT.MODE (R201). -/
def modeStop : Nat := 0
def modeRun : Nat := 1
def modeHold : Nat := 2

/-- PRG.MODE_STAT.MODE. -/
def State.progMode (s : State) : Nat := s.rf 0x09 0x44 0 2
/-- A program start by R205 is in progress (MODE_STAT.STARTING). -/
def State.starting (s : State) : Bool := s.rb 0x09 0x44 5
/-- MODE_STAT.COMPAT: the lane image in force is one built for the Lemlis 610 (R212). -/
def State.compat (s : State) : Bool := s.rb 0x09 0x44 4

/-- Offset of a word of lane `l`'s register set in the LANE page (R170). -/
def laneOff (l off : Nat) : Nat := 0x80 + 0x40 * l + off
/-- The state code of lane `l` (R167): OFF 0, BOOT 1, SYNC 2, VOTING 3, SPLIT 4, DEBUG 5, FAILED 6. -/
def State.laneState (s : State) (l : Nat) : Nat := s.rf 0x06 (laneOff l 4) 0 3
/-- Lane `l` is VOTING. -/
def State.voting (s : State) (l : Nat) : Bool := s.laneState l = 3
/-- The lanes VOTING, in the order A, B, C. -/
def State.votingLanes (s : State) : List Nat := [0, 1, 2].filter s.voting
/-- How many lanes are VOTING. -/
def State.votingCount (s : State) : Nat := s.votingLanes.length
/-- The mask of the lanes VOTING. -/
def State.votingMask (s : State) : Nat := (s.votingLanes.map (fun l => 2 ^ l)).sum
/-- Farrier block `l` of the lane is UNUSABLE (STATEl.UNUSABLE). -/
def State.laneUnusable (s : State) (l : Nat) : Bool := s.blockBad l

/-- The word belongs to lane `l`'s register set. -/
def laneKey (l k : Nat) : Bool := keyPage k = 0x06 && !keyIsTab k && 0x80 + 0x40 * l ≤ keyOff k && keyOff k < 0xC0 + 0x40 * l
/-- The word belongs to a unit that is held: its page, or the register set of an UNUSABLE lane (R114, R118). -/
def State.keyHeld (s : State) (k : Nat) : Bool := s.pageHeld (keyPage k) || [0, 1, 2].any (fun l => laneKey l k && s.laneUnusable l)

/-- Troika's safe-state latch (R186). -/
def State.latched (s : State) : Bool := s.rb 0x07 0x0C 0
/-- VOTE.SAFE_CAUSE. -/
def State.safeCauses (s : State) : Nat := s.rf 0x07 0x44 0 8
/-- At least two VOTING lanes demand the safe state (R187). -/
def State.laneDemand (s : State) : Bool := 2 ≤ ([0, 1, 2].filter (fun l => s.voting l && s.rb 0x07 0x80 l)).length
/-- Some source of the safe-state line demands, or its rails are not complementary (R51). -/
def State.lineDemand (s : State) : Bool :=
  s.pins.safeN || s.laneDemand || s.tro.mgmtDemand || s.tro.spookDemand || !s.tro.railsOk
/-- VOTE.CFG.LIMP_EN. -/
def State.limpEn (s : State) : Bool := s.rb 0x07 0x48 0
/-- The voter's mode by R185: 0 NONE, 1 LIMP, 2 2OO2, 3 2OO3. -/
def State.voterMode (s : State) : Nat :=
  if s.votingCount = 3 then 3 else if s.votingCount = 2 then 2 else if s.votingCount = 1 && s.limpEn then 1 else 0
/-- FEW_LANES is the only cause, LIMP_EN is 1 and one lane is VOTING (R188). -/
def State.limping (s : State) : Bool := s.safeCauses = 0x40 && s.limpEn && s.votingCount = 1

/-- A tack set is loaded (SYS.PROF_ACTIVE.LOADED). -/
def State.loaded (s : State) : Bool := s.rb 0x00 0x48 8
/-- FARR.PSTAT, with ANY_FAIL and ANY_NOT_RUN by the results as they stand; no result stands before the first boot test (R126). -/
def State.farrStat (s : State) : Word :=
  let has (r : Nat) : Bool := s.rd 0x04 0x4C ≠ 0 && (List.range 52).any (fun b => !blockAbsent s.variant b && s.blockRes b = r)
  setBit (setBit (s.rd 0x04 0x0C) 2 (has 2)) 3 (has 0)
/-- SYS.BOOT_PHASE. -/
def State.bootPhase (s : State) : Nat := s.rf 0x00 0x50 0 4
/-- The boot has been completed (phase 0xF). -/
def State.booted (s : State) : Bool := s.bootPhase = 0xF
/-- Service start (SYS.PSTAT.SVC_START). -/
def State.svcStart (s : State) : Bool := s.rb 0x00 0x0C 1
/-- SYS.PSTAT.BIST_PENDING (R119). -/
def State.bistPending (s : State) : Bool := s.rb 0x00 0x0C 3

/-- The program's contribution to MOVING (R220, KIND 10). -/
def State.progMoving (s : State) : Bool := s.rb 0x0A 0x5C 2
/-- The MOVING signal: the filtered line or the voted output (R32). -/
def State.moving (s : State) : Bool := s.pins.moving || s.progMoving

/-- FIO.MODE.LINK: 0 OFF, 1 SERIAL, 2 PARALLEL, 3 FAULT. -/
def State.linkMode (s : State) : Nat := s.rf 0x0B 0x40 0 2
/-- FIO.MODE.SUPPLY: 0 NORMAL, 1 WARN, 2 SAG, 3 LOST. -/
def State.supply (s : State) : Nat := s.rf 0x0B 0x40 4 2

/-- XLINK.ROLE.ROLE: 0 SINGLE, 1 ACTIVE, 2 OUTRIDER, 3 OFF. -/
def State.role (s : State) : Nat := s.rf 0x50 0x58 0 2
/-- ROLE_OUT is asserted. -/
def State.roleOut (s : State) : Bool := s.rb 0x50 0x58 4
/-- ROLE_IN is asserted, after its filter. -/
def State.roleIn (s : State) : Bool := s.rb 0x50 0x58 5
/-- The driver enable of R34. -/
def State.drvEn (s : State) : Bool := s.roleOut && !s.roleIn
/-- The drivers carry the command register: by R34, and with ROLE_IN released also where R43 and R108 have the outputs carry their
safe-state values although ROLE_OUT is released: in the power-fail sequence of a module that held its role, and from the load of
the tack set to the first commit (DESIGN CHOICE, log 39: R34 and stage 5 of R235 say otherwise). -/
def State.outEn (s : State) : Bool := s.drvEn || (!s.roleIn && (s.role = 3 || (s.pins.pfActive && s.role ≠ 2)))
/-- XLINK.CFG.EN. -/
def State.duplexEn (s : State) : Bool := s.rb 0x50 0x40 0

/-- GAIT.STATE's gait: 0 GALLOP, 1 CANTER, 2 TROT, 3 WALK, 4 STABLE. -/
def State.gaitNow (s : State) : Nat := s.rf 0x72 0x44 0 3
/-- The data plane runs (R53): the gait is GALLOP. -/
def State.dataPlaneUp (s : State) : Bool := s.gaitNow = 0 && !s.pins.pfActive

/-- CYC.CYCLE. -/
def State.cycle (s : State) : Word := s.rd 0x08 0x50
/-- Control period in ns (R174). -/
def State.periodNs (s : State) : Nat := s.rf 0x08 0x40 0 17 * 10000
/-- P_IO: the control period in IOCLK cycles (R175). -/
def State.periodIo (s : State) : Nat := s.rf 0x08 0x40 0 17 * 2000
/-- CYC.IN_LEN and CYC.OUT_LEN, in 64-bit words. -/
def State.inLen (s : State) : Nat := s.rf 0x08 0x44 0 14
def State.outLen (s : State) : Nat := s.rf 0x08 0x4C 0 14
/-- The collect deadline D of R175. -/
def State.deadline (s : State) : Nat := s.periodIo - (40 + s.outLen) - 400

/-! ### Signal map (R220) -/

/-- Word `w` of map entry `i`. -/
def State.mapWord (s : State) (i w : Nat) : Word := s.tab 0x0A (4 * i + w)
/-- The signal IDs whose map entry is in use, from the listed words of the table. -/
def State.mapUsed (s : State) : List Nat :=
  (s.regs.filter (fun c => keyPage c.1 = 0x0A && keyIsTab c.1 && keyOff c.1 < 0x4000 && keyOff c.1 % 4 = 0 && fld c.2 0 4 ≠ 0)).map
    (fun c => keyOff c.1 / 4)
/-- KIND, DIR, TYPE of an entry. -/
def mapKind (w0 : Word) : Nat := fld w0 0 4
def mapOut (w0 : Word) : Bool := bit w0 4
def mapType (w0 : Word) : Nat := fld w0 5 4
/-- Width in bits of a TYPE (R220). -/
def typeBits (t : Nat) : Nat :=
  if t = 0 then 1 else if t ≤ 2 then 8 else if t ≤ 4 then 16 else if t ≤ 7 then 32 else 64
/-- Bit position of an entry's value in its image: VAL_OFS, with VAL_BIT for a BOOL. -/
def mapPos (w0 w1 : Word) : Nat := 8 * fld w1 0 16 + (if mapType w0 = 0 then fld w1 16 3 else 0)
/-- The output signals of one KIND. -/
def State.outSignals (s : State) (kind : Nat) : List Nat :=
  s.mapUsed.filter (fun i => mapOut (s.mapWord i 0) && mapKind (s.mapWord i 0) = kind)

/-- `n` bits at bit position `pos` of an image; an aligned value lies in one 64-bit word. -/
def State.imgBits (s : State) (id pos n : Nat) : Nat := ((s.image id (pos / 64)).toNat / 2 ^ (pos % 64)) % 2 ^ n
/-- `s` with `n` bits at `pos` of an image set. -/
def State.setImgBits (s : State) (id pos n x : Nat) : State :=
  let w := (s.image id (pos / 64)).toNat
  let old := (w / 2 ^ (pos % 64)) % 2 ^ n
  s.setImage id (pos / 64) (BitVec.ofNat 64 (w - old * 2 ^ (pos % 64) + (x % 2 ^ n) * 2 ^ (pos % 64)))
/-- The value of output signal `i` in the committed image. -/
def State.outValue (s : State) (i : Nat) : Nat :=
  s.imgBits imgCommitted (mapPos (s.mapWord i 0) (s.mapWord i 1)) (typeBits (mapType (s.mapWord i 0)))

end Sys2Proof.Machine
end

