-- ==== Sys2Proof/Machine/Outputs.lean ====
section
/-! DEFINITION. The interlock table and the command register (R235 to R247), the safe-state latch
(R186 to R188) and the change of a lane's state with what follows from it. -/

namespace Sys2Proof.Machine

/-- The image held at the last commit before the latch was set (R188). -/
def imgHeld : Nat := 12

/-! ### Interlock table (R244 to R247) -/

/-- The value of a literal's source; none where it is unknown (R245). -/
def State.ilkSrc (s : State) (src : Nat) : Option Bool :=
  if src < 32 then (if s.linkMode = 3 || s.rb 0x0B 0x88 src then none else some (s.rb 0x0B 0x50 src))
  else if src < 56 then (if s.linkMode = 3 || s.rb 0x0B 0x8C (src - 32) then none else some (s.rb 0x0B 0x68 (src - 32)))
  else if src = 56 then some s.latched
  else if src = 57 then some (s.supply = 2)
  else if src = 58 then some (s.supply = 3)
  else some false

/-- An enabled literal is true or unknown; second part: it is unknown. -/
def State.litHolds (s : State) (lit : Nat) : Bool :=
  match s.ilkSrc (lit % 64) with
  | none => true
  | some b => b != decide (lit / 64 % 2 = 1)
def State.litUnknown (s : State) (lit : Nat) : Bool := (s.ilkSrc (lit % 64)).isNone

/-- Entry `e` fires (R245). -/
def State.fires (s : State) (e : Nat) : Bool :=
  let w0 := s.tab 0x0C (2 * e)
  let lits := [fld w0 0 8, fld w0 8 8, fld w0 16 8, fld w0 24 8].filter (fun l => 128 ≤ l)
  !lits.isEmpty && fld (s.tab 0x0C (2 * e + 1)) 0 24 ≠ 0 && (lits.any s.litUnknown || lits.all s.litHolds)

/-- A mask widened to both channels of each paralleled pair (R245). -/
def State.widen (s : State) (m : Word) : Word :=
  bitsOf 24 (fun n => bit m n || (s.rb 0x0B 0x5C (n / 2) && bit m (n ^^^ 1)))

/-- The entries that have a table word listed: no other entry can fire. -/
def State.ilkEntries (s : State) : List Nat :=
  ((s.regs.filter (fun c => keyPage c.1 = 0x0C && keyIsTab c.1 && keyOff c.1 < 128 && keyOff c.1 % 2 = 0)).map
    (fun c => keyOff c.1 / 2))
/-- The entries that fire. -/
def State.firing (s : State) : List Nat := s.ilkEntries.filter s.fires
/-- Entry `e` was firing at the last evaluation. -/
def State.wasFiring (s : State) (e : Nat) : Bool := s.rb 0x0C (0x40 + 4 * (e / 32)) (e % 32)
/-- The interlock table has failed: fault state, or block 7 held (R118, R248). -/
def State.ilkDown (s : State) : Bool := s.field.faultIlk || s.pageHeld 0x0C
/-- The forced mask of R245 and R248. -/
def State.forcedMask (s : State) : Word :=
  if s.ilkDown then 0xFF_FFFF
  else s.widen (s.firing.foldl (fun a e => a ||| (s.tab 0x0C (2 * e + 1) &&& 0xFF_FFFF)) 0)

/-! ### Command register (R235) -/

/-- Stage 1: the committed bits, or SAFE_FO while the domain is in SERIAL (R227). -/
def State.stage1 (s : State) : Word :=
  if s.linkMode = 1 then s.rd 0x07 0x4C &&& 0xFF_FFFF else w32 ((s.image imgCommitted 1).toNat % 2 ^ 24)
/-- Stages 2 and 3. -/
def State.stage3 (s : State) (c : Word) : Word :=
  let c := c &&& ~~~(s.rd 0x0B 0x70)
  bitsOf 24 (fun n => if s.rb 0x0B 0x5C (n / 2) then bit c (n / 2 * 2) else bit c n)
/-- The command register without the table's stage 4 (R34 by `State.outEn`); OFF before the tack set is loaded, in OFF and FAULT
(R108, R227), after a return from LOST until a commit (R243), and in TROT or lower (R471). -/
def State.foWant (s : State) : Word :=
  if !s.loaded || s.linkMode = 0 || s.linkMode = 3 || s.field.waitCommit || !s.outEn || 2 ≤ s.gaitNow then 0
  else s.stage3 s.stage1 &&& ~~~s.field.sagOff &&& 0xFF_FFFF
/-- The command register after all stages. -/
def State.foCmd (s : State) : Word := s.foWant &&& ~~~s.rd 0x0C 0x48
/-- The channels that the present change of stage 1, a commit, turns ON (R249). -/
def State.turnedOn (s : State) : Word := s.foWant &&& ~~~s.stage3 (s.rd 0x0B 0x64)

/-! ### Evaluation of the table (R246, R247) -/

/-- Evaluation of the table: entries that start to fire are counted, and the event of that cycle, one by R64, carries the words of
the first of them (R247), with a channel that a commit turns ON in the same cycle (R249). -/
def State.evalIlk (s : State) : State :=
  let f := s.firing
  let fresh := f.filter (fun e => !s.wasFiring e)
  let cmd := s.rd 0x0B 0x60 ||| s.turnedOn
  let forced := s.forcedMask
  let masks := fresh.map (fun e => (e, s.widen (s.tab 0x0C (2 * e + 1) &&& 0xFF_FFFF)))
  let s := (s.wr 0x0C 0x40 (bitsOf 32 (fun e => f.contains e))).wr 0x0C 0x44 (bitsOf 32 (fun e => f.contains (e + 32)))
  let s := s.wr 0x0C 0x48 forced
  let s := masks.foldl (fun t (e, _) =>
    ((t.setTab 0x0C (0x80 + e) (w32 (min 0xFFFF (fld (t.tab 0x0C (0x80 + e)) 0 16 + 1)))).setTab 0x0C (0xC0 + e) t.ns).wr 0x0C 0x54 (w32 e)) s
  match masks with
  | [] => s
  | (e, m) :: _ => s.raise 107 (w32 e) (cmd &&& m) 0

/-- The table evaluated and the command register updated; a latched channel is released by an OFF that reaches
the field side, after thermal shutdown only once its driver has cooled (R236). -/
def State.refresh (s : State) : State :=
  if pageAbsent s.variant 0x0B then s
  else
    let s := s.evalIlk
    let s := (s.wr 0x0B 0x64 s.stage1).wr 0x0B 0x60 s.foCmd
    let keepOff := s.rd 0x0B 0x60 ||| s.field.hot ||| s.widen (s.rd 0x0B 0x120)
    { s with field := { s.field with latch := s.field.latch &&& keepOff } }
/-- What the drivers do at the pins: the command, less the latched channels, with the field supply present and
the field side not timed out (R226, R236, R243). -/
def State.foPins (s : State) : Word :=
  if s.supply = 3 || s.field.sideOff then 0 else s.rd 0x0B 0x60 &&& ~~~s.field.latch

/-! ### Safe-state substitution (R188) -/

/-- The class bits of output word `j` (R198): HOLD and PLAIN. -/
def State.classHold (s : State) (j : Nat) : Bool := bit (s.tab 0x07 (j / 16)) (2 * (j % 16))
def State.classPlain (s : State) (j : Nat) : Bool := bit (s.tab 0x07 (j / 16)) (2 * (j % 16) + 1)

/-- The image in force from image `src` with the safe-state values of R188 substituted. -/
def State.substitute (s : State) (src : Nat) : State :=
  let limp := s.limping
  let fo := w32 ((s.image src 1).toNat % 2 ^ 24)
  let safe := s.rd 0x07 0x4C &&& 0xFF_FFFF
  let fo := if limp then merge (s.rd 0x07 0x50) safe fo &&& 0xFF_FFFF else safe
  let new := (s.imageCells src).filter (fun c => c.1 = 0 || (2 ≤ c.1 && limp && s.classPlain c.1))
  let old := (s.imageCells imgHeld).filter (fun c => 2 ≤ c.1 && s.classHold c.1 && !(limp && s.classPlain c.1))
  (((s.clearImage imgCommitted).putImage imgCommitted new).putImage imgCommitted old).setImage imgCommitted 1
    (BitVec.ofNat 64 fo.toNat)

/-- Limp operation, which held before where `was`, has ended with the latch set: every bit and word is substituted at once
(R52, R188). -/
def State.limpEnd (was : Bool) (s : State) : State :=
  if was && s.latched && !s.limping then (s.substitute imgHeld).refresh else s
/-- A cause of SAFE_CAUSE appears (R186): the first sets the latch, raises SAFE_STATE and substitutes at once;
a later one is added without an event. An ACTIVE module loses its role for the causes of R386: its next frame carries
YIELD. -/
def State.safeCause (s : State) (c : Nat) : State :=
  if s.latched then (s.wrBit 0x07 0x44 c true).limpEnd s.limping
  else
    let s := (s.wrBit 0x07 0x0C 0 true).wr 0x07 0x44 (w32 (2 ^ c))
    let s := (s.sat16 0x07 0x78).raise 83 (w32 (2 ^ c)) 0 0
    let s := (s.copyImage imgCommitted imgHeld).substitute imgHeld
    let s := s.when (s.role = 1 && [1, 4, 5, 6, 7].contains c) (fun t => { t with dup := { t.dup with yieldNext := true } })
    s.refresh

/-- The causes of the line that are present now are latched (R51, R186). Rails that are not complementary have no bit of
SAFE_CAUSE: they show as SAFE_N (DESIGN CHOICE, log 28). -/
def State.lineCauses (s : State) : State :=
  let s := s.when s.lineDemand (fun t => { t with tro := { t.tro with demandSeen := true } })
  let s := s.when (s.pins.safeN || !s.tro.railsOk) (fun t => t.safeCause 0)
  let s := s.when s.laneDemand (fun t => t.safeCause 1)
  let s := s.when s.tro.mgmtDemand (fun t => t.safeCause 2)
  s.when s.tro.spookDemand (fun t => t.safeCause 3)

/-- The management plane demands the safe state (R51, R108, R202). -/
def State.mgmtSafe (s : State) : State := ({ s with tro := { s.tro with mgmtDemand := true } }).lineCauses

/-! ### Voted writes of a lane that leaves (R88) -/

/-- Semaphores owned by a code are freed (R95). -/
def State.freeSems (s : State) (code : Nat) : State :=
  (List.range 16).foldl (fun t k => if t.rf 0x03 (0x80 + 4 * k) 0 4 = code then t.wr 0x03 (0x80 + 4 * k) 0xF else t) s

/-- Write number `b` is the front one: it is counted in VW_SEQ and its slot retired (R87, R89). -/
def State.retireSlot (s : State) (num : Nat) : State :=
  let s := s.wr 0x07 0x58 (w32 ((s.rf 0x07 0x58 0 16 + 1) % 0x1_0000))
  { s with vw := { s.vw with base := num + 1 } }

/-- A voted-write event on the page of the write named (R87): ERRINFO with INIT 3. -/
def State.vwError (s : State) (cause ev : Nat) (addr : Word) : State :=
  s.error (pageOf .vote addr) (offOf addr) 3 cause ev addr

/-- A slot is dropped with VWRITE_FAIL, its address that of the first arrival. -/
def State.vwDrop (s : State) (k : VwSlot) : State :=
  let s := { s with vw := { s.vw with slots := s.vw.slots.map (fun x => if x.num = k.num then { x with dropped := true } else x) } }
  match k.got with
  | [] => s
  | (_, a, _) :: _ => s.vwError 7 29 a

/-- Dropped writes at the front are resolved in number order; `fuel` bounds their count. -/
def State.vwSettleN : Nat → State → State
  | 0, s => s
  | n + 1, s =>
    if s.vw.slots.any (fun k => k.num = s.vw.base && k.dropped) then State.vwSettleN n (s.retireSlot s.vw.base) else s
/-- Every lane that votes has issued write number `n`. -/
def State.vwAllIn (s : State) (n : Nat) : Bool := [0, 1, 2].all (fun l => !s.voting l || n < s.vw.issued.getD l 0)
/-- Dropped writes at the front are resolved, and resolved numbers that no lane can still add to are forgotten. -/
def State.vwSettle (s : State) : State :=
  let s := State.vwSettleN s.vw.slots.length s
  { s with vw := { s.vw with slots := s.vw.slots.filter (fun k => s.vw.base ≤ k.num || !s.vwAllIn k.num) } }

/-- The two lanes VOTING agree on a slot: its match, if any (R87, R88). -/
def State.vwMatch (s : State) (k : VwSlot) : Option (Word × Word) :=
  k.got.findSome? (fun (l, a, v) =>
    if s.voting l && k.got.any (fun (l', a', v') => l' ≠ l && s.voting l' && a' = a && v' = v) then some (a, v) else none)

/-- R88: the writes of a lane that has left VOTING are discarded where they form no match; with fewer than two
lanes VOTING every unmatched write is dropped and the lanes' semaphores are freed. -/
def State.vwLaneLeft (s : State) (l : Nat) : State :=
  let clean := s.vw.slots.map (fun k => if k.matched.isSome || k.dropped then k else { k with got := k.got.filter (fun g => g.1 ≠ l) })
  let s := { s with vw := { s.vw with slots := clean.filter (fun k => k.matched.isSome || k.dropped || !k.got.isEmpty) } }
  if s.votingCount < 2 then
    (((s.vw.slots.filter (fun k => k.matched.isNone && !k.dropped)).foldl State.vwDrop s).freeSems 3).vwSettle
  else s

/-! ### Lane states (R167) -/

/-- VOTE.MODE follows the VOTING lanes (R185); entry into 2OO2 raises VOTE_2OO2. -/
def State.voterUpdate (s : State) : State :=
  let old := s.rf 0x07 0x40 0 2
  let m := s.voterMode
  let s := (s.wrFld 0x07 0x40 0 2 m).wrFld 0x07 0x40 4 3 s.votingMask
  s.when (m = 2 && old ≠ 2) (fun t => t.raise 82 0 0 0)

/-- An online change in progress fails with a RESULT of R221 (R212). -/
def State.ocEnd (s : State) (result : Nat) : State :=
  let oc := s.rf 0x09 0x6C 0 3
  if 1 ≤ oc && oc ≤ 3 then (s.wrFld 0x09 0x6C 0 3 5).wrFld 0x09 0x6C 4 4 result else s
/-- Lane `l` takes a state code; leaving VOTING has the consequences of R88, R186 and R212. -/
def State.setLane (s : State) (l code : Nat) : State :=
  let was := s.voting l
  let limp := s.limping
  let s := s.wrFld 0x06 (laneOff l 4) 0 3 code
  if was && code ≠ 3 then
    let s := s.vwLaneLeft l
    let s := s.voterUpdate
    (s.when (s.votingCount < 2) (fun t => (t.safeCause 6).ocEnd 9)).limpEnd limp
  else if code = 3 then s.limpEnd limp
  else s

/-- The event of lane `l` at offset `i` (R168). -/
def laneEv (l i : Nat) : Nat := 48 + 10 * l + i

/-- Entry into FAILED with a cause of R172: the window count, the entry count and LANE_FAILED. The write-backs
that wait and the egress entries not yet released are discarded (R160, R169). -/
def State.failLane (s : State) (l cause : Nat) : State :=
  let s := s.wrFld 0x06 (laneOff l 4) 16 4 cause
  let s := s.wr 0x06 (laneOff l 0x20) (s.rd 0x06 (laneOff l 0x0C))
  let s := s.sat16 0x06 (laneOff l 0x24)
  let s := s.modLane l (fun x => { x with closed := [], splitPend := false, winCyc := 0,
                                          autoDue := (cause = 1 || cause = 3 || cause = 8) && !x.hashBan })
  let s := s.wrBit 0x06 (laneOff l 0) 0 false
  let s := s.setLane l 6
  s.raise (laneEv l 5) (w32 cause) 0 0

end Sys2Proof.Machine
end

