-- ==== Sys2Proof/Machine/TimeBase.lean ====
section
/-! DEFINITION. The time base (R128 to R148): counting, references, servo, steps, wall time and pin capture. -/

namespace Sys2Proof.Machine

/-- Division rounding to nearest, halves away from zero (R137). -/
def rdiv (a : Int) (b : Nat) : Int := if a < 0 then -(((2 * a.natAbs + b) / (2 * b) : Nat) : Int) else ((2 * a.natAbs + b) / (2 * b) : Nat)

/-- TB.PSTAT.STATE codes. -/
def tbFree : Nat := 0
def tbAcquire : Nat := 1
def tbLocked : Nat := 2
def tbHoldover : Nat := 3

/-- TB.PSTAT.STATE and ACTIVE, the valid bits of REF_STAT. -/
def State.tbState (s : State) : Nat := s.rf 0x05 0x0C 0 2
def State.tbActive (s : State) : Nat := s.rf 0x05 0x0C 4 3
def State.tbValid (s : State) (src : Nat) : Bool := s.rb 0x05 0x5C src
/-- The source order PRIO0 to PRIO3. -/
def State.tbPrios (s : State) : List Nat := [s.rf 0x05 0x50 0 4, s.rf 0x05 0x50 4 4, s.rf 0x05 0x50 8 4, s.rf 0x05 0x50 12 4]
/-- REF_CFG.TIMEOUT_MS in ns. -/
def State.tbTimeout (s : State) : Nat := s.rf 0x05 0x50 19 13 * 8_000_000
/-- The frequency term F. -/
def State.tbF (s : State) : Int := signed 32 (s.rd 0x05 0x4C).toNat
/-- F and P set, and TB_RATE with them. -/
def State.setRate (s : State) (f p : Int) : State :=
  ({ (s.wr 0x05 0x4C (wInt f)) with tb := { s.tb with p := p } }).wr 0x05 0x48 (wInt (f + p))

/-- HOLD_S: the whole seconds spent in HOLDOVER so far, saturating (R136). -/
def State.holdSeconds (s : State) : State :=
  s.when (s.tbState = tbHoldover) (fun t => t.wr 0x05 0x80 (w32 (min 0xFFFF_FFFF ((t.tb.count - t.tb.holdAt) / 1_000_000_000))))
/-- PC_SAMPLE of the three lanes at an instant of sampling (R171). -/
def State.samplePcs (s : State) : State :=
  [0, 1, 2].foldl (fun t l => if t.laneState l = 0 then t else t.wr 0x06 (laneOff l 0x38) (t.lane l).pc) s
/-- Time at `c`: a carry into TB_EPOCH raises TB_WRAP with the new epoch and the wraps passed (R129). -/
def State.setCount (s : State) (c fr : Nat) : State :=
  let wraps := c / 2 ^ 32 - s.tb.count / 2 ^ 32
  let sampled : Bool := s.tb.count / 5120 ≠ c / 5120
  let s := (({ s with tb := { s.tb with count := c, frac := fr } }).holdSeconds).when sampled State.samplePcs
  s.when (0 < wraps) (fun t => t.raise 32 t.epoch (w32 wraps) 0)
/-- Time advances to `c`, never back (R132). -/
def State.advanceTo (s : State) (c : Nat) : State := if s.tb.count < c then s.setCount c 0 else s

/-! ### Generators (R144, R145) -/

/-- The first instant φ + k · P at or after `now` and after the last one, in whatever unit the four share; without a period,
now. -/
def nextInstant (phi p now : Nat) (last : Option Nat) : Nat :=
  if p = 0 then now
  else
    let a := if now ≤ phi then phi else phi + (now - phi + p - 1) / p * p
    match last with
    | none => a
    | some l => if a ≤ l then phi + ((l - phi) / p + 1) * p else a
/-- Generator `g` has fired for a due instant in 2^−16 ns: its strobe carries it, and STEPPED where a step came before. -/
def State.strobeFor (s : State) (g due : Nat) : State :=
  { s with tb := { s.tb with strobes := s.tb.strobes.set g ⟨some due, s.tb.stepped.testBit g⟩
                             stepped := Nat.xor s.tb.stepped (if s.tb.stepped.testBit g then 2 ^ g else 0) } }
/-- Generator `g` fires at its next due instant: time comes to the first nanosecond that reaches it. -/
def State.fire (s : State) (g phi p : Nat) : State :=
  let due := nextInstant phi p (s.tb.count * 65536) ((s.tb.strobes.getD g {}).due)
  (s.advanceTo ((due + 65535) / 65536)).strobeFor g due

/-- One TBCLK cycle (R128). In WALK and STABLE, and before the power-on reset has ended, the count stands still. -/
def State.tbCycle (s : State) : State :=
  if 3 ≤ s.gaitNow || !s.pins.running then s
  else
    let x := (s.tb.frac : Int) + 4 * 2 ^ 32 + (s.tbF + s.tb.p)
    s.setCount (s.tb.count + (x / 2 ^ 32).toNat) (x % 2 ^ 32).toNat

/-- The active source by R134: the first valid one in the priority order. -/
def State.tbChoose (s : State) : Nat := (s.tbPrios.find? (fun c => 1 ≤ c && c ≤ 4 && s.tbValid c)).getD 0

/-- The active source follows validity; a change raises TB_REF_CHANGED, and the loss of the last valid source in
ACQUIRE or LOCKED enters HOLDOVER with TB_REF_LOST (R134 to R136). A source that becomes active in FREE or
HOLDOVER enters ACQUIRE. -/
def State.tbSelect (s : State) : State :=
  let old := s.tbActive
  let new := s.tbChoose
  if old = new then s
  else
    let s := (s.wrFld 0x05 0x0C 4 3 new).raise 34 (w32 old) (w32 new) 0
    let s := { s with tb := { s.tb with first := true, inLock := 0, outLock := 0 } }
    if new = 0 then
      let s := s.setRate s.tbF 0
      let s := { s with tb := { s.tb with holdAt := s.tb.count } }
      ((s.wrFld 0x05 0x0C 0 2 tbHoldover).wr 0x05 0x80 0).raise 33 (w32 old) 0 0
    else if s.tbState = tbFree || s.tbState = tbHoldover then s.wrFld 0x05 0x0C 0 2 tbAcquire
    else s

/-- Counts of R135 for a measurement of the active source, and the state that follows. -/
def State.tbJudge (s : State) (theta : Int) : State :=
  let inside := theta.natAbs ≤ s.rf 0x05 0x58 0 16
  let a := if inside then s.tb.inLock + 1 else 0
  let b := if inside then 0 else s.tb.outLock + 1
  let s := { s with tb := { s.tb with inLock := a, outLock := b } }
  if s.tbState = tbAcquire && 4 ≤ a then s.wrFld 0x05 0x0C 0 2 tbLocked
  else if s.tbState = tbLocked && 4 ≤ b then
    { (s.wrFld 0x05 0x0C 0 2 tbAcquire) with tb := { s.tb with inLock := 0, outLock := 1 } }
  else s

/-- A step is permitted (R138). -/
def State.tbMayStep (s : State) : Bool := s.rb 0x05 0x08 1 && s.progMode ≠ modeRun

/-! ### Frames in progress (R256, R305) -/

def camPage (c : Nat) : Nat := 0x31 + c
/-- CAM_FRAME_ERR with a code of R286. -/
def State.camErr (s : State) (c code : Nat) : State :=
  (s.wr (camPage c) 0xBC (w32 (code + 0x1_0000 * ((s.cam c).nextLine % 4096)))).raise (129 + 2 * c) (w32 (s.rf (camPage c) 0xAC 0 16)) (w32 code) 0
/-- The frame in progress is bad: once per frame (R256). -/
def State.camBad (s : State) (c code : Nat) : State :=
  if !(s.cam c).opened || (s.cam c).bad then s
  else (((s.sat16 (camPage c) 0xB8).modCam c (fun x => { x with bad := true })).camErr c code)
/-- The camera and display frames in progress are cut (R305). -/
def State.cutFrames (s : State) : State :=
  let s := (List.range 8).foldl (fun t c => t.camBad c 4) s
  { s with dsps := s.dsps.map (fun d => { d with acc := List.replicate 16 0xFFFF_FFFF, tiles := [], turn := none }) }

/-- A step forward by θ (R138, R145). -/
def State.tbStep (s : State) (theta : Int) : State :=
  let old := s.tb.count
  let new := old + theta.toNat
  let s := s.setCount new s.tb.frac
  let s := s.wr 0x05 0x84 (w32 ((new - 1) / s.periodNs - old / s.periodNs))
  let s := { s with tb := { s.tb with lastStep := new, stepped := 0x7FFF, inLock := 0, outLock := 0 } }
  s.cutFrames.raise 35 (wInt theta) (wInt (theta / 2 ^ 32)) 0

/-- A limit in ppm as units of TB_RATE. -/
def ppmUnits (ppm : Nat) : Int := rdiv ((ppm * 2 ^ 34 : Nat) : Int) 1_000_000
/-- A value clamped to ±`lim`. -/
def clampTo (lim x : Int) : Int := max (-lim) (min lim x)

/-- The servo of R137 for a measurement of the active source. -/
def State.tbServo (s : State) (t : Nat) (theta : Int) : State :=
  let s := s.wr 0x05 0x60 (wInt (sat32 theta))
  let prev (s : State) (again : Bool) : State := { s with tb := { s.tb with first := again, thetaPrev := theta, tPrev := t } }
  if !s.rb 0x05 0x08 0 then prev (s.tbJudge theta) false
  else
    let first := s.tb.first || t ≤ s.tb.tPrev
    let stepNs : Int := (s.rf 0x05 0x54 8 8 * 1_000_000 : Nat)
    if first then prev ((s.setRate s.tbF 0).tbJudge theta) false
    else if theta > stepNs && s.tbMayStep then prev ((s.setRate s.tbF 0).tbStep theta) true
    else
      let dt := t - s.tb.tPrev
      let f := s.tbF + (rdiv ((theta - s.tb.thetaPrev) * 2 ^ 34) dt + s.tb.p) / 2 ^ (s.rf 0x05 0x54 0 3)
      let p := rdiv (theta * 2 ^ 34) dt
      let lf := ppmUnits 100
      let lp := ppmUnits (s.rf 0x05 0x54 16 9)
      let beyond := f.natAbs > lf.natAbs || p.natAbs > lp.natAbs
      let s := s.setRate (clampTo lf f) (clampTo lp p)
      let s := s.when beyond (fun t => t.raise 36 0 0 0)
      prev (s.tbJudge theta) false

/-- A measurement of source `src` (R133, R134): a pair whose t precedes the last step, or of a source that REF_CFG
does not name, is discarded. -/
def State.tbMeasure (s : State) (src t : Nat) (theta : Int) : State :=
  if src = 0 || 4 < src || !s.tbPrios.contains src || t < s.tb.lastStep then s
  else
    let prev := s.tb.lastT.getD (src - 1) 0
    let n := s.tb.consec.getD (src - 1) 0
    let n := if n = 0 || t < prev + s.tbTimeout then n + 1 else 1
    let s := { s with tb := { s.tb with lastT := s.tb.lastT.set (src - 1) t, consec := s.tb.consec.set (src - 1) n } }
    let s := s.wrBit 0x05 0x5C src (4 ≤ n)
    let s := s.tbSelect
    if s.tbActive = src then s.tbServo t theta else s

/-- Source `src` is lost: no measurement for TIMEOUT_MS (R134). A measurement delivered in the same cycle counts before the
active source is chosen again, so one that makes its source valid saves the time base from HOLDOVER (R146). -/
def State.tbLose (s : State) (src : Nat) (also : Option (Fin 5 × Nat × Int)) : State :=
  let s := if src = 0 || 4 < src then s
    else ({ s with tb := { s.tb with consec := s.tb.consec.set (src - 1) 0 } }).wrBit 0x05 0x5C src false
  (match also with
    | none => s
    | some (other, t, theta) => if other.val = src then s else s.tbMeasure other.val t theta).tbSelect

/-- An edge of capture source `src` at time `c` (R143): each armed slot that names it latches the time; of several
the first one's TB_CAPTURE is raised (R64). -/
def State.capture (s : State) (src c : Nat) : State :=
  let ks := (List.range 4).filter (fun k => s.rb 0x05 (0xA0 + 0x10 * k) 8 && s.rf 0x05 (0xA0 + 0x10 * k) 0 7 = src)
  let s := ks.foldl (fun s k =>
    ((s.wr 0x05 (0xA4 + 0x10 * k) (w32 c)).wr 0x05 (0xA8 + 0x10 * k) (w32 (c / 2 ^ 32))).wrBit 0x05 (0xA0 + 0x10 * k) 8 false) s
  match ks with
  | [] => s
  | k :: _ => s.raise 38 (w32 k) 0 0

/-- TB_PPS_OUT is high (R37): within 100 ms of its last rise. -/
def State.ppsOut (s : State) : Bool :=
  match s.pins.ppsRise with
  | none => false
  | some r => s.tb.count < r + 100_000_000 && s.rb 0x05 0x08 2 && 2 ≤ s.tbState

/-- The next multiple of `p` of monotonic time, which no row of this kind has reached yet. -/
def State.nextMultiple (s : State) (p : Nat) (last : Option Nat) : Nat := nextInstant 0 p s.tb.count last
/-- The next second mark: wall time (monotonic time while it is not valid) is a whole second (R141). -/
def State.nextMark (s : State) : Nat :=
  nextInstant ((-s.wallOffset) % 1_000_000_000).toNat 1_000_000_000 s.tb.count s.tb.lastMark
/-- Time comes to the second mark, and TB_PPS_OUT rises at it in LOCKED and HOLDOVER (R141). -/
def State.secondMarkNow (s : State) : State :=
  let s := s.advanceTo s.nextMark
  let s := { s with tb := { s.tb with lastMark := some s.tb.count } }
  s.when (s.rb 0x05 0x08 2 && 2 ≤ s.tbState) (fun t =>
    ({ t with pins := { t.pins with ppsRise := some t.tb.count } }).capture 62 t.tb.count)

/-- PPS_IN: the edge was captured `back` ns ago (R36); source 3 delivers the distance to the nearest whole second. -/
def State.ppsEdge (s : State) (back : Nat) : State :=
  let c := s.tb.count - back
  let s := (s.capture 60 c).raise 37 0 0 0
  s.tbMeasure 3 c (((c + 500_000_000) / 1_000_000_000 * 1_000_000_000 : Nat) - (c : Int))

/-- The preset of R132 and the state after a reset: FREE with F from the save, P = 0. -/
def State.tbReset (s : State) (aonKept : Bool) (elapsed : Nat) : State :=
  let c := s.keep.monoSaved + (if aonKept then elapsed else 1_000_000_000)
  let s := { s with tb := { count := c } }
  s.setRate (signed 32 s.keep.freqSaved.toNat) 0

/-! ### The rows of the time base -/

def execPpsIn (back : Nat) (s : State) := answer s (s.ppsEdge back)
/-- A second passes (R141); the always-on clock counts it too, and LOW_S below GALLOP (R476, R478). -/
def execSecondMark (s : State) :=
  answer s (
    let s := if 3 ≤ s.gaitNow || !s.pins.running then s else s.secondMarkNow
    let s := { s with keep := { s.keep with rtcS := (s.keep.rtcS + 1) % 2 ^ 32 } }
    if s.gaitNow = 0 then s else s.wr 0x72 0x58 (w32 (min 0xFFFF_FFFF ((s.rd 0x72 0x58).toNat + 1))))
/-- TB_NS carries into TB_EPOCH (R129): time has come to the carry. -/
def execTbWrap (s : State) := answer s (s.advanceTo ((s.tb.count / 2 ^ 32 + 1) * 2 ^ 32))
def execTbMeasurement (src : Fin 5) (t : Nat) (theta : Int) (s : State) := answer s (s.tbMeasure src.val t theta)
def execRefSourceTimeout (x : RefLoss) (s : State) := answer s (s.tbLose x.src.val x.also)
/-- The save of R132. -/
def execMonoTimeSave (s : State) :=
  answer s { s with keep := { s.keep with monoSaved := s.tb.count, freqSaved := s.rd 0x05 0x4C } }
def execTbCapture (src : Fin 63) (s : State) := answer s (s.capture src.val s.tb.count)

end Sys2Proof.Machine
end

