-- ==== Sys2Proof/Machine/Cores.lean ====
section
/-! DEFINITION. One core of a lane (R150 to R153): its address map, memory protection, CSRs, exceptions and write-back, for the main
core and for the shadow core in SPLIT. What R150 names the RISC-V standards for is read from those (PRESUMED, log 2); the effect
of its computing instructions on registers comes with the command that retires one. -/

namespace Sys2Proof.Machine

/-- A core of lane `l`: the shadow core where `sh`. -/
def State.core (s : State) (l : Nat) (sh : Bool) : Core := if sh then (s.lane l).shadow else (s.lane l).toCore
/-- That core changed by `f`. -/
def Lane.onCore (sh : Bool) (f : Core → Core) (x : Lane) : Lane := if sh then { x with shadow := f x.shadow } else { x with toCore := f x.toCore }
def State.modCore (s : State) (l : Nat) (sh : Bool) (f : Core → Core) : State := s.modLane l (Lane.onCore sh f)

/-! ### Address map (R153) -/

/-- What an access of a lane core meets. -/
inductive LaneTarget where
  | sram (a : Nat)
  | rom
  | inWin (a : Nat)
  | outWin (a : Nat)
  | regs
  | fault
  deriving DecidableEq, Repr

/-- The range of an access of `n` bytes at `a`. -/
def laneTarget (a n : Nat) : LaneTarget :=
  if a + n ≤ 0x40_0000 then .sram a
  else if 0x0800_0000 ≤ a ∧ a + n ≤ 0x0801_0000 then .rom
  else if 0x1000_0000 ≤ a ∧ a + n ≤ 0x1001_0000 then .inWin (a - 0x1000_0000)
  else if 0x1001_0000 ≤ a ∧ a + n ≤ 0x1002_0000 then .outWin (a - 0x1001_0000)
  else if 0x4000_0000 ≤ a ∧ a + n ≤ 0x4100_0000 then .regs
  else .fault

/-- Byte `a` of image `id`. -/
def State.imageByte (s : State) (id a : Nat) : Byte := BitVec.ofNat 8 ((s.image id (a / 8)).toNat / 2 ^ (8 * (a % 8)))
/-- The bytes that a load of `n` bytes at `a` finds inside the lane; the output window reads zero. -/
def State.laneBytes (s : State) (l a n : Nat) : List Byte :=
  match laneTarget a n with
  | .sram p => s.bytes (laneMem l p) n
  | .rom => (List.range n).map (fun i => Config.bootRom (a - 0x0800_0000 + i))
  | .inWin p => (List.range n).map (fun i => s.imageByte (imgIn l) (p + i))
  | _ => List.replicate n 0
/-- A datum of `n` bytes extended to a register. -/
def extendLoad (n : Nat) (sign : Bool) (w : Word) : Word :=
  let x := fld w 0 (8 * min 4 n)
  if sign then wInt (signed (8 * min 4 n) x) else w32 x

/-! ### CSRs (R150) -/

/-- The value of a CSR that has no fixed one. -/
def Core.csr (x : Core) (n : Nat) : Word := (alGet x.csrs n).getD 0
def Core.setCsr (x : Core) (n : Nat) (v : Word) : Core := { x with csrs := alSet x.csrs n v }
/-- The CSRs of machine and user mode that hold what is written to them. -/
def csrPlain (n : Nat) : Bool :=
  [0x300, 0x305, 0x306, 0x30A, 0x310, 0x31A, 0x320, 0x340, 0x341, 0x342, 0x343].contains n || (0x3A0 ≤ n && n ≤ 0x3A3) || (0x3B0 ≤ n && n ≤ 0x3BF)
/-- CSRs that read zero and keep nothing: mie and mip, the event counters and selectors, the identification registers but
mhartid. -/
def csrZero (n : Nat) : Bool :=
  n = 0x304 || n = 0x344 || (0x323 ≤ n && n ≤ 0x33F) || (0xB03 ≤ n && n ≤ 0xB1F) || (0xB83 ≤ n && n ≤ 0xB9F) || (0xC03 ≤ n && n ≤ 0xC1F) ||
    (0xC83 ≤ n && n ≤ 0xC9F) || (0xF11 ≤ n && n ≤ 0xF13) || n = 0xF15
/-- What CSR `n` of a core of lane `l` reads as; none where there is no such CSR (time and timeh among them). -/
def Core.csrRead (x : Core) (l n : Nat) : Option Word :=
  if n = 0x301 then some 0x4010_1124
  else if n = 0xF14 then some (w32 l)
  else if n = 0xB00 || n = 0xC00 then some (w32 x.mcycle)
  else if n = 0xB80 || n = 0xC80 then some (w32 (x.mcycle / 2 ^ 32))
  else if n = 0xB02 || n = 0xC02 then some (w32 x.minstret)
  else if n = 0xB82 || n = 0xC82 then some (w32 (x.minstret / 2 ^ 32))
  else if n = 1 then some (x.csr 3 &&& 0x1F)
  else if n = 2 then some (x.csr 3 >>> 5 &&& 7)
  else if n = 3 then some (x.csr 3 &&& 0xFF)
  else if csrZero n then some 0
  else if csrPlain n then some (x.csr n)
  else none
/-- The low or high word of a 64-bit counter replaced. -/
def halfSet (high : Bool) (old : Nat) (v : Word) : Nat :=
  if high then old % 2 ^ 32 + 2 ^ 32 * v.toNat else old / 2 ^ 32 * 2 ^ 32 + v.toNat
/-- The configuration byte of PMP region `i`. -/
def Core.pmpCfg (x : Core) (i : Nat) : Nat := fld (x.csr (0x3A0 + i / 4)) (8 * (i % 4)) 8
/-- Region `i` is locked; its address is locked too by a locked TOR region above it. -/
def Core.pmpLocked (x : Core) (i : Nat) : Bool := (x.pmpCfg i).testBit 7
def Core.pmpAddrLocked (x : Core) (i : Nat) : Bool :=
  x.pmpLocked i || (i < 15 && x.pmpLocked (i + 1) && x.pmpCfg (i + 1) / 8 % 4 = 1)
/-- A configuration byte as it can stand: bits 6 and 5 are zero, and W without R is not taken. -/
def pmpByte (b : Nat) : Nat := if b % 4 = 2 then b % 256 - b % 32 % 4 - (b / 32 % 4) * 32 else b % 256 - (b / 32 % 4) * 32
/-- CSR `n` written. -/
def Core.csrWrite (x : Core) (n : Nat) (v : Word) : Core :=
  if n = 0xB00 || n = 0xB80 then { x with mcycle := halfSet (n = 0xB80) x.mcycle v }
  else if n = 0xB02 || n = 0xB82 then { x with minstret := halfSet (n = 0xB82) x.minstret v }
  else if n = 1 then x.setCsr 3 (setFld (x.csr 3) 0 5 v.toNat)
  else if n = 2 then x.setCsr 3 (setFld (x.csr 3) 5 3 v.toNat)
  else if n = 3 then x.setCsr 3 (v &&& 0xFF)
  else if n = 0x300 then
    let v := if fld v 11 2 = 1 || fld v 11 2 = 2 then setFld v 11 2 (fld (x.csr 0x300) 11 2) else v
    x.setCsr 0x300 (setBit (v &&& 0x0022_7888) 31 (fld v 13 2 = 3))
  else if n = 0x341 then x.setCsr n (v &&& ~~~1)
  else if 0x3A0 ≤ n && n ≤ 0x3A3 then
    x.setCsr n ((List.range 4).foldl (fun w j =>
      if x.pmpLocked (4 * (n - 0x3A0) + j) then w else setFld w (8 * j) 8 (pmpByte (fld v (8 * j) 8))) (x.csr n))
  else if 0x3B0 ≤ n && n ≤ 0x3BF then (if x.pmpAddrLocked (n - 0x3B0) then x else x.setCsr n v)
  else if csrPlain n then x.setCsr n v
  else x
/-- The value that a Zicsr instruction writes, over the old one. -/
def csrNew (o : CsrOp) (old : Word) : Option Word :=
  o.src.map (fun v => match o.kind with
    | .write => v
    | .set => old ||| v
    | .clear => old &&& ~~~v)
/-- The instruction is legal: the CSR exists, its privilege and its read-only numbers are kept, and user mode reads the counters
that mcounteren opens. -/
def Core.csrLegal (x : Core) (l : Nat) (o : CsrOp) : Bool :=
  (x.csrRead l o.num).isSome && !(o.src.isSome && o.num / 0x400 = 3) && !(x.user && o.num / 0x100 % 4 ≠ 0) &&
    !(x.user && 0xC00 ≤ o.num && o.num < 0xCA0 && !bit (x.csr 0x306) (o.num % 0x20))

/-! ### Memory protection (R150) -/

/-- Trailing ones of a number, at most `n`. -/
def trailOnes : Nat → Nat → Nat
  | 0, _ => 0
  | n + 1, a => if a % 2 = 1 then trailOnes n (a / 2) + 1 else 0
/-- First byte and end of PMP region `i`; none where it is OFF. -/
def Core.pmpRange (x : Core) (i : Nat) : Option (Nat × Nat) :=
  let a := (x.csr (0x3B0 + i)).toNat
  match x.pmpCfg i / 8 % 4 with
  | 0 => none
  | 1 => some ((if i = 0 then 0 else 4 * (x.csr (0x3B0 + i - 1)).toNat), 4 * a)
  | 2 => some (4 * a, 4 * a + 4)
  | _ =>
    let k := trailOnes 32 a
    let base := 4 * (a / 2 ^ (k + 1) * 2 ^ (k + 1))
    some (base, base + 2 ^ (k + 3))
/-- An access of `n` bytes at `a` is permitted, by right 0 read, 1 write or 2 execute, in user mode or not: the first region that
matches a byte decides, and must match them all. -/
def Core.pmpOk (x : Core) (user : Bool) (a n right : Nat) : Bool :=
  match (List.range 16).find? (fun i => match x.pmpRange i with | some (lo, hi) => decide (lo < a + n) && decide (a < hi) | none => false) with
  | none => !user
  | some i => match x.pmpRange i with
    | none => !user
    | some (lo, hi) => decide (lo ≤ a) && decide (a + n ≤ hi) && ((!user && !x.pmpLocked i) || (x.pmpCfg i).testBit right)
/-- The mode in which a load or store is judged: MPRV takes it from MPP. -/
def Core.dataUser (x : Core) : Bool := if !x.user && bit (x.csr 0x300) 17 then fld (x.csr 0x300) 11 2 = 0 else x.user

/-! ### Exceptions (R150, R152, R153) -/

/-- The access exception of a bus access, by mcause. -/
def State.busExc (s : State) (l : Nat) (x : Core) (b : BusOp) : Option Nat :=
  match b with
  | .none => none
  | .load a n _ =>
    if !x.pmpOk x.dataUser a.toNat n 0 then some 5
    else match laneTarget a.toNat n with
      | .fault => some 5
      | .regs => if a.toNat % n ≠ 0 then some 5 else none
      | _ => none
  | .store a n _ =>
    if !x.pmpOk x.dataUser a.toNat n 1 then some 7
    else match laneTarget a.toNat n with
      | .sram _ => none
      | .outWin _ => if (s.lane l).outLocked then some 7 else none
      | .regs => if n ≠ 4 || a.toNat % 4 ≠ 0 then some 7 else none
      | _ => some 7
/-- The fetch of an instruction's first bytes is permitted: lane SRAM or boot ROM, by the address map and PMP. -/
def Core.fetchOk (x : Core) (pc : Nat) : Bool :=
  x.pmpOk x.user pc 2 2 && (match laneTarget pc 2 with | .sram _ => true | .rom => true | _ => false)
/-- The exception that an instruction takes in a core of lane `l`, by mcause; none where it retires. -/
def State.laneExc (s : State) (l : Nat) (r : Retire) : Option Nat :=
  let x := s.core l r.shadow
  if !x.fetchOk r.pc.toNat then some 1
  else if r.opt = .absent || r.opt = .timeCsr || (r.mret && x.user) || (match r.csr with | some o => !x.csrLegal l o | none => false) then some 2
  else match r.exc with
    | some c => some c
    | none => s.busExc l x r.bus
/-- A core takes an exception: mcause, mepc, mstatus, the mode and the pc as RISC-V has them; mtval is the word given. -/
def Core.trap (x : Core) (c : Nat) (pc tval : Word) : Core :=
  let st := x.csr 0x300
  let st := setFld (setFld (setFld st 7 1 (fld st 3 1)) 3 1 0) 11 2 (if x.user then 0 else 3)
  { ((((x.setCsr 0x300 st).setCsr 0x341 pc).setCsr 0x342 (w32 c)).setCsr 0x343 tval) with
    user := false
    pc := x.csr 0x305 &&& ~~~3 }
/-- A core of lane `l` takes an exception (R152). The main core's raises LANE_EXCEPTION unless it is an environment call or a
breakpoint; mtval is a free value. -/
def State.coreTrap (s : State) (l : Nat) (sh : Bool) (c : Nat) (pc : Word) : State :=
  let s := (s.modCore l sh (fun x => x.trap c pc (Config.freeWord s.freeIx))).draw
  if sh || c = 3 || c = 8 || c = 11 then s
  else ((s.wr 0x06 (laneOff l 0x28) (w32 c)).wr 0x06 (laneOff l 0x2C) pc).raise (laneEv l 9) (w32 c) pc 0
/-- The same for the main core. -/
def State.laneTrap (s : State) (l c : Nat) (pc : Word) : State := s.coreTrap l false c pc

/-! ### Retirement -/

/-- MRET: mode, interrupt enable and pc come back, as RISC-V has it; MPRV falls where the mode does. -/
def Core.ret (x : Core) : Core :=
  let st := x.csr 0x300
  let user : Bool := fld st 11 2 = 0
  let st := setFld (setFld (setFld st 3 1 (fld st 7 1)) 7 1 1) 11 2 0
  { x.setCsr 0x300 (if user then setBit st 17 false else st) with user := user, pc := x.csr 0x341 }
/-- A register takes a value; x0 stays zero. -/
def Core.put (x : Core) (k : WbKind) (r : Nat) (v : Word) : Core :=
  match k with
  | .none => x
  | .x => if r % 32 = 0 then x else { x with xs := alSet x.xs (r % 32) v }
  | .f => { x with fs := alSet x.fs (r % 32) v }
/-- What a Zicsr instruction does: the old value to rd, the new one to the CSR. -/
def Core.csrStep (x : Core) (l : Nat) (o : CsrOp) : Core :=
  let old := (x.csrRead l o.num).getD 0
  let y := match csrNew o old with | some v => x.csrWrite o.num v | none => x
  y.put .x o.rd old
/-- A load's datum waits for a register page (R161). -/
def loadsRegs (r : Retire) : Bool := match r.bus with | .load a n _ => laneTarget a.toNat n = .regs | _ => false
/-- The value that an instruction writes: a load's datum, or what its command brings. -/
def State.retireValue (s : State) (l : Nat) (r : Retire) : Word :=
  match r.bus with
  | .load a n sg => extendLoad n sg (bytesWord (s.laneBytes l a.toNat n))
  | _ => r.wbv
/-- The pc after an instruction: WFI only goes on (R150). -/
def retirePc (r : Retire) : Word := if r.opt = .wfi then r.pc + 4 else r.nextPc
/-- A core after an instruction has retired in it with value `v`; the counters advance in the cycle of the retirement. -/
def Core.retire (x : Core) (l : Nat) (r : Retire) (v : Word) : Core :=
  let y : Core := { x with pc := retirePc r, minstret := x.minstret + 1 }
  if r.mret then y.ret
  else if r.opt = .wfi then y
  else match r.csr with
    | some o =>
      let z := x.csrStep l o
      let sets : Bool := o.src.isSome && (o.num = 0xB02 || o.num = 0xB82)
      { z with pc := y.pc, minstret := if sets then z.minstret else y.minstret }
    | none =>
      let y := if r.fflags = 0 then y else y.setCsr 3 (y.csr 3 ||| w32 (r.fflags % 32))
      if loadsRegs r then y else y.put r.wb r.wbReg v

end Sys2Proof.Machine
end

