-- ==== Sys2Proof/Machine/Lanes.lean ====
section
/-! DEFINITION. Inside a lane (R149 to R172): signatures, windows, the egress buffer, memory errors, splitting and debug. -/

namespace Sys2Proof.Machine

/-! ### Signature (R158) -/

/-- One update of a signature register with an input vector. -/
def sigUpdate (s v : DWord) : DWord :=
  let x := (s <<< 1) ^^^ v
  if s.getLsbD 63 then x ^^^ 0x1B else x
/-- `n` updates without an input. -/
def sigIdle : Nat → DWord → DWord
  | 0, s => s
  | n + 1, s => sigIdle n (sigUpdate s 0)
/-- Both signature registers at the start of a window. -/
def sigStart : DWord := 0xFFFF_FFFF_FFFF_FFFF

/-- `tag` of R158: write kind (0 none, 1 x, 2 f, 3 CSR), register, bus kind. -/
def sigTag (kind reg bus : Nat) : Nat := kind * 128 + reg % 32 * 4 + bus
def wbCode : WbKind → Nat
  | .none => 0
  | .x => 1
  | .f => 2
/-- The input vector of one cycle. -/
def sigVec (wbv busd rpc busa : Word) (tag : Nat) : DWord :=
  BitVec.ofNat 64 ((wbv ^^^ busd).toNat + 2 ^ 32 * (rpc ^^^ busa ^^^ w32 (tag * 2 ^ 23)).toNat)
/-- Kind, address and data of the bus access of an instruction; a register page's datum comes later. -/
def State.busVec (s : State) (l : Nat) (r : Retire) : Nat × Word × Word :=
  match r.bus with
  | .none => (0, 0, 0)
  | .load a n sg => (1, a, if loadsRegs r then 0 else extendLoad n sg (bytesWord (s.laneBytes l a.toNat n)))
  | .store a _ d => (2, a, d)
/-- The input vectors of the cycles of a retiring instruction, before its last one and in its last one. A Zicsr instruction that
writes both rd and a CSR takes a cycle for each (DESIGN CHOICE, log 66): a cycle has one write. -/
def State.retireVecs (s : State) (l : Nat) (r : Retire) : Option DWord × DWord :=
  match r.csr with
  | some o =>
    let old := ((s.core l r.shadow).csrRead l o.num).getD 0
    let rd := sigVec old 0 0 0 (sigTag 1 o.rd 0)
    match csrNew o old with
    | some v => (if o.rd % 32 = 0 then none else some rd, sigVec v 0 r.pc 0 (sigTag 3 o.num 0))
    | none => (none, if o.rd % 32 = 0 then sigVec 0 0 r.pc 0 0 else sigVec old 0 r.pc 0 (sigTag 1 o.rd 0))
  | none =>
    let (kind, a, d) := s.busVec l r
    let writes := r.wb ≠ .none && r.opt ≠ .wfi && !loadsRegs r
    (none, sigVec (if writes then s.retireValue l r else 0) d r.pc a (sigTag (if writes then wbCode r.wb else 0) (if writes then r.wbReg else 0) kind))

/-! ### Windows (R159 to R161) -/

/-- The window in progress closes with an egress entry or without; the next starts with the length in WIN_CFG. -/
def closeWindow (x : Lane) (winLog2 : Nat) (e : Option Egress) : Lane :=
  { x with closed := x.closed ++ [⟨x.sigMain, x.sigShadow, e⟩], sigMain := sigStart, sigShadow := sigStart, winCyc := 0, winLog2 := winLog2 }
/-- Cycles left in the window. -/
def winLeft (x : Lane) : Nat := 2 ^ x.winLog2 - x.winCyc
/-- WIN_CFG of lane `l`. -/
def State.winCfg (s : State) (l : Nat) : Nat := s.rf 0x06 (laneOff l 8) 0 5
/-- One LCLK cycle with its input vectors: the window closes in it with an egress entry, or at its longest length. -/
def lclk (winLog2 : Nat) (v vs : DWord) (e : Option Egress) (x : Lane) : Lane :=
  let x := { x with sigMain := sigUpdate x.sigMain v, sigShadow := sigUpdate x.sigShadow vs, winCyc := x.winCyc + 1, mcycle := x.mcycle + 1 }
  if e.isSome || x.winCyc = 2 ^ x.winLog2 then closeWindow x winLog2 e else x
/-- `n` LCLK cycles without a retirement. -/
def idleCycles (winLog2 : Nat) : Nat → Lane → Lane
  | 0, x => x
  | n + 1, x => idleCycles winLog2 n (lclk winLog2 0 0 none x)
/-- Egress entries held (R161). -/
def egressHeld (x : Lane) : Nat := (x.closed.filter (fun c => c.entry.isSome)).length
/-- The main core stalls: the egress buffer is full, or a load of a register page has not brought its datum (DESIGN CHOICE,
log 66: it waits for it). -/
def laneStalls (x : Lane) : Bool := 8 ≤ egressHeld x || x.closed.any (fun c => c.entry.any (fun e => !e.write))

/-- Bytes stored into an image window (R156). -/
def State.storeImage (s : State) (id a : Nat) (bs : List Nat) : State :=
  (bs.zipIdx).foldl (fun t (b, i) => t.setImgBits id (8 * (a + i)) 8 b) s

/-- ECC of lane SRAM (R155): a corrected word is counted, an uncorrectable one fails the lane. -/
def State.laneEcc (s : State) (l : Nat) (a : Word) (e : Ecc) : State :=
  match e with
  | .clean => s
  | .corrected =>
    ((s.sat16 0x06 (laneOff l 0x30)).wr 0x06 (laneOff l 0x34) a).raise 22 (w32 l) a 0
  | .uncorrectable =>
    let s := (s.wr 0x06 (laneOff l 0x34) a).raise 23 (w32 l) a 0
    if 1 ≤ s.laneState l && s.laneState l ≤ 3 then s.failLane l 3 else s
/-- The fetch of an instruction from lane SRAM (R155). -/
def State.fetchEcc (s : State) (l : Nat) (r : Retire) : State :=
  match laneTarget r.pc.toNat 2 with
  | .sram _ => s.laneEcc l r.pc r.fetchEcc
  | _ => s

/-- REINT_STAT's state, target and donor (R192). -/
def State.reintState (s : State) : Nat := s.rf 0x07 0x60 0 3
def State.reintTarget (s : State) : Nat := s.rf 0x07 0x60 4 2
def State.reintDonor (s : State) : Nat := s.rf 0x07 0x60 8 2
/-- A reintegration is in progress: RESET, BOOT, COPY or FINAL. -/
def State.reintBusy (s : State) : Bool := 1 ≤ s.reintState && s.reintState ≤ 4

/-- The half of the lane SRAM that holds the running code: 0 or 1 (R154, R213). -/
def State.runHalf (s : State) : Nat := (s.prog.image.codeBase / 0x20_0000 + b2n s.prog.altHalf) % 2
/-- An address of the lane image as it lies in the running half: a switch moves the working data to the same place of the other
half (DESIGN CHOICE, log 67). -/
def State.inHalf (s : State) (a : Nat) : Nat := 0x20_0000 * s.runHalf + a % 0x20_0000
/-- The working data of the running program, and its retain section (R206). -/
def State.dataBase (s : State) : Nat := s.inHalf s.prog.image.dataBase
def State.retainBase (s : State) : Nat := s.inHalf s.prog.image.retainBase
/-- A donor store into the data area marks its 4 KB page dirty (R191). -/
def State.markDirty (s : State) (l a : Nat) : State :=
  let base := s.dataBase
  if (s.reintState = 3 || s.reintState = 4) && s.reintDonor = l && base ≤ a && a < base + s.prog.image.dataKb * 1024 then
    let p := (a - base) / 4096
    if s.reint.next.contains p then s else { s with reint := { s.reint with next := s.reint.next ++ [p] } }
  else s

/-- Memory effects of a retiring instruction inside the lane. -/
def State.laneBus (s : State) (l : Nat) (r : Retire) : State :=
  match r.bus with
  | .none => s
  | .load a n _ => match laneTarget a.toNat n with
    | .sram _ => s.laneEcc l a r.ecc
    | _ => s
  | .store a n d => match laneTarget a.toNat n with
    | .sram p => (s.setBytes (laneMem l p) ((bytesOf d).take n)).markDirty l p
    | .outWin p => if s.laneState l = 4 then s else s.storeImage (imgOut l) p ((wordBytes d).take n)
    | _ => s

/-- The register access of an instruction, as an egress entry (R161). -/
def retireEgress (r : Retire) : Option Egress :=
  match r.bus with
  | .none => none
  | .load a n sg => if isRegSpace a then some { write := false, addr := a, bytes := n, data := 0, pc := r.pc, signed := sg, wb := r.wb, wbReg := r.wbReg } else none
  | .store a n d => if isRegSpace a then some { write := true, addr := a, bytes := n, data := d, pc := r.pc } else none
/-- The cycles of a retiring instruction in a lane: the core's state, the signatures, the window. -/
def laneRetire (winLog2 l : Nat) (r : Retire) (v : Word) (vecs : Option DWord × DWord) (e : Option Egress) (x : Lane) : Lane :=
  if r.shadow then
    x.onCore true (fun c => { c.retire l r v with mcycle := c.mcycle + r.idle + 1 + b2n vecs.1.isSome })
  else
    let x := match vecs.1 with | some w => lclk winLog2 w w none x | none => x
    lclk winLog2 vecs.2 (vecs.2 ^^^ r.shadowDev) e (x.onCore false (fun c => c.retire l r v))
/-- A lane that runs alone, in SPLIT and DEBUG, is not compared (R164). -/
def State.laneAlone (s : State) (l : Nat) : Bool := s.laneState l = 4 || s.laneState l = 5
/-- Nothing executes in lane `l`: it is OFF, its clock is stopped, or a reintegration holds it in reset (R167, R191). -/
def State.laneIdle (s : State) (l : Nat) : Bool :=
  s.laneState l = 0 || 2 ≤ s.gaitNow || (s.reintState = 1 && s.reintTarget = l)
/-- One instruction of a core of lane `l` inside the lane, with the idle cycles before it (R150 to R161): what it takes or
computes, and its egress entry. Where the fetch fails the lane, nothing retires. -/
def State.laneStep (s : State) (l : Nat) (r : Retire) : State :=
  if s.laneIdle l || (r.shadow && s.laneState l ≠ 4) || laneStalls (s.lane l) then s
  else
    let wl := s.winCfg l
    let alone := s.laneAlone l
    let open_ (x : Lane) : Lane := if alone then { x with closed := [] } else x
    let s := if r.shadow then s else s.modLane l (fun x => open_ (idleCycles wl r.idle x))
    let s := s.fetchEcc l r
    if r.fetchEcc = .uncorrectable && s.laneState l = 6 then s
    else match s.laneExc l r with
      | some c =>
        let s := if r.shadow then s.modCore l true (fun x => { x with mcycle := x.mcycle + r.idle + 1 })
          else s.modLane l (fun x => open_ (idleCycles wl 1 x))
        s.coreTrap l r.shadow c r.pc
      | none =>
        let e := retireEgress r
        let v := s.retireValue l r
        let vecs := s.retireVecs l r
        let s := s.modLane l (fun x => open_ (laneRetire wl l r v vecs (if alone then none else e) x))
        let s := s.when (e.isSome && !alone) (fun t => t.sat16 0x06 (laneOff l 0x10))
        s.laneBus l r

/-! ### Split, fail and debug requests (R164 to R166) -/

/-- The conditions of R165 under which lane `l` may split now. -/
def State.maySplit (s : State) (l : Nat) : Bool := s.voting l && !s.moving && 2 < s.votingCount
/-- A split request is refused. -/
def State.refuseSplit (s : State) (l : Nat) : State :=
  ((s.wrBit 0x06 (laneOff l 4) 10 true).wrBit 0x06 (laneOff l 0) 0 false).modLane l (fun x => { x with splitPend := false })
/-- A request that still waits as the lane leaves VOTING another way is refused: none stays pending (R165). -/
def State.endSplit (s : State) (l : Nat) : State := if (s.lane l).splitPend then s.refuseSplit l else s
/-- SPLIT_REQ with its key pair. -/
def State.splitRequest (s : State) (l : Nat) : State :=
  let s := s.wrBit 0x06 (laneOff l 4) 10 false
  if s.maySplit l then (s.wrBit 0x06 (laneOff l 0) 0 true).modLane l (fun x => { x with splitPend := true }) else s.refuseSplit l
/-- The lane enters SPLIT (R164): both cores restart from the diagnostic entry. -/
def State.enterSplit (s : State) (l : Nat) : State :=
  let s := (s.wrBit 0x06 (laneOff l 0) 0 false).modLane l (fun x =>
    { x with splitPend := false, pc := 0x0800_F000, user := false, shadow := { x.toCore with pc := 0x0800_F000, user := false },
             closed := [], winCyc := 0, sigMain := sigStart, sigShadow := sigStart })
  (s.setLane l 4).raise (laneEv l 3) 0 0 0
/-- FAIL_REQ with its key pair: VOTING or SYNC to FAILED with cause REQUEST (R167). -/
def State.failRequest (s : State) (l : Nat) : State :=
  if s.laneState l = 3 || s.laneState l = 2 then s.failLane l 9 else s

/-- A debugger halts, steps, writes or sets a trigger in a core of lane `l` (R166). -/
def State.debugLane (s : State) (l : Nat) : State :=
  let st := s.laneState l
  if !s.rb 0x60 0x5C 0 || st = 0 || st = 5 || st = 6 then s
  else if st = 3 && (s.moving || s.votingCount < 3) then s
  else
    let s := ((s.endSplit l).modLane l (fun x => { x with closed := [], winCyc := 0 })).setLane l 5
    let s := s.wrBit 0x06 (laneOff l 4) 8 true
    let s := { s with keep := { s.keep with debugSplit := s.keep.debugSplit ||| 2 ^ l } }
    s.raise (laneEv l 2) 0 0 0

/-- The lane is reset and enters BOOT (R167, R191): its core state, its demand bit and its windows start afresh; a
lane in SPLIT raises SPLIT_EXIT. -/
def State.resetLane (s : State) (l : Nat) : State :=
  let was := s.laneState l
  let s := (s.endSplit l).wrBit 0x07 0x80 l false
  let s := if (s.lane l).winFault || (match judgeT3 (s.upset (rk 0x06 (laneOff l 8))) with | .fault _ => true | _ => false) then
      s.setT3 (rk 0x06 (laneOff l 8)) 0xA else s
  let s := s.setLane l 1
  let s := s.modLane l (fun x =>
    { autoUsed := x.autoUsed, hashBan := x.hashBan, winLog2 := s.winCfg l })
  s.when (was = 4) (fun t => t.raise (laneEv l 4) 0 0 0)

/-- The lane is OFF (R167). -/
def State.offLane (s : State) (l : Nat) : State :=
  let s := (s.endSplit l).wrBit 0x07 0x80 l false
  (s.setLane l 0).modLane l (fun x => { autoUsed := x.autoUsed, hashBan := x.hashBan, winFault := x.winFault })

/-! ### A reintegration as lanes change (R192) -/

/-- The pages of a first pass: all 128 pages of 4 KB from the start of the data area (R191). -/
def dataPages : List Nat := List.range 128
/-- The reintegration ends with a RESULT of R197. -/
def State.reintFail (s : State) (result : Nat) : State := (s.wrFld 0x07 0x60 0 3 6).wrFld 0x07 0x60 12 4 result
/-- RESULT for the target's own fail cause: HASH, BOOT_TIMEOUT, and SYNC_TIMEOUT for every other. -/
def State.reintCause (s : State) : Nat :=
  let c := s.rf 0x06 (laneOff s.reintTarget 4) 16 4
  if c = 5 then 5 else if c = 6 then 6 else 7
/-- The reintegration after a change of lane states: a target that has failed ends it, a donor that has left VOTING is
replaced by another VOTING lane, and with none the target fails. -/
def State.reintFollow (s : State) : State :=
  let t := s.reintTarget
  if s.reintState = 2 && s.laneState t ≠ 1 && s.laneState t ≠ 2 then s.reintFail s.reintCause
  else if s.reintState = 3 || s.reintState = 4 then
    if s.laneState t ≠ 2 then s.reintFail s.reintCause
    else if s.voting s.reintDonor then s
    else match s.votingLanes with
      | d :: _ =>
        let s := (s.wrFld 0x07 0x60 0 3 3).wrFld 0x07 0x60 8 2 d
        { s with reint := { s.reint with dirty := dataPages, next := [], finalOk := false } }
      | [] => (s.failLane t 7).reintFail 7
  else s

/-! ### Rows -/

/-- The window in progress reaches its longest length (R159): the cycles that remain pass without a retirement. -/
def execLaneWindowFull (l : Fin 3) (s : State) :=
  answer s (if s.laneIdle l.val || s.laneAlone l.val then s
    else s.modLane l.val (fun x => idleCycles (s.winCfg l.val) (winLeft x) x))
/-- The scrubber reads a word of the lane SRAM (R155). -/
def execLaneSramScrub (l : Fin 3) (word : Nat) (e : Ecc) (s : State) :=
  answer s (if s.laneState l.val = 0 then s else (s.laneEcc l.val (w32 (4 * word % 0x40_0000)) e).reintFollow)
/-- The clock monitor of R163. -/
def execLaneClockCheck (l : Fin 3) (ppm : Int) (stopped : Bool) (s : State) :=
  answer s (if (stopped || 500 < ppm.natAbs) && 1 ≤ s.laneState l.val && s.laneState l.val ≤ 3 then (s.failLane l.val 4).reintFollow else s)
def execDebugRequest (l : Fin 3) (_a : DebugAct) (s : State) := answer s (s.debugLane l.val).reintFollow

end Sys2Proof.Machine
end

