-- ==== Sys2Proof/Machine/Field.lean ====
section
/-! DEFINITION. The field domain (R225 to R254): the isolation link and its modes, input filters, counters,
output faults, the field supply and the interlock table's own check. -/

namespace Sys2Proof

/-- The frame's CRC-16 over its first fourteen bytes stands in the last two, high byte first (R226). -/
def IsoFrame.crcOk (f : IsoFrame) : Bool :=
  let b (i : Nat) : Nat := (f.raw.getD i 0).toNat
  f.raw.length = 16 && Machine.crc16 ((f.raw.take 14).map BitVec.toNat) = 256 * b 14 + b 15

end Sys2Proof

namespace Sys2Proof.Machine

/-- The field unit is fitted. -/
def State.fioFitted (s : State) : Bool := !pageAbsent s.variant 0x0B

/-- A farrier run is testing block 5 or 6 (R228). -/
def State.fioTested (s : State) : Bool := s.farr.left.head? = some 5 || s.farr.left.head? = some 6

/-- A run has tested block 5 or 6 and has not ended: the domain stays in SERIAL until it has (R249). -/
def State.fioWaits (s : State) : Bool := s.fioTested || (s.farr.run ≠ .idle && (s.farr.tested.contains 5 || s.farr.tested.contains 6))

/-- A farrier run is testing block 13, the Selcy link (R115). -/
def State.xlinkTested (s : State) : Bool := s.farr.left.head? = some 13

/-- Offset of FO_STATn. -/
def foStat (n : Nat) : Nat := 0xC0 + 4 * n

/-- FIO.MODE.LINK takes a mode; a change raises ISO_MODE_CHANGE, and every entry into SERIAL asks for a fresh
coupler check (R227, R228). -/
def State.setLink (s : State) (m : Nat) : State :=
  if s.linkMode = m then s
  else
    let s := (s.wrFld 0x0B 0x40 0 2 m).raise 106 (w32 m) 0 0
    let s := { s with field := { s.field with sideOff := false, cplChecked := if m = 1 then false else s.field.cplChecked } }
    s.refresh

/-- SERIAL to PARALLEL where its conditions hold (R228). -/
def State.tryParallel (s : State) : State :=
  if s.linkMode = 1 && s.field.cplChecked && s.supply ≠ 3 && !s.fioWaits then s.setLink 2 else s

/-- The field side switches the channels of a mask off and latches them, with their partners where paralleled (R229, R236, R240). -/
def State.latchMask (s : State) (m : Word) : State :=
  let w := s.widen m
  ({ s with field := { s.field with latch := s.field.latch ||| w } }).wr 0x0B 0x6C (s.rd 0x0B 0x6C ||| w)

/-- A channel's coupler is marked faulty (R229): an output channel is switched off and latched; in a pair both. -/
def State.couplerFault (s : State) (ch : Nat) : State :=
  if ch < 32 then s.wrBit 0x0B 0x88 ch true
  else if ch < 56 then s.wrBit 0x0B 0x8C (ch - 32) true
  else (s.wrBit 0x0B 0x120 (ch - 56) true).latchMask (w32 (2 ^ (ch - 56)))

/-- The channel is already marked. -/
def State.couplerBad (s : State) (ch : Nat) : Bool :=
  if ch < 32 then s.rb 0x0B 0x88 ch else if ch < 56 then s.rb 0x0B 0x8C (ch - 32) else s.rb 0x0B 0x120 (ch - 56)

/-- R229 for one channel of one frame: three differing frames in a row mark it. -/
def State.compareCoupler (s : State) (ch : Nat) (differs : Bool) : State :=
  if s.couplerBad ch then s
  else
    let n := (alGet s.field.cplRun ch).getD 0 + 1
    if !differs then { s with field := { s.field with cplRun := alDel s.field.cplRun ch } }
    else if n < 3 then { s with field := { s.field with cplRun := alSet s.field.cplRun ch n } }
    else
      let s := { s with field := { s.field with cplRun := alDel s.field.cplRun ch } }
      (s.couplerFault ch).raise 105 1 (w32 ch) 0

/-- All 80 channels of a frame in PARALLEL. -/
def State.compareFrame (s : State) (f : IsoFrame) : State :=
  let s := (List.range 32).foldl (fun t n => t.compareCoupler n (bit f.fi n != bit t.field.rawFi n)) s
  let s := (List.range 24).foldl (fun t n => t.compareCoupler (32 + n) (bit f.rb n != bit t.field.rawRb n)) s
  (List.range 24).foldl (fun t n => t.compareCoupler (56 + n) (bit f.fo n != bit (t.rd 0x0B 0x60) n)) s

/-- The readback of channel `n` differs from its command, and the conditions of R238 hold; a stage whose
coupler has failed is not used (R228). -/
def State.rbMismatch (s : State) (n : Nat) : Bool :=
  s.rb 0x0B 0x68 n != s.rb 0x0B 0x60 n && !bit s.field.latch n && !s.rb 0x0B 0x70 n && !s.rb 0x0B 0x8C n && s.outEn

/-- FO_STATn's mismatch bit, and its SAG mark while the supply sags (R238, R251). -/
def State.markMismatch (s : State) (n : Nat) : State :=
  let m := s.rbMismatch n
  (s.wrBit 0x0B (foStat n) 19 m).when (m && s.supply = 2) (fun t => t.wrBit 0x0B (foStat n) 20 true)

/-- FO_STATn at a valid frame (R237, R251): the load current, marks of a latch that has been released, the mismatch. -/
def State.refreshStat (s : State) (f : IsoFrame) (n : Nat) : State :=
  let ma := f.currents.getD n 0
  let s := s.wrFld 0x0B (foStat n) 0 12 (min 0xFFF ma)
  let s := s.when (10 ≤ ma) (fun t => t.wrBit 0x0B (foStat n) 18 false)
  let s := s.when (!bit s.field.latch n) (fun t => (t.wrBit 0x0B (foStat n) 16 false).wrBit 0x0B (foStat n) 17 false)
  s.markMismatch n
/-- Diagnostics of a valid frame (R242, R249, R251): the field supply, the latched channels, every FO_STAT. -/
def State.frameDiag (s : State) (f : IsoFrame) : State :=
  let s := (s.wr 0x0B 0x44 (w32 (min 0xFFFF f.fieldMv))).refresh
  (List.range 24).foldl (fun t n => t.refreshStat f n) (s.wr 0x0B 0x6C s.field.latch)

/-- A link frame arrives (R226, R229, R251). -/
def State.isoFrame (s : State) (f : IsoFrame) : State :=
  if !s.fioFitted || s.pageHeld 0x0B || !s.pins.running || !f.synced then s
  else if !f.crcOk then
    let s := ({ s with field := { s.field with crcRun := s.field.crcRun + 1 } }).sat16 0x0B 0x84
    let s := s.raise 105 0 0 0
    if 16 ≤ s.field.crcRun && s.linkMode = 2 then s.setLink 1 else s
  else
    let s := { s with field := { s.field with crcRun := 0 } }
    let s := if s.linkMode = 2 then s.compareFrame f else s
    s.frameDiag f

/-- What follows where words of FIO have changed from `old` by an apply or a load: a filter's count above its new LIMIT takes that
LIMIT (R231), and a counter whose CNT_CFG field changed is cleared (R233). -/
def State.fioChanged (s old : State) : State :=
  let s := (List.range 32).foldl (fun t n =>
    let lim := fld (t.tab 0x0B n) 0 8
    if lim < fld (t.tab 0x0B (0x40 + n)) 0 8 then t.setTab 0x0B (0x40 + n) (w32 lim) else t) s
  (List.range 8).foldl (fun t c =>
    if t.rf 0x0B 0x58 (2 * c) 2 = old.rf 0x0B 0x58 (2 * c) 2 then t else t.wr 0x0B (0xA0 + 4 * c) 0) s

/-- One step of the filter of R231: the new count and the new state. -/
def filterStep (limit c : Nat) (state sample : Bool) : Nat × Bool :=
  let c' := if sample then min (c + 1) limit else c - 1
  (c', if c' = limit then true else if c' = 0 then false else state)

/-- Input `n`'s filter takes a sample (R231, R232). -/
def State.filterInput (s : State) (n : Nat) (sample : Bool) : State :=
  if s.rb 0x0B 0x88 n then s
  else
    let old := s.rb 0x0B 0x50 n
    let (c, st) := filterStep (fld (s.tab 0x0B n) 0 8) (fld (s.tab 0x0B (0x40 + n)) 0 8) old sample
    let s := (s.setTab 0x0B (0x40 + n) (w32 c)).wrBit 0x0B 0x50 n st
    if st = old then s
    else
      let s := (s.setTab 0x0B (0x20 + n) s.ns).capture (28 + n) s.tb.count
      s.when (s.rb 0x0B 0x54 n) (fun t => t.raise 96 (w32 n) (w32 (b2n st)) 0)

/-- Readback stage `n`'s filter takes a sample (R238). -/
def State.filterRb (s : State) (n : Nat) (sample : Bool) : State :=
  if s.rb 0x0B 0x8C n then s
  else
    let (c, st) := filterStep (s.rf 0x0B 0x74 0 8) (s.field.rbCnt.getD n 0) (s.rb 0x0B 0x68 n) sample
    ({ s with field := { s.field with rbCnt := s.field.rbCnt.set n c } }).wrBit 0x0B 0x68 n st

/-- A sample window (R230 to R232, R238): every filter, then the interlock table. -/
def State.sampleInputs (s : State) (fi rb : Word) : State :=
  if !s.fioFitted || s.pageHeld 0x0B || !(s.linkMode = 1 || s.linkMode = 2) then s
  else
    let s := { s with field := { s.field with rawFi := fi, rawRb := rb } }
    let s := (List.range 32).foldl (fun t n => t.filterInput n (bit fi n)) s
    let s := (List.range 24).foldl (fun t n => t.filterRb n (bit rb n)) s
    let s := s.refresh
    (List.range 24).foldl State.markMismatch s

/-- A counted edge (R233); an input whose coupler has failed is not used (R228). -/
def State.counterEdge (s : State) (c : Nat) (rising : Bool) : State :=
  let cfg := s.rf 0x0B 0x58 (2 * c) 2
  if s.fioFitted && s.linkMode = 2 && !s.rb 0x0B 0x88 c && (cfg = 3 || (cfg = 1 && rising) || (cfg = 2 && !rising)) then
    let s := s.inc32 0x0B (0xA0 + 4 * c)
    s.when (s.rd 0x0B (0xA0 + 4 * c) = 0) (fun t => t.raise 108 (w32 c) 0 0)
  else s

/-- The field side switches channel `n` off and latches it, with its partner where paralleled (R236, R240). -/
def State.latchFo (s : State) (n : Nat) : State :=
  s.latchMask (w32 (2 ^ n))

/-- Supply state `x`. -/
def State.setSupply (s : State) (x mv : Nat) : State := (s.wr 0x0B 0x44 (w32 (min 0xFFFF mv))).wrFld 0x0B 0x40 4 2 x

/-- FIELD_MV as an event's parameter. -/
def State.fieldMv (s : State) : Word := s.rd 0x0B 0x44

/-- A CRC of `n` table words from `ix` on, each as four bytes low first, in index order (DEDUCED: R224 and R248
name no byte order). -/
def State.tableCrc (s : State) (p ix n : Nat) : Word :=
  crc32 ((List.range n).flatMap (fun i => wordBytes (s.tab p (ix + i))))

/-! ### Rows -/

def execIsoLinkFrame (f : IsoFrame) (s : State) := answer s (s.isoFrame f)
/-- 256 µs without a valid frame at the field side: it switches every output off (R226). -/
def execFieldSideLinkTimeout (s : State) :=
  answer s (if s.fioFitted then { s with field := { s.field with sideOff := true } } else s)
/-- SERIAL not synchronised within 10 ms (R228). -/
def execLinkSyncTimeout (s : State) := answer s (if s.fioFitted && s.linkMode = 1 && !s.field.cplChecked then s.setLink 3 else s)
/-- The coupler check completes (R228, R229). -/
def execCouplerCheckDone (fiF rbF outF : Word) (s : State) :=
  answer s (if s.fioFitted && s.linkMode = 1 then
      let s := ((s.wr 0x0B 0x88 fiF).wr 0x0B 0x8C (rbF &&& 0xFF_FFFF)).wr 0x0B 0x120 (outF &&& 0xFF_FFFF)
      let s := s.latchMask (outF &&& 0xFF_FFFF)
      ({ s with field := { s.field with cplChecked := true, cplRun := [] } }).tryParallel.refresh
    else s)
def execInputSample (fi rb : Word) (s : State) := answer s (s.sampleInputs fi rb)
def execFieldCounterEdge (c : Fin 8) (rising : Bool) (s : State) := answer s (s.counterEdge c.val rising)
def execFoShort (n : Fin 24) (s : State) :=
  answer s (if s.fioFitted then ((s.latchFo n.val).wrBit 0x0B (foStat n.val) 16 true).raise 98 (w32 n.val) 0 0 else s)
def execFoOvertemp (n : Fin 24) (s : State) :=
  answer s (if s.fioFitted then
      let s := { s with field := { s.field with hot := s.field.hot ||| s.widen (w32 (2 ^ n.val)) } }
      ((s.latchFo n.val).wrBit 0x0B (foStat n.val) 17 true).raise 99 (w32 n.val) 0 0
    else s)
/-- The load current has been below 5 mA for 10 ms with the channel ON (R237). -/
def execFoOpenLoad (n : Fin 24) (s : State) :=
  answer s (if s.fioFitted && s.rb 0x0B 0x7C n.val && s.rb 0x0B 0x60 n.val then
    (s.wrBit 0x0B (foStat n.val) 18 true).raise 100 (w32 n.val) 0 0 else s)
/-- A mismatch has stood for RB_GRACE_MS (R238). -/
def execFoReadback (n : Fin 24) (s : State) :=
  answer s (if s.fioFitted && s.rbMismatch n.val then
      if s.supply ≤ 1 then s.raise 97 (w32 n.val) (if s.rb 0x0B 0x60 n.val then 1 else 2) 0
      else if s.supply = 2 then s.wrBit 0x0B (foStat n.val) 20 true else s
    else s)
/-- The energy estimate of R241, in mJ: ½ · 48 V · I · t_d. -/
def demagMj (currentMa decayUs : Nat) : Nat := 24 * currentMa * decayUs / 1_000_000
def execOutputSwitchOff (n : Fin 24) (currentMa decayUs : Nat) (s : State) :=
  answer s (if s.fioFitted then
      let e := demagMj currentMa decayUs
      let s := s.wrFld 0x0B (foStat n.val) 24 8 (min 255 e)
      s.when (s.rf 0x0B 0x80 0 8 < e) (fun t => t.raise 109 (w32 n.val) (w32 e) 0)
    else s)
def execFieldWarn (mv : Nat) (s : State) :=
  answer s (if s.fioFitted && s.supply = 0 && mv < 18000 then let s := s.setSupply 1 mv; (s.raise 101 s.fieldMv 0 0).refresh else s)
def execFieldNormal (mv : Nat) (s : State) :=
  answer s (if s.fioFitted && s.supply = 1 && 18500 ≤ mv then (s.setSupply 0 mv).refresh else s)
/-- FIELD_IN below 15.0 V for 2 ms (R242, R243). -/
def execFieldSag (mv : Nat) (s : State) :=
  answer s (if s.fioFitted && s.supply ≤ 1 && mv < 15000 then
      let off := ~~~s.foPins &&& 0xFF_FFFF
      let s := (s.setSupply 2 mv).sat16 0x0B 0x90
      let s := { s with field := { s.field with sagOff := off } }
      (s.raise 102 s.fieldMv 0 0).refresh
    else s)
/-- FIELD_IN below 12.0 V (R242, R243): PARALLEL falls back to SERIAL, and the outputs wait for a commit. -/
def execFieldLost (mv : Nat) (s : State) :=
  answer s (if s.fioFitted && s.supply ≠ 3 && mv < 12000 then
      let s := (s.setSupply 3 mv).sat16 0x0B 0x94
      let s := { s with field := { s.field with sagOff := 0, waitCommit := true } }
      let s := s.raise 103 s.fieldMv 0 0
      (if s.linkMode = 2 then s.setLink 1 else s).refresh
    else s)
/-- FIELD_IN above 16.0 V for 10 ms (R242, R243). -/
def execFieldOk (mv : Nat) (s : State) :=
  answer s (if s.fioFitted && 2 ≤ s.supply && 16000 < mv then
      let lost := s.supply = 3
      let s := s.setSupply (if mv < 18000 then 1 else 0) mv
      let s := { s with field := { s.field with cplChecked := s.field.cplChecked && !lost } }
      let s := (List.range 24).foldl (fun t n => t.wrBit 0x0B (foStat n) 20 false) s
      (s.raise 104 s.fieldMv 0 0).refresh
    else s)
/-- The recomputation of ILK.CRC every 10 ms (R248). -/
def execIlkCrcCheck (s : State) :=
  answer s (if pageAbsent s.variant 0x0C then s else
      let c := s.tableCrc 0x0C 0 128
      let s := s.wr 0x0C 0x4C c
      if s.loaded && c ≠ s.rd 0x0C 0x50 then
        let s := s.raise 23 0x301 0 0
        ({ s with field := { s.field with faultIlk := true } }).refresh
      else s)
/-- The driver has cooled below its restart threshold (R236). -/
def execFoDriverCooled (n : Fin 24) (s : State) :=
  answer s (if s.fioFitted then ({ s with field := { s.field with hot := s.field.hot &&& ~~~s.widen (w32 (2 ^ n.val)) } }).refresh else s)

end Sys2Proof.Machine
end

