-- ==== Sys2Proof/Machine/Signals.lean ====
section
/-! DEFINITION. The signal map at work (R177 to R179, R217 to R220): received values, their quality, the snapshot, and
the commit's writes to the networks and views. -/

namespace Sys2Proof.Machine

/-! ### Bits of frame data -/

/-- `n` bytes of a number, low byte first. -/
def natBytes (n x : Nat) : List Byte := (List.range n).map (fun i => BitVec.ofNat 8 (x / 256 ^ i))
/-- `len` bits from bit `start`; bit 0 is the low bit of byte 0. -/
def takeBits (big : Bool) (d : List Byte) (start len : Nat) : Nat :=
  (if big then Config.beExtract d start len else leNat d / 2 ^ start) % 2 ^ len
/-- Those bits set to `x`. -/
def putBits (big : Bool) (d : List Byte) (start len x : Nat) : List Byte :=
  if big then Config.beInsert d start len x
  else
    let n := leNat d
    natBytes d.length (n - n / 2 ^ start % 2 ^ len * 2 ^ start + x % 2 ^ len * 2 ^ start)
/-- A field of `len` bits as a value of a TYPE: the signed types are sign-extended (DEDUCED: R220 gives a length and a
type). -/
def typeValue (t len x : Nat) : DWord :=
  let n := typeBits t
  if t = 1 ∨ t = 3 ∨ t = 5 then BitVec.ofNat 64 ((BitVec.ofInt 64 (signed len x)).toNat % 2 ^ n) else BitVec.ofNat 64 (x % 2 ^ n)

/-! ### Received values (R217, R218) -/

/-- The received value of signal `i`. -/
def State.sig (s : State) (i : Nat) : SigRx := (alGet s.prog.sigs i).getD {}
/-- `s` with that value set. -/
def State.setSig (s : State) (i : Nat) (x : SigRx) : State := { s with prog := { s.prog with sigs := alSet s.prog.sigs i x } }

/-- Station `st` is enabled; it is lost. -/
def State.stationEn (s : State) (st : Nat) : Bool := bit (s.tab 0x0A (0x8000 + st)) 16
def State.stationLost (s : State) (st : Nat) : Bool := s.rb 0x0A (0x4C + 4 * (st / 32)) (st % 32)
/-- A valid frame of station `st` has arrived. -/
def State.stationSeen (s : State) (st : Nat) : State := s.wrBit 0x0A (0x4C + 4 * (st / 32)) (st % 32) false

/-- An update of signal `i`. -/
def State.sigUpdate (s : State) (i : Nat) (v : DWord) : State :=
  let w0 := s.mapWord i 0
  let s := s.setSig i { s.sig i with val := v, cyc := s.cycle.toNat, upd := true }
  s.when (bit w0 22) (fun t => t.stationSeen (fld w0 16 6))

/-- Start bit, length and byte order in word 2 of an entry of KIND 4, 5 or 6. -/
def srcStart (kind : Nat) (w2 : Word) : Nat := if kind = 4 then fld w2 10 9 else if kind = 5 then fld w2 8 8 else fld w2 10 14
def srcLen (kind : Nat) (w2 : Word) : Nat := (if kind = 4 then fld w2 19 6 else if kind = 5 then fld w2 16 6 else fld w2 24 6) + 1
def srcBig (kind : Nat) (w2 : Word) : Bool := if kind = 4 then bit w2 25 else if kind = 5 then bit w2 22 else bit w2 30
/-- The number of the frame source or destination: channel and pair or object for KIND 4, port, dataset. -/
def srcNum (kind : Nat) (w2 : Word) : Nat := if kind = 4 then fld w2 0 10 else if kind = 5 then fld w2 0 8 else fld w2 0 10

/-- A frame, port or dataset with number `num` brings data: the input signals of the KIND that name it and whose bits lie
inside the data are updated (R330). -/
def State.rxSignals (s : State) (kind num : Nat) (d : List Byte) : State :=
  s.mapUsed.foldl (fun t i =>
    let w0 := s.mapWord i 0
    let w2 := s.mapWord i 2
    if mapKind w0 = kind && !mapOut w0 && srcNum kind w2 = num && srcStart kind w2 + srcLen kind w2 ≤ 8 * d.length then
      t.sigUpdate i (typeValue (mapType w0) (srcLen kind w2) (takeBits (srcBig kind w2) d (srcStart kind w2) (srcLen kind w2)))
    else t) s

/-- The received value at the tick of a signal that needs no frame (KIND 1, 2, 3, 8, 9, 10). -/
def State.tickValue (s : State) (w0 w2 : Word) : DWord :=
  let t := mapType w0
  let k := mapKind w0
  let x : Nat :=
    if k = 1 then b2n (if bit w2 8 then s.rb 0x0B 0x68 (fld w2 0 5) else s.rb 0x0B 0x50 (fld w2 0 5))
    else if k = 2 then (s.rd 0x0B (0xA0 + 4 * fld w2 0 3)).toNat
    else if k = 3 then (s.tab 0x0B (0x20 + fld w2 0 5)).toNat
    else if k = 8 then
      (let v := s.tro.verdicts.getD (fld w2 0 3) 0
       if fld w2 4 4 = 10 then fld v 16 16 else if fld w2 4 4 < 10 then b2n (bit v (fld w2 4 4)) else 0)
    else if k = 9 then
      (if fld w2 0 8 = 0 then s.rf 0x00 0x5C 0 16 else if fld w2 0 8 = 1 then s.rf 0x00 0x60 0 16
       else if fld w2 0 8 = 2 then s.rf 0x00 0x58 0 2 else if fld w2 0 8 = 3 then s.role else 0)
    else b2n s.moving
  typeValue t (if (k = 9 && fld w2 0 8 = 1) || (k = 8 && fld w2 4 4 = 10) then 16 else 64) x

/-- The KIND's values are taken at every tick. -/
def tickKind (k : Nat) : Bool := k = 1 || k = 2 || k = 3 || k = 8 || k = 9 || k = 10

/-- The source of an input signal is absent, UNUSABLE, in fault state or stopped (R217, first row). -/
def State.sourceBad (s : State) (w0 w2 : Word) : Bool :=
  let k := mapKind w0
  if k = 1 || k = 2 || k = 3 then
    !s.pageUp 0x0B || s.supply = 3 || s.linkMode = 0 || s.linkMode = 3 ||
      (if k = 1 && bit w2 8 then s.rb 0x0B 0x8C (fld w2 0 5)
       else s.rb 0x0B 0x88 (if k = 2 then fld w2 0 3 else fld w2 0 5))
  else if k = 4 then !s.pageUp (0x10 + fld w2 0 3) || s.rf (0x10 + fld w2 0 3) 0x44 0 2 = 2
  else if k = 5 then !s.pageUp 0x18 || s.rf 0x18 0x44 5 2 = 3
  else if k = 6 then !s.pageUp 0x20 || !s.dataPlaneUp
  else if k = 8 then !s.pageUp 0x49 || !s.tro.verdictOk || !s.dataPlaneUp
  else k = 9 && fld w2 0 8 = 3 && (!s.pageUp 0x50 || s.dup.fault)

/-- The quality of signal `i` at the tick of cycle `k` (R217). -/
def State.quality (s : State) (i : Nat) (k : Word) : Nat :=
  let w0 := s.mapWord i 0
  let w2 := s.mapWord i 2
  let r := s.sig i
  if s.prog.faultSig || s.pageHeld 0x0A || s.sourceBad w0 w2 || (bit w0 22 && s.stationLost (fld w0 16 6)) then 0
  else if tickKind (mapKind w0) then 3
  else if !r.upd then 0
  else if fld w0 24 8 ≠ 0 && fld w0 24 8 < (k.toNat + 2 ^ 32 - r.cyc) % 2 ^ 32 then 1
  else 3

/-! ### The snapshot (R177 to R179) -/

/-- Signal `i` enters the snapshot: its quality and its value. -/
def State.snapSignal (s : State) (k : Word) (i : Nat) : State :=
  let w0 := s.mapWord i 0
  let q := s.quality i k
  let r := s.sig i
  let cur := if tickKind (mapKind w0) then s.tickValue w0 (s.mapWord i 2) else r.val
  let v := if q = 3 then cur else if bit w0 9 && r.everGood then r.lastGood else BitVec.ofNat 64 (s.mapWord i 3).toNat
  let s := s.when (q = 3) (fun t => t.setSig i { t.sig i with everGood := true, lastGood := cur })
  let s := s.setImgBits imgSnap (mapPos w0 (s.mapWord i 1)) (typeBits (mapType w0)) v.toNat
  let s := s.setImgBits imgSnap (64 * (s.rf 0x0A 0x40 0 13 + i / 32) + 2 * (i % 32)) 2 q
  if q = 0 then s.wrFld 0x0A 0x44 0 13 (s.rf 0x0A 0x44 0 13 + 1)
  else if q = 1 then s.wrFld 0x0A 0x44 16 13 (s.rf 0x0A 0x44 16 13 + 1) else s

/-- The signal part of the snapshot. -/
def State.snapSignals (s : State) (k : Word) : State :=
  (s.mapUsed.filter (fun i => !mapOut (s.mapWord i 0))).foldl (fun t i => t.snapSignal k i) (s.wr 0x0A 0x44 0)

/-- FLAGS of R179. -/
def State.snapFlags (s : State) : Nat :=
  b2n s.tro.first + 2 * b2n s.tro.warm + 4 * b2n s.latched + 16 * s.voterMode + 256 * s.votingMask +
    4096 * s.rf 0x07 0x40 8 3 + 65536 * s.tro.entered + 2 ^ 20 * b2n s.tro.skipped

/-- A 64-bit image word of two words. -/
def dpair (lo hi : Word) : DWord := BitVec.ofNat 64 (lo.toNat + 2 ^ 32 * hi.toNat)

/-- Snapshot `k` is captured: the signal values and qualities of the tick (R177). -/
def State.snapCapture (s : State) (k : Word) : State := (s.clearImage imgSnap).snapSignals k
/-- The captured snapshot is written into the input windows of all three lanes (R177, R179). `due` is the tick's due
instant. -/
def State.snapWrite (s : State) (k : Word) (due : Nat) (events : List Word) : State :=
  let flags := s.snapFlags
  let s := s.setImage imgSnap 0 (dpair k (w32 flags))
  let s := s.setImage imgSnap 1 (dpair (w32 due) (w32 (due / 2 ^ 32)))
  let s := s.setImage imgSnap 2 (dpair (w32 s.periodNs) (w32 (s.rf 0x07 0x58 0 16)))
  let s := s.setImage imgSnap 3 (dpair (s.rd 0x07 0x7C) 0)
  let s := (List.range 4).foldl (fun t j => t.setImage imgSnap (4 + j) (dpair (events.getD (2 * j) 0) (events.getD (2 * j + 1) 0))) s
  let s := [0, 1, 2].foldl (fun t l => t.copyImage imgSnap (imgIn l)) s
  { s with tro := { s.tro with ready := k, first := false, warm := false, skipped := false } }

/-! ### Commit to networks and views (R220, R333, R357, R366, R274) -/

/-- The words of a table from `ix` as bytes. -/
def State.tabBytes (s : State) (p ix n : Nat) : List Byte := wordsBytes ((List.range n).map (fun j => s.tab p (ix + j)))
/-- Table words from `ix` set from bytes. -/
def State.setTabBytes (s : State) (p ix n : Nat) (d : List Byte) : State :=
  (List.range n).foldl (fun t j => t.setTab p (ix + j) (bytesWord (d.drop (4 * j)))) s

/-- Page of CAN channel `n`. -/
def canPage (n : Nat) : Nat := 0x10 + n
/-- First data word of transmit object `o`. -/
def objBase (o : Nat) : Nat := 0x800 + 32 * o
/-- OBJ_READY bit of object `o`. -/
def State.objReady (s : State) (n o : Nat) : Bool := s.rb (canPage n) (0x88 + 4 * (o / 32)) (o % 32)
def State.setObjReady (s : State) (n o : Nat) (b : Bool) : State := s.wrBit (canPage n) (0x88 + 4 * (o / 32)) (o % 32) b
/-- The data of object `o` is complete (R333): the shadow becomes the data to send, and the object is ready. -/
def State.completeObj (s : State) (n o : Nat) : State :=
  let d := (List.range 16).foldl (fun l j => stSet 0 l (16 * o + j) (s.tab (canPage n) (objBase o + 2 + j))) (s.can n).objData
  (s.modCan n (fun c =>
    { c with objData := d, written := c.written ||| 2 ^ o, readyAt := alSet c.readyAt o s.tb.count })).setObjReady n o true

/-- A mapped output signal of KIND 4 takes value `x`: an object of the service cores' side ignores it, with cause GRANT. -/
def State.putCan (s : State) (i x : Nat) : State :=
  let w2 := s.mapWord i 2
  let n := fld w2 0 3
  let o := fld w2 3 7 % 64
  if bit (s.tab (canPage n) (objBase o + 1)) 10 then s.accessFault .troika (addrOf (canPage n) 0x34) 4
  else
    let d := s.tabBytes (canPage n) (objBase o + 2) 16
    s.setTabBytes (canPage n) (objBase o + 2) 16 (putBits (srcBig 4 w2) d (srcStart 4 w2) (srcLen 4 w2) x)
/-- A mapped output signal of KIND 5 takes a value, in its source port. -/
def State.putMvb (s : State) (i x : Nat) : State :=
  let w2 := s.mapWord i 2
  let ix := 0x401 + 16 * fld w2 0 8
  s.setTabBytes 0x18 ix 8 (putBits (srcBig 5 w2) (s.tabBytes 0x18 ix 8) (srcStart 5 w2) (srcLen 5 w2) x)
/-- Bytes of a dataset bank. -/
def dsBytes (bank : List Host.Cell) (d n : Nat) : List Byte := (List.range n).map (fun j => stGet 0 bank (2048 * d + j))
def dsSetBytes (bank : List Host.Cell) (d : Nat) (bs : List Byte) : List Host.Cell :=
  (bs.zipIdx).foldl (fun b (v, j) => stSet 0 b (2048 * d + j) v) bank
/-- SIZE of dataset `d`. -/
def State.dsSize (s : State) (d : Nat) : Nat := fld (s.tab 0x20 (0x800 + d)) 0 11
/-- A mapped output signal of KIND 6 takes a value in the write bank (R366). -/
def State.putDs (s : State) (i x : Nat) : State :=
  let w2 := s.mapWord i 2
  let d := fld w2 0 10
  let bs := putBits (srcBig 6 w2) (dsBytes s.net.dsWrite d (s.dsSize d)) (srcStart 6 w2) (srcLen 6 w2) x
  { s with net := { s.net with dsWrite := dsSetBytes s.net.dsWrite d bs } }
/-- A mapped output signal of KIND 7 takes a value in its view's write bank, where it has changed since the last commit; `up`: the
writes arrive (R53, R274). -/
def State.putView (s : State) (up : Bool) (i x : Nat) : State :=
  let w2 := s.mapWord i 2
  let off := 4 * fld w2 3 10
  s.modView (fld w2 0 3) (fun v =>
    if alGet v.sent off = some (w32 x) then v
    else { v with sent := alSet v.sent off (w32 x), writeBank := if up then alSet v.writeBank off (w32 x) else v.writeBank })
/-- A load puts the SUBST of every output signal where the commit will write the signal: it is what is sent before the first
commit (R220). -/
def State.substOutputs (s : State) : State :=
  let v (t : State) (i : Nat) : Nat := (t.mapWord i 3).toNat
  let soft (i : Nat) : Bool := let w := s.mapWord i 2; bit (s.tab (canPage (fld w 0 3)) (objBase (fld w 3 7 % 64) + 1)) 10
  let s := ((s.outSignals 4).filter (fun i => !soft i)).foldl (fun t i => t.putCan i (v t i)) s
  let s := if pageAbsent s.variant 0x18 then s else (s.outSignals 5).foldl (fun t i => t.putMvb i (v t i)) s
  let s := (s.outSignals 6).foldl (fun t i => t.putDs i (v t i)) s
  let s := { s with net := { s.net with dsReady := s.net.dsWrite.foldl (fun b (c : Host.Cell) => stSet 0 b c.1 c.2) s.net.dsReady } }
  let s := (s.outSignals 7).foldl (fun t i => t.putView true i (v t i)) s
  (s.outSignals 10).foldl (fun t i => t.wrBit 0x0A 0x5C 2 (v t i % 2 = 1)) s

/-- Map words have come into force before the first commit: SUBST is what the outputs send (R220). -/
def State.sendSubst (s : State) : State := if s.tro.everCommitted || s.prog.faultSig || s.pageHeld 0x0A then s else s.substOutputs
/-- A mapped output of KIND 10 takes its value: the program's contribution to MOVING. -/
def State.putMoving (s : State) : State :=
  match s.outSignals 10 with
  | [] => s
  | i :: _ => s.wrBit 0x0A 0x5C 2 (s.outValue i % 2 = 1)
/-- The commit's writes to the networks and the views. While the data plane is stopped the writes that cross the bridle are
discarded (R53); with SIG in fault state none are made (R224), but MOVING is no network's; in OUTRIDER no output dataset is
written (R387). -/
def State.commitOut (s : State) : State :=
  if s.pageHeld 0x0A then s
  else if s.prog.faultSig then s.putMoving
  else
    let can := s.outSignals 4
    let s := can.foldl (fun t i => t.putCan i (t.outValue i)) s
    let objs := (can.map (fun i => fld (s.mapWord i 2) 0 10)).eraseDups
    let s := objs.foldl (fun t x =>
      if bit (t.tab (canPage (x % 8)) (objBase (x / 8 % 64) + 1)) 10 then t else t.completeObj (x % 8) (x / 8 % 64)) s
    let s := if pageAbsent s.variant 0x18 then s else (s.outSignals 5).foldl (fun t i => t.putMvb i (t.outValue i)) s
    let s := if s.dataPlaneUp && s.role ≠ 2 then (s.outSignals 6).foldl (fun t i => t.putDs i (t.outValue i)) s else s
    let s := (s.outSignals 7).foldl (fun t i => t.putView (t.dataPlaneUp && t.pageUp 0x30) i (t.outValue i)) s
    s.putMoving

/-! ### Rows -/

/-- Every signal of a lost station waits for an update of its own (R218). -/
def State.staleStation (s : State) (st : Nat) : State :=
  let mine := s.mapUsed.filter (fun i => let w := s.mapWord i 0; !mapOut w && bit w 22 && fld w 16 6 = st)
  mine.foldl (fun t i => t.setSig i { t.sig i with upd := false }) s
/-- No valid frame of the station for WATCH_MS (R218). -/
def execStationLost (st : Fin 64) (s : State) :=
  answer s (if s.stationEn st.val && !s.stationLost st.val && !s.pageHeld 0x0A then
      let ix := 0x8040 + st.val
      let s := s.setTab 0x0A ix (setFld (s.tab 0x0A ix) 16 16 (min 0xFFFF (fld (s.tab 0x0A ix) 16 16 + 1)))
      ((s.staleStation st.val).wrBit 0x0A (0x4C + 4 * (st.val / 32)) (st.val % 32) true).raise 91 (w32 st.val) 0 0
    else s)
/-- The recomputation of MAP_CRC every 10 ms; SIG enters fault state once (R224). -/
def execMapCrcCheck (mapEcc : Bool) (s : State) :=
  answer s (
    let c := s.tableCrc 0x0A 0 0x4000
    let s := s.wr 0x0A 0x54 c
    let fail (p1 : Word) (t : State) : State :=
      if t.prog.faultSig then t else { t.raise 23 0x300 p1 0 with prog := { t.prog with faultSig := true } }
    if mapEcc then fail 1 s else if s.loaded && c ≠ s.rd 0x0A 0x58 then fail 0 s else s)

end Sys2Proof.Machine
end

