-- ==== Sys2Proof/Machine/Can.lean ====
section
/-! DEFINITION. The CAN channels (R326 to R354): modes, reception, transmission, error confinement, and the time-triggered
schedule with its masters. -/

namespace Sys2Proof.Machine

/-! ### Fields -/

def State.canMode (s : State) (n : Nat) : Nat := s.rf (canPage n) 0x40 0 2
def State.canErr (s : State) (n : Nat) : Nat := s.rf (canPage n) 0x44 0 2
def State.canBusOff (s : State) (n : Nat) : Bool := s.canErr n = 2
def State.canIntegrated (s : State) (n : Nat) : Bool := s.rb (canPage n) 0x44 2
/-- TT_STAT.STATE: 0 TT_OFF, 1 LISTEN, 2 OBSERVE, 3 FOLLOWER, 4 MASTER. -/
def State.ttState (s : State) (n : Nat) : Nat := s.rf (canPage n) 0xA0 0 3
def State.setTt (s : State) (n x : Nat) : State := s.wrFld (canPage n) 0xA0 0 3 x
def State.cycleCount (s : State) (n : Nat) : Nat := s.rf (canPage n) 0xA0 8 6
def State.ntuNs (s : State) (n : Nat) : Nat := s.rf (canPage n) 0x90 0 14
def State.potMaster (s : State) (n : Nat) : Bool := s.rb (canPage n) 0x90 16
def State.refId (s : State) (n : Nat) : Nat := s.rf (canPage n) 0x90 20 11
def State.cycLen (s : State) (n : Nat) : Nat := s.rf (canPage n) 0x94 0 16
def State.matrixLen (s : State) (n : Nat) : Nat := 2 ^ s.rf (canPage n) 0x94 16 3
def State.driftGuard (s : State) (n : Nat) : Nat := s.rf (canPage n) 0x98 0 8
/-- The channel is unusable or has no state that a bus event could change. -/
def State.canDown (s : State) (n : Nat) : Bool := s.pageHeld (canPage n) || s.canMode n = 0
/-- CAN_TT_ERR of channel `n` with a code of R353. -/
def State.ttErr (s : State) (n code : Nat) (p1 : Word) : State := s.raise (179 + 5 * n) (w32 code) p1 0
/-- In OUTRIDER the channel's mute bit keeps it from starting frames (R387). -/
def State.canMuted (s : State) (n : Nat) : Bool := s.role = 2 && s.rb 0x50 0x54 n

/-! ### Schedule (R340) -/

/-- The value that a schedule word would have once the shadows are applied. -/
def State.nextReg (s : State) (n off : Nat) : Word := s.nextKey (rk (canPage n) off)
def State.nextTab (s : State) (n ix : Nat) : Word := s.nextKey (tk (canPage n) ix)

/-- Bits of the longest form of a frame, stuff bits included, as nominal and data-phase bits (PRESUMED from ISO 11898-1,
which R326 names). -/
def worstBits (ide fdf : Bool) (bytes : Nat) (brs : Bool) : Nat × Nat :=
  let head := if ide then 64 else 44
  if !fdf then (head + 8 * bytes + (head - 10 + 8 * bytes - 1) / 4, 0)
  else
    let arb := if ide then 36 else 17
    let crc := if bytes ≤ 16 then 17 + 6 else 21 + 7
    let body := 5 + 8 * bytes + (5 + 8 * bytes) / 4 + 4 + crc
    let nom := arb + (arb - 1) / 4 + 10
    if brs then (nom, body) else (nom + body, 0)
/-- Data bytes of a DLC (ISO 11898-1; PRESUMED). -/
def dlcBytes (fdf : Bool) (dlc : Nat) : Nat :=
  if dlc ≤ 8 then dlc else if !fdf then 8 else [12, 16, 20, 24, 32, 48, 64].getD (dlc - 9) 64
/-- Ns of a nominal and of a data bit, in units of an NCLK cycle of 12.5 ns. -/
def nomCycles (nbt : Word) : Nat := (3 + fld nbt 0 8 + fld nbt 8 7) * (fld nbt 24 5 + 1)
def dataCycles (dbt : Word) : Nat := (3 + fld dbt 0 5 + fld dbt 8 4) * (fld dbt 24 5 + 1)
/-- The longest duration of a frame with words 0 and 1, in 0.5 ns. -/
def State.worstHalfNs (s : State) (n : Nat) (w0 w1 : Word) : Nat :=
  let b := worstBits (bit w0 29) (bit w0 30) (dlcBytes (bit w0 30) (fld w1 0 4)) (bit w0 31)
  25 * (b.1 * nomCycles (s.can n).nbt + b.2 * dataCycles (s.can n).dbt)

/-- The window table with its shadows: START and LEN of window `w`. -/
def State.nextWin (s : State) (n w : Nat) : Nat × Nat := (fld (s.nextTab n (0x1400 + w)) 0 16, fld (s.nextTab n (0x1400 + w)) 16 16)
/-- Matrix cells that are not FREE, with their shadows: (row, window, word). -/
def State.nextCells (s : State) (n : Nat) : List (Nat × Nat × Word) :=
  let isCell (k : Nat) : Bool := keyPage k = canPage n && keyIsTab k && 0x2000 ≤ keyOff k && keyOff k < 0x2800
  let keys := ((s.regs.filter (fun c => isCell c.1)).map Prod.fst ++ (s.shadow.filter (fun c => isCell c.1)).map Prod.fst).eraseDups
  (keys.map (fun k => ((keyOff k - 0x2000) / 32, keyOff k % 32, s.nextKey k))).filter (fun c => c.2.2.toNat ≠ 0)
/-- The schedule with its shadows meets R340 and the last sentence of R344. -/
def State.scheduleOk (s : State) (n : Nat) : Bool :=
  let cyc := fld (s.nextReg n 0x94) 0 16
  let guard := fld (s.nextReg n 0x98) 0 8
  let watch := fld (s.nextReg n 0x98) 8 8
  let txen := fld (s.nextReg n 0x98) 16 8
  let ntu := fld (s.nextReg n 0x90) 0 14
  let wins := (List.range 32).map (fun w => s.nextWin n w)
  let live := wins.filter (fun x => x.2 ≠ 0)
  let overlap (a b : Nat × Nat) : Bool := decide (a.1 < b.1 + b.2) && decide (b.1 < a.1 + a.2)
  let rec disjoint : List (Nat × Nat) → Bool
    | [] => true
    | a :: r => !r.any (overlap a) && disjoint r
  disjoint live && live.all (fun x => x.1 + x.2 ≤ cyc) &&
    (s.nextCells n).all (fun (_, w, v) =>
      let x := wins.getD w (0, 0)
      let kind := fld v 0 2
      kind ≠ 3 && (kind = 0 || x.2 ≠ 0) &&
        (kind ≠ 1 ||
          (let o := objBase (fld v 2 6)
           s.worstHalfNs n (s.tab (canPage n) o) (s.tab (canPage n) (o + 1)) + 2 * ntu * txen ≤ 2 * ntu * x.2))) &&
    guard + 10 ≤ watch
/-- The schedule's shadows reach their boundary. -/
def State.applySchedule (s : State) (n : Nat) : State :=
  let p := canPage n
  if (s.shadows p (fun _ => true)).isEmpty then s
  else if s.scheduleOk n then s.applyShadows p (fun _ => true)
  else ((s.dropShadows p (fun _ => true)).accessFault .hw (addrOf p 0x20) 9).ttErr n 7 0
/-- The boundary at any moment outside FOLLOWER and MASTER (R340). -/
def State.scheduleNow (s : State) (n : Nat) : State := if 3 ≤ s.ttState n then s else s.applySchedule n

/-! ### Candidates (R335) -/

/-- Word 0 and word 1 of object or buffer `b` (buffers at 64 and above). -/
def bufBase (b : Nat) : Nat := if b < 64 then objBase b else 0x1000 + 32 * (b - 64)
def State.bufWord (s : State) (n b w : Nat) : Word := s.tab (canPage n) (bufBase b + w)
/-- The identifier of a buffer as the 29-bit number that R335 compares. -/
def State.bufId (s : State) (n b : Nat) : Nat := fld (s.bufWord n b 0) 0 29
/-- The buffer of a list in rising order with the lowest identifier; the first among equals. -/
def State.lowest (s : State) (n : Nat) (l : List Nat) : Option Nat :=
  l.foldl (fun best b => match best with
    | none => some b
    | some c => if s.bufId n b < s.bufId n c then some b else some c) none
/-- Object or buffer `b` may be sent: ready, or requested. -/
def State.candidate (s : State) (n b : Nat) : Bool := if b < 64 then s.objReady n b else s.rb (canPage n) 0x80 (b - 64)
/-- The frame that an EVENT channel offers to the bus: the lowest identifier, objects before buffers, lower numbers first. -/
def State.offered (s : State) (n : Nat) : Option Nat :=
  if s.canMode n = 1 && s.canIntegrated n && !s.canBusOff n && !s.canMuted n then s.lowest n ((List.range 96).filter (s.candidate n)) else none
/-- The frame of object or buffer `b`: words 0 and 1 and the data that is complete. -/
def State.frameOf (s : State) (n b : Nat) : List Word :=
  [s.bufWord n b 0, s.bufWord n b 1] ++ (List.range 16).map (fun w =>
    if b < 64 then (alGet (s.can n).objData (16 * b + w)).getD 0 else s.bufWord n b (w + 2))
/-- The frame goes onto the bus. -/
def State.startFrame (s : State) (n b : Nat) (ws : List Word) : State := s.modCan n (fun x => { x with onBus := some b, frame := ws })

/-! ### Modes (R327, R328, R348) -/

/-- The channel stops: no state of its schedule is kept. -/
def State.canStop (s : State) (n : Nat) : State :=
  let p := canPage n
  let s := (s.wrBit p 0x44 2 false).wr p 0xA0 (setBit (setBit (setFld (setFld (s.rd p 0xA0) 0 3 0) 20 2 0) 16 false) 17 false)
  (s.modCan n (fun c => { c with stopPend := false, onBus := none, abortPend := 0, run := none, lastRef := none, missSuppress := false })).scheduleNow n
/-- The channel enters LISTEN of R348. -/
def State.ttListen (s : State) (n : Nat) : State :=
  ((s.setTt n 1).modCan n (fun c => { c with run := none, lastRef := none, missSuppress := false })).scheduleNow n
/-- CTRL takes a value: MODE, AUTO_RECOVER, WAKE_EN, and RECOVER as a command (R327, R328, R337). -/
def State.canCtrl (s : State) (n : Nat) (v : Word) : State :=
  let p := canPage n
  let old := s.canMode n
  let s := s.wr p 0x40 (v &&& 0x17)
  let new := s.canMode n
  let s := s.when (bit v 3 && s.canBusOff n) (fun t => t.wrBit p 0x44 3 true)
  if old = 0 && new ≠ 0 then
    (s.wrBit p 0x44 2 false).modCan n (fun c => { c with nbt := s.rd p 0x48, dbt := s.rd p 0x4C, tdc := s.rd p 0x50, stopPend := false, stopAt := none })
  else if old ≠ 0 && new = 0 then
    -- the frame that an EVENT channel was offering counts as the frame in progress
    let now := match (s.can n).onBus with
      | some b => some b
      | none => (s.wrFld p 0x40 0 2 old).offered n
    match now with
    | some b => s.modCan n (fun c => { c with stopPend := true, onBus := some b })
    | none =>
      let s := s.when (s.canIntegrated n && !s.canBusOff n) (fun t => t.modCan n (fun c => { c with stopAt := some t.tb.count }))
      s.canStop n
  else if old = 2 && new ≠ 2 then ((((s.setTt n 0).wrBit p 0xA0 16 false).wrFld p 0xA0 20 2 0)).scheduleNow n
  else if old ≠ 2 && new = 2 && s.canIntegrated n then s.ttListen n
  else s
/-- 11 consecutive recessive bits (R327). -/
def State.canIntegrate (s : State) (n : Nat) : State :=
  if s.canDown n || s.canIntegrated n then s
  else
    let s := s.wrBit (canPage n) 0x44 2 true
    if s.canMode n = 2 then s.ttListen n else s

/-! ### Error counters (R336) -/

/-- The error state of ISO 11898-1 for a pair of counters. -/
def errState (tec rec : Nat) : Nat := if 255 < tec then 2 else if 127 < tec || 127 < rec then 1 else 0
/-- The counters take values; a change of state is reported, and an entry into bus-off ends every transmission. -/
def State.setErrCnt (s : State) (n tec rec : Nat) : State :=
  let p := canPage n
  let old := s.canErr n
  let new := errState tec rec
  let s := s.wr p 0x54 (w32 (min tec 0x1FF + 0x1_0000 * min rec 0x1FF))
  if old = new then s
  else
    let s := (s.wrFld p 0x44 0 2 new).raise (178 + 5 * n) (w32 new) (s.rd p 0x54) 0
    if new = 2 then
      ((s.sat16 p 0x68).wrBit p 0x44 3 (s.rb p 0x40 2)).modCan n (fun c => { c with onBus := none })
    else s.wrBit p 0x44 3 false
/-- A successful transmission and a successful reception by ISO 11898-1 (PRESUMED); the value that a receive counter above
127 takes is that standard's own choice, a free value. -/
def State.txOk (s : State) (n : Nat) : State := s.setErrCnt n (s.rf (canPage n) 0x54 0 9 - 1) (s.rf (canPage n) 0x54 16 9)
def State.rxOk (s : State) (n : Nat) : State :=
  let r := s.rf (canPage n) 0x54 16 9
  if r = 0 then s
  else if r ≤ 127 then s.setErrCnt n (s.rf (canPage n) 0x54 0 9) (r - 1)
  else (s.setErrCnt n (s.rf (canPage n) 0x54 0 9) (119 + (Config.freeWord s.freeIx).toNat % 9)).draw

/-! ### Reception (R329 to R332) -/

/-- The identifier, IDE and FDF bits of a frame as words 0 of the tables have them. -/
def frameKey (f : CanFrame) : Word :=
  w32 ((if f.ide then f.id % 2 ^ 29 else f.id % 2 ^ 11 * 2 ^ 18) + b2n f.ide * 2 ^ 29 + b2n f.fdf * 2 ^ 30)
/-- Pair `p` is enabled and matches. -/
def State.pairMatches (s : State) (n p : Nat) (k : Word) : Bool :=
  bit (s.tab (canPage n) (4 * p + 2)) 0 && ((k ^^^ s.tab (canPage n) (4 * p)) &&& s.tab (canPage n) (4 * p + 1)) &&& 0x7FFF_FFFF = 0
/-- The instant of a start-of-frame `back` ns ago. -/
def State.sofTime (s : State) (back : Nat) : Nat := s.tb.count - back
/-- The queue entry of R332. -/
def rxEntry (f : CanFrame) (pair seq sof : Nat) : List Word :=
  [frameKey f ||| w32 (b2n f.brs * 2 ^ 31),
    w32 (f.dlc % 16 + 16 * b2n f.esi + 32 * b2n f.rtr + 256 * pair + 0x1_0000 * (seq % 0x1_0000)), w32 sof, w32 (sof / 2 ^ 32)] ++
    (List.range 16).map (fun j => bytesWord (f.data.drop (4 * j)))
/-- A frame goes to receive queue `q`. -/
def State.rxPush (s : State) (n q pair : Nat) (f : CanFrame) (sof : Nat) : State :=
  let c := s.can n
  let full := if q = 0 then 32 ≤ c.rxq0.length else 64 ≤ c.rxq1.length
  if full then (if q = 0 then s.sat16 (canPage n) 0x64 else s.sat16hi (canPage n) 0x64)
  else
    let e := rxEntry f pair (if q = 0 then c.seq0 else c.seq1) sof
    let s := s.modCan n (fun c =>
      if q = 0 then { c with rxq0 := c.rxq0 ++ [e], seq0 := (c.seq0 + 1) % 0x1_0000 }
      else { c with rxq1 := c.rxq1 ++ [e], seq1 := (c.seq1 + 1) % 0x1_0000 })
    s.when (bit (s.tab (canPage n) (4 * pair + 2)) 3) (fun t => t.raise (176 + 5 * n) (w32 q) (e.getD 0 0) 0)
/-- A frame received without error. -/
def State.canReceive (s : State) (n : Nat) (f : CanFrame) (sof : Nat) : State :=
  let s := ((s.capture n sof).inc32 (canPage n) 0x58).rxOk n
  match (List.range 128).find? (fun p => s.pairMatches n p (frameKey f)) with
  | none => s.sat16 (canPage n) 0x60
  | some p =>
    let s := s.rxSignals 4 (n + 8 * p) f.data
    let dest := fld (s.tab (canPage n) (4 * p + 2)) 1 2
    if dest = 1 then s.rxPush n 0 p f sof else if dest = 2 then s.rxPush n 1 p f sof else s
/-- RXQq_POP: word 1 of the head entry, which is removed (R332). -/
def State.rxqPop (s : State) (n q : Nat) : State × Word :=
  match (if q = 0 then (s.can n).rxq0 else (s.can n).rxq1) with
  | [] => (s, 0xFFFF_FFFF)
  | e :: _ => (s.modCan n (fun c => if q = 0 then { c with rxq0 := c.rxq0.tail } else { c with rxq1 := c.rxq1.tail }), e.getD 1 0)

/-! ### Time-triggered references (R338 to R349) -/

/-- The frame has a reference identifier of the channel. -/
def State.isRefId (s : State) (n : Nat) (f : CanFrame) : Bool := !f.ide && !f.fdf && f.id / 8 = s.refId n / 8
/-- The channel's own REF_ID has been seen from another node, or its reference's data suffered (R349). -/
def State.inhibitMaster (s : State) (n : Nat) : State :=
  let s := (s.wrBit (canPage n) 0xA0 17 true).ttErr n 4 0
  if s.ttState n = 4 then s.setTt n 3 else s
/-- R349 for a received frame, in TT mode. -/
def State.ownIdSeen (s : State) (n : Nat) (f : CanFrame) : State :=
  if s.canMode n = 2 && !f.ide && f.id = s.refId n then s.inhibitMaster n else s
/-- A new basic cycle begins: its count, and the schedule at Cycle_Count 0. -/
def State.basicCycle (s : State) (n cc : Nat) : State :=
  let s := s.wrFld (canPage n) 0xA0 8 6 cc
  if cc = 0 then s.applySchedule n else s
/-- The Cycle_Count after the present one: it runs through the matrix (DEDUCED from R348 and its example). -/
def State.nextCount (s : State) (n : Nat) : Nat := (s.cycleCount n + 1) % s.matrixLen n
/-- Deviation D of R345 in 2^−16 NTU. -/
def State.deviation (s : State) (n mrm mark : Nat) : Int :=
  signed 32 ((mrm * 65536 + 2 ^ 33 - mark % 2 ^ 32 - (s.rd (canPage n) 0xA4).toNat) % 2 ^ 32)
/-- OFFSET takes Master_Ref_Mark minus the mark. -/
def State.setOffset (s : State) (n mrm mark : Nat) : State := s.wr (canPage n) 0xA4 (w32 (mrm * 65536 + 2 ^ 32 - mark % 2 ^ 32))
/-- The generator period, and TT_RATE with it. -/
def State.setPeriod (s : State) (n p : Nat) : State :=
  (s.modCan n (fun c => { c with period := p })).wr (canPage n) 0xA8 (wInt ((p : Int) - (s.ntuNs n * 65536 : Nat)))
/-- The time base takes this channel as source 2. -/
def State.isTbChannel (s : State) (n : Nat) : Bool := s.rf 0x05 0x50 16 3 = n
/-- The correction of R343 in FOLLOWER. -/
def State.trimPeriod (s : State) (n sof mrm : Nat) : State :=
  let ntu := s.ntuNs n * 65536
  if s.tbActive = 2 && s.isTbChannel n then s.setPeriod n ntu
  else match (s.can n).lastRef with
    | none => s
    | some (t0, m0) =>
      let dm := (mrm + 0x1_0000 - m0) % 0x1_0000
      if dm = 0 then s
      else s.setPeriod n (max (ntu - ntu / 1000) (min (ntu + ntu / 1000) ((sof - t0) * 65536 / dm)))
/-- θ of R343. -/
def State.ttTheta (s : State) (n sof mrm : Nat) : Int :=
  let ntu : Int := s.ntuNs n
  let m := ntu * 65536
  let x := (ntu * mrm - sof) % m
  if 2 * x < m then x else x - m
/-- A reference in OBSERVE: the run goes on, closes or breaks (R348). -/
def State.observe (s : State) (n cc : Nat) (onGuard : Bool) : State :=
  match (s.can n).run with
  | none => if cc = 0 then s.modCan n (fun c => { c with run := some 1 }) else s
  | some k =>
    if !onGuard || cc ≠ k % s.matrixLen n then (s.modCan n (fun c => { c with run := none })).ttErr n 6 0
    else if k = s.matrixLen n then (s.modCan n (fun c => { c with run := none })).setTt n 3
    else s.modCan n (fun c => { c with run := some (k + 1) })
/-- A valid reference message of another node, with its start-of-frame and the local time since the last mark. -/
def State.reference (s : State) (n : Nat) (f : CanFrame) (sof elapsed : Nat) : State :=
  let p := canPage n
  let b (j : Nat) : Nat := (f.data.getD j 0).toNat
  let cc := b 0 % 64
  let mrm := b 2 + 256 * b 3
  let mark := ((s.can n).refMark + elapsed) % 2 ^ 32
  let dev := s.deviation n mrm mark
  let inGuard : Bool := dev.natAbs ≤ s.driftGuard n * 65536
  let st := s.ttState n
  let sameMaster : Bool := (s.rd p 0xB8).toNat = f.id % 2048
  let s := (s.wr p 0xB8 (w32 (f.id % 2048))).wrFld p 0xA0 20 2 0
  let s := s.modCan n (fun c => { c with refMark := mark, missSuppress := false, lastRef := if sameMaster then c.lastRef else none })
  let s :=
    if st = 1 then if cc = 0 then ((s.setTt n 2).modCan n (fun c => { c with run := some 1 })).setOffset n mrm mark else s
    else if st = 2 then
      let fresh := (s.can n).run.isNone
      let s := s.when (!fresh && inGuard) (fun t => t.wrBit p 0xA0 16 false)
      (s.observe n cc (fresh || inGuard)).setOffset n mrm mark
    else if st = 3 then
      let s := s.wrBit p 0xA0 16 (!inGuard)
      let s := s.when (!inGuard) (fun t => t.ttErr n 3 (wInt dev))
      let s := (s.setOffset n mrm mark).trimPeriod n sof mrm
      s.when (s.isTbChannel n) (fun t => t.tbMeasure 2 sof (t.ttTheta n sof mrm))
    else s
  let s := s.modCan n (fun c => { c with lastRef := some (sof, mrm) })
  s.basicCycle n cc

/-- The channel becomes MASTER: global time goes on as its local time, with OFFSET = 0 and the period NTU_NS (R343, R346;
DEDUCED that L takes the offset over). -/
def State.becomeMaster (s : State) (n : Nat) : State :=
  let off := (s.rd (canPage n) 0xA4).toNat
  let s := s.modCan n (fun c => { c with refMark := (c.refMark + off) % 2 ^ 32, run := none, lastRef := none, missSuppress := false })
  (((s.wr (canPage n) 0xA4 0).setPeriod n (s.ntuNs n * 65536)).wrBit (canPage n) 0xA0 16 false).setTt n 4
/-- The reference message of a channel (R339): a classical frame with REF_ID, DLC 4, Cycle_Count, a zero byte and the global time in
whole NTU. -/
def State.refFrame (s : State) (n cc : Nat) : List Word :=
  [w32 (s.refId n * 2 ^ 18), 4, w32 (cc % 64 + (((s.can n).refMark + (s.rd (canPage n) 0xA4).toNat) / 65536 % 0x1_0000) * 0x1_0000)]
/-- An own reference is sent `ntu` after the last mark, with a Cycle_Count; it begins a basic cycle with no window suppressed for want
of a reference, and ends a row of errors of its identifier (R350). -/
def State.ownReference (s : State) (n ntu cc : Nat) : State :=
  let s := (((s.capture n s.tb.count).inc32 (canPage n) 0x5C).txOk n).modCan n (fun c => { c with
    refMark := (c.refMark + ntu * 65536) % 2 ^ 32
    missSuppress := false
    coll := alDel c.coll (s.refId n * 2 ^ 18) })
  let s := s.modCan n (fun c => { c with frame := s.refFrame n cc })
  ((s.wr (canPage n) 0xB8 (w32 (s.refId n))).wrFld (canPage n) 0xA0 20 2 0).basicCycle n cc
/-- The channel may send a reference of its own. -/
def State.maySendRef (s : State) (n : Nat) : Bool :=
  !s.canDown n && s.canMode n = 2 && !s.canBusOff n && !s.canMuted n && s.potMaster n && !s.rb (canPage n) 0xA0 17
/-- A reference is missing (R344). -/
def State.refMissing (s : State) (n : Nat) : State :=
  if s.canDown n || s.canMode n ≠ 2 || s.ttState n < 2 then s
  else
    let p := canPage n
    let st := s.ttState n
    let miss := min 3 (s.rf p 0xA0 20 2 + 1)
    let cc := s.nextCount n
    let s := ((s.wrFld p 0xA0 20 2 miss).sat16 p 0xB4).ttErr n 1 0
    let s := s.modCan n (fun c => { c with refMark := (c.refMark + s.cycLen n * 65536) % 2 ^ 32, missSuppress := true })
    let s := s.basicCycle n cc
    if st = 2 then
      if (s.can n).run.isSome then (s.modCan n (fun c => { c with run := none })).ttErr n 6 0 else s
    else if miss = 3 then (s.ttListen n).ttErr n 2 0 else s

/-! ### Transmission (R333 to R335, R341, R342) -/

/-- The identifier of a buffer as reported by CAN_ID_COLLISION: an 11-bit identifier stands at [28:18]. -/
def State.collKey (s : State) (n : Nat) (b : Option (Fin 96)) : Nat :=
  match b with
  | some b => s.bufId n b.val
  | none => s.refId n * 2 ^ 18
/-- Requested buffers whose frames fit a number of half-ns. -/
def State.fitting (s : State) (n room : Nat) : List Nat :=
  ((List.range 32).map (64 + ·)).filter (fun b => s.candidate n b && s.worstHalfNs n (s.bufWord n b 0) (s.bufWord n b 1) ≤ room)
/-- Requests of event buffers (R334). -/
def State.evbRequest (s : State) (n : Nat) (v : Word) : State :=
  (s.wr (canPage n) 0x80 (s.rd (canPage n) 0x80 ||| v)).modCan n (fun c => { c with abortPend := c.abortPend &&& (0xFFFF_FFFF ^^^ v.toNat) })
/-- Aborts: a frame in progress goes on, and the abort then acts only if it fails. -/
def State.evbAbortReq (s : State) (n : Nat) (v : Word) : State :=
  (List.range 32).foldl (fun t b =>
    if bit v b && t.rb (canPage n) 0x80 b then
      if (t.can n).onBus = some (64 + b) then t.modCan n (fun c => { c with abortPend := c.abortPend ||| 2 ^ b })
      else t.wrBit (canPage n) 0x80 b false
    else t) s
/-- The 64-bit time of a TB_NS that lies in the past (R331). -/
def State.pairTime (s : State) (ns : Word) : Nat :=
  let e := s.tb.count / 2 ^ 32
  (if s.tb.count % 2 ^ 32 < ns.toNat then e - 1 else e) * 2 ^ 32 + ns.toNat
/-- Event buffer `b` is a candidate whose frame, started at `sof`, fits the arbitrating window that last began (R342). -/
def State.inWindow (s : State) (n b sof : Nat) : Bool :=
  s.canMode n = 2 && 3 ≤ s.ttState n && !s.canMuted n && 64 ≤ b && s.candidate n b && (s.can n).winFrom ≤ sof &&
    2 * sof + s.worstHalfNs n (s.bufWord n b 0) (s.bufWord n b 1) ≤ 2 * (s.can n).winTo
/-- The channel can have had the frame of `b` on the bus from `sof` on: a window or a stop has it in progress, an EVENT channel has it
as a candidate (R335), or it started later in an arbitrating window, first or again (R342). -/
def State.maySend (s : State) (n b sof : Nat) : Bool :=
  !s.pageHeld (canPage n) && !s.canBusOff n && s.canIntegrated n &&
    ((s.can n).onBus = some b || (s.canMode n = 1 && s.candidate n b) || s.inWindow n b sof)
/-- A frame has been sent (R333 to R335). -/
def State.txDone (s : State) (n b : Nat) (sofNs : Word) : State :=
  let sof := s.pairTime sofNs
  if !s.maySend n b sof then s
  else
    let p := canPage n
    let s := if (s.can n).onBus = some b then s else s.startFrame n b (s.frameOf n b)
    let s := ((s.capture n sof).inc32 p 0x5C).txOk n
    let w1 := s.bufWord n b 1
    let x := s.bufId n b
    let s :=
      if b < 64 then
        let again := bit w1 8 || decide (sof < (alGet (s.can n).readyAt b).getD 0)
        if again then s else s.setObjReady n b false
      else s.wrBit p 0x80 (b - 64) false
    let s := s.modCan n (fun c => { c with
      onBus := none
      coll := alDel c.coll x
      abortPend := if b < 64 then c.abortPend else c.abortPend &&& (0xFFFF_FFFF ^^^ 2 ^ (b - 64)) })
    let s := s.when (bit w1 9) (fun t => t.raise (177 + 5 * n) (w32 b) sofNs 0)
    if (s.can n).stopPend then s.canStop n else s
/-- The start-of-frame of a frame that ended in an error is captured like any other (R142, R331); how long ago it came is a free
value. -/
def State.captureErred (s : State) (n : Nat) : State :=
  if (List.range 4).any (fun k => s.rb 0x05 (0xA0 + 0x10 * k) 8 && s.rf 0x05 (0xA0 + 0x10 * k) 0 7 = n) then
    (s.capture n (s.tb.count - (Config.freeWord s.freeIx).toNat)).draw
  else s
/-- A bus error (R334 to R337, R349, R350). -/
def State.frameError (s : State) (n : Nat) (own : Bool) (b : Option (Fin 96)) (fl : CanField) (tec rec : Nat) : State :=
  if s.pageHeld (canPage n) || s.canBusOff n || !(s.canIntegrated n) then s
  else
    let p := canPage n
    let s := s.captureErred n
    let s :=
      if !own then s
      else
        let x := s.collKey n b
        let counts := match fl with | .control | .data | .crc => true | _ => false
        let k := if counts then (alGet (s.can n).coll x).getD 0 + 1 else 0
        let s := s.modCan n (fun c => { c with coll := if k = 0 || k = 3 then alDel c.coll x else alSet c.coll x k, onBus := none })
        let s := s.when (k = 3) (fun t => (t.wr p 0x6C (w32 x)).raise (180 + 5 * n) (w32 x) 0 0)
        let s := s.when (b.isNone && fl = .data && s.canMode n = 2) (fun t => t.inhibitMaster n)
        match b with
        | some b =>
          if 64 ≤ b.val && (s.can n).abortPend.testBit (b.val - 64) then
            (s.wrBit p 0x80 (b.val - 64) false).modCan n (fun c => { c with abortPend := c.abortPend &&& (0xFFFF_FFFF ^^^ 2 ^ (b.val - 64)) })
          else s
        | none => s
    let s := s.setErrCnt n tec rec
    if own && (s.can n).stopPend then s.canStop n else s

/-- Row of the matrix in force, and the cell of window `w`. -/
def State.cell (s : State) (n w : Nat) : Word := s.tab (canPage n) (0x2000 + 32 * (s.cycleCount n % s.matrixLen n) + w)
/-- START of an exclusive window (R341, R337, R387). -/
def State.exclusiveWindow (s : State) (n w : Nat) (busIdle : Bool) : State :=
  let p := canPage n
  let c := s.cell n w
  if s.canDown n || s.canMode n ≠ 2 || fld c 0 2 ≠ 1 || fld (s.tab p (0x1400 + w)) 16 16 = 0 || s.ttState n < 3 then s
  else if s.canBusOff n then s.sat16 p 0xAC
  else if s.canMuted n || s.rb p 0xA0 16 || (s.can n).missSuppress then s
  else if !busIdle then (s.sat16hi p 0xAC).ttErr n 5 0
  else
    let o := fld c 2 6
    if s.objReady n o then s.startFrame n o (s.frameOf n o) else (s.sat16 p 0xB0).startFrame n o [s.bufWord n o 0, 0]
/-- START of an arbitrating window (R342): only a synchronised channel sends in it (DEDUCED from R348). -/
def State.arbitratingWindow (s : State) (n w : Nat) : State :=
  if s.canDown n || s.canMode n ≠ 2 || fld (s.cell n w) 0 2 ≠ 2 || s.ttState n < 3 || s.canBusOff n || s.canMuted n then s
  else
    let len := s.ntuNs n * fld (s.tab (canPage n) (0x1400 + w)) 16 16
    let t := s.modCan n (fun c => { c with winFrom := s.tb.count, winTo := s.tb.count + len })
    match s.lowest n (s.fitting n (2 * s.ntuNs n * fld (s.tab (canPage n) (0x1400 + w)) 16 16)) with
    | none => t
    | some b => t.startFrame n b (s.frameOf n b)

/-! ### Rows -/

def execCanIntegrated (n : Fin 6) (s : State) := answer s (s.canIntegrate n.val)
/-- A frame that was on the bus when MODE was written to OFF is still received (R327). -/
def State.lateFrame (s : State) (n : Nat) (f : CanFrame) (sof : Nat) : State :=
  if !s.pageHeld (canPage n) && (s.can n).stopAt.any (fun t => decide (sof < t)) then
    (s.modCan n (fun c => { c with stopAt := none })).canReceive n f sof
  else s
/-- A valid frame of another node (R329 to R332, R349). -/
def execCanFrameReceived (n : Fin 6) (f : CanFrame) (sofBack : Nat) (s : State) :=
  answer s (
    if s.canDown n.val then s.lateFrame n.val f (s.sofTime sofBack)
    else if !s.canIntegrated n.val || s.canBusOff n.val then s.capture n.val (s.sofTime sofBack)
    else
      let s := s.canReceive n.val f (s.sofTime sofBack)
      let s := s.when (s.canMode n.val = 2 && s.isRefId n.val f && f.dlc < 4) (fun t => t.sat16hi (canPage n.val) 0xB4)
      s.ownIdSeen n.val f)
def execCanTxDone (n : Fin 6) (buf : Fin 96) (sofNs : Word) (s : State) := answer s (s.txDone n.val buf.val sofNs)
def execCanFrameError (n : Fin 6) (own : Bool) (buf : Option (Fin 96)) (fl : CanField) (tec rec : Nat) (s : State) :=
  answer s (s.frameError n.val own buf fl tec rec)
/-- The end of bus-off recovery (R337). -/
def execCanBusoffRecovered (n : Fin 6) (s : State) :=
  answer s (if s.canBusOff n.val && s.rb (canPage n.val) 0x44 3 then s.setErrCnt n.val 0 0 else s)
/-- A reference message of another node arrives (R338, R339, R343, R345, R348, R349); bus-off stops only the reception of
its frame (R337). -/
def execCanReferenceReceived (n : Fin 6) (f : CanFrame) (sofBack elapsed : Nat) (s : State) :=
  answer s (
    if s.canDown n.val then s.lateFrame n.val f (s.sofTime sofBack)
    else if !s.canIntegrated n.val then s.capture n.val (s.sofTime sofBack)
    else
      let sof := s.sofTime sofBack
      let s := if s.canBusOff n.val then s.capture n.val sof else s.canReceive n.val f sof
      if s.canMode n.val ≠ 2 || !s.isRefId n.val f then s
      else if f.dlc < 4 then s.sat16hi (canPage n.val) 0xB4
      else (s.ownIdSeen n.val f).reference n.val f sof elapsed)
def execCanReferenceMissing (n : Fin 6) (s : State) := answer s (s.refMissing n.val)
/-- The master sends its reference at CYC_LEN, or loses it to a lower identifier (R346). -/
def execCanMasterReferenceSend (n : Fin 6) (lostTo : Option Nat) (s : State) :=
  answer s (
    if !s.maySendRef n.val || s.ttState n.val ≠ 4 then s
    else match lostTo with
      | none => s.ownReference n.val (s.cycLen n.val) (s.nextCount n.val)
      | some _ => s.setTt n.val 3)
/-- A potential master's own reference, armed after CYC_LEN (R346). -/
def execCanBackupReferenceSend (n : Fin 6) (lostTo : Option Nat) (s : State) :=
  answer s (
    if !s.maySendRef n.val || s.ttState n.val ≠ 3 || lostTo.isSome then s
    else
      (s.ownReference n.val (s.cycLen n.val + s.driftGuard n.val + 2 + s.refId n.val % 8) (s.nextCount n.val)).becomeMaster n.val)
/-- INIT_WATCH passes without a reference (R347, R348). -/
def execCanInitWatchExpiry (n : Fin 6) (lostTo : Option Nat) (s : State) :=
  answer s (
    if s.canDown n.val || s.canMode n.val ≠ 2 then s
    else if s.ttState n.val = 2 then s.ttListen n.val
    else if s.ttState n.val ≠ 1 || !s.maySendRef n.val then s
    else match lostTo with
      | none => (s.ownReference n.val (s.rf (canPage n.val) 0x9C 0 16) 0).becomeMaster n.val
      | some _ => (s.setTt n.val 2).modCan n.val (fun c => { c with run := none }))
def execCanExclusiveWindow (n : Fin 6) (w : Fin 32) (busIdle : Bool) (s : State) := answer s (s.exclusiveWindow n.val w.val busIdle)
def execCanArbitratingWindow (n : Fin 6) (w : Fin 32) (s : State) := answer s (s.arbitratingWindow n.val w.val)

end Sys2Proof.Machine
end

