-- ==== Sys2Proof/Machine/Mvb.lean ====
section
/-! DEFINITION. The MVB controller (R355 to R361, R379): redundant lines, hosted ports, the poll list and the
bus-administrator role. -/

namespace Sys2Proof.Machine

/-- STAT.ROLE: 0 SLAVE, 1 STANDBY, 2 MASTER. -/
def State.mvbRole (s : State) : Nat := s.rf 0x18 0x44 0 2
/-- The controller runs; in the power-fail sequence it is silent (R43). -/
def State.mvbUp (s : State) : Bool := s.pageUp 0x18 && !s.pins.pfActive
/-- MVB_ERR with a code of R379. -/
def State.mvbErr (s : State) (code : Nat) : State := s.raise 213 (w32 code) 0 0
/-- The controller is muted in OUTRIDER: it starts no frame of its own (R387). -/
def State.mvbMuted (s : State) : Bool := s.role = 2 && s.rb 0x50 0x54 8
/-- The 1,024 ms of R361 begin to run. -/
def State.mvbCalm (s : State) : State := { s with mvb := { s.mvb with calm := true, collAt := s.tb.count } }
/-- The role changes; MASTER's beginning and end are reported (R360). -/
def State.setMvbRole (s : State) (r : Nat) : State :=
  let old := s.mvbRole
  let s := { (s.wrFld 0x18 0x44 0 2 r) with mvb := { s.mvb with claim := false, heard := if r = 1 then s.tb.count else s.mvb.heard } }
  if old = 2 && r ≠ 2 then s.raise 212 0 0 0 else if old ≠ 2 && r = 2 then s.mvbCalm.raise 212 1 0 0 else s
/-- The role follows CFG.BA_EN. -/
def State.mvbCfg (s : State) : State :=
  if s.rb 0x18 0x40 0 then (if s.mvbRole = 0 then s.setMvbRole 1 else s)
  else if s.mvbRole ≠ 0 then s.setMvbRole 0 else s

/-- Line monitoring of R356 for one line: the frame was valid on it, and on the other line. -/
def State.mvbLine (s : State) (b : Bool) (valid other : Bool) : State :=
  let miss := if b then s.mvb.missB else s.mvb.missA
  let ok := if b then s.mvb.okB else s.mvb.okA
  let fb := if b then 6 else 5
  let miss' := if valid then 0 else if other then miss + 1 else miss
  let ok' := if valid then ok + 1 else 0
  let s := { s with mvb := if b then { s.mvb with missB := miss', okB := ok' } else { s.mvb with missA := miss', okA := ok' } }
  let s := s.when (!valid && other) (fun t => if b then t.sat16hi 0x18 0x54 else t.sat16 0x18 0x54)
  let s := s.when (16 ≤ miss') (fun t => t.wrBit 0x18 0x44 fb true)
  s.when (16 ≤ ok') (fun t => t.wrBit 0x18 0x44 fb false)
/-- The trusted line, and the consequences of line failures. -/
def State.mvbTrusted (s : State) : Bool := s.rb 0x18 0x44 4
def State.mvbLines (s : State) (a b : Bool) : State :=
  let s := (s.mvbLine false a b).mvbLine true b a
  let fa := s.rb 0x18 0x44 5
  let fb := s.rb 0x18 0x44 6
  if fa && fb then
    if s.mvb.bothRaised then s else { s.mvbErr 1 with mvb := { s.mvb with bothRaised := true } }
  else
    let s := { s with mvb := { s.mvb with bothRaised := false } }
    let bad := if s.mvbTrusted then fb else fa
    if bad then (s.wrBit 0x18 0x44 4 (!s.mvbTrusted)).raise 211 (w32 (b2n (!s.mvbTrusted))) 0 0 else s

/-- Word 0 of hosted port `p`; it is enabled with this address and F-code. -/
def State.portWord (s : State) (p : Nat) : Word := s.tab 0x18 (0x400 + 16 * p)
def State.portIs (s : State) (p addr fc : Nat) (source : Bool) : Bool :=
  let w := s.portWord p
  bit w 31 && fld w 0 12 = addr && fld w 12 3 = fc && bit w 16 == source
/-- Time of a port's last update or answer. -/
def State.portStamp (s : State) (p : Nat) : State := s.setTab 0x18 (0x409 + 16 * p) s.ns

/-- The administrator has met another (R360, R361). -/
def State.mvbForeign (s : State) : State :=
  let j := if s.mvb.coll = 12 then 1 else s.mvb.coll + 1
  ({ s with mvb := { s.mvb with coll := j, calm := false, due := [], asked := none } }.setMvbRole 1).mvbErr 3
/-- The device address (R379). -/
def State.mvbAddress (s : State) : Nat := s.rf 0x18 0x40 16 12
/-- The data bytes of hosted port `p`, as many as F-code `fc` has. -/
def State.portData (s : State) (p fc : Nat) : List Byte := (s.tabBytes 0x18 (0x401 + 16 * p) 8).take (2 * 2 ^ fc)
/-- A slave frame goes out as the answer to the master frame. -/
def State.mvbAnswer (s : State) (d : List Byte) : State := { s with mvb := { s.mvb with asked := none, answer := d } }
/-- The silence time of R360 with the collision delay of R361, in ns. -/
def State.mvbSilence (s : State) : Nat :=
  (4 + s.rf 0x18 0x40 4 4 + (if s.mvb.coll ≠ 0 && s.mvbAddress.testBit (s.mvb.coll - 1) then 2 else 0)) * 1_000_000
/-- A valid master frame. -/
def State.mvbMaster (s : State) (port fc : Nat) (own : Bool) : State :=
  let s := if own then s else if s.mvbRole = 2 then s.mvbForeign else s.when (s.mvbRole = 1 && !s.mvb.calm) State.mvbCalm
  let s := { s with mvb := { s.mvb with claim := s.mvb.claim && own, heard := s.tb.count } }
  let s := s.when own (fun t => { t.inc32 0x18 0x4C with mvb := { t.mvb with due := t.mvb.due.tail } })
  let s := { s with mvb := { s.mvb with asked := some (port, fc) } }
  if s.mvbMuted then s
  else if fc = 15 then (if port = s.mvbAddress then s.mvbAnswer (natBytes 2 (s.rf 0x18 0x48 0 16)) else s)
  else
    let src := (List.range 256).filter (fun p => s.portIs p port fc true)
    src.foldl (fun t p =>
      let t := (t.portStamp p).mvbAnswer (t.portData p fc)
      t.when (bit (t.portWord p) 17) (fun u => u.raise 209 (w32 p) 0 0)) s
/-- A valid slave frame: sink ports of the address that was asked take it. -/
def State.mvbSlave (s : State) (d : List Byte) : State :=
  match s.mvb.asked with
  | none => s
  | some (port, fc) =>
    let s := { s with mvb := { s.mvb with asked := none } }
    if d.length ≠ 2 * 2 ^ fc then s.mvbErr 4
    else
      let sinks := (List.range 256).filter (fun p => s.portIs p port fc false)
      sinks.foldl (fun t p =>
        let t := t.setTabBytes 0x18 (0x401 + 16 * p) 8 (d ++ List.replicate (32 - d.length) 0)
        let t := (t.portStamp p).rxSignals 5 p d
        t.when (bit (t.portWord p) 17) (fun u => u.raise 208 (w32 p) 0 0)) s
/-- Whether a line carried a valid frame. -/
def mvbValid : MvbFrame → Bool
  | .bad => false
  | _ => true
/-- An own master frame. -/
def mvbOwn : MvbFrame → Bool
  | .master _ _ own => own
  | _ => false
/-- One frame on both lines. A trusted line that does not carry the module's own master frame while the module
sends it shows a collision (R360); a frame valid on neither line is a frame error. -/
def State.mvbFrame (s : State) (a b : MvbFrame) : State :=
  let va := mvbValid a
  let vb := mvbValid b
  let t := s.mvbTrusted
  let trusted := if t then b else a
  let other := if t then a else b
  let s := s.mvbLines va vb
  let sending := mvbOwn other || (s.mvb.asked.isNone && !s.mvb.due.isEmpty)
  if s.mvbRole = 2 && !mvbValid trusted && sending then s.mvbForeign
  else match (if mvbValid trusted then trusted else other) with
    | .bad => s.mvbErr 4
    | .master p fc own => s.mvbMaster p fc own
    | .slave d => s.mvbSlave d

/-! ### Poll list (R358, R359) -/

/-- A poll entry is due in basic period `b`. -/
def pollDue (w : Word) (b : Nat) : Bool := bit w 31 && b % 2 ^ fld w 16 4 = fld w 20 10 % 2 ^ fld w 16 4
/-- Cost of a poll in 0.1 µs; of an F-code beyond R355 only the master frame and the reply allowance (DEDUCED). -/
def pollCost (w : Word) : Nat := 647 + [220, 327, 540, 1020, 1980].getD (fld w 12 3) 0
/-- The entries in use of a list of poll words. -/
def State.pollIx (s : State) (next : Bool) : List Nat :=
  let isPoll (k : Nat) : Bool := keyPage k = 0x18 && keyIsTab k && keyOff k < 0x400
  let l := (s.regs.filter (fun c => isPoll c.1)).map (fun c => keyOff c.1)
  let l := if next then l ++ (s.shadow.filter (fun c => isPoll c.1)).map (fun c => keyOff c.1) else l
  (l.eraseDups).mergeSort (fun a b => a ≤ b)
/-- The largest sum of the costs due in one basic period. -/
def maxLoad (ws : List Word) : Nat :=
  (List.range 1024).foldl (fun m b => max m (((ws.filter (fun w => pollDue w b)).map pollCost).foldl (· + ·) 0)) 0
/-- The macro-period start: the poll list's boundary (R84, R359). A fraction of a µs in LOAD_MAX is rounded as the
implementation has it: a free value. -/
def State.applyPolls (s : State) : State :=
  let all := fun k : Nat => keyIsTab k
  if (s.shadows 0x18 all).isEmpty then s
  else
    let m := maxLoad ((s.pollIx true).map (fun e => s.nextKey (tk 0x18 e)))
    if 9000 < m then ((s.dropShadows 0x18 all).accessFault .hw (addrOf 0x18 0x20) 9).mvbErr 2
    else
      let up := if m % 10 = 0 then 0 else (Config.freeWord s.freeIx).toNat % 2
      ((s.draw.applyShadows 0x18 all).wr 0x18 0x58 (w32 (m / 10 + up)))
/-- Time comes to the start of the next basic period, a multiple of 1 ms (R358). -/
def State.toBasicPeriod (s : State) : State :=
  let s := s.advanceTo (nextInstant 0 1_000_000 s.tb.count s.mvb.lastStart)
  { s with mvb := { s.mvb with lastStart := some s.tb.count } }
/-- A basic period starts (R358, R360). -/
def State.basicPeriod (s : State) : State :=
  if !s.mvbUp then s
  else
    let s := s.toBasicPeriod
    let b := s.tb.count / 1_000_000 % 1024
    let s := s.wrFld 0x18 0x44 16 10 b
    let s := if b = 0 then s.applyPolls else s
    let s := if s.mvbRole = 1 && s.mvb.claim && !s.mvbMuted then s.setMvbRole 2 else s
    if s.mvbRole = 2 && !s.mvbMuted then
      { s with mvb := { s.mvb with due := (s.pollIx false).filter (fun e => pollDue (s.tab 0x18 e) b), asked := none } }
    else s

/-! ### Rows -/

def execMvbFrameReceived (a b : MvbFrame) (s : State) := answer s (if s.mvbUp then s.mvbFrame a b else s)
def execMvbBasicPeriod (s : State) := answer s s.basicPeriod
/-- A slave frame is missing (R358). -/
def execMvbPollMiss (e : Nat) (s : State) :=
  answer s (if s.mvbUp && s.mvbRole = 2 then
      { (s.sat16 0x18 0x50).raise 210 (w32 e) (w32 (fld (s.tab 0x18 (e % 1024)) 0 12)) 0 with mvb := { s.mvb with asked := none } }
    else s)
/-- The silence time, lengthened by R361, passes: MASTER from the next basic-period start (R360). -/
def execMvbSilenceExpiry (s : State) :=
  answer s (if s.mvbUp && s.mvbRole = 1 then
      let t := s.advanceTo (s.mvb.heard + s.mvbSilence)
      { t with mvb := { t.mvb with claim := true } }
    else s)
/-- 1,024 ms as MASTER, or beside another administrator, pass without a further collision: the count returns to 0 (R361). -/
def execMvbCollisionReset (s : State) :=
  answer s (if s.mvbUp && s.mvbRole ≠ 0 && s.mvb.calm && s.mvb.coll ≠ 0 then
      let t := s.advanceTo (s.mvb.collAt + 1_024_000_000)
      { t with mvb := { t.mvb with coll := 0 } }
    else s)

end Sys2Proof.Machine
end

