-- ==== Sys2Proof/Machine/Ethernet.lean ====
section
/-! DEFINITION. The Ethernet switch, precision time and the datasets (R362 to R370, R380, R381). -/

namespace Sys2Proof.Machine

def State.ethUp (s : State) : Bool := s.pageUp 0x20 && s.dataPlaneUp
/-- PORT_CFG of an external port, its enable and its link. -/
def State.portCfg (s : State) (n : Nat) : Word := s.rd 0x20 (0x40 + 4 * n)
def State.portOn (s : State) (n : Nat) : Bool := n = 4 || (bit (s.portCfg n) 8 && s.rb 0x20 (0x50 + 4 * n) 0)
/-- 64-bit counter `c` of a port advanced by `k` (R380). -/
def State.portCount (s : State) (n c k : Nat) : State :=
  let ix := 0x2000 + 16 * n + 2 * c
  let v := (s.tab 0x20 ix).toNat + 2 ^ 32 * (s.tab 0x20 (ix + 1)).toNat + k
  (s.setTab 0x20 ix (w32 v)).setTab 0x20 (ix + 1) (w32 (v / 2 ^ 32))
/-- Queue of a frame: PCP_MAP of its ingress port at its PCP (R363). -/
def State.queueOf (s : State) (n : Nat) (f : EthFrame) : Nat :=
  let pcp := match f.pcp with
    | some p => p % 8
    | none => if n < 4 then fld (s.portCfg n) 16 3 else 0
  fld (s.rd 0x20 (0x60 + 4 * n)) (3 * pcp) 3
/-- The MAC address of peer `m`. -/
def State.peerMac (s : State) (m : Nat) : Nat :=
  (s.tab 0x20 (0x1000 + 4 * m)).toNat + 2 ^ 32 * fld (s.tab 0x20 (0x1001 + 4 * m)) 0 16
/-- A MAC address stands in the peer directory (R367). -/
def State.isPeer (s : State) (mac : Nat) : Bool := (List.range 1024).any (fun m => s.peerMac m = mac && mac ≠ 0)

/-! ### Gates (R364) -/

/-- Gate states of the entry in force on an external port. -/
def State.gates (s : State) (n : Nat) : Nat := fld (s.tab 0x20 (256 * n + s.net.gate.getD n 0)) 0 8
/-- Interval of gate entry `i` of a port, entries in use, CYCLE_NS and BASE. -/
def State.gateSpan (s : State) (n i : Nat) : Nat := fld (s.tab 0x20 (256 * n + i)) 8 24
def State.gateUsed (s : State) (n : Nat) : Nat := fld (s.tab 0x20 (0x403 + 4 * n)) 0 9
def State.gateCycle (s : State) (n : Nat) : Nat := (s.tab 0x20 (0x400 + 4 * n)).toNat
def State.gateBase (s : State) (n : Nat) : Nat := (s.tab 0x20 (0x401 + 4 * n)).toNat + 2 ^ 32 * (s.tab 0x20 (0x402 + 4 * n)).toNat
/-- The next start of a list cycle: BASE + n · CYCLE_NS. -/
def State.cycleEnd (s : State) (n : Nat) : Nat := nextInstant (s.gateBase n) (s.gateCycle n) s.tb.count (some (s.net.cycAt.getD n 0))
/-- Entries with the instants at which they begin, the first of `l` at `at_`. -/
def State.gateStarts (s : State) (n : Nat) : List Nat → Nat → List (Nat × Nat)
  | [], _ => []
  | i :: r, at_ => (at_, fld (s.tab 0x20 (256 * n + i)) 0 8) :: s.gateStarts n r (at_ + s.gateSpan n i)
/-- When the gate of queue `q` closes next, in this list cycle or the one after; none where no entry closes it. -/
def State.gateCloses (s : State) (n q : Nat) : Option Nat :=
  let i := s.net.gate.getD n 0
  let rest := ((List.range (s.gateUsed n)).drop (i + 1))
  let l := s.gateStarts n rest (s.net.gateAt.getD n 0 + s.gateSpan n i) ++ s.gateStarts n (List.range (s.gateUsed n)) (s.cycleEnd n)
  (l.find? (fun e => !e.2.testBit q)).map Prod.fst
/-- Time that a frame takes at the link's speed, its preamble with it (IEEE 802.3; PRESUMED), in ns. -/
def State.wireTime (s : State) (n len : Nat) : Nat := (len + 8) * (if s.rf 0x20 (0x50 + 4 * n) 1 2 = 2 then 8 else 80)
/-- The frame may start: its gate is open and stays so until its transmission has ended (R364). -/
def State.mayStart (s : State) (e : EgressFrame) : Bool :=
  (s.gates e.port).testBit e.queue && (match s.gateCloses e.port e.queue with | none => true | some t => s.tb.count + s.wireTime e.port e.len < t)
/-- A frame leaves on a port. -/
def State.sendFrame (s : State) (e : EgressFrame) : State :=
  let s := (s.portCount e.port 1 1).portCount e.port 3 e.len
  { s with net := { s.net with sent := s.net.sent.set e.port e.corr, wire := s.net.wire.set e.port e.bytes } }
/-- A frame goes to an egress queue of an external port, and leaves at once where it may start. -/
def State.enqueue (s : State) (e : EgressFrame) : State :=
  if s.mayStart e then s.sendFrame e else { s with net := { s.net with egress := s.net.egress ++ [e] } }
/-- Frames of one port that may start leave, the highest-numbered queue first (R363). -/
def State.drainPort (s : State) (n : Nat) : State :=
  let go := [7, 6, 5, 4, 3, 2, 1, 0].flatMap (fun q => s.net.egress.filter (fun e => e.port = n && e.queue = q && s.mayStart e))
  let t := { s with net := { s.net with egress := s.net.egress.filter (fun e => !(e.port = n && s.mayStart e)) } }
  go.foldl State.sendFrame t
/-- Key of a gate-list word of port `n`. -/
def isGateKey (n k : Nat) : Bool :=
  keyIsTab k && ((256 * n ≤ keyOff k && keyOff k < 256 * n + 256) || (0x400 + 4 * n ≤ keyOff k && keyOff k < 0x404 + 4 * n))
/-- The list of port `n` with its shadows is acceptable (R364). -/
def State.gateListOk (s : State) (n : Nat) : Bool :=
  let nx (ix : Nat) : Word := s.nextKey (tk 0x20 ix)
  let cyc := (nx (0x400 + 4 * n)).toNat
  let used := fld (nx (0x403 + 4 * n)) 0 9
  1000 ≤ cyc && cyc ≤ 1_000_000_000 && ((List.range used).map (fun i => fld (nx (256 * n + i)) 8 24)).foldl (· + ·) 0 ≤ cyc
/-- A cycle start: a list written applies at the first one at or after its BASE. -/
def State.gateBoundary (s : State) (n : Nat) : State :=
  let nx (ix : Nat) : Word := s.nextKey (tk 0x20 ix)
  if (s.shadows 0x20 (isGateKey n)).isEmpty || s.tb.count < (nx (0x401 + 4 * n)).toNat + 2 ^ 32 * (nx (0x402 + 4 * n)).toNat then s
  else if s.gateListOk n then s.applyShadows 0x20 (isGateKey n)
  else (s.dropShadows 0x20 (isGateKey n)).raise 219 (w32 n) 1 0

/-! ### Precision time (R368 to R370) -/

/-- An event message of versionPTP 2. -/
def ptpEvent (f : EthFrame) : Bool :=
  f.ptpVersion = 2 && (match f.ptp with | .sync | .delayReq | .pdelayReq | .pdelayResp => true | _ => false)
/-- A PTP message of versionPTP 2. -/
def isPtp (f : EthFrame) : Bool := f.ptpVersion = 2 && f.ptp ≠ .none
/-- The address of the gPTP frames. -/
def gptpMac : Nat := 0x0180_C200_000E
/-- What the transparent clock makes of a frame that another port forwards. -/
inductive TcRule where
  | forward
  | correct
  | cpuOnly
  | drop
  deriving DecidableEq, Repr
/-- R369; a Pdelay_Resp_Follow_Up has no time on the wire to correct. -/
def tcRule (mode : Nat) (f : EthFrame) : TcRule :=
  if !isPtp f then .forward
  else if f.dst = gptpMac && f.encap = .l2 then .cpuOnly
  else match f.ptp with
    | .sync => if mode = 0 then .forward else if mode = 3 then .cpuOnly else .correct
    | .delayReq => if mode = 0 then .forward else if mode = 1 then .correct else if mode = 2 then .drop else .cpuOnly
    | .pdelayReq | .pdelayResp => if mode = 0 then .forward else if mode = 1 then .correct else .cpuOnly
    | .pdelayFollowUp => if mode ≤ 1 then .forward else .cpuOnly
    | _ => .forward
/-- LAT_RX and LAT_TX of a port. -/
def State.latRx (s : State) (n : Nat) : Nat := s.rf 0x21 (0x50 + 4 * n) 0 16
def State.latTx (s : State) (n : Nat) : Nat := s.rf 0x21 (0x50 + 4 * n) 16 16
/-- messageType of an event message. -/
def ptpType : PtpMsg → Nat
  | .sync => 0
  | .delayReq => 1
  | .pdelayReq => 2
  | .pdelayResp => 3
  | _ => 0

/-! ### Forwarding (R362, R365) -/

/-- 6 bytes of a MAC address, first octet first. -/
def macBytes (m : Nat) : List Byte := (natBytes 6 m).reverse
/-- The bytes of a frame. -/
def frameBytes (f : EthFrame) : List Byte :=
  macBytes f.dst ++ macBytes f.src ++
    (match f.pcp with | some p => [0x81, 0x00, BitVec.ofNat 8 (p % 8 * 32), 0x00] | none => []) ++
    (natBytes 2 f.ethertype).reverse ++ f.payload
/-- A frame is delivered to a receive queue of port 4. -/
def State.deliverCpu (s : State) (n : Nat) (f : EthFrame) (ingress : Nat) : State :=
  let q := s.queueOf n f
  let ev := ptpEvent f
  let pre := bytesOf (if ev then w32 ingress else 0) ++ bytesOf (if ev then w32 (ingress / 2 ^ 32) else 0) ++
    bytesOf (w32 (n + 256 * b2n ev + 0x1_0000 * (f.len % 0x1_0000))) ++ bytesOf 0
  let s := { s with net := { s.net with rxQ := s.net.rxQ.modify q (fun l => l ++ [pre ++ frameBytes f]) } }
  let s := (s.portCount 4 1 1).portCount 4 3 f.len
  let s := s.when (s.rb 0x20 0x80 q) (fun t => t.raise 217 (w32 q) 0 0)
  s.when ev (fun t => t.raise 220 (w32 n) (w32 ingress) 0)
/-- `v` in `n` bytes, most significant first, at a place of a list of bytes. -/
def putBe (l : List Byte) (at_ n v : Nat) : List Byte := l.take at_ ++ (natBytes n v).reverse ++ l.drop (at_ + n)
/-- The number of `n` bytes at a place, most significant first. -/
def getBe (l : List Byte) (at_ n : Nat) : Nat := ((l.drop at_).take n).foldl (fun a b => a * 256 + b.toNat) 0
/-- Where a PTP message begins in the payload: after the IP and UDP headers without options. -/
def ptpAt : PtpEncap → Nat
  | .l2 => 0
  | .udp4 => 28
  | .udp6 => 48
  | .udp6short => 48
/-- The payload with another correctionField (R370): over IPv4 the UDP checksum is zero, over IPv6 the two bytes after the message
take up the difference, as the one's complement sum counts it. -/
def correctPayload (f : EthFrame) (corr : Nat) : List Byte :=
  let a := ptpAt f.encap
  let p := putBe f.payload (a + 8) 8 corr
  match f.encap with
  | .udp4 => putBe p 26 2 0
  | .udp6 =>
    let t := a + getBe f.payload (a + 2) 2
    let sum (l : List Byte) : Nat := getBe l (a + 8) 2 + getBe l (a + 10) 2 + getBe l (a + 12) 2 + getBe l (a + 14) 2
    putBe p t 2 ((getBe f.payload t 2 + sum f.payload + 4 * 0xFFFF - sum p) % 0xFFFF)
  | _ => p
/-- A frame from port `n` goes out on external port `o`, corrected or not (R370). -/
def State.emitOn (s : State) (n o : Nat) (f : EthFrame) (correct : Bool) (ingress egressDelay : Nat) : State :=
  let cap := s.tb.count + egressDelay
  let egress := cap + s.latTx o
  let q := s.queueOf n f
  let s := s.when (ptpEvent f) (fun t => t.capture (10 + o) cap)
  if n = 4 && ptpEvent f then
    let ix := 4 * (f.sequenceId % 64)
    let w := w32 (f.sequenceId % 0x1_0000 + 0x1_0000 * ptpType f.ptp + 0x10_0000 * o + 2 ^ 31)
    (((s.setTab 0x21 ix w).setTab 0x21 (ix + 1) (w32 egress)).setTab 0x21 (ix + 2) (w32 (egress / 2 ^ 32))).enqueue ⟨o, q, f.len, f.corr, frameBytes f⟩
  else if !correct then s.enqueue ⟨o, q, f.len, f.corr, frameBytes f⟩
  else if f.encap = .udp6short then (s.sat16 0x21 0x70).enqueue ⟨o, q, f.len, f.corr, frameBytes f⟩
  else
    let r := egress - ingress
    let link := if s.rf 0x21 0x40 0 2 = 2 && n < 4 then s.rf 0x21 (0x60 + 4 * n) 0 24 else 0
    let link := if f.ptp = .sync then link else 0
    let s := (s.inc32 0x21 0x74).wr 0x21 0x78 (w32 (max (s.rf 0x21 0x78 0 24) (min 0xFF_FFFF r)))
    let c := (f.corr + (r + link) * 65536) % 2 ^ 64
    s.enqueue ⟨o, q, f.len, c, frameBytes { f with payload := correctPayload f c }⟩
/-- Ports that a frame from `n` is forwarded to: the learned one, or all other enabled ports. -/
def State.ethTargets (s : State) (n : Nat) (f : EthFrame) : List Nat :=
  let others := [0, 1, 2, 3, 4].filter (fun o => o ≠ n && s.portOn o)
  if f.dst / 2 ^ 40 % 2 = 1 then others
  else match alGet s.net.addrs f.dst with
    | some o => if o = n then [] else others.filter (fun x => x = o)
    | none => others
/-- Learning (R362). -/
def State.learn (s : State) (mac n : Nat) : State :=
  if mac / 2 ^ 40 % 2 = 1 || ((alGet s.net.addrs mac).isNone && 4096 ≤ s.net.addrs.length) then s
  else
    let a := alSet s.net.addrs mac n
    ({ s with net := { s.net with addrs := a, seen := alSet s.net.seen mac s.tb.count } }).wr 0x20 0x88 (w32 a.length)
/-- The frame is the partner's heartbeat (R391). -/
def State.isHeartbeat (s : State) (f : EthFrame) : Bool :=
  f.ethertype = 0x88B5 && f.src = (s.rd 0x50 0x4C).toNat + 2 ^ 32 * s.rf 0x50 0x50 0 16
/-- The frame of the highest non-empty transmit queue leaves port 4 (R365). -/
def State.popTx (s : State) : State :=
  match [7, 6, 5, 4, 3, 2, 1, 0].find? (fun q => !(s.net.txQ.getD q []).isEmpty) with
  | none => s
  | some q => { s with net := { s.net with txQ := s.net.txQ.modify q List.tail } }
/-- The frame is the one that port 4 sends next: it heads the highest non-empty transmit queue. -/
def State.cpuSends (s : State) (f : EthFrame) : Bool :=
  match [7, 6, 5, 4, 3, 2, 1, 0].find? (fun q => !(s.net.txQ.getD q []).isEmpty) with
  | none => false
  | some q => (s.net.txQ.getD q []).head? = some (frameBytes f)
/-- A frame enters the switch on port `n` (4: from the service cores). -/
def State.ethFrame (s : State) (n : Nat) (f : EthFrame) (egressDelay : Nat) : State :=
  if !s.ethUp || !s.portOn n || (n = 4 && !s.cpuSends f) then s
  else
    let s := if n = 4 then s.popTx else s
    if !f.fcsOk then s.portCount n 6 1
    else if f.len < 64 || 1522 < f.len then s.portCount n 4 1
    else if n < 4 && bit (s.portCfg n) 9 && !s.isPeer f.src then s.sat16 0x20 0x84
    else
      let s := ((s.portCount n 0 1).portCount n 2 f.len).learn f.src n
      let ingress := s.tb.count - s.latRx n
      let s := s.when (n < 4 && ptpEvent f) (fun t => t.capture (6 + n) t.tb.count)
      let s := s.when (n = s.rf 0x21 0x40 8 2 && ptpEvent f && f.ptp = .sync && f.domain = s.rf 0x21 0x40 16 8)
        (fun t => t.raise 221 (w32 (f.sequenceId % 0x1_0000)) 0 0)
      if s.isHeartbeat f then s
      else
        let rule := if n = 4 then TcRule.forward else tcRule (s.rf 0x21 0x40 0 2) f
        match rule with
        | .drop => s
        | .cpuOnly => s.deliverCpu n f ingress
        | r => (s.ethTargets n f).foldl (fun t o =>
            if o = 4 then t.deliverCpu n f ingress else t.emitOn n o f (r = .correct) ingress egressDelay) s

/-! ### Datasets (R366, R367) -/

/-- Input dataset `d` is complete: its signals and its peer's station. -/
def State.dsCommitted (s : State) (d : Nat) : State :=
  let w := s.tab 0x20 (0x800 + d)
  if !s.ethUp || bit w 11 || fld w 0 11 = 0 then s
  else
    let s := s.rxSignals 6 d (dsBytes s.net.dsReady d (s.dsSize d))
    let p3 := s.tab 0x20 (0x1003 + 4 * fld w 16 10)
    s.when (bit p3 22) (fun t => t.stationSeen (fld p3 16 6))
/-- OUT_SEQ: the write bank of the output datasets becomes the ready bank; in a service pause the output datasets hold (R437). -/
def State.outSeq (s : State) (k : Word) : State :=
  if !s.ethUp || s.role = 2 || s.inPause then s
  else
    let isOut (c : Host.Cell) : Bool := bit (s.tab 0x20 (0x800 + c.1 / 2048)) 11
    let out : List Host.Cell := s.net.dsWrite.filter isOut
    let keep : List Host.Cell := s.net.dsReady.filter (fun c => !isOut c)
    let s := { s with net := { s.net with dsReady := out.foldl (fun b (c : Host.Cell) => stSet 0 b c.1 c.2) keep } }
    (s.wr 0x20 0x7C k).raise 218 k 0 0

/-! ### Rows -/

def execEthFrameReceived (port : Fin 5) (f : EthFrame) (egressDelay : Nat) (s : State) := answer s (s.ethFrame port.val f egressDelay)
/-- A link goes up, at the speed set or at the one negotiated, or down (R362). -/
def execEthLink (port : Fin 4) (up : Bool) (speed : Nat) (s : State) :=
  answer s (
    let off := 0x50 + 4 * port.val
    if !s.ethUp || s.rb 0x20 off 0 = up || (up && !bit (s.portCfg port.val) 8) then s
    else
      let set := fld (s.portCfg port.val) 0 2
      ((s.wr 0x20 off (if up then w32 (1 + 2 * (if set = 0 then speed % 4 else set)) else 0)).raise 216 (w32 port.val) (w32 (b2n up)) 0))
/-- An address ages out: 300 s have passed since it was last seen. -/
def execEthAddressAgeing (mac : Nat) (s : State) :=
  answer s (
    let s := match alGet s.net.seen mac with
      | none => s
      | some t => s.advanceTo (t + 300_000_000_000)
    let a := alDel s.net.addrs mac
    if a.length = s.net.addrs.length then s else ({ s with net := { s.net with addrs := a } }).wr 0x20 0x88 (w32 a.length))
/-- Time comes to the next gate entry of a port; after the last one, and after a step of the time base, to the next cycle start, which
is a list's boundary (R364, R378). -/
def State.gateNext (s : State) (n : Nat) : State :=
  let i := s.net.gate.getD n 0
  let put (t : State) (g c : Nat) : State :=
    { t with net := { t.net with gate := t.net.gate.set n g, gateAt := t.net.gateAt.set n t.tb.count, cycAt := t.net.cycAt.set n c } }
  if s.gateUsed n ≤ i + 1 || s.net.gateAt.getD n 0 < s.tb.lastStep then
    let t := (s.advanceTo (s.cycleEnd n)).gateBoundary n
    put t 0 t.tb.count
  else put (s.advanceTo (s.net.gateAt.getD n 0 + s.gateSpan n i)) (i + 1) (s.net.cycAt.getD n 0)
/-- A gate-list entry becomes due; `waited` says that the oldest frame of the port has waited a whole cycle (R364). -/
def execEthGateChange (port : Fin 4) (waited : Bool) (s : State) :=
  answer s (
    if !s.ethUp then s
    else
      let n := port.val
      let s := (s.gateNext n).drainPort n
      if waited then
        match s.net.egress.find? (fun e => e.port = n) with
        | none => s
        | some e => (({ s with net := { s.net with egress := s.net.egress.erase e } }).portCount n 7 1).raise 219 (w32 n) 2 0
      else s)
def execOutSeqWrite (k : Word) (s : State) := answer s (s.outSeq k)

end Sys2Proof.Machine
end

