-- ==== Sys2Proof/Machine/Camera.lean ====
section
/-! DEFINITION. Camera ports and camera processing (R255 to R265, R293 to R295): link states, packets, frames, lines, the
rings of the line store and the tunnelled I2C. -/

namespace Sys2Proof.Machine

/-! ### Arithmetic -/

/-- A quotient; where it is not whole, its rounding is the implementation's. -/
def fixRound (num : Int) (den : Nat) : Int :=
  if num % den = 0 then num / den else num / den + (Config.roundUp num den % 2 : Nat)
/-- A value clipped to 0 … `hi`. -/
def clipNat (hi : Nat) (x : Int) : Nat := (max 0 (min (hi : Int) x)).toNat

/-! ### Fields -/

/-- LINK_STAT.STATE: 0 STOPPED, 1 LINKING, 2 WAIT_FS, 3 STREAMING. -/
def State.camState (s : State) (c : Nat) : Nat := s.rf (camPage c) 0xA8 0 3
def State.camLinkUp (s : State) (c : Nat) : Bool := s.rb (camPage c) 0xA8 8
def State.camNext (s : State) (c off : Nat) : Word := s.nextKey (rk (camPage c) off)
def State.camWidth (s : State) (c : Nat) : Nat := s.rf (camPage c) 0x4C 0 12
def State.camHeight (s : State) (c : Nat) : Nat := s.rf (camPage c) 0x4C 16 12
def State.camDepth (s : State) (c : Nat) : Nat := s.rf (camPage c) 0x54 16 9
/-- Frame period of camera `c` in 2^−16 ns, from the words in force and from those with their shadows (R293). -/
def State.camPeriod (s : State) (c : Nat) : Nat := (s.rd 0x48 (0x40 + 0x20 * c)).toNat + 2 ^ 32 * s.rf 0x48 (0x44 + 0x20 * c) 0 24
def State.camPeriodNext (s : State) (c : Nat) : Nat :=
  (s.nextKey (rk 0x48 (0x40 + 0x20 * c))).toNat + 2 ^ 32 * fld (s.nextKey (rk 0x48 (0x44 + 0x20 * c))) 0 24
def State.camUp (s : State) (c : Nat) : Bool := s.pageUp (camPage c) && s.dataPlaneUp && !s.pageHeld 0x30
/-- A port that is not STOPPED. -/
def State.camRunning (s : State) (c : Nat) : Bool := s.camState c ≠ 0
/-- Bits per pixel of a data type; 0 for one that R255 does not support as pixels. -/
def dtBits (dt : Nat) : Nat := if dt = 0x2B then 10 else if dt = 0x2C then 12 else if dt = 0x2E then 16 else if dt = 0x2F then 20 else 0
/-- Rate of an A-PHY gear in bit/s (R255). -/
def gearRate (g : Nat) : Nat := [0, 2, 4, 8, 12, 16, 0, 0].getD g 0 * 1_000_000_000

/-! ### Structural check (R264, R286, R293) -/

/-- The words that count for a camera: those with their shadows for the port that enters LINKING, those in force for the others. -/
def State.camWord (s : State) (coming : Bool) (c off : Nat) : Word := if coming then s.camNext c off else s.rd (camPage c) off
/-- First byte and length of a camera's ring. -/
def State.ringOf (s : State) (coming : Bool) (c : Nat) : Nat × Nat :=
  (fld (s.camWord coming c 0x54) 0 14 * 1024, fld (s.camWord coming c 0x4C) 0 12 * fld (s.camWord coming c 0x54) 16 9 * 4)
/-- The other running cameras. -/
def State.othersRunning (s : State) (c : Nat) : List Nat := (List.range 8).filter (fun x => x ≠ c && s.camRunning x)
/-- A sum of fractions as numerator and denominator. -/
def addFrac (a b : Nat × Nat) : Nat × Nat := (a.1 * b.2 + b.1 * a.2, a.2 * b.2)
/-- WIDTH · VTOTAL · f of a camera as a fraction of pixels per second. -/
def State.pixRate (s : State) (coming : Bool) (c : Nat) : Nat × Nat :=
  (fld (s.camWord coming c 0x4C) 0 12 * fld (s.camWord coming c 0x50) 0 12 * 1_000_000_000 * 65536,
    max 1 (if coming then s.camPeriodNext c else s.camPeriod c))
/-- The camera-stage load of a list of running cameras. -/
def State.pixLoad (s : State) (l : List Nat) : Nat × Nat := (l.map (s.pixRate false)).foldl addFrac (0, 1)
/-- The configuration of camera `c`, with its shadows, passes the checks made at the entry into LINKING. -/
def State.camConfigOk (s : State) (c : Nat) : Bool :=
  let fmt := s.camNext c 0x48
  let w := fld (s.camNext c 0x4C) 0 12
  let h := fld (s.camNext c 0x4C) 16 12
  let vt := fld (s.camNext c 0x50) 0 12
  let depth := fld (s.camNext c 0x54) 16 9
  let gear := fld (s.camNext c 0x44) 0 3
  let p := s.camPeriodNext c
  let (base, len) := s.ringOf true c
  let rate := s.pixRate true c
  let load := addFrac (s.pixLoad (s.othersRunning c)) rate
  dtBits (fld fmt 0 6) ≠ 0 && 1 ≤ gear && gear ≤ 5 && 64 ≤ w && w ≤ 3840 && w % 8 = 0 && 64 ≤ h && h ≤ 2160 && h + 4 ≤ vt &&
    8 ≤ depth && depth ≤ 136 && base + len ≤ 16_777_216 &&
    (s.othersRunning c).all (fun x => decide (base + len ≤ (s.ringOf false x).1) ||
      decide ((s.ringOf false x).1 + (s.ringOf false x).2 ≤ base)) &&
    load.1 ≤ 4_800_000_000 * load.2 &&
    rate.1 * dtBits (fld fmt 0 6) * 5 ≤ gearRate gear * 4 * rate.2 &&
    8_333_333 * 65536 ≤ p && p ≤ 100_000_000 * 65536 && (s.nextKey (rk 0x48 (0x48 + 0x20 * c))).toNat * 65536 < p

/-- VIS.LS_USED and PIX_LOAD follow the running cameras. -/
def State.visLoad (s : State) : State :=
  let l := (List.range 8).filter s.camRunning
  let kb := ((l.map (fun c => (s.ringOf false c).2)).foldl (· + ·) 0 + 1023) / 1024
  let x := s.pixLoad l
  (s.wr 0x30 0x40 (w32 kb)).wr 0x30 0x44 (w32 ((x.1 + 1_000_000 * x.2 - 1) / (1_000_000 * x.2)))

/-- Key of a structural word of camera `c` (R260) and of its words in VTIM (R306). -/
def isStructural (k : Nat) : Bool := !keyIsTab k && [0x44, 0x48, 0x4C, 0x50, 0x54].contains (keyOff k)
def isVtimCam (c k : Nat) : Bool := !keyIsTab k && 0x40 + 0x20 * c ≤ keyOff k && keyOff k < 0x54 + 0x20 * c
/-- The inputs of the offset computation have changed (R300). -/
def State.offsetsStale (s : State) : State := { s with views := s.views.map (fun v => { v with ofsDone := false }) }

/-! ### Link states (R260) -/

/-- A packet fails a check (R256): the frame in progress is bad; between frames there is none to mark, and only CAM_FRAME_ERR
follows. -/
def State.camCheckFail (s : State) (c code : Nat) : State := if (s.cam c).opened then s.camBad c code else s.camErr c code
/-- LINK_STAT's state and link bit; a change of the link is reported. -/
def State.setCam (s : State) (c st : Nat) : State :=
  let up := decide (2 ≤ st)
  let was := s.camLinkUp c
  let s := ((s.wrFld (camPage c) 0xA8 0 3 st).wrBit (camPage c) 0xA8 8 up).visLoad
  if up = was then s else s.raise (128 + 2 * c) (w32 c) (w32 (b2n up)) 0
/-- A transaction on the back channel ends with TIMEOUT as the link drops (R282). -/
def State.i2cAbort (s : State) (c : Nat) : State :=
  if s.rb (camPage c) 0xA4 0 then s.wr (camPage c) 0xA4 0xA else s
/-- The port stops. -/
def State.camStop (s : State) (c : Nat) : State :=
  if s.camState c = 0 then s
  else ((s.setCam c 0).modCam c (fun x => { x with opened := false, raw := [] })).i2cAbort c
/-- Camera `c` takes waiting values of VTIM; the views that follow it pass through WAIT (R305). -/
def State.camRetime (s : State) (c : Nat) : State :=
  if (s.shadows 0x48 (isVtimCam c)).isEmpty then s
  else
    let t := (List.range 6).foldl (fun t v => if t.rf (0x39 + v) 0x40 8 3 = c then t.modView v (fun x => { x with through := true }) else t) s
    (t.applyShadows 0x48 (isVtimCam c)).offsetsStale
/-- The port enters LINKING where the check of R264 passes; structural values take effect. A ring whose place and shape stay keeps
the lines written before (R282), but none of a port that was STOPPED. -/
def State.camLinking (s : State) (c : Nat) : State :=
  if s.camConfigOk c then
    let keep : Bool := s.camState c ≠ 0 && (s.shadows (camPage c) (fun k => k = rk (camPage c) 0x4C || k = rk (camPage c) 0x54)).isEmpty
    let s := if (s.shadows (camPage c) isStructural).isEmpty then s else (s.applyShadows (camPage c) isStructural).offsetsStale
    let s := s.camRetime c
    let s := s.wrFld (camPage c) 0xA8 4 3 (s.rf (camPage c) 0x44 0 3)
    (s.setCam c 1).modCam c (fun x => { x with
      opened := false
      raw := []
      ring := if keep then x.ring else []
      firstFrame := true
      planned := if keep then x.planned else none
      refIn := if keep then x.refIn else [] })
  else (s.camErr c 7).camStop c
/-- CTRL takes a value (R260). -/
def State.camCtrl (s : State) (c : Nat) (v : Word) : State :=
  let was := s.rb (camPage c) 0x40 0
  let s := s.wr (camPage c) 0x40 (v &&& 3)
  if !was && bit v 0 && s.camState c = 0 && s.camUp c then s.camLinking c
  else if was && !bit v 0 then s.camStop c
  else s

/-! ### Stages (R261) -/

/-- The words of a camera that the stages use. -/
structure Stage where
  bits : Nat
  width : Nat
  height : Nat
  cfa : Nat
  mono : Bool
  pwlEn : Bool
  black : List Nat
  dpc : Word
  ltm : Word
  wb : List Nat
  ccm : List Int
  ofs : List Int
  nr : Nat
  pwl : List Nat
  /-- Histograms of the previous frame, counts by 2^24 · zone + value. -/
  hist : List (Nat × Nat)
/-- The processing values in force. -/
def State.stage (s : State) (c : Nat) : Stage :=
  let p := camPage c
  { bits := dtBits (s.rf p 0x48 0 6), width := s.camWidth c, height := s.camHeight c, cfa := s.rf p 0x48 8 2,
    mono := s.rb p 0x48 10, pwlEn := s.rb p 0x48 16,
    black := [s.rf p 0x58 0 16, s.rf p 0x58 16 16, s.rf p 0x5C 0 16, s.rf p 0x5C 16 16],
    dpc := s.rd p 0x60, ltm := s.rd p 0x64, wb := [s.rf p 0x68 0 16, s.rf p 0x68 16 16, s.rf p 0x6C 0 16],
    ccm := (List.range 9).map (fun j => signed 16 (s.rf p (0x70 + 4 * (j / 2)) (16 * (j % 2)) 16)),
    ofs := (List.range 3).map (fun j => signed 12 (s.rf p (0x84 + 4 * j) 0 12)),
    nr := s.rf p 0x90 0 4, pwl := (List.range 33).map (fun i => fld (s.tab p i) 0 24), hist := (s.cam c).histPrev }
/-- Colour of a Bayer position: 0 red, 1 green, 2 blue. -/
def bayer (cfa y x : Nat) : Nat :=
  let q := 2 * (y % 2) + x % 2
  let g : List Nat := if cfa = 0 then [0, 1, 1, 2] else if cfa = 1 then [1, 0, 2, 1] else if cfa = 2 then [1, 2, 0, 1] else [2, 1, 1, 0]
  g.getD q 1
/-- Raw pixel (y, x) less its black level; none outside the lines held or the image. -/
def stBlack (g : Stage) (raw : List (Nat × List Nat)) (y x : Int) : Option Nat :=
  if y < 0 || x < 0 || (g.width : Int) ≤ x || (g.height : Int) ≤ y then none
  else (alFindLine raw y.toNat).map (fun l => l.getD x.toNat 0 - g.black.getD (2 * (y.toNat % 2) + x.toNat % 2) 0)
where
  /-- The pixels of a raw line that is still held. -/
  alFindLine (raw : List (Nat × List Nat)) (y : Nat) : Option (List Nat) := (raw.find? (fun l => l.1 = y)).map Prod.snd
/-- Offsets of the 8 nearest pixels of the same colour. -/
def dpcOffsets (mono green : Bool) : List (Int × Int) :=
  if mono then [(-1, -1), (-1, 0), (-1, 1), (0, -1), (0, 1), (1, -1), (1, 0), (1, 1)]
  else if green then [(-1, -1), (-1, 1), (1, -1), (1, 1), (-2, 0), (2, 0), (0, -2), (0, 2)]
  else [(-2, -2), (-2, 0), (-2, 2), (0, -2), (0, 2), (2, -2), (2, 0), (2, 2)]
/-- Defect correction: the value that replaces a pixel, none where it stays. With fewer than eight neighbours the manual names no
rule. -/
def dpcFix (g : Stage) (raw : List (Nat × List Nat)) (y x : Nat) : Option Nat :=
  if !bit g.dpc 16 then none
  else
    let px := (stBlack g raw y x).getD 0
    let nb := (dpcOffsets g.mono (bayer g.cfa y x = 1)).filterMap (fun o => stBlack g raw (y + o.1) (x + o.2))
    let t := fld g.dpc 0 12
    if nb.length < 8 then (if Config.dpcEdge nb px = px then none else some (Config.dpcEdge nb px))
    else if nb.foldl max 0 + t < px || px + t < nb.foldl min (2 ^ 24) then some (Config.median8 nb) else none
/-- A pixel after defect correction. -/
def stDpc (g : Stage) (raw : List (Nat × List Nat)) (y x : Nat) : Nat := (dpcFix g raw y x).getD ((stBlack g raw y x).getD 0)
/-- Decompanding to 24 bits. -/
def stPwl (g : Stage) (v : Nat) : Nat :=
  if !g.pwlEn then v * 2 ^ (24 - g.bits)
  else
    let step := 2 ^ (g.bits - 5)
    let y0 : Int := Int.ofNat (g.pwl.getD (v / step) 0)
    let y1 : Int := Int.ofNat (g.pwl.getD (v / step + 1) 0)
    clipNat 0xFF_FFFF (y0 + fixRound ((y1 - y0) * Int.ofNat (v % step)) step)
/-- Zone of a pixel in the grid of 16 × 9, row by row. -/
def zoneOf (g : Stage) (y x : Nat) : Nat := 16 * (y * 9 / max 1 g.height) + x * 16 / max 1 g.width
/-- Histogram of one zone, and of the whole frame, as counts by value. -/
def zoneHist (h : List (Nat × Nat)) (z : Nat) : List (Nat × Nat) :=
  (h.filter (fun e => e.1 / 2 ^ 24 = z)).map (fun e => (e.1 % 2 ^ 24, e.2))
def frameHist (h : List (Nat × Nat)) : List (Nat × Nat) :=
  h.foldl (fun a e => alSet a (e.1 % 2 ^ 24) (stGet 0 a (e.1 % 2 ^ 24) + e.2)) []
/-- Position `i` of `n` pixels among `zones` zone centres: the centre before it, the next one, and the weight of the next one
out of 2 n; beyond the outer centres both are the outer one. -/
def between (zones n i : Nat) : Nat × Nat × Nat :=
  let t : Int := (2 * (i : Int) + 1) * zones - n
  let j := t / (2 * (n : Int))
  if j < 0 then (0, 0, 0) else (j.toNat, min (j.toNat + 1) (zones - 1), (t % (2 * (n : Int))).toNat)
/-- Tone mapping to 14 bits: the curves of the four zone centres around the pixel, blended bilinearly; one curve for the whole frame
at STRENGTH 0. -/
def stTone (g : Stage) (y x v : Nat) : Nat :=
  let curve (h : List (Nat × Nat)) : Nat := Config.toneCurve g.ltm h v % 2 ^ 14
  if !bit g.ltm 8 then curve []
  else if fld g.ltm 0 8 = 0 then curve (frameHist g.hist)
  else
    let (x0, x1, wx) := between 16 g.width x
    let (y0, y1, wy) := between 9 g.height y
    let z (j i : Nat) : Nat := curve (zoneHist g.hist (16 * j + i))
    let w := 2 * g.width
    let h := 2 * g.height
    clipNat 0x3FFF (fixRound (Int.ofNat ((z y0 x0 * (w - wx) + z y0 x1 * wx) * (h - wy) + (z y1 x0 * (w - wx) + z y1 x1 * wx) * wy)) (w * h))
/-- A line's pixels join the histograms of the frame. -/
def addHist (g : Stage) (raw : List (Nat × List Nat)) (y : Nat) (h : List (Nat × Nat)) : List (Nat × Nat) :=
  (List.range g.width).foldl (fun a x =>
    let k := 2 ^ 24 * zoneOf g y x + stPwl g (stDpc g raw y x)
    alSet a k (stGet 0 a k + 1)) h
/-- Tone mapping and white balance. -/
def stWhite (g : Stage) (raw : List (Nat × List Nat)) (y x : Nat) : Nat :=
  let v := stTone g y x (stPwl g (stDpc g raw y x))
  let gain := g.wb.getD (if g.mono then 1 else bayer g.cfa y x) 0x1000
  clipNat 0x3FFF (fixRound (Int.ofNat (v * gain)) 4096)
/-- The five positions around one of `n`, held inside the image. -/
def around (i n : Nat) : List Nat := [i - 2, i - 1, i, min (i + 1) (n - 1), min (i + 2) (n - 1)]
/-- Demosaic, then the colour matrix. -/
def stColour (g : Stage) (raw : List (Nat × List Nat)) (y x : Nat) : List Nat :=
  let rgb : Nat × Nat × Nat :=
    if g.mono then (stWhite g raw y x, stWhite g raw y x, stWhite g raw y x)
    else Config.demosaic g.cfa (y % 2) (x % 2) ((around y g.height).map (fun j => (around x g.width).map (fun i => stWhite g raw j i)))
  (List.range 3).map (fun r =>
    clipNat 0x3FFF (fixRound (g.ccm.getD (3 * r) 0 * rgb.1 + g.ccm.getD (3 * r + 1) 0 * rgb.2.1 + g.ccm.getD (3 * r + 2) 0 * rgb.2.2) 4096 +
      g.ofs.getD r 0))
/-- One processed pixel as a line-store word (R262). -/
def stPixel (g : Stage) (raw : List (Nat × List Nat)) (y x : Nat) : Word :=
  let ch (k : Nat) : Nat :=
    let v := if g.nr = 0 then (stColour g raw y x).getD k 0
      else Config.noise g.nr ((around y g.height).map (fun j => (around x g.width).map (fun i => (stColour g raw j i).getD k 0))) % 2 ^ 14
    clipNat 1023 (fixRound v 16)
  w32 (ch 0 * 2 ^ 20 + ch 1 * 2 ^ 10 + ch 2)

/-! ### Frames and lines -/

/-- Line `y` is finished and stands in its ring slot, tagged and valid (R263, R265). -/
def State.writeSlot (s : State) (c y : Nat) : State :=
  let g := s.stage c
  let raw := (s.cam c).raw
  let pix := (List.range g.width).map (fun i => stPixel g raw y i)
  let e : RingSlot := ⟨y % s.camDepth c, s.rf (camPage c) 0xAC 0 8, true, pix⟩
  s.modCam c (fun x => { x with
    ring := e :: x.ring.filter (fun r => r.slot ≠ e.slot)
    hist := addHist g raw y x.hist
    dpcN := x.dpcN + ((List.range g.width).filter (fun i => (dpcFix g raw y i).isSome)).length })
/-- The slot of a line that is being started holds nothing valid. -/
def State.startSlot (s : State) (c y : Nat) : State :=
  s.modCam c (fun x => { x with ring := x.ring.map (fun r => if r.slot = y % s.camDepth c then { r with valid := false } else r) })
/-- Views that read camera `c`, with whether as SRC_A. -/
def State.viewsOf (s : State) (c : Nat) : List (Nat × Bool) :=
  (List.range 6).flatMap (fun v =>
    (if s.rf (0x39 + v) 0x40 8 3 = c then [(v, true)] else []) ++
      (if s.rb (0x39 + v) 0x40 1 && s.rf (0x39 + v) 0x40 12 3 = c then [(v, false)] else []))
/-- An instant less the planned arrival of line `y` of camera `c` in frame 0 of R294, in 2^−16 ns. -/
def State.pastPlan (s : State) (c y t : Nat) : Int :=
  ((t : Int) - (s.rd 0x48 (0x48 + 0x20 * c)).toNat - (s.rd 0x48 (0x50 + 0x20 * c)).toNat) * 65536 -
    ((y * s.camPeriod c / max 1 (s.rf (camPage c) 0x50 0 12) : Nat) : Int)
/-- The frame index k whose planned arrival of line `y` lies nearest to an instant. -/
def State.planIx (s : State) (c y t : Nat) : Int :=
  let p : Int := max 1 (s.camPeriod c : Nat)
  (2 * s.pastPlan c y t + p) / (2 * p)
/-- CDEV: measured less planned arrival of line 0 (R295). -/
def State.lineDev (s : State) (c t : Nat) : Int :=
  fixRound (s.pastPlan c 0 t - s.planIx c 0 t * (max 1 (s.camPeriod c : Nat) : Nat)) 65536
/-- Line 0 arrives at `t`: CDEV takes its deviation, and the frame has its index. -/
def State.lineZero (s : State) (c t : Nat) : State :=
  (s.wr 0x48 (0x54 + 0x20 * c) (wInt (sat32 (s.lineDev c t)))).modCam c (fun x => { x with planned := some (s.planIx c 0 t, s.rf (camPage c) 0xAC 0 16) })
/-- Line `y` arrives at `t`: the views whose REF_IN it is stamp it, or note that it arrived bad (R302). -/
def State.stampLine (s : State) (c y t : Nat) (good : Bool) : State :=
  let k := s.planIx c y t
  (s.viewsOf c).foldl (fun u (v, a) =>
    if a && u.rf 0x48 (0x200 + 0x20 * v) 0 12 = y then
      u.modCam c (fun x => { x with
        refIn := ((v, k, if good then some t else none) :: x.refIn.filter (fun e => !(e.1 = v && e.2.1 = k))).take 24 })
    else u) s
/-- A good line `y` joins the windows of the stages: line y − 4 leaves them, and the slot of the next one is started (R261, R265,
R294). -/
def State.takeLine (s : State) (c y : Nat) (px : List Nat) : State :=
  let s := s.modCam c (fun x => { x with nextLine := y + 1, raw := ((y, px) :: x.raw).take 13 })
  let s := if 4 ≤ y then s.writeSlot c (y - 4) else s
  if 3 ≤ y then s.startSlot c (y - 3) else s
/-- Image line `y` has arrived at `t` (R256, R261, R263, R295, R302). -/
def State.camLine (s : State) (c y : Nat) (px : List Nat) (full : Bool) (t : Nat) : State :=
  if !s.camUp c || s.camState c ≠ 3 || !(s.cam c).opened then s
  else
    let s := if y = 0 then s.lineZero c t else s
    if (s.cam c).bad then s.stampLine c y t false
    else if full then (s.camBad c 5).stampLine c y t false
    else if s.camHeight c ≤ y || y ≠ (s.cam c).nextLine then (s.camBad c 4).stampLine c y t false
    else if px.length ≠ s.camWidth c then (s.camBad c 3).stampLine c y t false
    else (s.takeLine c y px).stampLine c y t true
/-- A frame start (R259, R260). -/
def State.camFrameStart (s : State) (c : Nat) (no : Nat) : State :=
  if !s.camUp c || s.camState c < 2 then s
  else
    let p := camPage c
    let s := s.when (s.cam c).opened (fun t => t.camBad c 4)
    let s := s.applyShadows p (fun k => !isStructural k)
    let s := ((s.wr p 0xAC (w32 no)).wr p 0xB0 s.ns).capture (14 + c) s.tb.count
    let enter := decide (s.camState c = 2)
    let s := s.when enter (fun t => t.setCam c 3)
    s.modCam c (fun x => { x with
      opened := true
      bad := false
      nextLine := 0
      embBytes := 0
      embTop := 0
      embBot := 0
      dpcN := 0
      raw := []
      histPrev := x.hist
      hist := []
      firstFrame := x.firstFrame || enter })
/-- A frame end: the last four lines leave the stages, and the frame counts as good or bad. -/
def State.camFrameEnd (s : State) (c : Nat) : State :=
  let h := s.camHeight c
  let s := s.when ((s.cam c).nextLine ≠ h) (fun t => t.camBad c 4)
  let s :=
    if (s.cam c).bad then s
    else
      let s := [h - 4, h - 3, h - 2, h - 1].foldl (fun t y => (t.startSlot c y).writeSlot c y) s
      s.inc32 (camPage c) 0xB4
  let s := s.wr (camPage c) 0xC8 (w32 (min 0xF_FFFF (s.cam c).dpcN))
  s.modCam c (fun x => { x with opened := false, raw := [] })
/-- Another embedded line has its place: before or after the image of the frame in progress, 0 to 2 as FORMAT says (R255). -/
def State.embTakes (s : State) (c : Nat) : Bool :=
  let x := s.cam c
  x.opened && ((x.nextLine = 0 && x.embTop < min 2 (s.rf (camPage c) 0x48 12 2)) ||
    (x.nextLine = s.camHeight c && x.embBot < min 2 (s.rf (camPage c) 0x48 14 2)))
/-- An embedded line's bytes go into the table after those before it, up to 4,096 (R257). -/
def State.embLine (s : State) (c : Nat) (d : List Byte) : State :=
  let p := camPage c
  let n := (s.cam c).embBytes
  let s := ((d.take (4096 - n)).zipIdx).foldl (fun t (b, j) =>
    t.setTab p (0x400 + (n + j) / 4) (setFld (t.tab p (0x400 + (n + j) / 4)) (8 * ((n + j) % 4)) 8 b.toNat)) s
  s.modCam c (fun x => { x with
    embBytes := min 4096 (n + d.length)
    embTop := x.embTop + b2n (x.nextLine = 0)
    embBot := x.embBot + b2n (x.nextLine ≠ 0) })
/-- A packet's checks and embedded data (R255 to R257). -/
def State.camPacket (s : State) (c vc dt : Nat) (hdr : Ecc) (crcOk : Bool) (d : List Byte) : State :=
  let p := camPage c
  if !s.camUp c || s.camState c < 2 then s
  else
    let s := s.when (hdr = .corrected) (fun t => t.sat16 p 0xC0)
    if hdr = .uncorrectable then s.camCheckFail c 1
    else if vc ≠ s.rf p 0x44 4 4 then s.sat16 p 0xC4
    else if dt < 4 then s
    else if dt ≠ 0x12 && dt ≠ s.rf p 0x48 0 6 then s.sat16 p 0xC4
    else if dt = 0x12 && !s.embTakes c then s.sat16 p 0xC4
    else if !crcOk then s.camCheckFail c 2
    else if dt = 0x12 then s.embLine c d
    else s

/-! ### I2C (R258) -/

/-- I2C_CMD takes a value; START begins a transaction while none is in progress. -/
def State.i2cCmd (s : State) (c : Nat) (v : Word) : State :=
  let p := camPage c
  if bit v 16 && s.rb p 0xA4 0 then s
  else
    let s := s.wr p 0x94 (v &&& 0x3FFF)
    if bit v 16 then s.wr p 0xA4 (setFld (setFld (s.rd p 0xA4) 2 2 0) 0 1 1) else s
/-- A transaction completes; without a link nothing answers. -/
def State.i2cComplete (s : State) (c : Nat) (ack answered : Bool) (d : List Byte) : State :=
  let p := camPage c
  if !s.rb p 0xA4 0 then s
  else
    let answered := answered && s.camLinkUp c
    let s := s.wr p 0xA4 (w32 (2 + 4 * b2n (answered && !ack) + 8 * b2n (!answered)))
    if answered && ack && s.rb p 0x94 7 then
      let d := d.take (s.rf p 0x94 8 4)
      let old := wordsBytes [s.rd p 0x9C, s.rd p 0xA0]
      let n := d ++ old.drop d.length
      (s.wr p 0x9C (bytesWord n)).wr p 0xA0 (bytesWord (n.drop 4))
    else s

/-! ### Rows -/

def execCamLinkTrained (c : Fin 8) (s : State) := answer s (if s.camUp c.val && s.camState c.val = 1 then s.setCam c.val 2 else s)
def execCamLinkTrainTimeout (c : Fin 8) (s : State) :=
  answer s (if s.camUp c.val && s.camState c.val = 1 then s.sat16 (camPage c.val) 0xCC else s)
/-- The link is lost: a frame in progress ends bad, and the port links again (R260). -/
def execCamLinkLost (c : Fin 8) (s : State) :=
  answer s (if s.camUp c.val && 2 ≤ s.camState c.val then
      let s := (s.camBad c.val 6).setCam c.val 1
      (s.i2cAbort c.val).camLinking c.val
    else s)
def execCamPacket (c : Fin 8) (vc dt : Nat) (hdr : Ecc) (crcOk : Bool) (payload : List Byte) (s : State) :=
  answer s (s.camPacket c.val vc dt hdr crcOk payload)
def execCamFrameStart (c : Fin 8) (frameNo : BitVec 16) (s : State) := answer s (s.camFrameStart c.val frameNo.toNat)
/-- `back` is how many nanoseconds ago the line's last pixel came into VCLK. -/
def execCamLineArrival (c : Fin 8) (y : Nat) (pixels : List Nat) (queueFull : Bool) (back : Nat) (s : State) :=
  answer s (s.camLine c.val y pixels queueFull (s.tb.count - back))
/-- Phase of camera-sync generator `c` in 2^−16 ns (R293). -/
def State.camPhase (s : State) (c : Nat) : Nat :=
  (((s.rd 0x48 (0x48 + 0x20 * c)).toNat : Int) - s.rf 0x48 (0x4C + 0x20 * c) 0 16) * 65536 % (s.camPeriod c : Nat) |>.toNat
/-- The camera generators run: VTIM's values are applied, whatever the port state (R293). -/
def State.camGenerators (s : State) : Bool := !pageAbsent s.variant 0x48 && s.dataPlaneUp && s.booted
/-- The camera-sync generator fires at its next due instant; its edge goes to the sensor over the back channel (R259, R293). -/
def execCameraSyncStrobe (c : Fin 8) (s : State) :=
  answer s (
    if !s.camGenerators then s
    else
      let s := s.fire (1 + c.val) (s.camPhase c.val) (s.camPeriod c.val)
      if s.camUp c.val && s.rb (camPage c.val) 0x40 1 && s.camLinkUp c.val then
        s.modCam c.val (fun x => { x with strobes := x.strobes + 1 }) else s)
def execI2cDone (c : Fin 8) (ack answered : Bool) (data : List Byte) (s : State) := answer s (s.i2cComplete c.val ack answered data)

end Sys2Proof.Machine
end

