-- ==== Sys2Proof/Machine/Watch.lean ====
section
/-! DEFINITION. Frame watch (R308 to R325): camera freshness, the second reader, the display return report, verdicts and
reactions. -/

namespace Sys2Proof

/-! ### The fields of a display report (R314) -/

/-- Byte `j` of a report, and the 16-bit field at bytes `j` and `j` + 1. -/
def Report.byte (r : Report) (j : Nat) : Nat := (r.raw.getD j 0).toNat
def Report.half (r : Report) (j : Nat) : Nat := r.byte j + 256 * r.byte (j + 1)
/-- The fields of a report (R314). -/
def Report.rxFrame (r : Report) : Nat := r.half 2
def Report.group (r : Report) : Nat := r.byte 4
def Report.status (r : Report) : Nat := r.byte 5
def Report.blLevel (r : Report) : Nat := r.byte 6
def Report.blStat (r : Report) : Nat := r.byte 7
def Report.temp (r : Report) : Word := Machine.w32 (r.half 8)
def Report.tile (r : Report) (i : Nat) : Nat := r.half (12 + 2 * i)
/-- Word `j` of a report. -/
def Report.word (r : Report) (j : Nat) : Word := Machine.bytesWord (r.raw.drop (4 * j))
/-- RCRC is the CRC-32 of bytes 0 to 59. -/
def Report.rcrcOk (r : Report) : Bool := r.raw.length = 64 && r.word 15 = Machine.crc32 ((List.range 60).map r.byte)
/-- TYPE, VERSION and RCRC are right, and GROUP is RX_FRAME mod 16 (R316). -/
def Report.valid (r : Report) : Bool := r.byte 0 = 0xE7 && r.byte 1 = 1 && r.rcrcOk && r.group = r.rxFrame % 16

namespace Machine

/-- Offset of a word of view `v` in the FWATCH page. -/
def fwOff (v off : Nat) : Nat := 0x40 + 0x40 * v + off
def viewPage (v : Nat) : Nat := 0x39 + v
def dspPage (d : Nat) : Nat := 0x40 + d
def State.fwUp (s : State) : Bool := s.pageUp 0x49 && s.dataPlaneUp
/-- WSTATv.STATE: 0 OFF, 1 PROVING, 2 OK, 3 FAILED. -/
def State.watchState (s : State) (v : Nat) : Nat := s.rf 0x49 (fwOff v 0xC) 0 2
/-- Check `k` is enabled; it stands in the mask. -/
def State.checkEn (s : State) (v k : Nat) : Bool := s.rb 0x49 (fwOff v 0) k
def State.checkMask (s : State) (v k : Nat) : Bool := s.rb 0x49 (fwOff v 0) (k + 16)
/-- DCTRL.META_EN of display `d`. -/
def State.metaEn (s : State) (d : Nat) : Bool := s.rb (dspPage d) 0x40 16
/-- View `v` is stitched. -/
def State.stitched (s : State) (v : Nat) : Bool := s.rb (viewPage v) 0x40 1
/-- Verdict `k` of 1 to 7 (R319): a disabled check reads 1, one that cannot run reads 0. -/
def State.verdict (s : State) (v k : Nat) : Bool :=
  let w := s.watch v
  if !s.checkEn v k then true
  else if k = 1 then w.freshA && (w.freshB || !s.stitched v)
  else if k = 2 then w.expA && (w.expB || !s.stitched v)
  else if k = 3 then s.metaEn v && w.tileInt
  else if k = 4 then s.metaEn v && w.tileDsp
  else if k = 5 then s.metaEn v && w.dspFresh
  else if k = 6 then s.metaEn v && w.returnOk
  else w.latency
/-- VERDICTv and the demand follow what is known. -/
def State.showVerdict (s : State) (v : Nat) : State :=
  let w := s.watch v
  let bits := (List.range 10).foldl (fun a k =>
    a + (if (if k = 0 then decide (s.watchState v = 2) else if k = 8 then w.demand
      else if k = 9 then w.backlight && s.verdict v 6 else s.verdict v k) then 2 ^ k else 0)) 0
  s.wr 0x49 (fwOff v 8) (w32 (bits + 0x1_0000 * fld w.temp 0 16))
/-- The failed checks as bits 7 to 1. -/
def State.failedChecks (s : State) (v : Nat) : Nat := ([1, 2, 3, 4, 5, 6, 7].map (fun k => if s.verdict v k then 0 else 2 ^ k)).sum
/-- The watch's state, with its count of good frames restarted. -/
def State.setWatch (s : State) (v st : Nat) : State := s.wr 0x49 (fwOff v 0xC) (w32 st)
/-- The watch leaves FAILED, or any state, for another (R320). -/
def State.watchTo (s : State) (v st : Nat) : State :=
  let was := s.watchState v
  let s := (s.setWatch v st).modWatch v (fun w => { w with demand := false, demandBlank := false })
  (s.when (was = 3) (fun t => t.raise 169 (w32 v) 0 0)).showVerdict v
/-- Entry into FAILED with the reaction of R321. -/
def State.watchFailed (s : State) (v : Nat) : State :=
  let react := s.rf 0x49 (fwOff v 0) 8 2
  let s := (s.setWatch v 3).sat16 0x49 (fwOff v 0x34)
  let s := s.when (react = 1 || react = 2) (fun t =>
    (t.modWatch v (fun w => { w with demand := true, demandBlank := decide (react = 2) })).raise 168 (w32 v) (w32 (t.failedChecks v)) 0)
  s.showVerdict v
/-- Check `k` fails (R320, R321). -/
def State.watchFail (s : State) (v k : Nat) : State :=
  let st := s.watchState v
  if st = 0 || !s.checkEn v k then s.showVerdict v
  else
    let s := s.modWatch v (fun w => { w with bad := true })
    let s := s.setWatch v st
    if s.checkMask v k && st ≠ 3 then s.watchFailed v
    else if st = 2 then (s.setWatch v 1).showVerdict v
    else s.showVerdict v
/-- The judgement point of a frame: with every enabled check passed the frame is good (R320). -/
def State.watchFrame (s : State) (v : Nat) : State :=
  let st := s.watchState v
  let good := !(s.watch v).bad && s.failedChecks v = 0
  let s := s.modWatch v (fun w => { w with bad := false })
  if st = 0 then s
  else
    let n := if good then min 255 (s.rf 0x49 (fwOff v 0xC) 8 8 + 1) else 0
    let s := s.wr 0x49 (fwOff v 0xC) (w32 (st + 256 * n))
    let s := s.when (!good && st = 2) (fun t => t.setWatch v 1)
    if max 16 (s.rf 0x49 (fwOff v 0) 24 8) ≤ n then
      if st = 1 then (s.wr 0x49 (fwOff v 0xC) (w32 (2 + 256 * n))).showVerdict v
      else if st = 3 && !s.rb 0x49 (fwOff v 0) 10 then s.watchTo v 1
      else s.showVerdict v
    else s.showVerdict v

/-! ### Camera freshness (R308, R309) -/

/-- One view's judgement of a frame of camera `c`: `why` is the reason of R309, 0 for a fresh frame. -/
def State.judgeView (s : State) (c v : Nat) (isA : Bool) (why no : Nat) (dev : Option Int) : State :=
  if !s.fwUp || !s.rb 0x49 (fwOff v 0) 0 then s
  else
    let tol := s.rf 0x49 (fwOff v 4) 0 16
    let expOk := match dev with | none => true | some d => decide (d.natAbs ≤ tol)
    let s := s.wrFld 0x49 (fwOff v 0x10) (if isA then 0 else 16) 16 no
    let s := s.modWatch v (fun w =>
      let w := if isA then { w with freshA := decide (why = 0) } else { w with freshB := decide (why = 0) }
      match dev with
      | none => w
      | some _ => if isA then { w with expA := expOk } else { w with expB := expOk })
    let s := s.when (why ≠ 0) (fun t => (t.sat16 0x49 (fwOff v 0x1C)).raise 162 (w32 c) (w32 (no % 0x1_0000 + 0x1_0000 * why)) 0)
    let s := s.when (!expOk) (fun t => (t.sat16 0x49 (fwOff v 0x2C)).raise 167 (w32 c) (wInt (dev.getD 0)) 0)
    let s := s.when (why ≠ 0) (fun t => t.watchFail v 1)
    (s.when (!expOk) (fun t => t.watchFail v 2)).showVerdict v
/-- A frame of camera `c` ends, or is missing. -/
def State.judgeCam (s : State) (c : Nat) (missing : Bool) : State :=
  let x := s.cam c
  let no := s.rf (camPage c) 0xAC 0 16
  let why := if missing then 4 else if x.bad then 3 else if x.firstFrame then 0
    else if no = x.prevNo then 1 else if no = (x.prevNo + 1) % 0x1_0000 then 0 else 2
  let dev := if missing then none else some (signed 32 (s.rd 0x48 (0x54 + 0x20 * c)).toNat)
  let s := (s.viewsOf c).foldl (fun t (v, a) => t.judgeView c v a why no dev) s
  if missing then s else s.modCam c (fun x => { x with firstFrame := false, prevNo := no })

/-! ### Reports (R314 to R316) -/

/-- A report arrives. -/
def State.reportIn (s : State) (d : Nat) (r : Report) : State :=
  if !s.fwUp then s
  else if !r.valid then s.sat16 0x49 (fwOff d 0x30)
  else
    let s := s.modDsp d (fun x => { x with report := some r, missRun := 0 })
    let s := s.wr 0x49 (fwOff d 0x14) (w32 (r.rxFrame % 0x1_0000 + 0x1_0000 * (r.group % 16) + 2 ^ 24 * (r.status % 256)))
    let s := s.wr 0x49 (fwOff d 0x18) (w32 (r.blLevel % 256 + 256 * (r.blStat % 4)))
    let s := (List.range 16).foldl (fun t j => t.setTab 0x49 (0x1000 + 0x10 * d + j) (r.word j)) s
    (s.modWatch d (fun w => { w with returnOk := true, backlight := decide (r.blStat % 2 = 1), temp := r.temp })).showVerdict d
/-- The first tile in which a report differs from the history, with 0x0100 for the display's own finding. -/
def reportDiff (hist : List Word) (r : Report) : Option Nat :=
  if r.status / 2 % 2 = 0 || r.status / 4 % 2 = 1 then some 0x100
  else ((List.range 16).find? (fun i => r.tile i ≠ fld (hist.getD (16 * r.group + i) 0) 0 16)).map (fun i => 16 * r.group + i)
/-- An uncorrectable error in the history (R325): ECC_UNCORR, every watch that is not OFF goes into FAILED, and the history begins
again with the next frame. -/
def State.historyLost (s : State) : State :=
  let s := s.raise 23 0x200 0 0
  (List.range 6).foldl (fun t v =>
    let t := t.modDsp v (fun y => { y with hist := [] })
    if t.watchState v = 0 then t
    else
      let t := t.modWatch v (fun w => { w with bad := true })
      if t.watchState v = 3 then t.setWatch v 3 else t.watchFailed v) s
/-- The judgement point of display frame `n` (R316); a report of a frame that the history does not hold is judged as one of another
frame (R322). -/
def State.judgeReport (s : State) (d n : Nat) : State :=
  if !s.fwUp || !s.metaEn d then s.watchFrame d
  else
    let x := s.dsp d
    let s := s.modDsp d (fun y => { y with report := none })
    let s :=
      match x.report with
      | none =>
        let s := (s.sat16hi 0x49 (fwOff d 0x30)).modDsp d (fun y => { y with missRun := y.missRun + 1 })
        if x.missRun + 1 = 3 then
          (((s.modWatch d (fun w => { w with returnOk := false })).raise 166 (w32 d) 0 0)).watchFail d 6
        else s
      | some r =>
        let h := alGet x.hist n
        if r.rxFrame % 0x1_0000 ≠ n || h.isNone then
          ((((s.modWatch d (fun w => { w with dspFresh := false })).sat16 0x49 (fwOff d 0x20)).raise 163 (w32 d) (w32 (r.rxFrame % 0x1_0000)) 0)).watchFail d 5
        else
          let s := s.modWatch d (fun w => { w with dspFresh := true })
          match reportDiff (h.getD []) r with
          | none => s.modWatch d (fun w => { w with tileDsp := true })
          | some t =>
            let p1 := w32 (n * 0x1_0000 + t)
            let s := ((s.modWatch d (fun w => { w with tileDsp := false })).sat16 0x49 (fwOff d 0x28)).wr 0x49 (fwOff d 0x3C) p1
            (s.raise 165 (w32 d) p1 0).watchFail d 4
    s.watchFrame d

/-! ### The second reader (R312, R313) -/

/-- The end of the metadata line of display `d`. -/
def State.metaCheck (s : State) (d : Nat) (syncOk : Bool) (reader : List Word) (frame : Nat) : State :=
  if !s.metaEn d || s.rf (dspPage d) 0x44 0 2 ≠ 2 then s
  else
    let x := s.dsp d
    let own := s.rf (dspPage d) 0x5C 0 16
    let s := (List.range 256).foldl (fun t j =>
      (t.setTab 0x49 (0x100 * d + j) (x.tiles.getD j 0)).setTab 0x49 (0x800 + 0x100 * d + j) (reader.getD j 0)) s
    let s := s.modDsp d (fun y => { y with hist := ((own, x.tiles) :: y.hist).take 4, lastFrame := some frame, tiles := [] })
    if !s.fwUp then s
    else
      let first := if syncOk then (List.range 256).find? (fun j => x.tiles.getD j 0 ≠ reader.getD j 0) else some 0x100
      let stepOk := match x.lastFrame with | none => true | some l => decide (frame = (l + 1) % 0x1_0000)
      let s := s.modWatch d (fun w => { w with tileInt := first.isNone && stepOk })
      let s := match first with
        | none => s
        | some t =>
          let p1 := w32 (frame * 0x1_0000 + t)
          ((s.sat16 0x49 (fwOff d 0x24)).wr 0x49 (fwOff d 0x3C) p1).raise 164 (w32 d) p1 0
      let s := s.when (!stepOk) (fun t => (t.sat16 0x49 (fwOff d 0x20)).raise 163 (w32 d) (w32 (frame % 0x1_0000 + 0x1_0000)) 0)
      if first.isSome || !stepOk then s.watchFail d 3 else s.showVerdict d

/-- CTRLv.RELEASE (R320). -/
def State.watchRelease (s : State) (v : Nat) : State :=
  if s.fwUp && s.watchState v = 3 && s.rb 0x49 (fwOff v 0) 10 then s.watchTo v 1 else s

/-! ### Rows -/

/-- A camera frame ends (R256, R308). The frame end packet carries the frame number too (R255); no check of it is stated. -/
def execCamFrameEnd (c : Fin 8) (_frameNo : BitVec 16) (s : State) :=
  answer s (
    if !s.camUp c.val || !(s.cam c.val).opened then s
    else (s.camFrameEnd c.val).judgeCam c.val false)
/-- No frame start has come within its time (R260, R308). -/
def execCamFrameStartMissing (c : Fin 8) (s : State) :=
  answer s (
    if !s.camUp c.val || s.camState c.val < 2 then s
    else
      let streaming := decide (s.camState c.val = 3)
      let s := s.camErr c.val 8
      if streaming then s.judgeCam c.val true else s)
def execMetadataLineCheck (d : Fin 6) (syncOk : Bool) (readerTiles : List Word) (frame : BitVec 16) (s : State) :=
  answer s (s.metaCheck d.val syncOk readerTiles frame.toNat)
def execDisplayReportReceived (d : Fin 6) (r : Report) (s : State) := answer s (s.reportIn d.val r)
/-- `histOk` says that the history could be read (R325). -/
def execReportJudgement (d : Fin 6) (n : BitVec 16) (histOk : Bool) (s : State) :=
  answer s ((s.when (!histOk && s.fwUp) State.historyLost).judgeReport d.val n.toNat)
def execFwatchRelease (v : Fin 6) (s : State) := answer s (s.watchRelease v.val)

end Machine

end Sys2Proof
end

