-- ==== Sys2Proof/Machine/Display.lean ====
section
/-! DEFINITION. Views and display ports (R266 to R281, R288 to R307): configuration checks, offsets, voted parameters,
states, lines and latency. -/

namespace Sys2Proof.Machine

/-! ### Fields -/

def State.viewNext (s : State) (v off : Nat) : Word := s.nextKey (rk (viewPage v) off)
def State.dspNext (s : State) (d off : Nat) : Word := s.nextKey (rk (dspPage d) off)
def State.vtimNext (s : State) (off : Nat) : Word := s.nextKey (rk 0x48 off)
/-- VSTAT.STATE: 0 STOPPED, 1 WAIT, 2 RUNNING; DSTAT.STATE: 0 STOPPED, 1 TRAINING, 2 RUNNING. -/
def State.viewState (s : State) (v : Nat) : Nat := s.rf (viewPage v) 0x60 0 2
def State.dspState (s : State) (d : Nat) : Nat := s.rf (dspPage d) 0x44 0 2
def State.viewUp (s : State) (v : Nat) : Bool := s.pageUp (viewPage v) && s.dataPlaneUp && !s.pageHeld 0x30
def State.dspUp (s : State) (d : Nat) : Bool := s.pageUp (dspPage d) && s.dataPlaneUp
/-- Lines of a REACH code (R269). -/
def reachLines (r : Nat) : Nat := [0, 16, 32, 64, 128].getD r 128
/-- Offset of a display word and of a view word in VTIM. -/
def vtD (d off : Nat) : Nat := 0x140 + 0x20 * d + off
def vtV (v off : Nat) : Nat := 0x200 + 0x20 * v + off
/-- SRC_ACTIVE. -/
def State.srcActive (s : State) (d : Nat) : Bool := s.rb (dspPage d) 0x44 6

/-! ### Mesh checks (R268, R269) -/

/-- Vertex (i, j) of a mesh with its shadow: x and y in 1/8 pixel. -/
def State.meshNext (s : State) (v : Nat) (b : Bool) (i j : Nat) : Nat × Nat :=
  let w := s.nextKey (tk (viewPage v) ((if b then 0x2000 else 0) + 65 * j + i))
  (fld w 0 16, fld w 16 16)
/-- Smallest and largest y of vertex rows `r0` to `r1`. -/
def State.rowRange (s : State) (v : Nat) (b : Bool) (r0 r1 : Nat) : Nat × Nat :=
  let ys := (List.range (r1 + 1 - r0)).flatMap (fun k => (List.range 65).map (fun i => (s.meshNext v b i (r0 + k)).2))
  (ys.foldl min 0xFFFF, ys.foldl max 0)
/-- Every cell row keeps its source lines within the reach. -/
def State.meshReachOk (s : State) (v : Nat) (b : Bool) (reach : Nat) : Bool :=
  (List.range 64).all (fun r => let (lo, hi) := s.rowRange v b r (r + 1); (hi + 7) / 8 - lo / 8 ≤ reach)
/-- Every cell spans between 0.25 and 4 times its output size. -/
def State.meshSpanOk (s : State) (v : Nat) (b : Bool) (w h : Nat) : Bool :=
  (List.range 64).all (fun j => (List.range 64).all (fun i =>
    let c := [s.meshNext v b i j, s.meshNext v b (i + 1) j, s.meshNext v b i (j + 1), s.meshNext v b (i + 1) (j + 1)]
    let sx := (c.map Prod.fst).foldl max 0 - (c.map Prod.fst).foldl min 0xFFFF
    let sy := (c.map Prod.snd).foldl max 0 - (c.map Prod.snd).foldl min 0xFFFF
    w ≤ 32 * sx && 2 * sx ≤ w && h ≤ 32 * sy && 2 * sy ≤ h))

/-! ### Offset bounds (R298, R299) -/

/-- The source lines that output line `l` of view `v`, with its shadows, can use from camera `c` as it stands. -/
def State.neededLines (s : State) (v c : Nat) (b : Bool) (l : Nat) : Nat × Nat :=
  let h : Int := fld (s.viewNext v 0x44) 16 12
  let z0 : Int := max 1 (fld (s.viewNext v 0x50) 0 16)
  let z1 : Int := max 1 (fld (s.viewNext v 0x50) 16 16)
  let p0 : Int := signed 16 (fld (s.viewNext v 0x58) 0 16)
  let p1 : Int := signed 16 (fld (s.viewNext v 0x58) 16 16)
  let st : Int := fld (s.viewNext v 0x48) 16 16
  let reach := fld (s.viewNext v 0x40) 4 3
  let top : Int := (s.camHeight c : Nat) - 1
  let a : Int := 2 * l + 1 - h
  let clampL (x : Int) : Nat := (max 0 (min top x)).toNat
  if reach = 0 then
    if st = 8192 && z0 = 256 && z1 = 256 && p0 = p1 then (clampL (l + p0), clampL (l + p0))
    else
      -- y' = (((H z + 256 a + 2 PAN z) STEP) − 8192 z) / (16384 z)
      let ys (f : Int → Int → Int) : List Int := [f z0 p0, f z0 p1, f z1 p0, f z1 p1]
      let fl := ys (fun z p => ((h * z + 256 * a + 2 * p * z) * st - 8192 * z) / (16384 * z))
      (clampL (fl.foldl min (fl.headD 0) - 1), clampL (fl.foldl max (fl.headD 0) + 2))
  else
    -- cell row ⌊v' 64 / H⌋ with v' = (H z + 256 a + 2 PAN z) / (2 z)
    let rows := [(z0, p0), (z0, p1), (z1, p0), (z1, p1)].map (fun (z, p) => (h * z + 256 * a + 2 * p * z) * 32 / (h * z))
    let r0 := (max 0 (min 63 (rows.foldl min (rows.headD 0)))).toNat
    let r1 := (max 0 (min 63 (rows.foldl max (rows.headD 0)))).toNat
    let (lo, hi) := s.rowRange v b r0 (r1 + 1)
    (clampL ((lo - 4 : Int) / 8 - 1), clampL ((hi - 4 : Int) / 8 + 2))
/-- VMIN_OFS and VMAX_OFS of view `v` against one camera. Times are scaled by 65,536 · VTOTAL_c · VTOTAL_d. -/
def State.ofsBounds (s : State) (v c : Nat) (b : Bool) : Int × Int :=
  let p : Int := s.camPeriod c
  let vtc : Int := max 1 (s.rf (camPage c) 0x50 0 12)
  let vtd : Int := max 1 (s.rf 0x48 (vtD v 0xC) 0 12)
  let vact := s.rf 0x48 (vtD v 0) 16 12
  let cl0 : Int := (s.rd 0x48 (0x50 + 0x20 * c)).toNat
  let depth : Int := s.camDepth c
  let d : Int := 65536 * vtc * vtd
  let one (l : Nat) : Int × Int :=
    let (lo, hi) := s.neededLines v c b l
    ((cl0 + 160) * d + (hi + 4) * p * vtd - l * p * vtc, cl0 * d + (lo + depth + 3) * p * vtd - (l + 1) * p * vtc)
  let (mn, mx) := (List.range vact).foldl (fun (m : Int × Int) l => let o := one l; (max m.1 o.1, min m.2 o.2)) (one 0)
  (-((-mn) / d), mx / d)
/-- The bounds of a view over its source cameras. -/
def State.viewBounds (s : State) (v : Nat) : Int × Int :=
  let a := s.ofsBounds v (fld (s.viewNext v 0x40) 8 3) false
  if bit (s.viewNext v 0x40) 1 then
    let b := s.ofsBounds v (fld (s.viewNext v 0x40) 12 3) true
    (max a.1 b.1, min a.2 b.2)
  else a

/-! ### Configuration check (R273) -/

/-- The first reason for which the configuration of view `v`, with its shadows, is refused: it is held to the cameras and the display
as they stand. -/
def State.viewRefusal (s : State) (v : Nat) : Option Nat :=
  let cfg := s.viewNext v 0x40
  let st := bit cfg 1
  let a := fld cfg 8 3
  let b := fld cfg 12 3
  let code := fld cfg 4 3
  let reach := reachLines code
  let size := s.viewNext v 0x44
  let w := fld size 0 12
  let h := fld size 16 12
  let scale := s.viewNext v 0x48
  let zoom := s.viewNext v 0x50
  let stepOk (x : Nat) : Bool := 0x800 ≤ x && x ≤ 0x8000
  let limOk (x : Word) : Bool := signed 16 (fld x 0 16) ≤ signed 16 (fld x 16 16)
  let camBad (c : Nat) : Bool := !s.pageUp (camPage c)
  let mn := signed 32 (s.rd 0x48 (vtV v 0x14)).toNat
  let mx := signed 32 (s.rd 0x48 (vtV v 0x18)).toNat
  let dofs : Int := (s.rd 0x48 (vtD v 0x14)).toNat
  if code ≠ 0 && !(s.meshReachOk v false reach && (!st || s.meshReachOk v true reach)) then some 1
  else if s.camDepth a < reach + 8 || (st && s.camDepth b < reach + 8) then some 2
  else if camBad a || (st && (camBad b || a = b)) then some 3
  else if st && (s.camPeriod a ≠ s.camPeriod b || s.rd 0x48 (0x48 + 0x20 * a) ≠ s.rd 0x48 (0x48 + 0x20 * b)) then some 4
  else if size &&& 0xFFF_0FFF ≠ s.rd 0x48 (vtD v 0) &&& 0xFFF_0FFF || w < 64 || 2560 < w || h < 64 || 1600 < h then some 5
  else if !s.rb (dspPage v) 0x40 1 && (dofs < mn || mx < dofs || mx < mn || (s.camPeriod a : Int) ≤ mn * 65536) then some 6
  else if !stepOk (fld scale 0 16) || !stepOk (fld scale 16 16) || fld zoom 0 16 < 0x100 || 0x400 < fld zoom 16 16 ||
      fld zoom 16 16 < fld zoom 0 16 || !limOk (s.viewNext v 0x54) || !limOk (s.viewNext v 0x58) ||
      fld (s.nextKey (rk 0x49 (fwOff v 0))) 8 2 = 3 || 4 < code ||
      (code ≠ 0 && !(s.meshSpanOk v false w h && (!st || s.meshSpanOk v true w h))) then some 7
  else none

/-! ### Voted parameters (R274, R275) -/

/-- A parameter word clamped as R275 says, and whether it was. -/
def State.clampParam (s : State) (v off : Nat) (x : Word) : Word × Bool :=
  let lim (lo hi : Int) : Word × Bool :=
    let a := signed 16 (fld x 0 16)
    let c := max lo (min hi a)
    (if c = a then x &&& 0xFFFF else wInt c &&& 0xFFFF, decide (c ≠ a))
  let pos (w : Word) : Word × Bool :=
    let px := min (fld w 0 12) (s.rf (viewPage v) 0x44 0 12 - 1)
    let py := min (fld w 16 12) (s.rf (viewPage v) 0x44 16 12 - 1)
    (w32 (px + 0x1_0000 * py), decide (px ≠ fld w 0 12) || decide (py ≠ fld w 16 12))
  if off = 0x204 then lim (signed 16 (s.rf (viewPage v) 0x54 0 16)) (signed 16 (s.rf (viewPage v) 0x54 16 16))
  else if off = 0x208 then lim (signed 16 (s.rf (viewPage v) 0x58 0 16)) (signed 16 (s.rf (viewPage v) 0x58 16 16))
  else if off = 0x20C then
    let a := fld x 0 16
    let c := max (s.rf (viewPage v) 0x50 0 16) (min (s.rf (viewPage v) 0x50 16 16) a)
    (w32 c, decide (c ≠ a))
  else if off = 0x210 then (x &&& 0xF_FFFF, false)
  else if 0x240 ≤ off && off < 0x440 then
    if off % 0x20 = 0 then (x &&& 0xFF0F_FF73, false) else pos x
  else if 0x440 ≤ off && off < 0x480 then
    if off % 0x10 = 0 then pos x else if off % 0x10 = 0xC then (x &&& 0xFF_0F3F, false) else (x, false)
  else (0, false)
/-- A primitive that is not drawn for a reserved NVERT or SHAPE. -/
def reservedPrim (w0 : Word) : Bool :=
  let t := fld w0 0 2
  ((t = 1 || t = 2) && (fld w0 4 3 < 3 || 7 < fld w0 4 3)) || (t = 3 && 3 < fld w0 12 4)
/-- The ready bank takes effect where it is newer (R274). -/
def State.applyBank (s : State) (v : Nat) : State :=
  let p := viewPage v
  if !later 32 (s.rd p 0x68).toNat (s.rd p 0x64).toNat then s
  else
    let ws := (s.view v).readyBank
    let hit := ws.any (fun c => (s.clampParam v c.1 c.2).2 || (0x240 ≤ c.1 && c.1 < 0x440 && c.1 % 0x20 = 0 && reservedPrim c.2))
    let s := ws.foldl (fun t c => t.wr p c.1 (s.clampParam v c.1 c.2).1) s
    let s := (s.wrBit p 0x60 4 hit).wr p 0x64 (s.rd p 0x68)
    s.raise 170 (w32 v) (s.rd p 0x64) 0
/-- PCOMMIT: the whole write bank becomes the ready bank; with the data plane stopped the write is discarded (R53). -/
def State.viewCommit (s : State) (v : Nat) (k : Word) : State :=
  if !s.viewUp v then s
  else (s.modView v (fun x => { x with readyBank := x.writeBank })).wr (viewPage v) 0x68 k

/-! ### View states (R272) -/

/-- The view stops or waits; its watch follows (R320). -/
def State.setView (s : State) (v st : Nat) : State :=
  let was := s.viewState v
  let s := s.wrFld (viewPage v) 0x60 0 2 st
  if was = 2 && st ≠ 2 && s.watchState v ≠ 0 then s.watchTo v 0 else s
/-- Every source camera streams. -/
def State.sourcesStream (s : State) (v : Nat) : Bool :=
  s.camState (s.rf (viewPage v) 0x40 8 3) = 3 && (!s.stitched v || s.camState (s.rf (viewPage v) 0x40 12 3) = 3)
/-- Keys of the words that apply at view `v`'s frame start: its page, its words in VTIM and FWATCH, the glyph store. -/
def isViewVtim (v k : Nat) : Bool := !keyIsTab k && vtV v 0 ≤ keyOff k && keyOff k ≤ vtV v 4
def isWatchCfg (v k : Nat) : Bool := !keyIsTab k && (keyOff k = fwOff v 0 || keyOff k = fwOff v 4)
/-- Shadows wait for view `v`'s frame start. -/
def State.viewPending (s : State) (v : Nat) : Bool :=
  !(s.shadows (viewPage v) (fun _ => true)).isEmpty || !(s.shadows 0x48 (isViewVtim v)).isEmpty || !(s.shadows 0x49 (isWatchCfg v)).isEmpty
/-- New values of WCFGv act on the watch (R320, R322). -/
def State.watchCfg (s : State) (v : Nat) (changed : Bool) : State :=
  let st := s.watchState v
  if !s.fwUp || !s.rb 0x49 (fwOff v 0) 0 || s.viewState v ≠ 2 then (if st = 0 then s else s.watchTo v 0)
  else if st = 0 then s.watchTo v 1
  else if changed && st = 3 then s.watchTo v 1
  else s
/-- The view takes the glyphs written so far (R284). The store takes the values that wait; each other view keeps showing the words it
had until its own frame start. -/
def State.takeGlyphs (s : State) (v : Nat) : State :=
  let l := s.shadows 0x30 (fun k => keyIsTab k)
  let old := l.map (fun e => (keyOff e.1, s.key e.1))
  let t := (List.range 6).foldl (fun t u => t.modView u (fun x => { x with
    glyphOld := if u = v then [] else x.glyphOld ++ old.filter (fun e => (alGet x.glyphOld e.1).isNone) })) s
  t.applyShadows 0x30 (fun k => keyIsTab k)
/-- Word `ix` of the glyph store as view `v` shows it. -/
def State.glyphWord (s : State) (v ix : Nat) : Word := (alGet (s.view v).glyphOld ix).getD (s.tab 0x30 ix)
/-- All the values that wait take effect. -/
def State.viewTake (s : State) (v : Nat) : State :=
  (((s.applyShadows (viewPage v) (fun _ => true)).applyShadows 0x48 (isViewVtim v)).applyShadows 0x49 (isWatchCfg v)).modView v
    (fun x => { x with recheck := false })
/-- They are discarded. -/
def State.viewDrop (s : State) (v : Nat) : State :=
  (((s.dropShadows (viewPage v) (fun _ => true)).dropShadows 0x48 (isViewVtim v)).dropShadows 0x49 (isWatchCfg v)).modView v
    (fun x => { x with recheck := false })
/-- The configuration is checked and applied, or refused (R272, R273, R300). -/
def State.viewConfigure (s : State) (v : Nat) : State :=
  let check := s.viewPending v || (s.view v).recheck
  if !check then s
  else if !bit (s.viewNext v 0x40) 0 then (s.viewTake v).setView v 0
  else if !(s.view v).ofsDone then s
  else
    let tacked := (s.view v).recheck
    match s.viewRefusal v with
    | some r =>
      let s := ((s.viewDrop v).wrFld (viewPage v) 0x60 8 4 r).raise (144 + 2 * v) (w32 v) (w32 r) 0
      if tacked then s.setView v 0 else s
    | none =>
      let s := (s.viewTake v).wrFld (viewPage v) 0x60 8 4 0
      if s.viewState v = 0 then s.setView v 1 else s
/-- The view's frame start (R272, R274, R320). -/
def State.viewFrame (s : State) (v : Nat) : State :=
  if !s.viewUp v then s
  else
    let cfgChanged := !(s.shadows 0x49 (isWatchCfg v)).isEmpty
    let s := (s.wrBit (viewPage v) 0x60 4 false).takeGlyphs v
    let s := s.viewConfigure v
    let go := s.sourcesStream v && s.dspState v = 2
    let wait := !go || (s.view v).through
    let s := if s.viewState v = 1 && go then s.setView v 2 else if s.viewState v = 2 && wait then s.setView v 1 else s
    let s := s.modView v (fun x => { x with through := false })
    (s.applyBank v).watchCfg v (cfgChanged && (s.shadows 0x49 (isWatchCfg v)).isEmpty)

/-! ### Display modes and states (R278, R279, R297, R310) -/

/-- The timing of display `d` with its shadows is accepted with a value of DCTRL (R276, R278, R297, R310). -/
def State.dspModeOk (s : State) (d : Nat) (ctrl : Word) : Bool :=
  let act := s.vtimNext (vtD d 0)
  let dh := s.vtimNext (vtD d 4)
  let dv := s.vtimNext (vtD d 0xC)
  let hact := fld act 0 12
  let vact := fld act 16 12
  let ht := fld dh 0 13
  let vt := fld dv 0 12
  let meta_ := bit ctrl 16
  let p := s.camPeriod (s.rf (viewPage d) 0x40 8 3)
  let clk := ht * vt * 1_000_000_000 * 65536
  let bpp := if bit ctrl 8 then 30 else 24
  64 ≤ hact && hact ≤ 2560 && 64 ≤ vact && vact ≤ 1600 &&
    fld dh 16 8 + fld (s.vtimNext (vtD d 8)) 0 12 + hact + 1 ≤ ht &&
    fld dv 16 8 + fld (s.vtimNext (vtD d 0x10)) 0 12 + vact + b2n meta_ + 1 ≤ vt &&
    25_000_000 * p ≤ clk && clk ≤ 300_000_000 * p &&
    (hact * vact ≤ 1920 * 720 || 1_000_000_000 * 65536 ≤ 60 * p) &&
    (s.vtimNext (vtD d 0x14)).toNat * 65536 < p &&
    clk * bpp * 5 ≤ gearRate (fld ctrl 4 3) * 4 * p && (!meta_ || 348 ≤ hact)
/-- DSTAT's state; entering and leaving RUNNING is reported. -/
def State.setDsp (s : State) (d st : Nat) : State :=
  let was := s.dspState d
  let s := s.wrFld (dspPage d) 0x44 0 2 st
  let s := s.when (st ≠ 2) (fun t => t.wrFld (dspPage d) 0x44 4 2 0)
  let s := s.when (st = 0) (fun t => t.wrBit (dspPage d) 0x44 6 true)
  if was = 2 && st ≠ 2 then s.raise (156 + d) (w32 d) 0 0 else if was ≠ 2 && st = 2 then s.raise (156 + d) (w32 d) 1 0 else s
def isVtimDsp (d k : Nat) : Bool := !keyIsTab k && vtD d 0 ≤ keyOff k && keyOff k ≤ vtD d 0x14
/-- Entry into TRAINING: the display timing, GEAR and FMT take effect. -/
def State.dspTrain (s : State) (d : Nat) : State :=
  let s := (s.applyShadows 0x48 (isVtimDsp d)).offsetsStale
  let s := s.modDsp d (fun x => { x with gear := s.rf (dspPage d) 0x40 4 3, fmt := s.rb (dspPage d) 0x40 8, turn := none })
  s.setDsp d 1
/-- DCTRL.EN takes effect on a STOPPED port (R279). -/
def State.dspStart (s : State) (d : Nat) : State :=
  if !s.dspUp d || s.dspState d ≠ 0 then s
  else
    let ok := s.dspModeOk d (s.dspNext d 0x40)
    let s := s.applyShadows (dspPage d) (fun _ => true)
    if !s.rb (dspPage d) 0x40 0 then s
    else if ok then s.dspTrain d else s.raise (156 + d) (w32 d) 2 0
/-- Training begins again with the timing that waits; one that is not accepted stops the port (R297). -/
def State.dspRetrain (s : State) (d : Nat) : State :=
  if s.dspModeOk d (s.rd (dspPage d) 0x40) then s.dspTrain d else (s.setDsp d 0).raise (156 + d) (w32 d) 2 0
/-- The port stops. -/
def State.dspStop (s : State) (d : Nat) : State := if s.dspState d = 0 then s else s.setDsp d 0
/-- Period of display `d` in 2^−16 ns: that of its view's SRC_A (R296). -/
def State.dspPeriod (s : State) (d : Nat) : Nat := s.camPeriod (s.rf (viewPage d) 0x40 8 3)
/-- Frame start of display `d` in camera frame 0, with an offset in ns: the sync due instant and the offset, less the lines of
vertical sync and back porch; in 2^−16 ns (R296). -/
def State.dspStart0 (s : State) (d ofs : Nat) : Int :=
  ((s.rd 0x48 (0x48 + 0x20 * s.rf (viewPage d) 0x40 8 3)).toNat + ofs : Nat) * 65536 -
    (((s.rf 0x48 (vtD d 0xC) 16 8 + s.rf 0x48 (vtD d 0x10) 0 12) * s.dspPeriod d / max 1 (s.rf 0x48 (vtD d 0xC) 0 12) : Nat) : Int)
/-- Phase of display generator `d` with an offset. -/
def State.dspPhase (s : State) (d ofs : Nat) : Nat := (s.dspStart0 d ofs % (s.dspPeriod d : Nat)).toNat
/-- The last due instant of display generator `d`. -/
def State.dspDue (s : State) (d : Nat) : Option Nat := (s.tb.strobes.getD (9 + d) {}).due
/-- DOFS in force. -/
def State.dofs (s : State) (d : Nat) : Nat := (s.rd 0x48 (vtD d 0x14)).toNat
/-- The frame that display generator `d` has just started with an offset takes its index k. -/
def State.frameIndex (s : State) (d ofs : Nat) : State :=
  s.modDsp d (fun x => { x with frameIx := (((s.dspDue d).getD 0 : Nat) - s.dspStart0 d ofs) / (max 1 (s.dspPeriod d) : Nat) })
/-- The display-timing generator fires (R144, R296). While a changed DOFS waits, frame starts come under the one before as long as
the frame after them would not run past the first start of the new phase (R305). -/
def State.dspStrobe (s : State) (d : Nat) : State :=
  let g := 9 + d
  let p := s.dspPeriod d
  let plain : State := (s.fire g (s.dspPhase d (s.dofs d)) p).frameIndex d (s.dofs d)
  match (s.dsp d).turn with
  | none => plain
  | some (old, at_) =>
    let due := nextInstant (s.dspPhase d old) p (s.tb.count * 65536) (s.dspDue d)
    if due + p ≤ at_ then (s.fire g (s.dspPhase d old) p).frameIndex d old
    else ((s.advanceTo ((at_ + 65535) / 65536)).strobeFor g at_).frameIndex d (s.dofs d) |>.modDsp d (fun x => { x with turn := none })
/-- A display frame starts (R277, R280, R296, R310). -/
def State.dspFrame (s : State) (d : Nat) : State :=
  if !s.dspUp d || s.dspState d = 0 then s
  else
    let s := s.dspStrobe d
    let s := (s.capture (22 + d) s.tb.count).applyShadows (dspPage d) (fun _ => true)
    if !s.rb (dspPage d) 0x40 0 then s.dspStop d
    else
      let demand := (s.watch d).demand
      let fb := s.rb (dspPage d) 0x40 1 || s.viewState d ≠ 2 || demand
      let s := s.wrBit (dspPage d) 0x44 6 fb
      if s.dspState d ≠ 2 then s
      else
        let s := s.inc32 (dspPage d) 0x5C
        s.modDsp d (fun x => { x with
          blank := demand && (s.watch d).demandBlank
          fillUsed := false
          fsNs := s.ns
          seq := if fb then 0 else s.rd (viewPage d) 0x64
          acc := List.replicate 16 0xFFFF_FFFF
          tiles := []
          shown := [] })

/-! ### Lines (R266 to R271, R280, R296, R311) -/

/-- Colour channels of a line-store word, and a word of three channels. -/
def chan (w : Word) (k : Nat) : Nat := fld w (20 - 10 * k) 10
def rgbWord (f : Nat → Nat) : Word := w32 (f 0 * 2 ^ 20 + f 1 * 2 ^ 10 + f 2)
/-- Blend of a colour over a pixel with weight num / den. -/
def blend (c u : Word) (num den : Nat) : Word :=
  rgbWord (fun k => clipNat 1023 (fixRound ((chan c k * num + chan u k * (den - num) : Nat) : Int) den))
/-- Coverage 0 to 3 of pixel (dx, dy) of a row of `count` glyphs at a scale, as view `v` shows them. -/
def State.glyphAt (s : State) (v : Nat) (codes : List Nat) (count scale dx dy : Nat) : Nat :=
  if 32 * scale ≤ dy || 32 * scale * count ≤ dx then 0
  else
    let code := codes.getD (dx / (32 * scale)) 0
    let col := dx / scale % 32
    let w := s.glyphWord v (64 * code + 2 * (dy / scale) + col / 16)
    fld w (2 * (col % 16)) 2
/-- Glyph codes of two words, the first at bits 7 to 0. -/
def codesOf (a b : Word) : List Nat := wordBytes a ++ wordBytes b
/-- Pixel (x, y) of a fallback frame of display `d`. -/
def State.fallbackPixel (s : State) (d x y : Nat) : Word :=
  let p := dspPage d
  if (s.dsp d).blank then 0
  else
    let bg := s.rd p 0x48 &&& 0x3FFF_FFFF
    let gx := s.rf p 0x4C 0 12
    let gy := s.rf p 0x4C 16 12
    if x < gx || y < gy then bg
    else blend (s.rd p 0x58) bg (s.glyphAt d (codesOf (s.rd p 0x50) (s.rd p 0x54)) (min 8 (s.rf p 0x4C 28 4)) 1 (x - gx) (y - gy)) 3
/-- The ring slot of line `y` of camera `c`, where it holds frame `no` whole. -/
def State.slotOf (s : State) (c no y : Nat) : Option RingSlot :=
  (s.cam c).ring.find? (fun r => r.slot = y % max 1 (s.camDepth c) && r.valid && r.tag = no % 256)
/-- The band of a local step (R267): 0 up to 0.5, 7 up to 4. -/
def stepBand (step : Rat) : Nat :=
  if step ≤ 1 / 2 then 0
  else ([1, 2, 3, 4, 5, 6].find? (fun b => step * 8192 ≤ (Config.bandLimit b : Rat))).getD 7
/-- The filter along one axis: at a whole position and step 1.0 it has a single tap that is not zero (R298). -/
def filterAxis (step : Rat) (phase : Nat) (taps : List Int) : Int :=
  if step = 1 && phase = 0 then taps.getD 1 0 else Config.filter (stepBand step) phase taps
/-- Resampling over 4 × 4 words, line by line and then across the lines (R267). -/
def resample (taps : List (List Word)) (phX phY : Nat) (stepX stepY : Rat) : Word :=
  rgbWord (fun k => clipNat 1023 (filterAxis stepY phY (taps.map (fun r => filterAxis stepX phX (r.map (fun w => Int.ofNat (chan w k)))))))
/-- One camera's colour at a source position in pixels: FILL (none) outside the image or where a slot that the filter needs does not
hold the expected frame; second part: a slot did not. -/
def State.sample (s : State) (c : Nat) (no : Option Nat) (x y : Rat) (stepX stepY : Rat) : Option Word × Bool :=
  let w := s.camWidth c
  let h := s.camHeight c
  if x < 0 || y < 0 || (w : Rat) ≤ x || (h : Rat) ≤ y then (none, false)
  else
    let fx := x - 1 / 2
    let fy := y - 1 / 2
    let ix := fx.floor
    let iy := fy.floor
    let clampI (n : Nat) (i : Int) : Nat := (max 0 (min ((n : Int) - 1) i)).toNat
    let ph (f : Rat) (i : Int) : Nat := ((f - i) * 64).floor.toNat
    let single : Bool := stepY = 1 && ph fy iy = 0
    let rows := [iy - 1, iy, iy + 1, iy + 2].map (fun j => no.bind (fun n => s.slotOf c n (clampI h j)))
    if (if single then (rows.getD 1 none).isNone else rows.any Option.isNone) then (none, true)
    else
      let taps := rows.map (fun r => [ix - 1, ix, ix + 1, ix + 2].map (fun i => ((r.map RingSlot.pix).getD []).getD (clampI w i) 0))
      (some (resample taps (ph fx ix) (ph fy iy) stepX stepY), false)
/-- A size without its sign. -/
def ratAbs (x : Rat) : Rat := if x < 0 then -x else x
/-- Source position of an output position (u', v') of view `v`, through its steps or a mesh, and the local steps in x and y for a step
of 1 in u' and v' (R267). -/
def State.sourceOf (s : State) (v : Nat) (b : Bool) (u t : Rat) : Option ((Rat × Rat) × Rat × Rat) :=
  let w := s.rf (viewPage v) 0x44 0 12
  let h := s.rf (viewPage v) 0x44 16 12
  if u < 0 || t < 0 || (w : Rat) < u || (h : Rat) < t then none
  else if s.rf (viewPage v) 0x40 4 3 = 0 then
    let sx : Rat := (s.rf (viewPage v) 0x48 0 16 : Rat) / 8192
    let sy : Rat := (s.rf (viewPage v) 0x48 16 16 : Rat) / 8192
    some ((u * sx, t * sy), sx, sy)
  else
    let mu := u * 64 / w
    let mv := t * 64 / h
    let i := min 63 mu.floor.toNat
    let j := min 63 mv.floor.toNat
    let fx := mu - i
    let fy := mv - j
    let vx (i j : Nat) : Rat × Rat :=
      let m := s.tab (viewPage v) ((if b then 0x2000 else 0) + 65 * j + i)
      ((fld m 0 16 : Rat) / 8, (fld m 16 16 : Rat) / 8)
    let mix (f : Rat × Rat → Rat) : Rat :=
      (1 - fy) * ((1 - fx) * f (vx i j) + fx * f (vx (i + 1) j)) + fy * ((1 - fx) * f (vx i (j + 1)) + fx * f (vx (i + 1) (j + 1)))
    let dx := (1 - fy) * ((vx (i + 1) j).1 - (vx i j).1) + fy * ((vx (i + 1) (j + 1)).1 - (vx i (j + 1)).1)
    let dy := (1 - fx) * ((vx i (j + 1)).2 - (vx i j).2) + fx * ((vx (i + 1) (j + 1)).2 - (vx (i + 1) j).2)
    some ((mix Prod.fst, mix Prod.snd), ratAbs dx * 64 / w, ratAbs dy * 64 / h)
/-- Pixel (x, y) of view `v` before gamma: its colour, and whether a slot was not there. -/
def State.viewRaw (s : State) (v x y : Nat) : Word × Bool :=
  let p := viewPage v
  let w := s.rf p 0x44 0 12
  let h := s.rf p 0x44 16 12
  let z : Rat := (max 1 (s.rf p 0x20C 0 16) : Nat) / 256
  let u : Rat := (w : Rat) / 2 + (x + 1 / 2 - (w : Rat) / 2) / z + signed 16 (s.rf p 0x204 0 16)
  let t : Rat := (h : Rat) / 2 + (y + 1 / 2 - (h : Rat) / 2) / z + signed 16 (s.rf p 0x208 0 16)
  let fill := s.rd p 0x5C &&& 0x3FFF_FFFF
  let one (c : Nat) (no : Option Nat) (b : Bool) : Word × Bool :=
    match s.sourceOf v b u t with
    | none => (fill, false)
    | some ((sx, sy), stepX, stepY) =>
      let r := s.sample c no sx sy (stepX / z) (stepY / z)
      (r.1.getD fill, r.2)
  let a := one (s.rf p 0x40 8 3) (s.view v).expA false
  if !s.stitched v then a
  else
    let seam := s.rf p 0x4C 0 12
    let bw := s.rf p 0x4C 16 9
    if x + bw / 2 < seam then a
    else
      let b := one (s.rf p 0x40 12 3) (s.view v).expB true
      if seam + bw / 2 ≤ x then b
      else (blend b.1 a.1 (2 * (x + bw / 2 - seam) + 1) (2 * bw), a.2 || b.2)
/-- Gamma (R271). -/
def State.gamma (s : State) (v : Nat) (w : Word) : Word :=
  rgbWord (fun k => fld (s.tab (viewPage v) (0x4000 + 0x400 * k + chan w k)) 0 10)
/-- Palette entry `k`. -/
def State.palette (s : State) (v k : Nat) : Word := s.tab (viewPage v) (0x4C00 + k) &&& 0x3FFF_FFFF
/-- Whether pixel (x, y) lies in the band of `width` around the segment between two points, none where R271 leaves it open (the band's
edge and its ends). Twice the distance is compared with the width. -/
def onSegment (width : Int) (a b : Int × Int) (x y : Int) : Option Bool :=
  let dx := b.1 - a.1
  let dy := b.2 - a.2
  let l2 := dx * dx + dy * dy
  let t := (x - a.1) * dx + (y - a.2) * dy
  let cr := (x - a.1) * dy - (y - a.2) * dx
  let past := if t < 0 then -t else if l2 < t then t - l2 else 0
  if l2 = 0 then
    (if width < 2 * (x - a.1) || width < 2 * (a.1 - x) || width < 2 * (y - a.2) || width < 2 * (a.2 - y) then some false else none)
  else if width * width * l2 < 4 * cr * cr || width * width * l2 < 4 * past * past then some false
  else if 4 * cr * cr < width * width * l2 && past = 0 then some true
  else none
/-- Three-valued or. -/
def orOpen (a b : Option Bool) : Option Bool :=
  if a = some true || b = some true then some true else if a.isNone || b.isNone then none else some false
/-- The sides of a closed path. -/
def sides (l : List (Int × Int)) : List ((Int × Int) × (Int × Int)) := l.zip (l.drop 1 ++ l.take 1)
/-- The side crosses the ray from (x, y) to the right. -/
def crosses (x y : Int) (e : (Int × Int) × (Int × Int)) : Bool :=
  let cr := (e.2.1 - e.1.1) * (y - e.1.2) - (e.2.2 - e.1.2) * (x - e.1.1)
  (decide (e.1.2 ≤ y) && decide (y < e.2.2) && decide (0 < cr)) || (decide (e.2.2 ≤ y) && decide (y < e.1.2) && decide (cr < 0))
/-- Whether primitive words `w` cover pixel (x, y) (R271), none where the manual does not say: a path's edge, the inside of a
marker. -/
def primCovers (w : List Word) (x y : Nat) : Option Bool :=
  let w0 := w.getD 0 0
  let width : Int := Int.ofNat (fld w0 8 4)
  let pt (j : Nat) : Int × Int := (Int.ofNat (fld (w.getD j 0) 0 12), Int.ofNat (fld (w.getD j 0) 16 12))
  let path := (List.range (fld w0 4 3)).map (fun j => pt (j + 1))
  let px : Int := Int.ofNat x
  let py : Int := Int.ofNat y
  let t := fld w0 0 2
  if t = 0 then onSegment width (pt 1) (pt 2) px py
  else if t = 1 then (sides path).foldl (fun a e => orOpen a (onSegment width e.1 e.2 px py)) (some false)
  else if t = 2 then
    if (sides path).any (fun e => onSegment 0 e.1 e.2 px py ≠ some false) then none
    else some (((sides path).filter (crosses px py)).length % 2 = 1)
  else
    let dx := px - (pt 1).1
    let dy := py - (pt 1).2
    let far (d : Int) : Bool := 2 * width < d || 2 * width < -d
    if far dx || far dy || (fld w0 12 4 = 1 && 4 * width * width < dx * dx + dy * dy) then some false else none
/-- Overlays over a pixel: primitives, then glyph strips, in ascending order. -/
def State.overlays (s : State) (v x y : Nat) (w : Word) : Word :=
  let p := viewPage v
  let w := (List.range 16).foldl (fun u k =>
    let o := 0x240 + 0x20 * k
    let w0 := s.rd p o
    let ws := (List.range 8).map (fun j => s.rd p (o + 4 * j))
    if s.rb p 0x210 k && fld w0 8 4 ≠ 0 && !reservedPrim w0 && (primCovers ws x y).getD (Config.covers ws x y) then
      blend (s.palette v (fld w0 16 4)) u (fld w0 24 8) 255
    else u) w
  (List.range 4).foldl (fun u g =>
    let o := 0x440 + 0x10 * g
    let w3 := s.rd p (o + 0xC)
    let gx := s.rf p o 0 12
    let gy := s.rf p o 16 12
    if s.rb p 0x210 (16 + g) && gx ≤ x && gy ≤ y then
      blend (s.palette v (fld w3 0 4)) u
        (fld w3 16 8 * s.glyphAt v (codesOf (s.rd p (o + 4)) (s.rd p (o + 8))) (min 8 (fld w3 8 4)) (fld w3 4 2 + 1) (x - gx) (y - gy)) 765
    else u) w
/-- The channel values as sent (R276): RGB888 takes the top 8 bits with rounding. -/
def sentChan (fmt : Bool) (v : Nat) : Nat := if fmt then v else min 255 ((v + 2) / 4)
/-- Tile column of a pixel column. -/
def tileCol (hact x : Nat) : Nat := ((List.range 16).filter (fun c => c * hact / 16 ≤ x)).length - 1
/-- The formatter's tile CRC registers after a pixel. -/
def crcPixel (fmt : Bool) (hact : Nat) (acc : List Nat) (px : Word × Nat) : List Nat :=
  let bytes := [0, 1, 2].flatMap (fun k => let c := sentChan fmt (chan px.1 k); [c % 256, c / 256])
  acc.modify (tileCol hact px.2) (fun r => crcBytes r bytes)
/-- The line store as view `v` reads it where words could not be corrected: their pixels are taken as FILL (R265). -/
def State.lostPixels (s : State) (v : Nat) (ecc : List LineEcc) : State :=
  (ecc.filter LineEcc.lost).foldl (fun t e => t.modCam e.cam.val (fun c => { c with
    ring := c.ring.map (fun r => if r.slot = e.slot then { r with pix := r.pix.set e.x (s.rd (viewPage v) 0x5C &&& 0x3FFF_FFFF) } else r) })) s
/-- VIS counts an ECC error of the line store and raises ECC_CORR or ECC_UNCORR (R265). -/
def State.lineEcc (s : State) (e : LineEcc) : State :=
  (s.sat16 0x30 (if e.lost then 0x4C else 0x48)).raise (if e.lost then 23 else 22) (w32 (0x100 + e.cam.val)) 0 0
/-- Number of the frame of camera `c` that belongs to sync due instant `k`, from the last frame whose line 0 has come; none before any
has (R265, R296). -/
def State.expected (s : State) (c : Nat) (k : Int) : Option Nat :=
  (s.cam c).planned.map (fun e => (((e.2 : Int) + (k - e.1)) % 0x1_0000).toNat)
/-- Low byte first. -/
def leBytes (n x : Nat) : List Byte := (List.range n).map (fun j => BitVec.ofNat 8 (x / 256 ^ j))
/-- Payload of the metadata line of display `d` (R310). -/
def State.metaPayload (s : State) (d : Nat) (tiles : List Word) (fill : Bool) : List Byte :=
  let x := s.dsp d
  let fb := s.srcActive d
  let head := [0xA5, 0x5A, 1, BitVec.ofNat 8 d] ++ leBytes 2 (s.rf (dspPage d) 0x5C 0 16) ++
    [BitVec.ofNat 8 (b2n fb + 2 * b2n (fb && x.blank) + 4 * b2n fill), 0] ++ leBytes 4 x.seq.toNat ++ leBytes 4 x.fsNs.toNat ++
    (List.range 256).flatMap (fun t => leBytes 4 (tiles.getD t 0).toNat)
  let body := head ++ leBytes 4 (crc32 (head.map BitVec.toNat)).toNat
  body ++ List.replicate (s.rf 0x48 (vtD d 0) 0 12 * (if x.fmt then 30 else 24) / 8 - 1044) 0
/-- After the last active line the formatter adds the metadata line (R277). -/
def State.addMeta (s : State) (d line : Nat) : State :=
  if s.rb (dspPage d) 0x40 16 && line + 1 = s.rf 0x48 (vtD d 0) 16 12 then
    let m := s.metaPayload d (s.dsp d).tiles (s.dsp d).fillUsed
    s.modDsp d (fun x => { x with
      metaLine := m
      shown := x.shown ++ (List.range (s.rf 0x48 (vtD d 0) 0 12)).map (fun j => bytesWord (m.drop (4 * j))) })
  else s
/-- An output line is built and sent (R266, R296, R311); `ecc` is what the reading of the line store met (R265). -/
def State.emitLine (s : State) (v line : Nat) (ecc : List LineEcc) : State :=
  let hact := s.rf 0x48 (vtD v 0) 0 12
  let vact := s.rf 0x48 (vtD v 0) 16 12
  if !s.dspUp v || s.dspState v ≠ 2 || vact ≤ line then s
  else
    let fb := s.srcActive v
    let s := s.when (line = 0) (fun t => t.modView v (fun x => { x with
      expA := t.expected (t.rf (viewPage v) 0x40 8 3) (t.dsp v).frameIx
      expB := t.expected (t.rf (viewPage v) 0x40 12 3) (t.dsp v).frameIx }))
    let src := s.lostPixels v ecc
    let px := (List.range hact).map (fun x => if fb then (s.fallbackPixel v x line, false) else src.viewRaw v x line)
    let miss := px.any Prod.snd
    let out := if fb then px.map Prod.fst else (px.zipIdx).map (fun (q, x) => s.overlays v x line (s.gamma v q.1))
    let s := s.when miss (fun t => t.sat16 (viewPage v) 0x6C)
    let s := if fb then s else ecc.foldl State.lineEcc s
    let s := s.modDsp v (fun d =>
      let acc := (out.zipIdx).foldl (crcPixel d.fmt hact) d.acc
      let last := (List.range 16).any (fun r => line + 1 = (r + 1) * vact / 16)
      { d with
        line := out
        shown := d.shown ++ out
        fillUsed := d.fillUsed || miss
        acc := if last then List.replicate 16 0xFFFF_FFFF else acc
        tiles := if last then d.tiles ++ acc.map (fun a => w32 (Nat.xor a 0xFFFF_FFFF)) else d.tiles })
    s.addMeta v line

/-! ### Latency (R302, R303) -/

/-- What became of line REF_IN of the camera frame that the display frame of view `v` is paired with (R302): none while it has not
arrived, and none within for one that arrived bad. -/
def State.refStamp (s : State) (v c : Nat) : Option (Option Nat) :=
  ((s.cam c).refIn.find? (fun e => e.1 = v && e.2.1 = (s.dsp v).frameIx)).map (fun e => e.2.2)
/-- Emission of the reference output line. -/
def State.measureLatency (s : State) (v : Nat) : State :=
  let c := s.rf (viewPage v) 0x40 8 3
  let refIn := s.rf 0x48 (vtV v 0) 0 12
  if !s.viewUp v || s.viewState v ≠ 2 || s.srcActive v || s.camHeight c ≤ refIn || s.rf 0x48 (vtD v 0) 16 12 ≤ s.rf 0x48 (vtV v 0) 16 12 then s
  else
    let max_ := (s.rd 0x48 (vtV v 4)).toNat
    let report (t : State) (lat : Word) (late : Bool) : State :=
      let t := t.modWatch v (fun w => { w with latency := !late })
      if late then (((t.sat16 0x48 (vtV v 0x10)).raise (145 + 2 * v) (w32 v) lat 0)).watchFail v 7 else t.showVerdict v
    match s.refStamp v c with
    | some (some at_) =>
      let l := s.tb.count - at_
      let s := (s.wr 0x48 (vtV v 8) (w32 l)).wr 0x48 (vtV v 0xC) (w32 (max (s.rd 0x48 (vtV v 0xC)).toNat (w32 l).toNat))
      report s (w32 l) (max_ ≠ 0 && max_ < l)
    | some none => s
    | none => report s 0xFFFF_FFFF (max_ ≠ 0)

/-! ### DCS (R281) -/

/-- DCS_CTRL takes a value: LEN, SEND, and DONE by a written 1. -/
def State.dcsCtrl (s : State) (d : Nat) (v : Word) : State :=
  let p := dspPage d
  let old := s.rd p 0x64
  let s := s.wr p 0x64 (w32 (fld v 0 5 + 0x200 * b2n (bit old 9 && !bit v 9)))
  if bit v 8 then s.modDsp d (fun x => { x with dcs := some (fld v 0 5, (List.range 4).map (fun j => s.rd p (0x68 + 4 * j))) }) else s

/-! ### Rows -/

def execPcommit (v : Fin 6) (k : Word) (s : State) := answer s (s.viewCommit v.val k)
def execViewFrameStart (v : Fin 6) (s : State) := answer s (s.viewFrame v.val)
def execDspEnable (d : Fin 6) (s : State) := answer s (s.dspStart d.val)
def execDspLinkTrained (d : Fin 6) (bcUp : Bool) (s : State) :=
  answer s (
    if !s.dspUp d.val || s.dspState d.val ≠ 1 then s
    else
      let s := if bcUp then s.setDsp d.val 2 else s
      (s.wrBit (dspPage d.val) 0x44 4 true).wrBit (dspPage d.val) 0x44 5 bcUp)
def execDspTrainTimeout (d : Fin 6) (s : State) :=
  answer s (if s.dspUp d.val && s.dspState d.val = 1 then s.sat16 (dspPage d.val) 0x60 else s)
def execDspLinkLost (d : Fin 6) (s : State) :=
  answer s (if s.dspUp d.val && s.dspState d.val = 2 then (s.sat16 (dspPage d.val) 0x60).dspRetrain d.val else s)
def execDisplayFrameStart (d : Fin 6) (s : State) := answer s (s.dspFrame d.val)
def execDcsSent (d : Fin 6) (s : State) :=
  answer s (if (s.dsp d.val).dcs.isSome then (s.wrBit (dspPage d.val) 0x64 9 true).modDsp d.val (fun x => { x with dcs := none }) else s)
/-- The offset computation ends (R299, R300): a view that is not enabled, or whose display shows fallback by DCTRL.SRC, has none. -/
def execOffsetComputeDone (v : Fin 6) (s : State) :=
  answer s (
    if !s.viewUp v.val then s
    else if !bit (s.viewNext v.val 0x40) 0 || s.rb (dspPage v.val) 0x40 1 then s.modView v.val (fun x => { x with ofsDone := true })
    else
      let (mn, mx) := s.viewBounds v.val
      ((s.wr 0x48 (vtV v.val 0x14) (wInt mn)).wr 0x48 (vtV v.val 0x18) (wInt mx)).modView v.val (fun x => { x with ofsDone := true }))
def execRefOutEmission (v : Fin 6) (s : State) := answer s (s.measureLatency v.val)
/-- The first frame start of display `d` under a new DOFS: at least one frame period from now, and after the last one (R305). -/
def State.turnAt (s : State) (d : Nat) (v : Word) : Nat :=
  nextInstant (s.dspPhase d v.toNat) (s.dspPeriod d) (s.tb.count * 65536 + s.dspPeriod d) (s.dspDue d)
/-- A new DOFS takes effect (R305); a running display changes over at a frame start, and one that is not below the period is
refused (R297). -/
def execDofsChange (d : Fin 6) (v : Word) (s : State) :=
  answer s (
    if pageAbsent s.variant 0x48 then s
    else if s.dspPeriod d.val ≤ v.toNat * 65536 then s.raise (156 + d.val) (w32 d.val) 2 0
    else
      let k := rk 0x48 (vtD d.val 0x14)
      let turn := if s.dspState d.val = 0 || s.dofs d.val = v.toNat then none else some (s.dofs d.val, s.turnAt d.val v)
      (((s.setShadow k v).applyShadows 0x48 (fun x => x = k)).offsetsStale).modDsp d.val (fun x => { x with turn := turn }))
def execDisplayLineEmission (v : Fin 6) (line : Nat) (ecc : List LineEcc) (s : State) := answer s (s.emitLine v.val line ecc)

end Sys2Proof.Machine
end

