-- ==== Sys2Proof/Machine/Mgmt.lean ====
section
/-! DEFINITION. What the management firmware does for every unit: mailbox instances and their commands (R98 to R104), and the
changes of the update state that other units cause. -/

namespace Sys2Proof.Machine

/-! ### Mailbox (R98 to R104) -/

/-- STATUS.BUSY of an instance. -/
def State.boxBusy (s : State) (n : Nat) : Bool := s.rb (boxPage n) 0x80 0
/-- The instance can be reached: an instance of a plane in reset holds no command. -/
def State.boxArg (s : State) (n j : Nat) : Word := (s.box n).args.getD j 0

/-- Completion of the command that instance `n` holds (R99): RESP, ERR, TAG and RESP_LEN, DONE for BUSY and DOORBELL, and
the events. -/
def State.boxDone (s : State) (n err : Nat) (resp : List Word) : State :=
  if !s.boxBusy n then s
  else
    let p := boxPage n
    let r := resp.take 14
    let s := (r.zipIdx).foldl (fun t (v, j) => t.wr p (0x84 + 4 * j) v) s
    let s := s.wr p 0x80 (w32 (2 + err % 256 * 0x100 + fld (s.box n).cmd 8 8 * 0x1_0000 + r.length * 0x100_0000))
    let s := (s.wr p 0x7C 0).modBox n (fun b => { b with running := false, kpDone := false })
    let s := { s with bells := s.bells.filter (fun x => x ≠ n) }
    let s := s.raiseAt p 0 1 (s.openWord 1 0) (s.openWord 1 1) (s.openWord 1 2)
    s.when (err % 256 ≠ 0) (fun t => t.raiseAt p 1 2 (w32 n) (t.openWord 2 1) (t.openWord 2 2))

/-- R103: the planes from which a command code is accepted, by instance. -/
def planeOk (code n : Nat) : Bool :=
  if (0x40 ≤ code && code ≤ 0x45) || (0x50 ≤ code && code ≤ 0x52) || code = 0x70 || code = 0x71 then n ≠ 0
  else if code = 0x80 || code = 0x81 then n ≠ 1
  else true

/-- The farrier blocks that a command needs (R118): the time base, the MRAM controller, the tack room, the Selcy link. -/
def cmdBlocks (code : Nat) : List Nat :=
  if code = 0x60 then [8]
  else if code = 0x10 || (0x40 ≤ code && code ≤ 0x47) || (0x50 ≤ code && code ≤ 0x53) then [11]
  else if code = 0x70 || code = 0x71 then [12]
  else if code = 0x80 || code = 0x81 then [13]
  else []
/-- The firmware takes up instance `n`: its command stands and has not been started, and no other has waited longer (R99). -/
def State.boxNext (s : State) (n : Nat) : Bool := s.boxBusy n && !(s.box n).running && s.bells.head? = some n
/-- The firmware serves the command of instance `n` where it is the one with this code (and, for a command with
sub-commands, where `sel` takes its arguments) and the next in doorbell order: R103, R104 and R118 are checked before `f` acts. -/
def State.serve (s : State) (n code : Nat) (sel : List Word → Bool) (lens : List Nat) (f : State → State) : State :=
  let b := s.box n
  if !s.boxNext n || fld b.cmd 0 8 ≠ code || !sel b.args then s
  else if !planeOk code n then s.boxDone n 0x04 []
  else if !lens.contains (fld b.cmd 16 16) then s.boxDone n 0x02 []
  else if (cmdBlocks code).any s.blockBad then s.boxDone n 0x0A []
  else f s

/-- The command goes on and completes later. -/
def State.boxRun (s : State) (n : Nat) : State :=
  { s.modBox n (fun b => { b with running := true }) with bells := s.bells.filter (fun x => x ≠ n) }

/-- The registers of an instance at their reset values, its command abandoned (R98). -/
def State.boxReset (s : State) (n : Nat) : State :=
  let p := boxPage n
  { s with regs := s.regs.filter (fun c => keyPage c.1 ≠ p)
           upsets := s.upsets.filter (fun c => keyPage c.1 ≠ p)
           kp := s.kp.filter (fun k => k.page ≠ p)
           boxes := s.boxes.set n {}
           bells := s.bells.filter (fun x => x ≠ n) }

/-! ### Update state (R445) -/

/-- UPD.STATE.STATE: 0 IDLE, 1 OPEN, 2 VERIFIED, 3 PAUSE, 4 TRIAL. -/
def State.updState (s : State) : Nat := s.rf 0x71 0x44 0 3
/-- A change of the state raises UPD_STATE. -/
def State.setUpd (s : State) (x : Nat) : State :=
  if s.updState = x then s else (s.wrFld 0x71 0x44 0 3 x).raise 244 (w32 x) 0 0
/-- Natural boundary of the UPD page: the end of a session, or at once when none is held (R444). -/
def State.updBoundary (s : State) : State := if s.upd.held then s else s.applyShadows 0x71 (fun _ => true)
/-- The session ends: the state is IDLE, or TRIAL while a trial runs. -/
def State.updEnd (s : State) : State :=
  let s := { s with upd := { s.upd with held := false, bytes := [] } }
  let s := (s.wr 0x71 0x4C 0).wr 0x71 0x50 0
  (s.setUpd (if s.keep.trial then 4 else 0)).updBoundary
/-- The slot that the module does not start from holds a verified package, or does not. -/
def State.setSpare (s : State) (x : Slot) : State :=
  { s with keep := if s.keep.activeB then { s.keep with slotA := x } else { s.keep with slotB := x } }
def State.spareSlot (s : State) : Slot := if s.keep.activeB then s.keep.slotA else s.keep.slotB
/-- A session is aborted: the inactive slot is left invalid (R432). -/
def State.updDrop (s : State) : State := (s.setSpare { s.spareSlot with valid := false }).updEnd
/-- A refusal (R435): the reason with the command's code, and UPD_REFUSED. -/
def State.updRefuse (s : State) (reason code : Nat) : State :=
  (s.wr 0x71 0x5C (w32 (reason + 0x100 * code))).raise 245 (w32 reason) 0 0

end Sys2Proof.Machine
end

