-- ==== Sys2Proof/Machine/Duplex.lean ====
section
/-! DEFINITION. The commit of an image (R174, R181, R186, R215) and the duplex unit (R384 to R403): roles, the Selcy link,
heartbeat windows, takeover and yield. -/

namespace Sys2Proof

/-! ### The fields of a frame (R389) -/

/-- Byte `j` of a frame, and the `n`-byte number at byte `j`. -/
def XFrame.byte (f : XFrame) (j : Nat) : Nat := (f.raw.getD j 0).toNat
def XFrame.num (f : XFrame) (j n : Nat) : Nat := (List.range n).foldr (fun i a => f.byte (j + i) + 256 * a) 0
/-- FLAGS: SLOT (B is true), ROLE, ALIVE, YIELD. -/
def XFrame.slot (f : XFrame) : Bool := (f.byte 2).testBit 0
def XFrame.role (f : XFrame) : Nat := f.byte 2 / 2 % 4
def XFrame.alive (f : XFrame) : Bool := (f.byte 2).testBit 3
def XFrame.yield (f : XFrame) : Bool := (f.byte 2).testBit 4
/-- HB_SEQ, IMG_LEN, LAST_COMMIT, TICK_EPOCH:TICK_NS, DIGEST, HEALTH. -/
def XFrame.hbSeq (f : XFrame) : Nat := f.num 4 2
def XFrame.imgLen (f : XFrame) : Nat := f.num 6 2 % 2 ^ 14
def XFrame.lastCommit (f : XFrame) : Word := Machine.w32 (f.num 8 4)
def XFrame.tick (f : XFrame) : Nat := f.num 12 8
def XFrame.digest (f : XFrame) : Word := Machine.w32 (f.num 20 4)
def XFrame.health (f : XFrame) : Nat := f.num 24 8
/-- Image word `i`. -/
def XFrame.word (f : XFrame) (i : Nat) : DWord := BitVec.ofNat 64 (f.num (32 + 8 * i) 8)
/-- The last four bytes are the CRC-32 of all bytes before them (R389, R391). -/
def XFrame.crcOk (f : XFrame) : Bool :=
  4 ≤ f.raw.length && f.num (f.raw.length - 4) 4 = (Machine.crc32 ((f.raw.take (f.raw.length - 4)).map BitVec.toNat)).toNat
/-- `x` in `n` bytes, low byte first. -/
def leList (n x : Nat) : List Byte := (List.range n).map (fun j => BitVec.ofNat 8 (x / 256 ^ j))
/-- Bytes with their CRC-32 after them. -/
def withCrc (l : List Byte) : XFrame := ⟨l ++ leList 4 (Machine.crc32 (l.map BitVec.toNat)).toNat⟩

namespace Machine

/-! ### Commit -/

/-- The forces that are enabled (R215). -/
def State.forcesOn (s : State) : List Nat :=
  (s.regs.filter (fun c => keyPage c.1 = 0x0A && keyIsTab c.1 && 0x4000 ≤ keyOff c.1 && keyOff c.1 < 0x8000 &&
    keyOff c.1 % 4 = 0 && bit c.2 0)).map (fun c => (keyOff c.1 - 0x4000) / 4)
/-- Forced values replace the voted ones in image `id`. -/
def State.applyForces (s : State) (id : Nat) : State :=
  s.forcesOn.foldl (fun t i =>
    let w0 := t.mapWord i 0
    let v := (t.tab 0x0A (0x4001 + 4 * i)).toNat + 2 ^ 32 * (t.tab 0x0A (0x4002 + 4 * i)).toNat
    t.setImgBits id (mapPos w0 (t.mapWord i 1)) (typeBits (mapType w0)) v) s

/-- The image in `imgVoted` becomes the image in force: forces, then substitution while the latch is set, then the command
register and the networks. -/
def State.commitVoted (s : State) : State :=
  let s := s.applyForces imgVoted
  let s := if s.latched then s.substitute imgVoted else s.copyImage imgVoted imgCommitted
  let s := { s with field := { s.field with sagOff := if s.supply = 2 then s.field.sagOff else 0,
                                            waitCommit := s.field.waitCommit && s.linkMode ≠ 2 } }
  s.refresh.commitOut

/-! ### Roles and role lines (R34, R384 to R386) -/

/-- ROLE_OUT asserted or released; the driver enable follows. -/
def State.setRoleOut (s : State) (b : Bool) : State := (s.wrBit 0x50 0x58 4 (b && !s.pins.pfActive && !s.dup.fault)).refresh
/-- The role's code. -/
def State.setRole (s : State) (r : Nat) : State := s.wrFld 0x50 0x58 0 2 r
/-- The module leaves ACTIVE or SINGLE for OUTRIDER. -/
def State.leaveRole (s : State) : State :=
  let s := (s.setRole 2).wr 0x50 0x5C (setFld (s.rd 0x50 0x5C) 2 4 0)
  let s := { s with dup := { s.dup with yieldNext := false, yieldSent := false, tryUntil := none } }
  s.setRoleOut false
/-- The first commit since the reset settles the role (R384). -/
def State.firstRole (s : State) : State :=
  if s.role ≠ 3 then s
  else if s.duplexEn || s.dup.fault then s.setRole 2
  else (s.setRole 0).setRoleOut true

/-! ### Health (R392) -/

/-- The field domain is PARALLEL, or absent; the field supply is NORMAL or WARN. -/
def State.fieldOk (s : State) : Bool := pageAbsent s.variant 0x0B || (s.linkMode = 2 && !s.pageHeld 0x0B)
def State.supplyOk (s : State) : Bool := pageAbsent s.variant 0x0B || (s.supply ≤ 1 && !s.pageHeld 0x0B)
/-- ROLE.INHIBIT. -/
def State.inhibit (s : State) : Bool := s.rb 0x50 0x58 7
/-- HEALTH_OK. -/
def State.healthOk (s : State) : Bool :=
  2 ≤ s.votingCount && s.progMode = modeRun && !s.latched && s.loaded && !s.inhibit && s.dup.rotPass && s.fieldOk
/-- The health word. -/
def State.health (s : State) : Nat :=
  s.votingMask + 8 * b2n (s.progMode = modeRun) + 0x10 * b2n s.latched + 0x20 * b2n (s.tbState = tbLocked) +
    0x40 * b2n s.fieldOk + 0x80 * b2n s.supplyOk + 0x100 * b2n s.dup.rotPass + 0x200 * b2n s.dup.rotating.isSome +
    0x400 * b2n (1 ≤ s.updState && s.updState ≤ 3) + 0x800 * b2n s.inhibit + 0x1000 * b2n s.loaded + 0x2000 * b2n s.healthOk +
    0x4000 * s.rf 0x00 0x58 0 2 + 0x1_0000 * (s.dup.rotCnt % 0x1_0000) + 2 ^ 32 * (if s.loaded then fld s.prog.build 0 16 else 0)
/-- The partner's last health word: HEALTH_OK, INHIBIT, BUILD. -/
def State.pHealthOk (s : State) : Bool := s.rb 0x50 0x6C 13
def State.pInhibit (s : State) : Bool := s.rb 0x50 0x6C 11

/-! ### Frames (R389, R391) -/

/-- TICK_EPOCH:TICK_NS of the last tick. -/
def State.dueTick (s : State) : Nat := (s.rd 0x08 0x54).toNat + 2 ^ 32 * (s.rd 0x08 0x58).toNat
/-- ALIVE. -/
def State.alive (s : State) : Bool := !(s.progMode = modeRun && !s.tro.commitNow && !s.tro.commitPrev)
/-- CRC-32 of the input image from byte 0x040 to its end (DIGEST), over the windows as the lanes had them. -/
def State.inputDigest (s : State) : Word :=
  crc32 ((List.range (s.inLen - 8)).flatMap (fun i => natBytes 8 (s.image (imgIn 0) (8 + i)).toNat |>.map BitVec.toNat))
/-- The frame that the tick starts: bytes 0 to 31, the image committed, the CRC. -/
def State.frameNow (s : State) : XFrame :=
  let n := if s.tro.everCommitted then s.outLen else 0
  let flags := b2n (s.rb 0x00 0x44 4) + 2 * s.role + 8 * b2n s.alive + 16 * b2n s.dup.yieldNext
  withCrc ([0x5C, 0x01, BitVec.ofNat 8 flags, 0] ++ leList 2 s.dup.hbNext ++ leList 2 n ++ leList 4 (s.rd 0x07 0x7C).toNat ++
    leList 8 s.dueTick ++ leList 4 s.dup.digest.toNat ++ leList 8 s.health ++
    (List.range n).flatMap (fun i => leList 8 (s.image imgCommitted i).toNat))
/-- The Ethernet heartbeat of a frame: its bytes 0 to 31 and their CRC-32 in a frame with PCP 7 to PEER_MAC, padded to the least
length. -/
def State.heartbeatBytes (s : State) (f : XFrame) : List Byte :=
  let dst := (s.rd 0x50 0x4C).toNat + 2 ^ 32 * s.rf 0x50 0x50 0 16
  macBytes dst ++ macBytes Config.ownMac ++ [0x81, 0x00, 0xE0, 0x00, 0x88, 0xB5] ++ (withCrc (f.raw.take 32)).raw ++ List.replicate 6 0
/-- It leaves on the ports of HB_PORTS. -/
def State.sendHeartbeat (s : State) (f : XFrame) : State :=
  if !s.rb 0x50 0x40 1 || !s.ethUp then s
  else [0, 1, 2, 3].foldl (fun t n =>
    if t.rb 0x50 0x40 (4 + n) && t.portOn n then t.enqueue ⟨n, fld (t.rd 0x20 (0x60 + 4 * 4)) 21 3, 64, 0, s.heartbeatBytes f⟩ else t) s

/-- A frame of the partner is valid: role, sequence and health (R392, R393). -/
def State.partnerFrame (s : State) (f : XFrame) : State :=
  let s := s.wrFld 0x50 0x58 2 2 f.role
  let s := s.wrFld 0x50 0x5C 16 16 f.hbSeq
  let old := s.rd 0x50 0x6C
  let new := w32 f.health
  let s := (s.wr 0x50 0x6C new).wr 0x50 0x70 (w32 (f.health / 2 ^ 32))
  let s := s.when (fld old 0 14 ≠ fld new 0 14) (fun t => t.raise 234 new old 0)
  let s := s.when (f.role = 2 && bit new 13) (fun t => { t with dup := { t.dup with winPartnerOk := true } })
  let s := { s with dup := { s.dup with heard := true } }
  if bit new 10 && s.rb 0x00 0x44 4 && (s.updState = 1 || s.updState = 2) then (s.updDrop).updRefuse 0x4 0x40 else s
/-- Bits on the wire of a frame, as time (R390). -/
def frameNs (f : XFrame) : Nat := (39 + 8 * f.imgLen) * 8
/-- The mirror takes the image of an ACTIVE partner's frame (R395, R403). -/
def State.takeMirror (s : State) (f : XFrame) : State :=
  if f.imgLen = 0 then s
  else
    let s := (s.clearImage imgMirror).putImage imgMirror ((List.range f.imgLen).map (fun i => (i, f.word i)))
    let s := { s with dup := { s.dup with mirrorOk := true, mirrorTick := f.tick } }
    s.wr 0x50 0x74 f.lastCommit
/-- DIGEST_DIFF (R402): both modules committed a cycle at the tick that the frame names. -/
def State.compareDigest (s : State) (f : XFrame) : State :=
  let both := s.tro.commitNow && f.tick = s.dueTick && f.lastCommit ≠ s.dup.peerCommit
  let s := { s with dup := { s.dup with peerCommit := f.lastCommit } }
  s.when (both && f.digest ≠ s.dup.digest) (fun t => t.sat16 0x50 0x7C)
/-- The XLINK unit takes part. -/
def State.xlinkUp (s : State) : Bool := s.pins.running && !s.pageHeld 0x50
/-- A Selcy frame has arrived whole (R393, R398). -/
def State.selcyFrame (s : State) (f : XFrame) : State :=
  if !s.xlinkUp || !s.rb 0x50 0x5C 0 then s
  else if !f.crcOk then s.sat16 0x50 0x78
  else if f.slot = s.rb 0x00 0x44 4 then s.wrBit 0x50 0x5C 6 true
  else
    let c := s.tb.count - frameNs f
    let s := s.partnerFrame f
    let s := { s with dup := { s.dup with lastSof := some c, winYield := s.dup.winYield || f.yield,
                                          winXl := s.dup.winXl || (f.role = 1 && f.alive) } }
    let s := s.compareDigest f
    let s := (s.capture 61 c)
    if f.role = 1 then
      (s.takeMirror f).tbMeasure 4 c ((f.tick + 1000 + s.rf 0x50 0x48 0 16 : Nat) - (c : Int))
    else s
/-- An Ethernet heartbeat has been written into XLINK. -/
def State.ethHeartbeat (s : State) (f : XFrame) : State :=
  if !s.xlinkUp || !s.ethUp || !f.crcOk then s
  else if f.slot = s.rb 0x00 0x44 4 then s.wrBit 0x50 0x5C 6 true
  else
    let s := s.partnerFrame f
    { s with dup := { s.dup with ethSeen := true, winEth := s.dup.winEth || (f.role = 1 && f.alive) } }

/-! ### Takeover (R393 to R395) -/

/-- Conditions 3 and 4 of R394, with INHIBIT and the fault state of R403. -/
def State.mayTake (s : State) : Bool :=
  s.duplexEn && !s.dup.fault && !s.inhibit && !s.pins.pfActive && s.healthOk &&
    (!s.rb 0x00 0x44 4 || (s.dup.bootEnd + s.rf 0x50 0x40 16 16 * 1_000_000 ≤ s.tb.count && !s.dup.partnerOk.any id))
/-- The mirror may be committed (R395). -/
def State.mirrorFit (s : State) : Bool :=
  s.dup.mirrorOk && s.dup.mirrorTick ≤ s.dueTick && s.dueTick ≤ s.dup.mirrorTick + 5 * s.periodNs &&
    fld (s.rd 0x50 0x70) 0 16 = fld s.prog.build 0 16
/-- Entry into ACTIVE: the mirror or the module's own image in force is loaded as a commit, and the role is entered in the IOCLK cycle
after it, from which GAP_NS counts (R395 and its example). -/
def State.takeRole (s : State) (trig : Nat) : State :=
  let gap := match s.dup.lastSof with | none => 0 | some c => s.tb.count + 5 - c
  let s := (s.setRole 1).wrBit 0x50 0x58 8 false
  let s := (s.wr 0x50 0x5C (setFld (s.rd 0x50 0x5C) 2 4 0)).wr 0x50 0x88 (w32 gap)
  let s := { s with dup := { s.dup with tryUntil := none } }
  let s := (s.sat16 0x50 0x80).raise 232 (w32 trig) (w32 gap) 0
  let s := if s.mirrorFit then ((s.copyImage imgMirror imgVoted).commitVoted).wr 0x07 0x7C (s.rd 0x50 0x74)
    else (s.copyImage imgCommitted imgVoted).commitVoted
  s.setRoleOut true
/-- A wait of R394 that has run out leaves the takeover blocked. -/
def State.endTry (s : State) : State :=
  match s.dup.tryUntil with
  | some (_, e) => if e ≤ s.tb.count then ({ s with dup := { s.dup with tryUntil := none } }).wrBit 0x50 0x58 8 true else s
  | none => s
/-- A trigger of R394 at a tick, or its wait for ROLE_IN. -/
def State.tryRole (s : State) (trig : Nat) : State :=
  if !s.roleIn then (if s.mayTake then s.takeRole trig else s)
  else { s with dup := { s.dup with tryUntil := some (trig, s.tb.count + 10_000) } }

/-- The window that the tick closes (R393): an OUTRIDER counts what it missed. -/
def State.closeWindowHb (s : State) : State :=
  let mx := min 3 (s.rf 0x50 0x5C 2 2 + 1)
  let me := min 3 (s.rf 0x50 0x5C 4 2 + 1)
  let d := s.dup
  let s := s.wrBit 0x50 0x5C 1 d.ethSeen
  let s :=
    if s.role = 2 then
      let s := (s.wrFld 0x50 0x5C 2 2 (if d.winXl then 0 else mx)).wrFld 0x50 0x5C 4 2 (if d.winEth then 0 else me)
      let s := s.when (!d.winXl) (fun t => t.raise 230 (w32 mx) 0 0)
      s.when (!d.winEth && s.rb 0x50 0x40 1) (fun t => t.raise 231 (w32 me) 0 0)
    else s
  { s with dup := { s.dup with partnerOk := (d.winPartnerOk :: d.partnerOk).take 3, winXl := false, winEth := false,
                               winYield := false, winPartnerOk := false, ethSeen := false } }

/-- What the duplex unit does at a tick: the window closes, the role follows CFG.EN and a yield sent, and a takeover is
tried. -/
def State.duplexTick (s : State) : State :=
  if !s.xlinkUp then s
  else
    let s := { s with dup := { s.dup with frameDue := true } }
    let yielded := s.dup.winYield
    let s := (s.endTry).closeWindowHb
    let s := if s.role = 0 && s.duplexEn then s.leaveRole
      else if (s.role = 1 || s.role = 2) && !s.duplexEn && !s.dup.fault then (s.setRole 0).setRoleOut true else s
    let s :=
      if s.dup.yieldSent then
        let box := s.dup.yieldBox
        let s := (if s.role = 1 then s.leaveRole else s).raise 233 0 0 0
        let s := { s with dup := { s.dup with yieldSent := false, yieldBox := none } }
        match box with
        | none => s
        | some n => s.boxDone n.val 0 []
      else s
    if s.role = 2 && s.dup.tryUntil.isNone then
      if yielded then s.tryRole 2
      else if s.rf 0x50 0x5C 2 2 = 3 && s.rf 0x50 0x5C 4 2 = 3 then s.tryRole 1 else s
    else s

/-- A module that holds the role may hand it to its partner (R396). -/
def State.mayYield (s : State) : Bool := s.role = 1 && s.rb 0x50 0x5C 0 && s.pHealthOk && !s.pInhibit
/-- A yield starts: the next frame carries it. -/
def State.startYield (s : State) : State := { s with dup := { s.dup with yieldNext := true } }

/-! ### Rows -/

/-- 1,000 ns after the due instant of the tick its frame leaves (R389); one with ALIVE = 1 restarts the hold timer as from that tick
(R385). -/
def execXlinkFrameSend (s : State) :=
  answer s (if !s.xlinkUp || !s.dup.frameDue || 2 ≤ s.gaitNow then s
    else
      let s := s.advanceTo (s.dueTick + 1000)
      let f := s.frameNow
      let d := { s.dup with sent := some f, hbNext := (s.dup.hbNext + 1) % 0x1_0000, yieldNext := false, frameDue := false
                            yieldSent := s.dup.yieldSent || f.yield, aliveAt := if f.alive then s.dueTick else s.dup.aliveAt }
      (({ s with dup := d }).wr 0x50 0x60 (w32 s.dup.hbNext)).sendHeartbeat f)
def execXlinkFrameReceived (f : XFrame) (s : State) := answer s (s.selcyFrame f)
def execEthHeartbeatReceived (f : XFrame) (s : State) := answer s (s.ethHeartbeat f)
def execXlinkUp (s : State) :=
  answer s (if s.xlinkUp && !s.rb 0x50 0x5C 0 && !s.xlinkTested then (s.wrBit 0x50 0x5C 0 true).raise 228 0 0 0 else s)
def execXlinkDown (s : State) := answer s (if s.rb 0x50 0x5C 0 then (s.wrBit 0x50 0x5C 0 false).raise 229 0 0 0 else s)
/-- 4 · P − 20 µs without an ALIVE frame (R385): the line is released, and an ACTIVE module leaves its role. -/
def execRoleHoldTimeout (s : State) :=
  answer s (if !s.roleOut then s
    else
      let s := s.advanceTo (s.dup.aliveAt + 4 * s.periodNs - 20_000)
      if s.role = 1 then s.leaveRole else s.setRoleOut false)
/-- ROLE_IN has passed its filter (R34, R394, R400). -/
def execRoleInChange (asserted : Bool) (s : State) :=
  answer s (
    let s := s.endTry
    let s := (s.wrBit 0x50 0x58 5 asserted).refresh
    if asserted then
      if s.roleOut then
        let s := (s.sat16 0x50 0x84).raise 235 0 0 0
        if s.role = 1 then s.leaveRole else s
      else s
    else match s.dup.tryUntil with
      | some (trig, _) => if s.role = 2 && s.mayTake then s.takeRole trig else s
      | none => s)

end Machine

end Sys2Proof
end

