-- ==== Sys2Proof/Machine/Recorder.lean ====
section
/-! DEFINITION. The event recorder (R446 to R466): records, the martingale, staging, flushing, the studbook and the ring,
reading and export; and the refresh of MRAM (R491). -/

namespace Sys2Proof.Machine

/-! ### Records -/

/-- Severity of a record that the manual gives none: a free value. -/
def State.freeSev (s : State) : Nat := fld (Config.freeWord s.freeIx) 0 3
/-- A record of the present instant (R446). -/
def State.recordAt (s : State) (code source sev : Nat) (t : Nat) (p0 p1 p2 : Word) : Rec :=
  { code := code % 0x1_0000, source := source, sev := sev, wallValid := s.rb 0x05 0x7C 0, ns := w32 t, epoch := w32 (t / 2 ^ 32)
    wallS := s.wallSeconds t, p0 := p0, p1 := p1, p2 := p2 }
/-- CFG, every record being kept and flushed at once after a TRIPLE_FAULT in it (R466). -/
def State.studSev (s : State) : Nat := if s.recd.cfgFault then 0 else s.rf 0x70 0x40 0 3
def State.flushSev (s : State) : Nat := if s.recd.cfgFault then 0 else s.rf 0x70 0x40 8 3
/-- A studbook-grade record (R457); 0x0102 is the first new studbook record (R459). -/
def State.studGrade (s : State) (r : Rec) : Bool :=
  s.studSev ≤ r.sev || (r.code < 0x100 && evForced r.code) || r.code = 0x102
/-- The eight words of a record. -/
def recWords (r : Rec) : List Word :=
  [w32 (r.code + 0x1_0000 * r.source + 0x100_0000 * r.sev + 2 ^ 27 * b2n r.wallValid + 2 ^ 28 * b2n r.studbook + 2 ^ 29 * b2n r.pf +
      2 ^ 30 * b2n r.bypass), r.seq, r.ns, r.epoch, r.wallS, r.p0, r.p1, r.p2]

/-! ### Staging (R454, R455) -/

/-- A record enters staging with the next SEQ; there is room for it. -/
def State.stagePut (s : State) (r : Rec) : State :=
  let r : Rec := { r with seq := s.keep.nextSeq, studbook := s.studGrade r, pf := s.recd.pf }
  let n := s.recd.staged.length + 1
  let due := if s.flushSev ≤ r.sev then some 3 else if s.recd.flushDue.isSome then s.recd.flushDue else if 1024 ≤ n then some 1 else none
  { s with keep := { s.keep with nextSeq := s.keep.nextSeq + 1 }
           recd := { s.recd with staged := s.recd.staged ++ [r], flushDue := due } }
/-- The gap record that lost records left owing, as soon as there is room. -/
def State.stageGap (s : State) : State :=
  if s.recd.gapOwed = 0 || 2048 ≤ s.recd.staged.length then s
  else
    let r := s.recordAt 0x103 0x11 s.freeSev s.tb.count 0 (w32 s.recd.gapOwed) 1
    ({ s with recd := { s.recd with gapOwed := 0 } }).draw.stagePut { r with bypass := true }
/-- 27 ms after LOGIC_IN fell the power-fail flush is over, and what comes later is lost (R456). -/
def State.pfOver (s : State) : Bool := s.recd.pf && s.pins.fellAt + 27_000_000 ≤ s.tb.count
/-- A record that passed the martingale is staged, or dropped where staging is full. -/
def State.stageRec (s : State) (r : Rec) : State :=
  let s := s.stageGap
  if s.pfOver then s
  else if s.recd.staged.length < 2048 then s.stagePut r
  else ((({ s with recd := { s.recd with gapOwed := s.recd.gapOwed + 1 } }).sat16 0x70 0x58)).raise 250 2 0 0

/-! ### The martingale (R449 to R453) -/

/-- Records that bypass it. -/
def bypasses (r : Rec) : Bool :=
  r.sev = 7 || (r.code < 0x100 && (evForced r.code || r.code = 39)) || (0x101 ≤ r.code && r.code ≤ 0x104)
/-- A record suppressed in this second under its code. -/
def State.suppress (s : State) (r : Rec) : State :=
  let l := s.recd.supp
  let l := if l.any (fun x => x.code = r.code) then l.map (fun x => if x.code = r.code then { x with count := x.count + 1 } else x)
    else l ++ [⟨r.code, 1, r.ns⟩]
  { s with recd := { s.recd with supp := l } }
/-- A record goes through its bucket and the aggregate cap. -/
def State.accept (s : State) (r : Rec) : State :=
  if bypasses r then s.stageRec { r with bypass := true }
  else
    let own := s.recd.buckets.find? (fun b => b.code = r.code)
    let level := match own with
      | some b => b.level
      | none => s.recd.defLevel
    if level < 1000 then s.suppress r
    else
      let s := match own with
        | some _ =>
          { s with recd := { s.recd with
              buckets := s.recd.buckets.map (fun (b : Bucket) => if b.code = r.code then { b with level := b.level - 1000 } else b) } }
        | none => { s with recd := { s.recd with defLevel := s.recd.defLevel - 1000 } }
      let no := s.tb.count / 1_000_000_000
      let n := if s.recd.secNo = no then s.recd.second else 0
      if 4096 ≤ n then s.suppress r
      else ({ s with recd := { s.recd with second := n + 1, secNo := no } }).stageRec r

/-- The management firmware runs and takes records in. -/
def State.mgmtRuns (s : State) : Bool := s.pins.running && !s.pins.recovery && s.gaitNow < 4

/-- The head of the inlet queue. -/
def State.takeInlet (s : State) : State :=
  match s.inlet with
  | [] => s
  | e :: rest =>
    let r : Rec := { s.recordAt e.code 0x10 e.sev (e.ns.toNat + 2 ^ 32 * e.epoch.toNat) e.p0 e.p1 e.p2 with
      wallValid := e.wallValid, wallS := e.wallS }
    ({ s with inlet := rest }).accept r

/-- Place of APP_P0 to APP_P2 of an initiator's set, beyond the page's own offsets. -/
def appOff (ini j : Nat) : Nat := 0x2000 + 0x10 * ini + 4 * j
/-- APP_CODE takes a value (R448). -/
def State.appCode (s : State) (ini : Nat) (v : Word) : State :=
  s.accept (s.recordAt (fld v 0 16) ini (fld v 24 3) s.tb.count (s.rd 0x70 (appOff ini 0)) (s.rd 0x70 (appOff ini 1)) (s.rd 0x70 (appOff ini 2)))

/-- The end of a second (R452). -/
def State.secondEnd (s : State) : State :=
  let l := s.recd.supp.mergeSort (fun a b => a.code ≤ b.code)
  let s := { s with recd := { s.recd with supp := [] } }
  if l.isEmpty then s
  else
    let total := (l.map Supp.count).sum
    let s := (l.take 64).foldl (fun t x =>
      let r := t.recordAt 0x101 0x11 t.freeSev t.tb.count (w32 x.code) (w32 x.count) x.firstNs
      t.draw.accept r) s
    let more := ((l.drop 64).map Supp.count).sum
    let s := s.when (64 < l.length) (fun t =>
      let r := t.recordAt 0x101 0x11 t.freeSev t.tb.count 0xFFFF_FFFF (w32 more) (Config.freeWord (t.freeIx + 1))
      t.draw.draw.accept r)
    (s.sat16by 0x70 0x54 total).raise 248 (w32 l.length) 0 0

/-! ### MRAM (R454 to R461) -/

/-- A record is written to the ring, which overwrites its oldest. -/
def State.ringPut (s : State) (r : Rec) : State :=
  let l := s.keep.ring ++ [r]
  { s with keep := { s.keep with ring := if 491_520 < l.length then l.drop 1 else l } }
/-- One staged record goes to MRAM: the studbook while it has room, and the ring. The record of a clearing is the first of the new
studbook (R459). -/
def State.writeRec (s : State) (ringOk studOk : Bool) (r : Rec) : State :=
  let room := s.keep.studGen.length < 32_704
  let r : Rec := { r with pf := r.pf || s.recd.pf, studbook := r.studbook && room }
  let gen := if r.code = 0x102 then r :: s.keep.studGen else s.keep.studGen ++ [r]
  let s := if r.studbook && studOk then { s with keep := { s.keep with studGen := gen } } else s
  let s := if ringOk then s.ringPut r else s
  if s.keep.studGen.length = 32_704 && !s.keep.studFull then ({ s with keep := { s.keep with studFull := true } }).raise 249 0 0 0 else s
/-- A failed write of the recorder area is reported with its offset, which the manual's layout leaves open (R461). -/
def State.recError (s : State) : State := (s.raise 250 1 (Config.freeWord s.freeIx) 0).draw
/-- Every staged record goes to MRAM (R454). -/
def State.flush (s : State) (ringOk studOk : Bool) : State :=
  match (if s.pfOver then none else s.recd.flushDue) with
  | none => s
  | some trig =>
    let l := s.recd.staged
    let s := { s with recd := { s.recd with staged := [], flushDue := none } }
    let s := l.foldl (fun t r => t.writeRec ringOk studOk r) s
    let s := s.when (!ringOk && !l.isEmpty) State.recError
    let s := s.when (!studOk && l.any Rec.studbook) State.recError
    let s := (s.inc32 0x70 0x68).raise 247 (w32 l.length) (w32 trig) 0
    s.stageGap
/-- A trigger of a flush; SEVERITY's own trigger is kept. -/
def State.flushFor (s : State) (trig : Nat) : State :=
  { s with recd := { s.recd with flushDue := if s.recd.flushDue = some 3 then some 3 else some trig } }

/-- The alarm record of an erase sequence, written directly (R417, R458): before the records of a flush that is due, whose numbers it
precedes (R464). -/
def State.alarmRecord (s : State) (source resp : Nat) : State :=
  let first := if s.recd.flushDue.isSome then s.recd.staged.head?.map Rec.seq else none
  let r := s.recordAt 236 0x12 s.freeSev s.tb.count (w32 source) (w32 resp) 0
  let r : Rec := { r with seq := first.getD s.keep.nextSeq, studbook := s.keep.studAlarm.length < 64, bypass := true, pf := s.recd.pf }
  let later : List Rec := if first.isSome then s.recd.staged.map (fun (x : Rec) => { x with seq := x.seq + 1 }) else s.recd.staged
  let s := { s.draw with keep := { s.keep with nextSeq := s.keep.nextSeq + 1 }, recd := { s.recd with staged := later } }
  let s := if r.studbook then { s with keep := { s.keep with studAlarm := s.keep.studAlarm ++ [r] } } else s
  s.ringPut r

/-! ### Reading and export (R462, R463) -/

/-- Records of an area with their SEQ or index, from `first` on; a SEQ older than the oldest starts at the oldest. -/
def State.areaFrom (s : State) (area : Nat) (first : Word) : List (Word × Rec) :=
  if area = 0 then
    let l := s.keep.ring.map (fun r => (r.seq, r))
    match l with
    | [] => []
    | (o, _) :: _ => if later 32 o.toNat first.toNat then l else l.filter (fun x => !later 32 first.toNat x.1.toNat)
  else
    let l := (s.keep.studGen.zipIdx.map (fun (r, i) => (w32 i, r))) ++ (s.keep.studAlarm.zipIdx.map (fun (r, i) => (w32 (32_704 + i), r)))
    l.filter (fun x => first.toNat ≤ x.1.toNat)
/-- The words of the retained output image (R207). -/
def State.retainWords (s : State) : List Word :=
  (List.range s.keep.retain.outLen).flatMap (fun i =>
    let d := (stGet 0 s.keep.retain.image i).toNat
    [w32 d, w32 (d / 2 ^ 32)])
/-- A ring record is still in the ring. -/
def State.inRing (s : State) (r : Rec) : Bool := s.keep.ring.any (fun x => x.seq = r.seq)
/-- Words of an export that are still to be read. -/
def expLeft (e : Export) : Nat := e.words.length + 8 * e.recs.length
/-- The next record is fetched: overwritten ones are skipped, and a gap record stands for them. -/
def State.fetchRec (s : State) (e : Export) : State × List Word × List Rec :=
  let lost := if e.area = 0 then e.recs.takeWhile (fun r => !s.inRing r) else []
  match lost with
  | [] => match e.recs with
    | [] => (s, [], [])
    | r :: rest => (s, recWords r, rest)
  | l :: _ =>
    let g := s.recordAt 0x103 0x11 s.freeSev s.tb.count l.seq (w32 lost.length) 2
    (s.draw.draw, recWords { g with bypass := true, seq := Config.freeWord (s.freeIx + 1) }, e.recs.drop lost.length)
/-- A read of EXP_PORT: the next word, or all ones with no export. -/
def State.expPop (s : State) : State × Word :=
  match s.recd.exp with
  | none => (s, 0xFFFF_FFFF)
  | some e =>
    let (s, words, recs) := if e.words.isEmpty then s.fetchRec e else (s, e.words, e.recs)
    match words with
    | [] => ({ s with recd := { s.recd with exp := none } }, 0xFFFF_FFFF)
    | w :: rest =>
      let e : Export := { e with words := rest, recs := recs, readAt := s.tb.count }
      ({ s with recd := { s.recd with exp := if expLeft e = 0 then none else some e } }, w)

/-- REC_READ. -/
def State.recRead (s : State) (n : Nat) : State :=
  let area := fld (s.boxArg n 0) 0 2
  let cnt := (s.boxArg n 2).toNat
  if 2 ≤ area || cnt = 0 || 64 < cnt then s.boxDone n 3 []
  else
    let l := (s.areaFrom area (s.boxArg n 1)).take cnt
    let ws := l.flatMap (fun x => recWords x.2)
    let s := (ws.zipIdx).foldl (fun t (w, i) => t.wr 0x70 (0x800 + 4 * i) w) s
    s.boxDone n 0 [w32 l.length, (l.head?.map Prod.fst).getD (s.boxArg n 1), s.keep.nextSeq]
/-- REC_EXPORT. -/
def State.recExport (s : State) (n : Nat) : State :=
  let area := fld (s.boxArg n 0) 0 2
  if area = 3 then s.boxDone n 3 []
  else if s.recd.exp.isSome then s.boxDone n 5 []
  else if area = 2 then
    let ws := s.retainWords
    ({ s with recd := { s.recd with exp := if ws.isEmpty then none else some { area := 2, words := ws, readAt := s.tb.count } } }).boxDone n 0 [w32 ws.length, 0]
  else
    let l := s.areaFrom area (s.boxArg n 1)
    let l := if s.boxArg n 2 = 0 then l else l.take (s.boxArg n 2).toNat
    let e : Export := { area := area, words := [], recs := l.map Prod.snd, readAt := s.tb.count }
    ({ s with recd := { s.recd with exp := if l.isEmpty then none else some e } }).boxDone n 0
      [w32 (8 * l.length), (l.head?.map Prod.fst).getD (s.boxArg n 1)]
/-- REC_CLEAR_STUDBOOK (R100, R459). -/
def State.recClear (s : State) (n : Nat) : State :=
  if !(s.box n).kpDone then s.boxDone n 3 []
  else if s.moving then s.boxDone n 6 []
  else if s.recd.exp.any (fun e => e.area = 1) then s.boxDone n 5 []
  else
    let cnt := s.keep.studGen.length
    let s := { s with keep := { s.keep with studGen := [], studFull := false } }
    let r := s.recordAt 0x102 0x11 s.freeSev s.tb.count (w32 cnt) (w32 n) 0
    (s.draw.accept r).boxDone n 0 []
/-- MARTINGALE_SET (R453). -/
def State.martSet (s : State) (n : Nat) : State :=
  let code := fld (s.boxArg n 0) 0 16
  let rate := fld (s.boxArg n 1) 0 10
  let burst := fld (s.boxArg n 1) 16 6 + 1
  let others := s.recd.buckets.filter (fun b => b.code ≠ code)
  let known := others.length < s.recd.buckets.length
  if 1000 < rate then s.boxDone n 3 []
  else if rate = 0 then ({ s with recd := { s.recd with buckets := others } }).boxDone n 0 []
  else if known then
    let upd (b : Bucket) : Bucket := if b.code = code then ⟨code, rate, burst, 1000 * burst⟩ else b
    ({ s with recd := { s.recd with buckets := s.recd.buckets.map upd } }).boxDone n 0 []
  else if 1024 ≤ s.recd.buckets.length then s.boxDone n 5 []
  else ({ s with recd := { s.recd with buckets := s.recd.buckets ++ [({ code := code, rate := rate, burst := burst, level := 1000 * burst } : Bucket)] } }).boxDone n 0 []

/-- The highest SEQ in MRAM, by the ring, to which every record is written; else by the studbook. -/
def State.highestSeq (s : State) : Option Word :=
  let top (l : List Rec) : Option Word :=
    l.foldl (fun m r => match m with
      | none => some r.seq
      | some a => if later 32 r.seq.toNat a.toNat then some r.seq else some a) none
  match top s.keep.ring with
  | some a => some a
  | none => top (s.keep.studGen ++ s.keep.studAlarm)
/-- A start with empty staging continues after the highest SEQ in MRAM (R455). -/
def State.findSeq (s : State) : State :=
  match s.highestSeq with
  | some a => { s with keep := { s.keep with nextSeq := a + 1 } }
  | none => { s with keep := { s.keep with nextSeq := 0 } }
/-- The recorder starts (R455): the first record of this start. A management reset keeps what is staged (R464). -/
def State.recStart (s : State) (kept : Bool) : State :=
  let s : State := if kept then { s with recd := { staged := s.recd.staged, gapOwed := s.recd.gapOwed, flushDue := s.recd.flushDue, pf := s.recd.pf } }
    else { s with recd := {} }.findSeq
  let r := s.recordAt 0x104 0x11 s.freeSev s.tb.count (s.rd 0x00 0x40) s.keep.nextSeq 0
  s.draw.stageRec { r with bypass := true }

/-! ### Rows -/

def execRecRead (inst : Fin 3) (s : State) := answer s (s.serve inst.val 0x50 (fun _ => true) [12] (fun t => t.recRead inst.val))
def execRecExport (inst : Fin 3) (s : State) := answer s (s.serve inst.val 0x51 (fun _ => true) [12] (fun t => t.recExport inst.val))
def execRecClearStudbook (inst : Fin 3) (s : State) := answer s (s.serve inst.val 0x52 (fun _ => true) [0] (fun t => t.recClear inst.val))
def execMartingaleSet (inst : Fin 3) (s : State) := answer s (s.serve inst.val 0x53 (fun _ => true) [8] (fun t => t.martSet inst.val))
/-- The recorder takes the head of the inlet, or a record of the management firmware: code and severity as in word 0 of R446,
and the parameters. -/
def execRecordAccept (vendor : Option (Word × Word × Word × Word)) (s : State) :=
  answer s (if !s.mgmtRuns then s else match vendor with
    | none => s.takeInlet
    | some (c, p0, p1, p2) => s.accept (s.recordAt (fld c 0 16) 0x11 (fld c 24 3) s.tb.count p0 p1 p2))
/-- Monotonic time runs and the firmware with it. -/
def State.recTimed (s : State) : Bool := s.mgmtRuns && s.gaitNow < 3
/-- Time comes to the start of the next millisecond, and every level rises (R450). -/
def execMartingaleRefill (s : State) :=
  answer s (if !s.recTimed then s
    else
      let s := s.advanceTo (s.nextMultiple 1_000_000 s.recd.refillAt)
      { s with recd := { s.recd with
        refillAt := some s.tb.count
        buckets := s.recd.buckets.map (fun b => { b with level := min (b.level + b.rate) (1000 * b.burst) })
        defLevel := min (s.recd.defLevel + 10) 8000 } })
/-- Time comes to the end of the second (R452). -/
def execMartingaleSecondEnd (s : State) :=
  answer s (if !s.recTimed then s
    else
      let s := s.advanceTo (s.nextMultiple 1_000_000_000 s.recd.endAt)
      ({ s with recd := { s.recd with endAt := some s.tb.count } }).secondEnd)
/-- A flush runs where a trigger is due; the operands say whether the writes of each area succeeded, the retry included. -/
def execRecFlush (ringOk studOk : Bool) (s : State) := answer s (s.flush ringOk studOk)
/-- Time comes to the end of the 500 ms interval, which triggers a flush where none is due (R454). -/
def execRecFlushInterval (s : State) :=
  answer s (if !s.recTimed then s
    else
      let s := s.advanceTo (s.nextMultiple 500_000_000 s.recd.flushAt)
      let s := { s with recd := { s.recd with flushAt := some s.tb.count } }
      if s.recd.flushDue.isSome then s else s.flushFor 2)
/-- 10 s pass in which no word of an export is read (R463). -/
def execRecExportTimeout (s : State) :=
  answer s (match s.recd.exp with
    | none => s
    | some e =>
      let s := s.advanceTo (e.readAt + 10_000_000_000)
      { s with recd := { s.recd with exp := none } })
/-- The yearly rewriting of the static areas (R491), in GALLOP. -/
def execMramRefresh (readOk : Bool) (s : State) :=
  answer s (if s.gaitNow ≠ 0 then s
    else
      let s := { s with keep := { s.keep with refreshes := s.keep.refreshes + 1 } }
      if readOk then s else s.recError)

end Sys2Proof.Machine
end

