-- ==== Sys2Proof/Machine/Dma.lean ====
section
/-! DEFINITION. The DMA channels and the PCIe port (R371 to R377): rings, descriptors, endpoints, channel states, the link. -/

namespace Sys2Proof.Machine

/-! ### Channels (R374, R382) -/

/-- Offset of a word of channel `c`'s set in the DMA page. -/
def dmaOff (c off : Nat) : Nat := 0x40 + 0x20 * c + off
/-- A word of the set. -/
def State.dmaWord (s : State) (c off : Nat) : Word := s.rd 0x22 (dmaOff c off)
/-- HEAD and TAIL. -/
def State.dmaHead (s : State) (c : Nat) : Nat := s.rf 0x22 (dmaOff c 0xC) 0 16
def State.dmaTail (s : State) (c : Nat) : Nat := s.rf 0x22 (dmaOff c 0x10) 0 16
/-- STAT's state: 0 OFF, 1 IDLE, 2 RUN, 3 HALTED. -/
def State.dmaState (s : State) (c : Nat) : Nat := s.rf 0x22 (dmaOff c 0x18) 0 2
def State.setDma (s : State) (c st : Nat) : State := s.wrFld 0x22 (dmaOff c 0x18) 0 2 st
/-- IDLE and RUN follow HEAD and TAIL. -/
def State.dmaFollow (s : State) (c : Nat) : State :=
  let more := s.dmaHead c ≠ s.dmaTail c
  if s.dmaState c = 1 && more then s.setDma c 2
  else if s.dmaState c = 2 && !more then s.setDma c 1
  else s
/-- HEAD advances. -/
def State.dmaAdvance (s : State) (c : Nat) : State := s.wrFld 0x22 (dmaOff c 0xC) 0 16 (s.dmaHead c + 1)
/-- TAIL takes a value. -/
def State.dmaTailSet (s : State) (c : Nat) (v : Word) : State := (s.wr 0x22 (dmaOff c 0x10) (v &&& 0xFFFF)).dmaFollow c
/-- CTRL takes a value: EN, RESUME and WEIGHT. -/
def State.dmaCtrl (s : State) (c : Nat) (v : Word) : State :=
  let s := s.wr 0x22 (dmaOff c 0x14) (v &&& 0xF01)
  if !bit v 0 then s.setDma c 0
  else if s.dmaState c = 0 then (s.setDma c 1).dmaFollow c
  else if bit v 1 && s.dmaState c = 3 then ((s.setDma c 1).dmaAdvance c).dmaFollow c
  else s
/-- RING_LOG2 is written only in OFF. -/
def State.dmaLog2 (s : State) (c : Nat) (v : Word) : State :=
  if s.dmaState c = 0 then s.wr 0x22 (dmaOff c 8) (v &&& 0xF) else s

/-! ### Message interrupts (R375) -/

/-- Vector `v`. -/
def State.vec (s : State) (v : Nat) : MsixVec := s.net.msix.getD v {}
def State.modVec (s : State) (v : Nat) (f : MsixVec → MsixVec) : State := { s with net := { s.net with msix := s.net.msix.modify v f } }
/-- The message of vector `v` goes to host memory; while it is masked, or the link is down, its pending bit is set instead. -/
def State.msixRaise (s : State) (v : Nat) : State :=
  if (s.vec v).masked || !s.rb 0x23 0x44 0 then s.modVec v (fun x => { x with pending := true })
  else (s.setBytes (hostMem (s.vec v).addr) (bytesOf (s.vec v).data)).modVec v (fun x => { x with pending := false })
/-- A word of BAR4: the vectors of four words each from 0, the pending bits at 0x1000. -/
def State.msixWord (s : State) (a : Nat) : Word :=
  let x := s.vec (a / 16)
  if 0x1000 ≤ a then (if a = 0x1000 then bitsOf 9 (fun v => (s.vec v).pending) else 0)
  else if 144 ≤ a then 0
  else if a / 4 % 4 = 0 then w32 x.addr
  else if a / 4 % 4 = 1 then w32 (x.addr / 2 ^ 32)
  else if a / 4 % 4 = 2 then x.data
  else w32 (b2n x.masked)
/-- A write of such a word; a vector that is unmasked with its pending bit set sends its message. -/
def State.msixWrite (s : State) (a : Nat) (w : Word) : State :=
  let v := a / 16
  if 144 ≤ a then s
  else if a / 4 % 4 = 0 then s.modVec v (fun x => { x with addr := x.addr / 2 ^ 32 * 2 ^ 32 + w.toNat })
  else if a / 4 % 4 = 1 then s.modVec v (fun x => { x with addr := x.addr % 2 ^ 32 + 2 ^ 32 * w.toNat })
  else if a / 4 % 4 = 2 then s.modVec v (fun x => { x with data := w })
  else
    let t := s.modVec v (fun x => { x with masked := bit w 0 })
    if !bit w 0 && (t.vec v).pending then t.msixRaise v else t

/-! ### Descriptors (R371 to R373) -/

/-- The ring lies in host memory. -/
def State.ringHost (s : State) (c : Nat) : Bool := bit (s.dmaWord c 0) 0
/-- Address of the descriptor at HEAD. -/
def State.descAddr (s : State) (c : Nat) : Nat :=
  (s.dmaWord c 0).toNat / 32 * 32 + 2 ^ 32 * (s.dmaWord c 4).toNat + 32 * (s.dmaHead c % 2 ^ fld (s.dmaWord c 8) 0 4)
/-- Its place in the model's memories. -/
def State.descMem (s : State) (c : Nat) : Nat :=
  if s.ringHost c then hostMem (s.descAddr c) else sramMem (s.descAddr c % 0x100_0000)
/-- The eight words of the descriptor at HEAD: from the shared SRAM, or as the host's memory gives them. -/
def State.descWords (s : State) (c : Nat) (host : List Word) : List Word :=
  if s.ringHost c then host.take 8 ++ List.replicate (8 - host.length) 0
  else (List.range 8).map (fun j => s.memWord (s.descMem c + 4 * j))
/-- LEN, kinds and addresses of a descriptor. -/
def dLen (d : List Word) : Nat := fld (d.getD 0 0) 0 24
def dSrc (d : List Word) : Nat := fld (d.getD 0 0) 24 4
def dDst (d : List Word) : Nat := fld (d.getD 0 0) 28 4
def dSrcAt (d : List Word) : Nat := (d.getD 1 0).toNat + 2 ^ 32 * (d.getD 2 0).toNat
def dDstAt (d : List Word) : Nat := (d.getD 3 0).toNat + 2 ^ 32 * (d.getD 4 0).toNat
/-- Size of the memory behind an endpoint kind. -/
def kindSize (k : Nat) : Nat := if k = 0 then 0x100_0000 else if k = 1 then 2 ^ 64 else 0x20_0000
/-- An address of a memory kind lies in its range. -/
def kindFits (k a len : Nat) : Bool := !(k = 0 || k = 1 || k = 5) || a + len ≤ kindSize k
/-- The PCIe link is up. -/
def State.pcieUp (s : State) : Bool := s.rb 0x23 0x44 0
/-- The descriptor moves data over PCIe. -/
def usesHost (d : List Word) : Bool := dSrc d = 1 || dDst d = 1
/-- The error that the descriptor itself and the state of the link give; else the one that the transfer met, where it can meet
it. -/
def State.dmaErr (s : State) (c : Nat) (d : List Word) (met : Nat) : Nat :=
  let grant := bit (s.tab 0x03 0x70) 10
  if (s.ringHost c || usesHost d) && !s.pcieUp then 3
  else if dLen d = 0 || 5 < dSrc d || 5 < dDst d || dDst d = 3 || dDst d = 4 then 1
  else if !kindFits (dSrc d) (dSrcAt d) (dLen d) || !kindFits (dDst d) (dDstAt d) (dLen d) ||
      (!s.ringHost c && 0x100_0000 < s.descAddr c + 32) then 2
  else if dSrc d = 4 && !grant then 7
  else if (met = 3 && (s.ringHost c || usesHost d)) || met = 4 || (met = 6 && dSrc d = 3) then met
  else 0
/-- Words popped from the recorder's export window. -/
def State.popWords (s : State) : Nat → State × List Word
  | 0 => (s, [])
  | n + 1 =>
    let (s, w) := s.expPop
    let (t, ws) := s.popWords n
    (t, w :: ws)
/-- The bytes that the source gives, the state after it gave them, and whether a frame was cut to LEN. A tap gives the frame that its
display port has emitted, 4 bytes per pixel (R373). -/
def State.dmaSource (s : State) (d : List Word) (given : List Byte) : State × List Byte × Bool :=
  let n := dLen d
  let q := dSrcAt d % 8
  if dSrc d = 0 then (s, s.bytes (sramMem (dSrcAt d)) n, false)
  else if dSrc d = 5 then (s, s.bytes (netMem (dSrcAt d)) n, false)
  else if dSrc d = 2 then
    let f := ((s.net.rxQ.getD q []).head?).getD []
    ({ s with net := { s.net with rxQ := s.net.rxQ.modify q List.tail } }, f.take n, n < f.length)
  else if dSrc d = 4 then
    let (t, ws) := s.popWords ((n + 3) / 4)
    (t, (ws.flatMap bytesOf).take n, false)
  else if dSrc d = 3 then (s, ((s.dsp q).shown.flatMap bytesOf).take n, false)
  else (s, given.take n, false)
/-- The data writes at the destination; chained descriptors gather one frame for a transmit queue. -/
def State.dmaDest (s : State) (c : Nat) (d : List Word) (bs : List Byte) : State :=
  let q := dDstAt d % 8
  if dDst d = 0 then s.setBytes (sramMem (dDstAt d)) bs
  else if dDst d = 1 then s.setBytes (hostMem (dDstAt d)) bs
  else if dDst d = 5 then s.setBytes (netMem (dDstAt d)) bs
  else
    let f := s.net.txPart.getD c [] ++ bs
    if bit (d.getD 5 0) 1 then { s with net := { s.net with txPart := s.net.txPart.set c f } }
    else { s with net := { s.net with txPart := s.net.txPart.set c [], txQ := s.net.txQ.modify q (fun l => l ++ [f]) } }
/-- Word 7 is written back. -/
def State.dmaBack (s : State) (c err n : Nat) : State :=
  s.setBytes (s.descMem c + 28) (bytesOf (w32 (n % 2 ^ 24 + 2 ^ 24 * err + 2 ^ 31)))
/-- The channel halts on the descriptor at HEAD. The manual does not say how many bytes such a transfer has moved. -/
def State.dmaHalt (s : State) (c err : Nat) : State :=
  let s := s.when (!s.ringHost c || s.pcieUp) (fun t => (t.dmaBack c err (fld (Config.freeWord t.freeIx) 0 24)).draw)
  let s := (s.setDma c 3).wrFld 0x22 (dmaOff c 0x18) 8 4 err
  s.raise 223 (w32 c) (w32 err) 0
/-- The descriptor at HEAD ends. A receive queue without a frame holds the channel, and a service pause one that moves over PCIe (R437). -/
def State.dmaDone (s : State) (c : Nat) (host : List Word) (given : List Byte) (met : Nat) : State :=
  let d := s.descWords c host
  let err := s.dmaErr c d met
  if s.dmaState c ≠ 2 || (s.inPause && (s.ringHost c || usesHost d)) then s
  else if err = 3 && met = 3 && s.pcieUp then (s.sat16 0x23 0x50).dmaHalt c 3
  else if err ≠ 0 then s.dmaHalt c err
  else if dSrc d = 2 && (s.net.rxQ.getD (dSrcAt d % 8) []).isEmpty then s
  else
    let (s, bs, cut) := s.dmaSource d given
    let s := (s.dmaDest c d bs).dmaBack c (if cut then 5 else 0) bs.length
    let s := s.when cut (fun t => t.wrFld 0x22 (dmaOff c 0x18) 8 4 5)
    let s := (s.dmaAdvance c).inc32 0x22 (dmaOff c 0x1C)
    let s := s.when (bit (d.getD 5 0) 0) (fun t => (t.raise 222 (w32 c) (d.getD 6 0) 0).msixRaise c)
    s.dmaFollow c

/-! ### The PCIe link (R375, R377) -/

/-- LINK with its LTSSM state, whose codes the manual does not give. -/
def State.setPcieLink (s : State) (w : Nat) : State :=
  (s.wr 0x23 0x44 (w32 (w + 0x100 * fld (Config.freeWord s.freeIx) 0 8))).draw
/-- The channel has a transfer over PCIe in progress. -/
def State.dmaOnPcie (s : State) (c : Nat) : Bool :=
  s.dmaState c = 2 && (s.ringHost c || usesHost (s.descWords c []))
/-- The link goes down. -/
def State.pcieDown (s : State) : State :=
  if pageAbsent s.variant 0x23 || !s.pcieUp then s
  else
    let hit := (List.range 8).filter s.dmaOnPcie
    let s := hit.foldl (fun (t : State) c => t.dmaHalt c 3) (s.setPcieLink 0)
    (s.raise 224 0 0 0).msixRaise 8
/-- The link comes up, at most at MAX_GEN and MAX_WIDTH. -/
def State.pcieLinkUp (s : State) (gen width : Nat) : State :=
  if !s.pageUp 0x23 || !s.dataPlaneUp || s.pcieUp || !s.rb 0x23 0x40 0 then s
  else
    let s := s.setPcieLink (1 + 2 * min (gen % 8) (s.rf 0x23 0x40 4 3) + 0x10 * min (width % 8) (s.rf 0x23 0x40 8 4))
    (s.raise 224 1 (s.rd 0x23 0x44) 0).msixRaise 8

/-! ### Rows -/

def execDmaDescriptorDone (c : Fin 8) (desc : List Word) (src : List Byte) (err : Nat) (s : State) :=
  answer s (if s.pageUp 0x22 && s.dataPlaneUp then s.dmaDone c.val desc src err else s)
def execPcieLinkDown (s : State) := answer s s.pcieDown
def execPcieLinkUp (gen : Nat) (width : Nat) (s : State) := answer s (s.pcieLinkUp gen width)
/-- A read issued by channel `c` gets no completion within CPL_TO. -/
def execPcieCompletionTimeout (c : Fin 8) (s : State) :=
  answer s (
    if !s.dmaOnPcie c.val || !(s.ringHost c.val || dSrc (s.descWords c.val []) = 1) then s
    else (s.sat16hi 0x23 0x50).dmaHalt c.val 3)

end Sys2Proof.Machine
end

