-- ==== Sys2Proof/Machine/Security.lean ====
section
/-! DEFINITION. The tack room and the spook alarm (R404 to R427): key slots, operations, locking, erasing, debug unlocking.
What the named algorithms compute lies outside the manual: the command that ends an operation brings its output. -/

namespace Sys2Proof.Machine

/-! ### Key slots (R404, R425) -/

/-- Attribute word of a slot: 0 to 31 stand as blobs in MRAM, 32 to 63 in the tack room. -/
def State.attr (s : State) (slot : Nat) : Word := stGet 0 (if slot < 32 then s.keep.blobs else s.sec.volatile) slot
/-- `s` with a slot's attribute word set; 0 empties it. -/
def State.setAttr (s : State) (slot : Nat) (w : Word) : State :=
  if slot < 32 then { s with keep := { s.keep with blobs := stSet 0 s.keep.blobs slot w } }
  else { s with sec := { s.sec with volatile := stSet 0 s.sec.volatile slot w } }

/-! ### Responses and the approved configuration (R413, R414, R416, R427) -/

/-- POLICY.APPROVED. -/
def State.approved (s : State) : Bool := s.rb 0x60 0x40 0
/-- Response of spook source `k`: bits 1 to 0 ACTION, bit 2 SAFE. -/
def State.spookResp (s : State) (k : Nat) : Nat :=
  if s.sec.fault then 6
  else
    let r := if k < 8 then s.rf 0x61 0x40 (4 * k) 4 else s.rf 0x61 0x44 (4 * (k - 8)) 4
    if s.approved && k ≤ 2 then r / 4 * 4 + 2 else r
def State.spookAct (s : State) (k : Nat) : Nat := s.spookResp k % 4
/-- PSTAT.IN_APPROVED. -/
def State.inApproved (s : State) : Bool :=
  s.approved && [0, 1, 2].all (fun k => s.spookAct k = 2) && [7, 8, 10].all (fun k => s.spookAct k = 1 || s.spookAct k = 2) &&
    !s.rb 0x60 0x0C 2 && s.keep.epochs < 64 && !s.rb 0x60 0x0C 5
/-- PSTAT.LOCKED. -/
def State.tackLocked (s : State) : Bool := s.rb 0x60 0x0C 0

/-! ### Operations (R406, R407) -/

/-- An operation ends: OP_STAT, OP_CNT and TACK_OP_DONE. -/
def State.opEnd (s : State) (op err outLen : Nat) : State :=
  let s := { s with sec := { s.sec with op := none } }
  let s := s.wr 0x60 0x4C (w32 (2 + 4 * s.rf 0x60 0x4C 2 1 + 0x100 * err + 0x1_0000 * outLen))
  (s.inc32 0x60 0xC0).raise 241 (w32 op) (w32 err) 0
/-- The operation codes of R406. -/
def opKnown (op : Nat) : Bool :=
  [0x01, 0x02, 0x03, 0x04, 0x10, 0x11, 0x12, 0x13, 0x20, 0x21, 0x22, 0x23, 0x30, 0x31, 0x40, 0x50, 0x60, 0x61, 0x62, 0x63, 0x64].contains op
/-- Operations that need random data (R404, R408): signatures, the DRBG, key generation, and whatever wraps a key, as a blob that is
exported or that a persistent slot is kept in. -/
def opRandom (op slot slot2 : Nat) : Bool :=
  [0x20, 0x21, 0x50, 0x60, 0x62].contains op || ((op = 0x61 || op = 0x64) && slot < 32) ||
    ((op = 0x30 || op = 0x31 || op = 0x40) && slot2 < 32)
/-- The key TYPE and the usage bit that an operation needs of SLOT (R425); none where it takes no key or any. -/
def opType (op : Nat) : Option Nat :=
  if 1 ≤ op ∧ op ≤ 4 then some 1 else if op = 0x12 ∨ op = 0x13 then some 2
  else if op = 0x20 ∨ op = 0x30 then some 3 else if op = 0x21 ∨ op = 0x31 then some 4 else none
def opUsage (op : Nat) : Option Nat :=
  if 1 ≤ op ∧ op ≤ 3 then some 8 else if op = 0x04 ∨ op = 0x12 ∨ op = 0x13 ∨ op = 0x20 ∨ op = 0x21 then some 9
  else if op = 0x30 ∨ op = 0x31 ∨ op = 0x40 then some 10 else if op = 0x62 then some 12 else none
/-- SLOT must hold a key. -/
def opNeedsKey (op : Nat) : Bool := (opType op).isSome || op = 0x40 || op = 0x62 || op = 0x63
/-- A key that stands as a blob cannot be unwrapped once the KEK is gone (R405). -/
def State.slotDead (s : State) (slot : Nat) : Bool := slot < 32 && !s.sec.kek
/-- The error that an operation meets at its start, 0 for none. -/
def State.opError (s : State) (op slot slot2 : Nat) : Nat :=
  let a := s.attr slot
  let len := s.rf 0x60 0x48 0 12
  if s.tackLocked then 6
  else if !opKnown op then 1
  else if 2048 < len || (op = 0x50 && len = 0) then 2
  else if op = 0x64 && (s.approved || !s.rb 0x60 0x40 1) then 7
  else if opNeedsKey op && fld a 0 4 = 0 then 3
  else if (opType op).any (fun t => fld a 0 4 ≠ t) then 3
  else if (op = 0x61 || op = 0x62) && fld (s.attr slot2) 0 4 ≠ 1 then 3
  else if (opUsage op).any (fun b => !bit a b) then 4
  else if (op = 0x61 || op = 0x62) && !bit (s.attr slot2) 11 then 4
  else if (opNeedsKey op && op ≠ 0x63 && s.slotDead slot) || ((op = 0x61 || op = 0x62) && s.slotDead slot2) then 5
  else if opRandom op slot slot2 && s.rb 0x60 0x0C 5 then 8
  else 0
/-- OP_CMD takes a value (R407). -/
def State.tackCmd (s : State) (v : Word) : State :=
  let s := s.wr 0x60 0x44 (v &&& 0x033F_3FFF)
  if !bit v 31 then s
  else if s.rb 0x60 0x4C 0 then s.wrBit 0x60 0x4C 2 true
  else
    let op := fld v 0 8
    let slot := fld v 8 6
    let slot2 := fld v 16 6
    let err := s.opError op slot slot2
    if err ≠ 0 then s.opEnd op err 0
    else
      let s := { s with sec := { s.sec with op := some ⟨op, slot, slot2, bit v 25, s.rf 0x60 0x48 0 12⟩
                                            stream := if bit v 24 then some op else s.sec.stream
                                            drbg := s.sec.drbg + b2n (opRandom op slot slot2) } }
      s.wr 0x60 0x4C (w32 (1 + 4 * s.rf 0x60 0x4C 2 1))
/-- An attribute word whose bits the manual leaves open, with a TYPE or with an open one too. -/
def State.freeAttr (s : State) (type : Option Nat) : Word :=
  let w := Config.freeWord s.freeIx &&& 0x1F0F
  match type with
  | some t => setFld w 0 4 t
  | none => w
/-- The running operation completes (R407): its output in DATA_WIN from byte 0, and what it does to a slot. -/
def State.opDone (s : State) (out : CryptoOut) : State :=
  match s.sec.op with
  | none => s
  | some o =>
    let s := { s with sec := { s.sec with stream := if o.final then none else s.sec.stream } }
    match out with
    | .bad => s.opEnd o.op 5 0
    | .ok bs =>
      let bs := bs.take 2048
      let type := s.rf 0x60 0x800 0 4
      let s := (List.range ((bs.length + 3) / 4)).foldl (fun t j => t.wr 0x60 (0x800 + 4 * j) (bytesWord (bs.drop (4 * j)))) s
      let s :=
        if o.op = 0x60 then (s.setAttr o.slot (s.freeAttr (some type))).draw
        else if o.op = 0x61 || o.op = 0x64 then (s.setAttr o.slot (s.freeAttr none)).draw
        else if o.op = 0x30 || o.op = 0x31 || o.op = 0x40 then (s.setAttr o.slot2 (s.freeAttr none)).draw
        else if o.op = 0x63 then s.setAttr o.slot 0 else s
      s.opEnd o.op 0 bs.length

/-! ### Locking and erasing (R416 to R419) -/

/-- The tack room is locked. -/
def State.lockTack (s : State) : State := (s.wrBit 0x60 0x0C 0 true).raise 237 0 0 0
/-- DATA_WIN holds zeros. -/
def State.zeroWin (s : State) : State :=
  { s with regs := s.regs.filter (fun c => !(keyPage c.1 = 0x60 && !keyIsTab c.1 && 0x800 ≤ keyOff c.1)) }
/-- Volatile keys and the KEK are zeroed. -/
def State.zeroKeys (s : State) : State := { s with sec := { s.sec with kek := false, volatile := [], stream := none } }
/-- The erase sequence, for a spook source or 0x10 for ZEROIZE. -/
def State.erase (s : State) (source resp : Nat) : State :=
  let s := s.lockTack
  let s := match s.sec.op with
    | some o => s.zeroWin.opEnd o.op 9 0
    | none => s.zeroWin
  let s := (s.alarmRecord source resp).zeroKeys
  let n := min 64 (s.keep.epochs + 1)
  let s := { s with keep := { s.keep with epochs := n, blobs := [], customerRoot := false }
                    sec := { s.sec with eraseEnd := s.tb.count + 2_300_000 } }
  s.raise 238 (w32 source) (w32 n) 0

/-- The spook alarm demands the safe state while a latched source has SAFE (R416). -/
def State.spookDemand (s : State) : State :=
  let d := (List.range 12).any (fun k => s.rb 0x61 0x4C k && s.spookResp k / 4 % 2 = 1)
  ({ s with tro := { s.tro with spookDemand := d } }).lineCauses
/-- One source triggers: a latched one is only counted. -/
def State.spookOne (s : State) (k : Nat) : State :=
  let s := s.sat16 0x61 (0x58 + 4 * k)
  if s.rb 0x61 0x4C k then s
  else
    let r := s.spookResp k
    let s := ((s.wrBit 0x61 0x4C k true).wr 0x61 0x50 (w32 (k + 0x10 * r))).wr 0x61 0x54 s.ns
    if s.gaitNow = 4 then { s with keep := { s.keep with spookHeld := s.keep.spookHeld ||| 2 ^ k } } else s.raise 236 (w32 k) (w32 r) 0
/-- Sources that trigger together (R416, R423): each is recorded, and the strongest ACTION is applied once; during an erase sequence,
none. -/
def State.spookFire (s : State) (ks : List Nat) : State :=
  let fresh := ks.filter (fun k => !s.rb 0x61 0x4C k)
  let erasing := fresh.filter (fun k => 2 ≤ s.spookAct k)
  let locking := fresh.any (fun k => s.spookAct k = 1)
  let s := (ks.foldl State.spookOne s).spookDemand
  if s.tb.count < s.sec.eraseEnd then s
  else match erasing with
  | k :: _ => s.erase k (s.spookResp k)
  | [] => if locking then s.lockTack else s
/-- SPOOK.LATCH takes a written value: bits whose condition has ended are cleared (R426). -/
def State.spookClear (s : State) (v : Word) : State :=
  let l := s.rd 0x61 0x4C
  (s.wr 0x61 0x4C (l &&& (~~~v ||| s.rd 0x61 0x48) &&& 0xFFF)).spookDemand

/-! ### Debug unlocking (R420 to R422) -/

/-- DEBUG_UNLOCK, sub-command 1. -/
def State.getChallenge (s : State) (n : Nat) : State :=
  if fld (s.boxArg n 0) 0 2 ≠ 1 then s.boxDone n 3 []
  else
    let nonce := (List.range 8).map (fun j => Config.freeWord (s.freeIx + j))
    let s := { s with freeIx := s.freeIx + 8, sec := { s.sec with nonce := some nonce, nonceAt := s.tb.count, drbg := s.sec.drbg + 1 } }
    s.boxDone n 0 (nonce ++ [Config.serialLo, Config.serialHi])
/-- What internal scan costs before it takes effect (R422): the keys, and the 48 MB of on-die SRAM, which are lane SRAM, shared SRAM,
line store, network buffers and management SRAM, the staged records with it. -/
def State.openScan (s : State) : State :=
  let s := { s.zeroKeys with mem := s.mem.filter (fun c => hostMem 0 ≤ c.1)
                             cams := s.cams.map (fun (c : Cam) => { c with ring := [], raw := [] })
                             recd := { s.recd with staged := [] }
                             sec := { s.zeroKeys.sec with otpBlocked := true } }
  let s := s.clearNet
  s.wrBit 0x60 0x0C 3 true
/-- A correct response unlocks its scope. -/
def State.unlock (s : State) (n scope : Nat) : State :=
  let s := s.when (scope % 2 = 1 && s.inApproved) (fun t =>
    ({ t.zeroKeys with sec := { t.zeroKeys.sec with lockToPor := true } }).lockTack)
  let s := s.when (2 ≤ scope) State.openScan
  let s := { s with keep := { s.keep with dbgFail := 0 } }
  let s := (s.wr 0x60 0x5C (s.rd 0x60 0x5C ||| w32 scope)).wrBit 0x60 0x0C 2 true
  (s.raise 239 (w32 scope) 0 0).boxDone n 0 []
/-- DEBUG_UNLOCK, sub-command 2. -/
def State.submit (s : State) (n : Nat) (sigOk : Bool) : State :=
  let scope := fld (s.boxArg n 1) 0 2
  let had := s.sec.nonce.isSome && s.tb.count < s.sec.nonceAt + 60_000_000_000
  if s.moving || (2 ≤ scope && s.progMode ≠ modeStop) then s.boxDone n 6 []
  else
    let s := { s with sec := { s.sec with nonce := none } }
    if !had then s.boxDone n 3 []
    else if sigOk then s.unlock n scope
    else
      let f := s.keep.dbgFail + 1
      let s := { s with keep := { s.keep with dbgFail := if f = 3 then 0 else f } }
      (if f = 3 then s.spookFire [10] else s).boxDone n 7 []
/-- ZEROIZE (R418). -/
def State.zeroize (s : State) (n : Nat) : State :=
  if s.boxArg n 0 ≠ 0x5A45_524F then s.boxDone n 3 [] else (s.erase 0x10 0).boxDone n 0 []

/-! ### Rows -/

def execTackOpDone (out : CryptoOut) (s : State) := answer s (s.opDone out)
/-- The DRBG is reseeded (R408). -/
def execDrbgReseed (healthOk : Bool) (s : State) :=
  answer s (if healthOk then { s with sec := { s.sec with drbg := 0 } } else s.wrBit 0x60 0x0C 5 true)
/-- The watch reports the conditions now present: those that were not present before trigger (R415, R416). -/
def execSpookTrigger (srcs : BitVec 12) (s : State) :=
  answer s (
    let old := s.rd 0x61 0x48
    let s := s.wr 0x61 0x48 (w32 srcs.toNat)
    let ks := (List.range 12).filter (fun k => srcs.getLsbD k && !bit old k)
    if ks.isEmpty then s else s.spookFire ks)
def execOtpRecheck (ok : Bool) (s : State) :=
  answer s (let s := { s with keep := { s.keep with otpOk := ok } }; if ok then s else s.spookFire [11])
/-- A challenge is 60 s old (R420). -/
def execDebugChallengeExpiry (s : State) :=
  answer s (if s.sec.nonce.isNone then s
    else
      let s := s.advanceTo (s.sec.nonceAt + 60_000_000_000)
      { s with sec := { s.sec with nonce := none } })
def execGetChallenge (inst : Fin 3) (s : State) :=
  answer s (s.serve inst.val 0x70 (fun a => fld (a.getD 0 0) 0 2 ≠ 2) [4] (fun t => t.getChallenge inst.val))
def execSubmit (inst : Fin 3) (sigOk : Bool) (s : State) :=
  answer s (s.serve inst.val 0x70 (fun a => fld (a.getD 0 0) 0 2 = 2) [8] (fun t => t.submit inst.val sigOk))
def execZeroize (inst : Fin 3) (s : State) := answer s (s.serve inst.val 0x71 (fun _ => true) [4] (fun t => t.zeroize inst.val))

end Sys2Proof.Machine
end

