-- ==== Sys2Proof/Machine/Reint.lean ====
section
/-! DEFINITION. The reintegration of a lane (R190 to R193), from its start to the tick at which the target votes. -/

namespace Sys2Proof.Machine

/-- The donor that a start names: lane 0 to 2, or with 3 the first VOTING lane other than the target. -/
def State.pickDonor (s : State) (target donor : Nat) : Option Nat :=
  if donor = 3 then s.votingLanes.find? (fun l => l ≠ target)
  else if s.voting donor && donor ≠ target then some donor else none
/-- A start is refused with a RESULT; the lane states stay. -/
def State.reintRefuse (s : State) (result : Nat) : State := s.wrFld 0x07 0x60 12 4 result
/-- START (R190): the target is held in reset, or the start is refused. The second part says that it was accepted. -/
def State.reintStart (s : State) (target donor : Nat) (reload : Bool) : State × Bool :=
  let st := s.laneState target
  if 3 ≤ target || !(st = 6 || st = 4 || st = 5) || s.laneUnusable target then (s.reintRefuse 2, false)
  else if s.reintBusy then (s.reintRefuse 3, false)
  else match s.pickDonor target donor with
    | none => (s.reintRefuse 4, false)
    | some d =>
      if s.progMode = modeStop then (s.reintRefuse 4, false)
      else
        let s := (s.wr 0x07 0x60 (w32 (1 + 0x10 * target + 0x100 * d))).wr 0x07 0x64 0
        let s := (s.wrBit 0x07 0x80 target false).modLane target (fun x => { x with autoDue := false })
        ({ s with reint := { reload := reload } }, true)
/-- ABORT, in every state of a reintegration in progress (R192). -/
def State.reintAbort (s : State) : State :=
  if !s.reintBusy then s
  else
    let t := s.reintTarget
    let s := if 1 ≤ s.laneState t && s.laneState t ≤ 2 then s.failLane t 7 else s
    s.reintFail 8
/-- Bytes of the image that RELOAD writes into the target's code area: those of the lane image, or of the image that an
online change has left in the MRAM reserve (R214), which takes the running half outside the working data and the diagnostic area. -/
def State.reloadCode (s : State) (l : Nat) : State :=
  let im := s.prog.image
  if s.prog.ocKept then
    let half := laneMem l (0x20_0000 * s.runHalf)
    let data := laneMem l s.dataBase
    let code (a : Nat) : Bool := half ≤ a && a < half + 0x20_0000 && a < laneMem l 0x3F_0000 && !(data ≤ a && a < data + 1024 * im.dataKb)
    let t := { s with mem := s.mem.filter (fun c => !code c.1) }
    ((s.mem.filter (fun c => keptMem 0 ≤ c.1 && c.1 < keptMem 0x20_0000)).map (fun c => (half + (c.1 - keptMem 0), c.2))).foldl
      (fun u c => if code c.1 then u.setByte c.1 c.2 else u) t
  else
    let base := im.codeBase
    let t := { s with mem := s.mem.filter (fun c => !(laneMem l base ≤ c.1 && c.1 < laneMem l (base + im.codeBytes))) }
    (im.cells.filter (fun c => base ≤ c.1 && c.1 < base + im.codeBytes)).foldl (fun u c => u.setByte (laneMem l c.1) c.2) t
/-- RESET ends: the code area is rewritten where RELOAD asks for it, and the target enters BOOT. -/
def State.reintBoot (s : State) : State :=
  if s.reintState ≠ 1 then s
  else
    let t := s.reintTarget
    let s := if s.reint.reload then s.reloadCode t else s
    let s := if s.reint.reload then { s with prog := { s.prog with needReload := s.prog.needReload &&& (7 - 2 ^ t) } } else s
    (s.wrFld 0x07 0x60 0 3 2).resetLane t
/-- The boot ROM of lane `l` has finished its check (R167, R191). -/
def State.bootDone (s : State) (l : Nat) (hashOk : Bool) : State :=
  if s.laneState l ≠ 1 || (s.lane l).bootReady then s
  else
    let reint := s.reintState = 2 && s.reintTarget = l
    let ok := hashOk && !(reint && s.prog.needReload.testBit l)
    if !reint then (if ok then s.modLane l (fun x => { x with bootReady := true }) else s.failLane l 5)
    else if !ok then ((s.modLane l (fun x => { x with hashBan := true })).failLane l 5).reintFollow
    else
      let s := (s.setLane l 2).wrFld 0x07 0x60 0 3 3
      { s with reint := { s.reint with dirty := dataPages, next := [], finalOk := false } }
/-- Pages of the donor's data copied into the target, and counted (R191, COPY_PAGES). -/
def State.copyPages (s : State) (pages : List Nat) : State :=
  let base := s.dataBase
  let src := laneMem s.reintDonor base
  let dst := laneMem s.reintTarget base
  let inPages (a b : Nat) : Bool := b ≤ a && pages.contains ((a - b) / 4096)
  let keep := s.mem.filter (fun c => !inPages c.1 dst)
  let s := (s.mem.filter (fun c => inPages c.1 src)).foldl (fun t c => t.setByte (dst + (c.1 - src)) c.2) { s with mem := keep }
  s.wrFld 0x07 0x64 0 16 (min 0xFFFF (s.rf 0x07 0x64 0 16 + pages.length))
/-- A pass ends: the next one copies what was dirtied since it began. -/
def State.copyPass (s : State) (dirtied : List Nat) : State :=
  if s.reintState ≠ 3 then s
  else
    let s := s.copyPages s.reint.dirty
    let next := (s.reint.next ++ dirtied.filter (fun p => dataPages.contains p)).eraseDups
    { s with reint := { s.reint with dirty := next, next := [] } }
/-- The FINAL test at the donor's completion in IOCLK cycle `d` (R191): the pages left are copied where they can be. -/
def State.finalTest (s : State) (l d : Nat) : State :=
  if s.reintState = 3 && s.reintDonor = l then
    let left := (s.reint.dirty ++ s.reint.next).eraseDups
    if d + 512 * left.length ≤ s.periodIo then
      let s := (s.copyPages left).wrFld 0x07 0x60 0 3 4
      { s with reint := { s.reint with dirty := [], next := [], finalOk := true } }
    else s
  else s
/-- At the tick after FINAL the target enters VOTING with the donor's write numbering (R191, R88); a target still in SYNC has
spent one more control cycle there. -/
def State.reintTick (s : State) : State :=
  let t := s.reintTarget
  if s.reintState = 4 && s.reint.finalOk then
    let n := s.vw.issued.getD s.reintDonor 0
    let s := { s with vw := { s.vw with issued := s.vw.issued.set t n }
                      tro := { s.tro with entered := s.tro.entered ||| 2 ^ t } }
    let s := s.modLane t (fun x => { x with late := 0, dis := 0 })
    let s := ((s.setLane t 3).voterUpdate.wrFld 0x07 0x60 0 3 5).wrFld 0x07 0x60 12 4 1
    let s := (s.raise (laneEv t 6) 0 0 0).lineCauses
    if s.dup.rotating.map Fin.val = some t then
      { s with dup := { s.dup with rotating := none, rotCnt := s.dup.rotCnt + 1 } }
    else s
  else if s.reintState = 3 then s.wrFld 0x07 0x60 16 8 (min 255 (s.rf 0x07 0x60 16 8 + 1))
  else s
/-- A target still in SYNC after 16 control cycles (R191). -/
def State.syncTimeout (s : State) : State :=
  if (s.reintState = 3 || s.reintState = 4) && 16 ≤ s.rf 0x07 0x60 16 8 then (s.failLane s.reintTarget 7).reintFail 7 else s
/-- Troika's own start (R193), subject to R190. -/
def State.autoReint (s : State) (l : Nat) : State :=
  let x := s.lane l
  if s.rb 0x07 0x48 16 && x.autoDue && x.autoUsed < 3 && !x.hashBan then
    let (s, ok) := s.reintStart l 3 false
    s.modLane l (fun x => { x with autoDue := false, autoUsed := x.autoUsed + b2n ok })
  else s

/-! ### Rows -/

def execAutoReintStart (l : Fin 3) (s : State) := answer s (s.autoReint l.val)
def execReintResetDone (s : State) := answer s s.reintBoot
def execLaneBootDone (l : Fin 3) (hashOk : Bool) (s : State) := answer s (s.bootDone l.val hashOk)
/-- A lane not out of BOOT within 10 ms (R167). -/
def execLaneBootTimeout (l : Fin 3) (s : State) :=
  answer s (if s.laneState l.val = 1 && !(s.lane l.val).bootReady then (s.failLane l.val 6).reintFollow else s)
def execReintCopyPassDone (dirtied : List Nat) (s : State) := answer s (s.copyPass dirtied)
def execSyncTimeout (s : State) := answer s s.syncTimeout

end Sys2Proof.Machine
end

