-- ==== Sys2Proof/Machine/TackSet.lean ====
section
/-! DEFINITION. The values that a register refuses, the conditions on the signal map, and the checking and loading of tack sets
(R109 to R114, R176, R220, R367, R390, R414). -/

namespace Sys2Proof.Machine

/-! ### Values that the entry of a word itself refuses (R79, R113) -/

/-- A literal of an interlock word 0 is enabled with a reserved SRC (R244). -/
def badLiteral (x : Nat) : Bool := 128 ≤ x && 59 ≤ x % 64
/-- The word's own entry refuses the value: a reserved SRC (R244), ACTION 3 (R427), a link width of three lanes (R383), a
station in use with WATCH_MS 0 (R218). -/
def ownRefusal (k : Nat) (w : Word) : Bool :=
  if keyPage k = 0x0C && keyIsTab k && keyOff k < 0x80 && keyOff k % 2 = 0 then
    [0, 8, 16, 24].any (fun lo => badLiteral (fld w lo 8))
  else if k = rk 0x61 0x40 then (List.range 8).any (fun i => fld w (4 * i) 2 = 3)
  else if k = rk 0x61 0x44 then (List.range 4).any (fun i => fld w (4 * i) 2 = 3)
  else if k = rk 0x23 0x40 then fld w 8 4 = 3
  else if keyPage k = 0x0A && keyIsTab k && 0x8000 ≤ keyOff k && keyOff k < 0x8040 then bit w 16 && fld w 0 16 = 0
  else false
/-- A completed key pair may put the value into the word with this key. -/
def valueOk (k : Nat) (w : Word) : Bool := inRange (accOf k) w && !ownRefusal k w

/-! ### Conditions on the signal map (R220) -/

/-- Word `w` of map entry `i` as it will stand once its shadow is applied. -/
def State.nextMap (s : State) (i w : Nat) : Word := s.nextKey (tk 0x0A (4 * i + w))
/-- The entries in use once the shadows are applied. -/
def State.nextMapUsed (s : State) : List Nat :=
  let ks := (s.regs.map Prod.fst ++ s.shadow.map Prod.fst).filter
    (fun k => keyPage k = 0x0A && keyIsTab k && keyOff k < 0x4000 && keyOff k % 4 = 0)
  ((ks.map (fun k => keyOff k / 4)).eraseDups).filter (fun i => fld (s.nextMap i 0) 0 4 ≠ 0)
/-- DIR is one that KIND permits. -/
def dirOk (kind : Nat) (out : Bool) : Bool :=
  if kind = 1 || kind = 2 || kind = 3 || kind = 8 || kind = 9 then !out else if kind = 7 then out else kind ≤ 10
/-- The word offsets of the parameter area of a VIEW page (R274). -/
def paramWord (w : Nat) : Bool := 0x81 ≤ w && w ≤ 0x11F
/-- The source or destination that word 2 names exists. -/
def placeOk (kind : Nat) (w2 : Word) : Bool :=
  if kind = 1 then (!bit w2 8 || fld w2 0 5 < 24)
  else if kind = 4 then fld w2 0 3 < 6
  else if kind = 7 then fld w2 0 3 < 6 && paramWord (fld w2 3 10)
  else if kind = 8 then fld w2 0 3 < 6 && fld w2 4 4 ≤ 10
  else if kind = 9 then fld w2 0 8 ≤ 3
  else true
/-- One entry by itself: KIND, DIR, TYPE, its place and its offset in the image of `len` words. -/
def entryOk (w0 w1 w2 : Word) (inLen outLen : Nat) : Bool :=
  let size := max 1 (typeBits (mapType w0) / 8)
  let ofs := fld w1 0 16
  let (base, len) := if mapOut w0 then (0x10, outLen) else (0x40, inLen)
  mapKind w0 ≤ 10 && mapType w0 ≤ 8 && dirOk (mapKind w0) (mapOut w0) && placeOk (mapKind w0) w2 && ofs % size = 0 && base ≤ ofs &&
    ofs + size ≤ 8 * len
/-- Two output entries share a destination. -/
def sharesDest (a b : Word × Word) : Bool :=
  let k := mapKind a.1
  let lap (n : Nat) : Bool :=
    srcNum n a.2 = srcNum n b.2 && srcStart n a.2 < srcStart n b.2 + srcLen n b.2 && srcStart n b.2 < srcStart n a.2 + srcLen n a.2
  k = mapKind b.1 &&
    (if k = 4 || k = 5 || k = 6 then lap k else if k = 7 then fld a.2 0 13 = fld b.2 0 13 else k = 10)
/-- No two of a list share. -/
def noShare : List (Word × Word) → Bool
  | [] => true
  | a :: r => !r.any (sharesDest a) && noShare r
/-- The state without the shadows of a page. -/
def State.without (s : State) (p : Nat) : State := { s with shadow := s.shadow.filter (fun c => keyPage c.1 ≠ p) }
/-- The map and IN_LEN, as they will stand, keep every condition of R220. With no input signal the quality area is empty. -/
def State.mapOk (s : State) : Bool :=
  let inLen := fld (s.nextKey (rk 0x08 0x44)) 0 14
  let outLen := fld (s.nextKey (rk 0x08 0x4C)) 0 14
  let q := s.rf 0x0A 0x40 0 13
  let used := s.nextMapUsed
  let outs := used.filter (fun i => mapOut (s.nextMap i 0))
  let ins := used.filter (fun i => !mapOut (s.nextMap i 0))
  let top := q + (ins.foldl max 0) / 32
  let inArea (i : Nat) : Bool := let w := fld (s.nextMap i 1) 0 16 / 8; q ≤ w && w ≤ top
  used.all (fun i => entryOk (s.nextMap i 0) (s.nextMap i 1) (s.nextMap i 2) inLen outLen) &&
    noShare (outs.map (fun i => (s.nextMap i 0, s.nextMap i 2))) &&
    (ins.isEmpty || (8 ≤ q && top < inLen && !ins.any inArea))

/-- The combination of PERIOD and OUT_LEN of R176, and with XLINK.CFG.EN that of R390. -/
def State.cycleOk (s : State) : Bool :=
  let period := fld (s.nextKey (rk 0x08 0x40)) 0 17
  let outLen := fld (s.nextKey (rk 0x08 0x4C)) 0 14
  (50 ≤ period || outLen ≤ 2048) &&
    (!s.duplexEn || 1000 + s.rf 0x50 0x48 0 16 + (39 + 8 * outLen) * 8 + 10_000 ≤ 10_000 * period)

/-! ### Checking a tack set (R113) -/

/-- The word that one content of a set names. -/
def contentKey (c : Nat × Bool × Nat × Word) : Nat := if c.2.1 then tk c.1 c.2.2.1 else rk c.1 c.2.2.1
/-- Bits of a word that a tack set loads. -/
def loadMask (k : Nat) : Word := w32 ((accOf k).rw ||| (accOf k).kp)

/-- Places that a set may name: a loaded word of the module. -/
def contentOk (c : Nat × Bool × Nat × Word) : Bool :=
  let k := contentKey c
  (accOf k).ts && valueOk k c.2.2.2

/-- The update slot in use. -/
def State.activeSlot (s : State) : Slot := if s.keep.activeB then s.keep.slotB else s.keep.slotA
/-- A slot's component of a TYPE. -/
def slotComp (x : Slot) (t : Nat) : Option Component := x.comps.find? (fun c => c.hdr.type = t)
/-- Tack set `n`: in a trial the bundle of the slot stands for the four areas (R430). -/
def State.tackSet (s : State) (n : Nat) : TackSet :=
  match (if s.keep.trial then slotComp s.activeSlot 4 else none) with
  | some b => b.tacks.getD n {}
  | none => s.keep.tackSets.getD n {}

/-- The fields that a set loads, by R15, put back to their reset values and set from the contents that `sel` chooses by page.
An immediate load leaves the buffered words of the network controllers and of the data plane to their boundaries (R84, R110),
and PAIR_EN to its tick (R240). -/
def deferred (k : Nat) : Bool :=
  ((accOf k).ab && ((0x10 ≤ keyPage k && keyPage k ≤ 0x20) || (0x30 ≤ keyPage k && keyPage k ≤ 0x49))) || k = rk 0x0B 0x5C
/-- The value that a content gives its word: the fields that a set loads from the content, the others as they are. -/
def State.contentWord (s : State) (c : Nat × Bool × Nat × Word) : Word := merge (loadMask (contentKey c)) (s.key (contentKey c)) c.2.2.2
/-- The contents of the words that `sel` chooses put into force at once. -/
def State.putContents (s : State) (ts : TackSet) (sel : Nat → Bool) : State :=
  let s := s.clearTs sel
  (ts.contents.filter (fun c => sel (contentKey c))).foldl (fun t c => t.setT3 (contentKey c) (t.contentWord c)) s
/-- The words of deferred kinds that a load changes, each with its coming value. -/
def State.deferredOf (s new : State) (sel : Nat → Bool) : List (Nat × Word) :=
  let ks := ((s.regs.map Prod.fst ++ new.regs.map Prod.fst).eraseDups).filter (fun k => deferred k && sel k)
  (ks.filter (fun k => s.key k ≠ new.key k)).map (fun k => (k, new.key k))
/-- An immediate load: deferred words keep their values in force and get the new ones as shadows. -/
def State.putDeferring (s : State) (ts : TackSet) (sel : Nat → Bool) : State :=
  let new := s.putContents ts sel
  let d := s.deferredOf new sel
  d.foldl (fun t c => (t.setKey c.1 (s.key c.1)).setShadow c.1 c.2) new

/-- The contents, taken as a whole, keep the conditions of R176, R220, R367, R390 and R414. -/
def State.contentsFit (s : State) : Bool :=
  let pages := (List.range 1024).filter (fun m => bit (s.tab 0x20 (0x1003 + 4 * m)) 22)
  let act (k : Nat) : Nat := if k < 8 then s.rf 0x61 0x40 (4 * k) 2 else s.rf 0x61 0x44 (4 * (k - 8)) 2
  s.cycleOk && s.mapOk && pages.length ≤ 64 &&
    (!s.approved || ([0, 1, 2].all (fun k => act k = 2) && [7, 8, 10].all (fun k => act k = 1 || act k = 2)))
/-- A signal-map entry of the contents refers to a unit that the variant lacks (R4): the source or destination of its KIND. -/
def mapAbsent (v : Variant) (c : Nat × Bool × Nat × Word) : Bool :=
  let k := mapKind c.2.2.2
  c.1 = 0x0A && c.2.1 && c.2.2.1 < 0x4000 && c.2.2.1 % 4 = 0 &&
    (if k = 1 || k = 2 || k = 3 then pageAbsent v 0x0B else if k = 5 then pageAbsent v 0x18
     else if k = 7 then pageAbsent v 0x30 else if k = 8 then pageAbsent v 0x49 else false)
/-- The set is for another variant (R4): it has contents for an absent unit, or a signal that refers to one. -/
def wrongVariant (v : Variant) (ts : TackSet) : Bool := ts.contents.any (fun c => pageAbsent v c.1 || mapAbsent v c)
/-- The reason of R113 for which a set is refused, 0 for none. A signature cannot be checked without a customer root. -/
def State.setRefusal (s : State) (ts : TackSet) : Nat :=
  if ts.empty then 5
  else if !ts.readOk then 4
  else if !ts.formatOk then 2
  else if !ts.sigOk || !s.keep.customerRoot then 1
  else if wrongVariant s.variant ts then 3
  else if !(ts.contents.all contentOk && (s.putContents ts (fun _ => true)).contentsFit) then 2
  else 0

/-! ### Loading (R110, R112, R114) -/

/-- The fault states that a load ends (R78, R195, R224, R248, R403, R427, R466, R477). -/
def State.leaveFaults (s : State) : State :=
  { s with
    tro := { s.tro with faultVote := false, faultCyc := false }
    prog := { s.prog with faultPrg := false, faultSig := false }
    field := { s.field with faultIlk := false }
    dup := { s.dup with fault := false }
    sec := { s.sec with fault := false }
    recd := { s.recd with cfgFault := false }
    gait := { s.gait with polFault := false } }
/-- What starts from loaded values: cameras whose RUN is set, display ports whose EN is set (R279), CAN channels whose MODE is not OFF,
the MVB controller. -/
def State.startUnits (s : State) : State :=
  let s := (List.range 8).foldl (fun t c =>
    if t.rb (camPage c) 0x40 0 && t.camState c = 0 && t.camUp c then t.camLinking c else t) s
  let s := (List.range 6).foldl (fun t d => if t.rb (dspPage d) 0x40 0 then t.dspStart d else t) s
  let s := (List.range 6).foldl (fun t n =>
    if t.canMode n ≠ 0 && !t.canIntegrated n then
      t.modCan n (fun c => { c with nbt := t.rd (canPage n) 0x48, dbt := t.rd (canPage n) 0x4C, tdc := t.rd (canPage n) 0x50, stopPend := false })
    else t) s
  if pageAbsent s.variant 0x18 then s else s.mvbCfg
/-- Some word of the contents is held (R114). -/
def State.skipsSome (s : State) (ts : TackSet) : Bool := ts.contents.any (fun c => s.keyHeld (contentKey c))
/-- The set is loaded: every word that is not held takes its contents, pending key pairs are dropped, and outputs take the
safe-state values of the set. -/
def State.takeSet (s : State) (n : Nat) (src imm : Bool) (ts : TackSet) : State :=
  let sel (k : Nat) : Bool := !s.keyHeld k
  let part := s.skipsSome ts
  let s := (if imm then s.putDeferring ts sel else s.putContents ts sel).fioChanged s
  let s := { s.leaveFaults with kp := [], prog := { s.leaveFaults.prog with build := ts.build } }
  let s := s.wr 0x00 0x48 (w32 (n + 0x10 * b2n src + 0x100 + 0x1000 * s.rf 0x00 0x48 12 4))
  let s := ((s.wrBit 0x00 0x0C 2 false).wrBit 0x02 0x0C 0 true).offsetsStale
  let s := { s with views := s.views.map (fun (v : View) => { v with recheck := true }) }
  let s := (List.range 6).foldl (fun t v => t.wrBit (viewPage v) 0x60 4 false) s
  let s := if s.fioFitted && s.linkMode = 3 then s.setLink 1 else s
  let s := if s.pageHeld 0x0A then s else s.substOutputs
  let s := (s.startUnits).tbSelect
  let s := if s.latched then s.substitute imgHeld else s
  (s.refresh).raise 5 (w32 n) (w32 (b2n part)) 0
/-- A set is refused with a reason of R113. -/
def State.refuseSet (s : State) (reason : Nat) : State := (s.wrFld 0x00 0x48 12 4 reason).raise 6 (w32 reason) 0 0
/-- The module runs without a tack set. -/
def State.noSet (s : State) (n : Nat) (src : Bool) : State :=
  let t := (s.clearTs (fun k => !s.keyHeld k)).wr 0x00 0x48 (w32 (n + 0x10 * b2n src + 0x1000 * s.rf 0x00 0x48 12 4))
  (t.wrBit 0x00 0x0C 2 true).wrBit 0x02 0x0C 0 false
/-- Boot phase 5: the active set is loaded or refused; a copy that a power fail broke off is completed first (R430). -/
def State.bootLoad (s : State) : State :=
  let s :=
    if s.keep.copyPending then
      match slotComp s.activeSlot 4 with
      | some b => { s with keep := { s.keep with tackSets := b.tacks, copyPending := false } }
      | none => { s with keep := { s.keep with copyPending := false } }
    else s
  let n := s.rf 0x00 0x48 0 2
  let src := s.rb 0x00 0x48 4
  let ts := s.tackSet n
  let r := s.setRefusal ts
  if r = 0 then s.takeSet n src false ts else (s.noSet n src).refuseSet r
/-- The contents of the set in force for the words that `sel` chooses, loaded again (R118). -/
def State.reloadPages (s : State) (sel : Nat → Bool) : State :=
  if s.loaded then (s.putContents (s.tackSet (s.rf 0x00 0x48 0 2)) sel).startUnits.refresh else s

end Sys2Proof.Machine
end

