-- ==== Sys2Proof/Machine/Farrier.lean ====
section
/-! DEFINITION. What a reset of a unit leaves, the service level (R122), restarts of the control program (R206 to R209), the
boot after the self-test (R107, phases 5 to 8) and the farrier (R115 to R121, R126, R127). -/

namespace Sys2Proof.Machine

/-! ### Pages and units at their reset values -/

/-- The registers and table words of the chosen pages at their reset values. -/
def State.resetPages (s : State) (sel : Nat → Bool) : State :=
  { s with regs := s.regs.filter (fun c => !sel (keyPage c.1))
           shadow := s.shadow.filter (fun c => !sel (keyPage c.1))
           upsets := s.upsets.filter (fun c => !sel (keyPage c.1))
           kp := s.kp.filter (fun k => !sel k.page) }
/-- What the units behind the chosen pages hold besides their registers, as after a reset. -/
def State.resetUnits (s : State) (sel : Nat → Bool) : State :=
  { s with
    field := { (if sel 0x0B then {} else s.field) with faultIlk := s.field.faultIlk && !sel 0x0C }
    cams := s.cams.zipIdx.map (fun (x, c) => if sel (camPage c) then {} else x)
    views := s.views.zipIdx.map (fun (x, v) => if sel (viewPage v) then {} else x)
    dsps := s.dsps.zipIdx.map (fun (x, d) => if sel (dspPage d) then {} else x)
    watches := if sel 0x49 then s.watches.map (fun _ => {}) else s.watches
    cans := s.cans.zipIdx.map (fun (x, n) => if sel (canPage n) then {} else x)
    mvb := if sel 0x18 then {} else s.mvb
    net := if sel 0x20 then {} else s.net
    dup := if sel 0x50 then {} else s.dup }
/-- The farrier's block holds the page. -/
def blockHolds (b p : Nat) : Bool := (pageBlocks p).contains b

/-! ### Service level (R122) -/

/-- The block neither reads FAIL nor is UNUSABLE; an absent unit is not needed. -/
def State.blockNotFail (s : State) (b : Nat) : Bool := s.blockRes b ≠ 2 && !s.blockBad b
/-- The block's unit is present, does not read FAIL and is not UNUSABLE. -/
def State.blockGood (s : State) (b : Nat) : Bool := s.blockNotFail b && !blockAbsent s.variant b
/-- Control service is offered. -/
def State.offersControl (s : State) : Bool :=
  s.loaded && s.prog.imageOk && [3, 4, 7, 8].all s.blockNotFail && 2 ≤ ([0, 1, 2].filter s.blockNotFail).length &&
    ((s.blockGood 5 && s.blockGood 6) || [14, 16, 17, 18, 19, 20, 21, 22].any s.blockGood)
/-- View `v` is claimed: enabled, with its camera ports, its view, its display port, the pipeline and frame watch good. -/
def State.claimed (s : State) (v : Nat) : Bool :=
  s.rb (viewPage v) 0x40 0 && [29, 30, 40 + v, 46 + v, 32 + s.rf (viewPage v) 0x40 8 3].all s.blockGood &&
    (!s.stitched v || s.blockGood (32 + s.rf (viewPage v) 0x40 12 3))
/-- SYS.SERVICE. -/
def State.service (s : State) : Word :=
  if !s.blockNotFail 11 then 0
  else if !s.offersControl then 1
  else
    let vs := (((List.range 6).filter s.claimed).map (fun v => 2 ^ v)).sum
    w32 ((if vs = 0 then 2 else 3) + 0x100 * vs)
/-- The boot has come to phase 8 without an overrun: SERVICE shows what is offered now. -/
def State.serviceLive (s : State) : Bool := (s.bootPhase = 8 || s.bootPhase = 0xF) && !s.tro.bootOver
/-- SERVICE follows once the boot has come to its end. -/
def State.updService (s : State) : State := if s.serviceLive then s.wr 0x00 0x58 s.service else s

/-! ### Restart of the control program (R206 to R209) -/

/-- CRC-32 over a part of the retain record as the model holds it, each entry's key and value low byte first: the manual lays out
no byte of a part (DESIGN CHOICE, log 68). -/
def crcBytesPart (l : List Host.Cell) : Word := crc32 (l.flatMap (fun c => wordBytes (w32 c.1) ++ [c.2.toNat]))
def crcWordPart (l : List (Nat × Word)) : Word := crc32 (l.flatMap (fun c => wordBytes (w32 c.1) ++ wordBytes c.2))
def crcImagePart (l : List (Nat × DWord)) : Word :=
  crc32 (l.flatMap (fun c => wordBytes (w32 c.1) ++ wordBytes (w32 c.2.toNat) ++ wordBytes (w32 (c.2.toNat / 2 ^ 32))))
/-- Every CRC-32 of the record matches its part (R209). -/
def Retain.crcOk (r : Retain) : Bool :=
  r.crcSection = crcBytesPart r.section_ && r.crcForces = crcWordPart r.forces && r.crcImage = crcImagePart r.image
/-- The conditions of R209, in order: the REASON of the first that fails, 0 for none. -/
def State.retainRefusal (s : State) : Nat :=
  let r := s.keep.retain
  if !r.valid || r.consumed then 1
  else if !r.crcOk then 2
  else if r.layoutId ≠ s.prog.image.layoutId || r.sizeKb ≠ s.prog.image.retainKb then 3
  else if !s.rb 0x09 0x48 1 then 4
  else 0
/-- RETAIN_STAT's flags and size follow the record. -/
def State.showRetain (s : State) : State :=
  let r := s.keep.retain
  let kb := if r.valid then 4 + r.sizeKb + 64 + (r.outLen * 8 + 1023) / 1024 else 0
  (s.wr 0x09 0x5C (w32 (b2n r.valid + 2 * b2n r.consumed + 4 * s.rf 0x09 0x5C 2 2 + 0x10 * s.rf 0x09 0x5C 4 4 + 0x1_0000 * kb))).wr 0x09 0x60 r.cycle
/-- Bytes of a lane's SRAM replaced: those of the area cleared, and the listed ones written. -/
def State.fillLane (s : State) (l base n : Nat) (cells : List (Nat × Byte)) : State :=
  let clear := { s with mem := s.mem.filter (fun c => !(laneMem l base ≤ c.1 && c.1 < laneMem l (base + n))) }
  (cells.filter (fun c => base ≤ c.1 && c.1 < base + n)).foldl (fun t c => t.setByte (laneMem l c.1) c.2) clear
/-- Force words of the table, and the map words of the signals they bind (R216). -/
def isForceKey (k : Nat) : Bool := keyPage k = 0x0A && keyIsTab k && 0x4000 ≤ keyOff k && keyOff k < 0x8000
def State.forceKeys (s : State) : List Nat := (s.regs.map Prod.fst).filter isForceKey
def State.clearForces (s : State) : State :=
  ({ s with regs := s.regs.filter (fun c => !isForceKey c.1) }).wr 0x0A 0x48 0
/-- KIND, DIR and TYPE. -/
def mapShape (w0 : Word) : Nat := fld w0 0 9
/-- A force is kept only where its signal has the KIND, DIR and TYPE that it had (R216); an active one that goes is reported. -/
def State.keepForces (s : State) (was : Nat → Word) : State :=
  let ids := ((s.forceKeys.map (fun k => (keyOff k - 0x4000) / 4))).eraseDups
  let s := ids.foldl (fun t i =>
    let ok := mapKind (t.mapWord i 0) ≠ 0 && mapShape (t.mapWord i 0) = mapShape (was i)
    if ok then t
    else
      let en := bit (t.tab 0x0A (0x4000 + 4 * i)) 0
      let t := [0, 1, 2, 3].foldl (fun u w => u.setTab 0x0A (0x4000 + 4 * i + w) 0) t
      t.when en (fun u => u.raise 88 (w32 i) 0 0)) s
  s.wr 0x0A 0x48 (w32 s.forcesOn.length)
/-- Forces of the retain record: its words by key, and the map word of each signal that they bind. -/
def State.restoreForces (s : State) : State :=
  let l := s.keep.retain.forces
  let s := (l.filter (fun c => isForceKey c.1)).foldl (fun t c => t.setKey c.1 c.2) s.clearForces
  s.keepForces (fun i => (alGet l (tk 0x0A (4 * i))).getD 0)
/-- The lanes that take part in a restart. -/
def State.bootLanes (s : State) : List Nat := [0, 1, 2].filter (fun l => s.laneState l = 1)
/-- A restart (R206): working data from the image's initial values, on a warm one the retain section and the forces from the
record. -/
def State.restart (s : State) (cold : Bool) : State :=
  let why := s.retainRefusal
  let warm := !cold && why = 0
  let im := s.prog.image
  let r := s.keep.retain
  let s := s.bootLanes.foldl (fun t l =>
    let t := t.fillLane l im.dataBase (1024 * im.dataKb) im.cells
    if warm then t.fillLane l im.retainBase (1024 * im.retainKb) r.section_ else t) s
  let s := if warm then s.restoreForces else s.clearForces
  let s := if warm then { s with keep := { s.keep with retain := { r with consumed := true } } } else s
  let s := s.wr 0x09 0x54 (w32 (b2n warm + 2 * b2n (!cold && !warm) + 0x10 * (if cold then 0 else why)))
  let s := { s with tro := { s.tro with first := true, warm := warm } }
  (s.showRetain).wr 0x09 0x58 im.layoutId

/-! ### Phases 5 to 8 (R107) -/

/-- The reason of R409 for which an image is not started, 0 for none. -/
def State.authFail (s : State) (h : ImageHdr) : Nat :=
  if !h.evopelOk then 1
  else if !s.keep.customerRoot then 5
  else if !h.customerOk then 2
  else if !h.digestOk then 3
  else if h.secVer < s.keep.arb then 4
  else 0
/-- A lane image keeps the limits of R154. -/
def layoutOk (im : LaneImage) : Bool :=
  let e := im.codeBase + im.codeBytes
  let dEnd := im.dataBase + 1024 * im.dataKb
  let half := im.codeBase / 0x20_0000
  half = (e - 1) / 0x20_0000 && (im.dataKb = 0 || (im.dataBase / 0x20_0000 = half && (dEnd - 1) / 0x20_0000 = half)) &&
    e ≤ 0x3F_0000 && dEnd ≤ 0x3F_0000 && im.dataKb ≤ 512 &&
    im.dataBase ≤ im.retainBase && im.retainBase + 1024 * im.retainKb ≤ dEnd
/-- The lane image of the update slot in use. -/
def State.slotImage (s : State) : Option Component := slotComp s.activeSlot 2
/-- Phase 6: the lane image is authenticated, its code loaded, and every lane that may run is released into BOOT. -/
def State.bootLaneImage (s : State) (which : Nat → Bool) : State :=
  match s.slotImage with
  | none => { s with prog := { s.prog with imageOk := false } }
  | some c =>
    let why := s.authFail c.hdr
    if why ≠ 0 || !layoutOk c.image then
      let s := { s with prog := { s.prog with imageOk := false } }
      s.when (why ≠ 0) (fun t => t.raise 240 2 (w32 why) 0)
    else
      let s := { s with prog := { s.prog with imageOk := true, image := c.image, altHalf := false, ocKept := false, needReload := 0 } }
      let s := s.wrBit 0x09 0x44 4 c.image.compat610
      ([0, 1, 2].filter (fun l => which l && !s.laneUnusable l)).foldl (fun t l =>
        (t.fillLane l c.image.codeBase c.image.codeBytes c.image.cells).resetLane l) s
/-- Service images, authenticated in parallel with phases 5 to 7 (R107, R409). -/
def State.bootService (s : State) : State :=
  match slotComp s.activeSlot 3 with
  | none => { s with prog := { s.prog with svcHeld := true } }
  | some c =>
    let why := s.authFail c.hdr
    let s := { s with prog := { s.prog with svcHeld := why ≠ 0 } }
    s.when (why ≠ 0) (fun t => t.raise 240 3 (w32 why) 0)
/-- Phase `n` is in progress. -/
def State.setPhase (s : State) (n : Nat) : State := s.wrFld 0x00 0x50 0 4 n
/-- Phases 5 to 7, and the wait for the tick in phase 8. -/
def State.bootOn (s : State) : State :=
  let s := (s.setPhase 5).bootLoad
  let s := ((s.setPhase 6).bootLaneImage (fun _ => true)).bootService
  let s := (s.setPhase 7).restart s.prog.restartCold
  (s.setPhase 8).updService

/-! ### Runs of the farrier (R115 to R121) -/

/-- The blocks that a boot test covers. -/
def State.bootBlocks (s : State) : List Nat := (List.range 52).filter (fun b => !blockAbsent s.variant b)
/-- Result of block `b`. -/
def State.setRes (s : State) (b r : Nat) : State := s.wrFld 0x04 (0x40 + 4 * (b / 16)) (2 * (b % 16)) 2 r
/-- BIST_PENDING, which only a boot test sets (R119). -/
def State.showRes (s : State) (boot : Bool) : State :=
  let open_ := [0, 1, 2, 3, 4, 5, 6, 7, 8, 9, 10, 11, 12, 13, 14].any (fun b => s.blockRes b = 0 && !blockAbsent s.variant b)
  s.wrBit 0x00 0x0C 3 (open_ && (boot || s.bistPending))
/-- The results of the absent blocks, the others NOT_RUN. -/
def State.clearRes (s : State) : State :=
  (List.range 64).foldl (fun t b => t.setRes b (if blockAbsent t.variant b then 3 else 0)) s
/-- A test of block 5 or 6 that starts takes the field domain from PARALLEL to SERIAL (R228). -/
def State.fioTestStarts (s : State) : State := if s.fioTested && s.linkMode = 2 then s.setLink 1 else s
/-- The field domain is released from reset (R228). -/
def State.fioRelease (s : State) : State := if s.fioFitted && s.linkMode = 0 && !s.pageHeld 0x0B then s.setLink 1 else s
/-- A test of block 13 that starts takes the Selcy link down (R115). -/
def State.xlinkTestStarts (s : State) : State :=
  if s.xlinkTested && s.rb 0x50 0x5C 0 then (s.wrBit 0x50 0x5C 0 false).raise 229 0 0 0 else s
/-- A boot test that a reset, a power failure or an overrun cuts off: its blocks are left as they stand (R119). -/
def State.cutRun (s : State) : State :=
  if s.farr.run = .boot then (({ s with farr := {} }).wrFld 0x04 0x0C 0 2 0).showRes true else s
/-- A run over a list of blocks begins with its CHECK (R120). -/
def State.startRun (s : State) (run : FarrRun) (blocks : List Nat) : State :=
  let s := { s with farr := { run := run, left := blocks, started := s.tb.count } }
  let m (lo : Nat) : Word := bitsOf 32 (fun i => blocks.contains (lo + i))
  let s := ((s.wr 0x04 0x50 (m 0)).wr 0x04 0x54 (m 32)).wrFld 0x04 0x0C 0 2 (if run = .boot then 3 else 1)
  let s := s.wrFld 0x04 0x0C 8 3 0
  s.xlinkTestStarts.fioTestStarts
/-- RES0 to RES3. -/
def State.resWords (s : State) : List Word := [s.rd 0x04 0x40, s.rd 0x04 0x44, s.rd 0x04 0x48, s.rd 0x04 0x4C]
/-- The lane rotation after its lane's test (R397): ROT_PASS takes the result, and a lane that passed is reintegrated. -/
def State.rotationTested (s : State) (l : Nat) : State :=
  let pass := s.blockRes l = 1
  let s := { s with dup := { s.dup with rotPass := pass, rotating := if pass then s.dup.rotating else none } }
  s.when pass (fun t => (t.reintStart l 3 false).1)
/-- REPORT (R120): the blocks left are NOT_RUN, the run's numbers are set and its events raised. -/
def State.report (s : State) : State :=
  let f := s.farr
  let s := f.left.foldl (fun t b => t.setRes b 0) s
  let s := { s with farr := {} }
  let s := ((s.wrFld 0x04 0x58 0 24 (min 0xFF_FFFF ((s.tb.count - f.started) / 1000))).sat16 0x04 0x5C).wrFld 0x04 0x0C 0 2 0
  let s := s.showRes (f.run = .boot)
  let s := s.when (!f.tested.isEmpty && !f.anyFail) (fun t => t.raise 16 0 0 0)
  let s := s.when f.anyFail (fun t => t.raise 17 0 0 0)
  let s := s.when (!f.left.isEmpty) (fun t => t.raise 18 (w32 (t.rf 0x04 0x0C 8 3)) 0 0)
  s.tryParallel.updService
/-- The preconditions that fail are shown, and the run ends. -/
def State.preFail (s : State) (supplyOk clockOk tempOk : Bool) : State :=
  (s.wrFld 0x04 0x0C 8 3 (b2n (!supplyOk) + 2 * b2n (!clockOk) + 4 * b2n (!tempOk))).report
/-- A block whose signature differs is held in reset, with all its pages (R118). -/
def State.failBlock (s : State) (b : Nat) : State :=
  let s := (s.resetPages (blockHolds b)).resetUnits (blockHolds b)
  let s := { s.setRes b 2 with keep := { s.keep with unusable := s.keep.unusable ||| 2 ^ b } }
  let s := if b < 3 then ((s.clearTs (laneKey b)).offLane b).wrBit 0x06 (laneOff b 4) 9 true else s
  let s := ({ s with farr := { s.farr with anyFail := true } }).raise 19 (w32 b) 0 0
  s.refresh
/-- A block that is UNUSABLE and now passes is reloaded and released, with the words that no other block holds. -/
def State.passBlock (s : State) (b : Nat) : State :=
  let was := s.blockBad b
  let s := { s.setRes b 1 with keep := { s.keep with unusable := if was then s.keep.unusable - 2 ^ b else s.keep.unusable } }
  let s := if b < 3 then s.wrBit 0x06 (laneOff b 4) 9 false else s
  if was then (s.reloadPages (fun k => (blockHolds b (keyPage k) && !s.pageHeld (keyPage k)) || (decide (b < 3) && laneKey b k))).fioRelease.refresh else s
/-- COMPARE (R120): the signature of the block under test against its golden value. -/
def State.compareBlock (s : State) (sig : Word) : State :=
  match s.farr.left with
  | [] => s
  | b :: rest =>
    let s := (s.setTab 0x04 b sig).setTab 0x04 (0x40 + b) (stGet 0 s.keep.golden b)
    let s := { s with farr := { s.farr with left := rest, tested := s.farr.tested ++ [b], checked := true } }
    let s := if sig = stGet 0 s.keep.golden b then s.passBlock b else s.failBlock b
    let s := s.xlinkTestStarts
    if s.fioTested then s.fioTestStarts else s

/-- The lower bound of a block's runtime condition (R115). -/
def State.mayTest (s : State) (b : Nat) : Bool :=
  let camsOff := (List.range 8).all (fun c => s.camState c = 0)
  let viewsOff := (List.range 6).all (fun v => s.viewState v = 0)
  if b < 3 then s.laneState b = 0 || s.laneState b = 6 || s.laneState b = 4
  else if b ≤ 7 then s.progMode = modeStop
  else if b = 13 then !s.duplexEn
  else if b = 14 then !s.rb 0x18 0x40 0
  else if 16 ≤ b && b ≤ 21 then s.canMode (b - 16) = 0
  else if b = 23 then pageAbsent s.variant 0x23 || !s.rb 0x23 0x44 0
  else if b = 29 then camsOff && viewsOff
  else if b = 30 then viewsOff
  else if 32 ≤ b && b ≤ 39 then s.camState (b - 32) = 0
  else if 40 ≤ b && b ≤ 45 then s.viewState (b - 40) = 0
  else if 46 ≤ b && b ≤ 51 then s.dspState (b - 46) = 0
  else false
/-- BIST_RUN (R121). -/
def State.bistRun (s : State) (n : Nat) : State :=
  let bs := (List.range 64).filter (fun b => bit (s.boxArg n (b / 32)) (b % 32))
  if s.farr.run ≠ .idle then s.boxDone n 5 []
  else if bs.any (blockAbsent s.variant) then s.boxDone n 3 []
  else if bs.any (fun b => !s.mayTest b) then s.boxDone n 6 []
  else if bs.isEmpty then s.boxDone n 0 s.resWords
  else (s.startRun (.runtime (Fin.ofNat 3 n)) bs).boxRun n
/-- A run that has no block left, or that a precondition has ended, is reported to whoever asked for it. -/
def State.runEnded (s : State) (run : FarrRun) : State :=
  match run with
  | .idle => s
  | .boot => s.bootOn
  | .runtime n => if (s.box n.val).running then s.boxDone n.val 0 s.resWords else s
  | .rotation l => s.rotationTested l.val
/-- The signature of the block under test is complete. -/
def State.blockDone (s : State) (sig : Word) (supplyOk clockOk tempOk : Bool) : State :=
  let run := s.farr.run
  if run = .idle then s
  else if !(supplyOk && clockOk && tempOk) then (s.preFail supplyOk clockOk tempOk).runEnded run
  else
    let s := s.compareBlock sig
    if s.farr.left.isEmpty then s.report.runEnded run else s
/-- The CHECK of a run (R116): at boot it is repeated until the wait has run out, at run time it is made once. -/
def State.precheck (s : State) (supplyOk clockOk tempOk expired : Bool) : State :=
  let run := s.farr.run
  if run = .idle || s.farr.checked then s
  else if supplyOk && clockOk && tempOk then { s with farr := { s.farr with checked := true } }
  else if run = .boot && !expired then s
  else (s.preFail supplyOk clockOk tempOk).runEnded run

/-! ### Rows -/

def execFarrierPrecheckRetry (supplyOk clockOk tempOk expired : Bool) (s : State) := answer s (s.precheck supplyOk clockOk tempOk expired)
/-- A precondition fails while a run is testing a block. -/
def execFarrierPreconditionFail (supplyOk clockOk tempOk : Bool) (s : State) :=
  answer s (if s.farr.run = .idle || (supplyOk && clockOk && tempOk) then s
    else (s.preFail supplyOk clockOk tempOk).runEnded s.farr.run)
def execFarrierBlockDone (sig : Word) (supplyOk clockOk tempOk : Bool) (s : State) :=
  answer s (s.blockDone sig supplyOk clockOk tempOk).reintFollow
/-- A rotation falls due (R397): an OUTRIDER with three lanes VOTING fails the next lane and has it tested. -/
def State.rotate (s : State) : State :=
  if !s.rb 0x50 0x40 2 || s.role ≠ 2 || s.votingCount ≠ 3 || s.farr.run ≠ .idle || s.dup.rotating.isSome then s
  else
    let l := s.dup.rotNext % 3
    let s := s.failRequest l
    let s := { s with dup := { s.dup with rotating := some (Fin.ofNat 3 l), rotNext := (l + 1) % 3 } }
    s.startRun (.rotation (Fin.ofNat 3 l)) [l]
def execLaneRotation (s : State) := answer s s.rotate.reintFollow
def execBistRun (inst : Fin 3) (s : State) := answer s (s.serve inst.val 0x30 (fun _ => true) [8] (fun t => t.bistRun inst.val))
def execBistResult (inst : Fin 3) (s : State) :=
  answer s (s.serve inst.val 0x31 (fun _ => true) [0] (fun t => t.boxDone inst.val 0 (t.resWords ++ [t.farrStat])))

end Sys2Proof.Machine
end

