-- ==== Sys2Proof/Machine/Boot.lean ====
section
/-! DEFINITION. Resets, supplies and straps, power fail, and the boot up to the farrier (R28 to R45, R105 to R109, R123), with
the mailbox commands of start-up and of time. -/

namespace Sys2Proof.Machine

/-! ### Reset (R105) -/

/-- RESET_CAUSE: the cause, whether a warm restart is requested, and the resets so far. -/
def State.setCause (s : State) (cause : Nat) : State :=
  s.wr 0x00 0x40 (w32 (cause + 0x100 * b2n (cause ≠ 3 && cause ≠ 6) + 0x1_0000 * min 0xFFFF s.keep.boots))
/-- What a tack room keeps through a reset other than a power-on reset: DEBUG_UNLOCKED and SCAN_ENABLED with their scopes, and
LOCKED where R419 or R421 asks for it. -/
def State.stickyTack (s old : State) (por : Bool) : State :=
  let s := if por then s
    else ((s.wrBit 0x60 0x0C 2 (old.rb 0x60 0x0C 2)).wrBit 0x60 0x0C 3 (old.rb 0x60 0x0C 3)).wr 0x60 0x5C (old.rd 0x60 0x5C)
  s.wrBit 0x60 0x0C 0 (s.keep.epochs = 64 || s.sec.lockToPor)
/-- The reset of the whole module, all but the always-on region (R105). The farrier's results, its table and the UNUSABLE marks
outlast cause 0x02 (R118); a power-on reset loses what the memories held. The hold-up store is to be charged again after a power-on
reset (R45), and after the power-fail sequence that has drained it (DESIGN CHOICE, log 28). The always-on registers start anew where their
supply was lost (R478). -/
def State.wholeReset (s : State) (cause : Nat) (aonKept : Bool) (elapsed : Nat) : State :=
  let por := cause = 1
  let cold := por || cause = 3
  let t : State := {
    pending := s.pending, variant := s.variant, freeIx := s.freeIx, bus := s.bus
    regs := if cause = 2 then s.regs.filter (fun c => keyPage c.1 = 0x04 && (keyIsTab c.1 || (0x40 ≤ keyOff c.1 && keyOff c.1 < 0x50))) else []
    mem := if por then s.mem.filter (fun c => hostMem 0 ≤ c.1) else s.mem
    keep := { s.keep with boots := min 0xFFFF (s.keep.boots + 1), debugSplit := if cold then 0 else s.keep.debugSplit
                          unusable := if cause = 2 then s.keep.unusable else 0
                          dbgFail := if por && !aonKept then 0 else s.keep.dbgFail
                          rtcS := if por && !aonKept then 0 else s.keep.rtcS
                          rtcAlarm := if por && !aonKept then 0 else s.keep.rtcAlarm
                          spookHeld := if por && !aonKept then 0 else s.keep.spookHeld }
    pins := { s.pins with running := true, moving := true, interrupted := s.pins.interrupted && cause ≠ 1 && cause ≠ 2
                          holdup := s.pins.holdup && cause ≠ 1 && cause ≠ 2, pfActive := false, pfReturned := false,
                          porBroken := false, ppsRise := none, recovery := false }
    lanes := s.lanes.map (fun x => if cold then {} else { autoUsed := x.autoUsed, hashBan := x.hashBan })
    prog := { restartCold := cause = 3 }
    sec := { kek := por || !s.sec.otpBlocked, lockToPor := s.sec.lockToPor && !por, otpBlocked := s.sec.otpBlocked && !por } }
  let t := (t.setCause cause).stickyTack s por
  let t := (t.wr 0x00 0x44 (s.rd 0x00 0x44)).wr 0x00 0x48 (w32 (s.rf 0x00 0x48 0 5))
  let t := (t.wrBit 0x00 0x0C 1 (s.svcStart)).wrBit 0x00 0x0C 3 (cause = 2 && s.bistPending)
  let t := (if por then t else t.wr 0x72 0x58 (s.rd 0x72 0x58)).wr 0x61 0x48 (s.rd 0x61 0x48)
  let t := t.wrBit 0x50 0x58 5 s.roleIn
  let t := [0, 1, 2].foldl (fun u l => (u.wrBit 0x06 (laneOff l 4) 8 (u.keep.debugSplit.testBit l)).wrBit 0x06 (laneOff l 4) 9 (u.laneUnusable l)) t
  let t := t.tbReset aonKept elapsed
  { t with tro := { t.tro with bootAt := t.tb.count, railsOk := s.tro.railsOk } }
/-- Always-on time since the last save, as the running time base has measured it (R132). -/
def State.sinceSave (s : State) : Nat := s.tb.count - s.keep.monoSaved

/-! ### Phases 1 to 4 (R107) -/

/-- The trial at a reset (R441, R442): the remount cause, 0 for none. -/
def State.remountCause (s : State) : Nat :=
  if !s.keep.trial then 0
  else if s.keep.trialStart + 600_000_000_000 ≤ s.tb.count then 1
  else if 2 ≤ s.keep.trialBoots then 2
  else if s.keep.trialAbort then 3
  else 0
/-- The slot of the start is settled: a trial past its limits is remounted, one that goes on counts the boot. -/
def State.bootTrial (s : State) : State :=
  let why := s.remountCause
  if why ≠ 0 then
    let s := { s with keep := { s.keep with activeB := !s.keep.activeB, trial := false, trialAbort := false, trialBoots := 0 } }
    ((s.wrFld 0x71 0x44 0 3 0).wrBit 0x71 0x44 17 true).sat16 0x71 0x70
  else if s.keep.trial then
    ({ s with keep := { s.keep with trialBoots := s.keep.trialBoots + 1 } }).wrFld 0x71 0x44 0 3 4
  else s
/-- A slot's management firmware may start: the reason of R409 where not. -/
def State.firmwareFail (s : State) (x : Slot) : Nat :=
  match slotComp x 1 with
  | none => 3
  | some c => s.authFail c.hdr
/-- Phase 2: the firmware of the slot in use, else of the other slot, else ROM recovery (R409). -/
def State.bootFirmware (s : State) : State :=
  let a := s.firmwareFail s.activeSlot
  if a = 0 then s
  else
    let s := s.raise 240 1 (w32 a) 0
    let s := { s with keep := { s.keep with activeB := !s.keep.activeB } }
    let b := s.firmwareFail s.activeSlot
    if b = 0 then s
    else
      let s := s.raise 240 1 (w32 b) 0
      { s with keep := { s.keep with activeB := !s.keep.activeB }, pins := { s.pins with recovery := true } }
/-- Phase 3: straps and selection (R29, R30, R109). -/
def State.bootSelect (s : State) : State :=
  let s := s.wrFld 0x00 0x44 0 2 s.pins.prof.toNat
  match s.keep.stored with
  | some n => s.wr 0x00 0x48 (w32 (n.val + 0x10))
  | none => s.wr 0x00 0x48 (w32 s.pins.prof.toNat)
/-- A record of the management firmware whose code is of the vendor's list (R447). -/
def State.vendorRecord (s : State) : State :=
  let r := s.recordAt (0x105 + (Config.freeWord s.freeIx).toNat % 0x7EFB) 0x11 s.freeSev s.tb.count (Config.freeWord (s.freeIx + 1))
    (Config.freeWord (s.freeIx + 2)) (Config.freeWord (s.freeIx + 3))
  ({ s with freeIx := s.freeIx + 4 }).accept r
/-- SLOT_ID, SVC_MODE_N and MOVING_N as sampled at a power-on reset, and service start (R29, R30, R38). -/
def State.sampleStraps (s : State) : State :=
  let p := s.pins
  let s := (s.wrBit 0x00 0x44 4 p.slotId).wrBit 0x00 0x44 5 p.svcModeLow
  (s.wrBit 0x00 0x44 6 p.movingNLow).wrBit 0x00 0x0C 1 (p.svcModeLow && !p.movingNLow)
/-- Alarms that the watch has kept while the management plane did not run are raised (R475). -/
def State.raiseHeld (s : State) : State :=
  let ks := (List.range 12).filter (fun k => s.keep.spookHeld.testBit k)
  let t : State := { s with keep := { s.keep with spookHeld := 0 } }
  ks.foldl (fun u k => u.raise 236 (w32 k) (w32 (u.spookResp k)) 0) t
/-- The boot of R107 from phase 1, in which a lid or a mesh found open and the OTP's integrity set off the spook alarm (R415): on
the full path up to the farrier's run, on the short path up to the wait for the tick. -/
def State.boot (s : State) (cause : Nat) (recStarts : Bool) : State :=
  let full := cause ≠ 2 && cause ≠ 4
  let s := s.setPhase 1
  let s := if cause = 1 then s.sampleStraps else s
  let found := if cause = 1 then (List.range 12).filter (fun k => s.rb 0x61 0x48 k) else []
  let found := if s.keep.otpOk then found else found ++ [11]
  let s := if found.isEmpty then s else s.spookFire found
  let why := s.remountCause
  let s := ((s.setPhase 2).bootTrial).bootFirmware
  if s.pins.recovery then s
  else
    let s := if recStarts then s.recStart false else s
    let s := s.raise 0 (w32 cause) 0 0
    let s := (s.when (why ≠ 0) (fun t => t.raise 246 (w32 why) 0 0)).raiseHeld
    let s := s.when (cause = 1 && s.pins.svcModeLow && s.pins.movingNLow) State.vendorRecord
    if full then
      let s := (((s.setPhase 3).bootSelect.fioRelease).setPhase 4).clearRes
      s.startRun .boot s.bootBlocks
    else s.fioRelease.bootOn
/-- A reset of the whole module and the boot that follows. -/
def State.resetBoot (s : State) (cause : Nat) (aonKept : Bool) (elapsed : Nat) : State := ((s.wholeReset cause aonKept elapsed).lineCauses).boot cause true

/-! ### Records of the retain area (R207, R208) -/

/-- The bytes of an area of lane `l`'s SRAM, by lane address. -/
def State.laneCells (s : State) (l base n : Nat) : List (Nat × Byte) :=
  (s.mem.filter (fun c => laneMem l base ≤ c.1 && c.1 < laneMem l (base + n))).map (fun c => (c.1 - laneMem l 0, c.2))
/-- The retain section in lane `l`, by the addresses that the lane image gives it. -/
def State.retainSection (s : State) (l : Nat) : List Host.Cell :=
  (s.laneCells l s.retainBase (1024 * s.prog.image.retainKb)).map (fun c => (c.1 - s.retainBase + s.prog.image.retainBase, c.2))
/-- The force table, with the map words of its signals. -/
def State.retainForces (s : State) : List (Nat × Word) :=
  let ids := (s.forceKeys.map (fun k => (keyOff k - 0x4000) / 4)).eraseDups
  (s.forceKeys.map (fun k => (k, s.key k))) ++ ids.map (fun i => (tk 0x0A (4 * i), s.mapWord i 0))
/-- The retain record from source lane `l`, which has last completed cycle `c.1` with program time `c.2`: its retain section, the
force table and the last committed image. -/
def State.retainFrom (s : State) (l : Nat) (c : Word × DWord) : Retain :=
  let im := s.prog.image
  { valid := true, consumed := false, layoutId := im.layoutId, sizeKb := im.retainKb
    crcSection := crcBytesPart (s.retainSection l), crcForces := crcWordPart s.retainForces
    crcImage := crcImagePart (s.imageCells imgCommitted)
    cycle := c.1, progNs := w32 c.2.toNat, progEpoch := w32 (c.2.toNat / 2 ^ 32)
    section_ := s.retainSection l, forces := s.retainForces, image := s.imageCells imgCommitted, outLen := s.outLen }
/-- A record is written, or the write fails; with no VOTING lane or no completion there is none (R208). -/
def State.writeRetain (s : State) (done mramOk : Bool) : State :=
  match s.votingLanes.head?.bind (fun l => (s.lane l).lastDone.map (fun c => (l, c))) with
  | none => (s.wrFld 0x09 0x5C 4 4 2)
  | some (l, c) =>
    if !done then s.wrFld 0x09 0x5C 4 4 2
    else if !mramOk then s.wrFld 0x09 0x5C 4 4 3
    else
      let s := { s with keep := { s.keep with retain := s.retainFrom l c } }
      ((s.wrFld 0x09 0x5C 2 2 l).wrFld 0x09 0x5C 4 4 1).showRetain

/-! ### Warm restart and the management watchdog (R53, R105, R106) -/

/-- Pages of the control and data planes, with their mailbox instances. -/
def inPlanes (p : Nat) : Bool := pagePlane p = .control || pagePlane p = .data
/-- Pages of the management plane that a management reset leaves at their reset values: TACK, SPOOK, REC, UPD and GAIT. -/
def mgmtPage (p : Nat) : Bool := p = 0x60 || p = 0x61 || p = 0x70 || p = 0x71 || p = 0x72
/-- The control and data planes are reset and start on the short path. The pages that belong to no plane and those of the management
plane stay as they are (R47), but for what boot phase 5 loads from the tack set (log 25). -/
def State.warmReset (s : State) : State :=
  let s := { s with keep := { s.keep with boots := min 0xFFFF (s.keep.boots + 1) } }
  let roleIn := s.roleIn
  let low := s.rd 0x00 0x48 &&& 0xF01F
  let s := (s.cutRun.resetPages inPlanes).resetUnits inPlanes
  let s := { s with
    img := [], vw := {}, reint := {}, prog := {}, dup := {}
    tro := { bootAt := s.tb.count, spookDemand := s.tro.spookDemand, railsOk := s.tro.railsOk }
    lanes := s.lanes.map (fun x => { autoUsed := x.autoUsed, hashBan := x.hashBan })
    boxes := (s.boxes.set 0 {}).set 1 {}
    bells := s.bells.filter (fun n => n = 2)
    pins := { s.pins with moving := true } }
  let s := [0, 1, 2, 3, 4, 5, 6, 7, 9, 10, 11].foldl State.freeSems s
  let s := [0, 1, 2].foldl (fun u l => (u.wrBit 0x06 (laneOff l 4) 8 (u.keep.debugSplit.testBit l)).wrBit 0x06 (laneOff l 4) 9 (u.laneUnusable l)) s
  let s := ((s.setCause 4).wr 0x00 0x48 low).wrBit 0x50 0x58 5 roleIn
  (s.lineCauses).boot 4 false
/-- The management plane is reset: its demand is withdrawn for the length of the reset, commands in progress are aborted (R101),
and a demand that its state asks for stands again when it is back. -/
def State.mgmtReset (s : State) : State :=
  let old := s
  let s := { s with keep := { s.keep with boots := min 0xFFFF (s.keep.boots + 1) } }
  let drop (c : Nat) : Bool := mgmtPage (keyPage c) && !(accOf c).ts
  let s := { s with regs := s.regs.filter (fun c => !drop c.1), shadow := s.shadow.filter (fun c => !drop c.1)
                    kp := s.kp.filter (fun k => !mgmtPage k.page)
                    sec := { kek := !s.sec.otpBlocked, lockToPor := s.sec.lockToPor, otpBlocked := s.sec.otpBlocked, fault := s.sec.fault }
                    upd := {}
                    farr := if s.farr.run = FarrRun.boot then s.farr else {}
                    tro := { s.tro with mgmtDemand := s.pins.pfActive || s.progMode = modeStop || !s.tro.committed, spookDemand := false } }
  let s := if s.farr.run = FarrRun.boot then s else s.wrFld 0x04 0x0C 0 2 0
  let s := ((s.setCause 6).stickyTack old false).wr 0x61 0x48 (old.rd 0x61 0x48)
  let s := s.wrFld 0x72 0x58 0 32 (old.rd 0x72 0x58).toNat
  let s := s.wrFld 0x71 0x44 0 3 (if s.keep.trial then 4 else 0)
  let s := (s.freeSems 8).recStart true
  let s := [0, 1, 2].foldl (fun t n => t.boxDone n 9 []) s
  s.raise 0 6 0 0
/-- The management watchdog expires: the third time within 10 s the whole module is reset (R105). -/
def State.watchdog (s : State) : State :=
  let recent := s.tb.count :: s.keep.wdTimes.filter (fun t => s.tb.count < t + 10_000_000_000)
  let s := { s with keep := { s.keep with wdTimes := recent.take 2 } }
  if 3 ≤ recent.length then ({ s with keep := { s.keep with wdTimes := [] } }).resetBoot 5 true s.sinceSave else s.mgmtReset

/-! ### Supplies (R42 to R45) -/

/-- The vision path, PCIe and the service cores stop: links drop (R43, R53, R471). -/
def State.dropLinks (s : State) : State :=
  let s := (List.range 8).foldl State.camStop s
  let s := (List.range 6).foldl (fun t v => if t.viewState v = 0 then t else t.setView v 0) s
  let s := (List.range 6).foldl State.dspStop s
  s.pcieDown
/-- CAN channels stop after the frame in progress. -/
def State.stopCan (s : State) : State :=
  (List.range 6).foldl (fun t n =>
    if t.canMode n = 0 then t
    else if (t.can n).onBus.isSome then t.modCan n (fun c => { c with stopPend := true }) else t.canStop n) s
/-- The power-fail sequence starts (R43, R45, R123, R456). ROLE_OUT is released, and the outputs hold their safe-state values
all the same: R43's own table is followed over R34 and stage 5 of R235 (`State.outEn`, DESIGN CHOICE, log 39). -/
def State.startPowerFail (s : State) : State :=
  let flag := !s.pins.holdup
  let booting := !s.booted
  let s := s.raise 8 (w32 (b2n flag)) 0 0
  let run := s.progMode ≠ modeStop
  let s := (if s.gaitNow < 2 then s.dropLinks.stopCan else s).cutRun
  let s := { s with
    pins := { s.pins with pfActive := true, porBroken := booting && s.rf 0x00 0x40 0 8 = 1 }
    recd := { s.recd with pf := true, exp := none }
    keep := { s.keep with monoSaved := s.tb.count, freqSaved := s.rd 0x05 0x4C }
    prog := { s.prog with retainTrig := if run then some .powerFail else s.prog.retainTrig } }
  let s := (s.mgmtSafe).setRoleOut false
  (s.ocEnd 8).flushFor 4
/-- The module is off: nothing but MRAM, OTP and, where they are fed, the always-on registers outlasts it. -/
def State.off (s : State) : State :=
  let t := s.wholeReset 1 true 0
  { t with keep := { t.keep with boots := s.keep.boots, debugSplit := s.keep.debugSplit, unusable := 0 }, pins := { t.pins with running := false } }

/-! ### Tack-set selection by mailbox (R109 to R111) -/

/-- ERR of a PROFILE_SELECT for a set's reason of refusal. -/
def profErr (reason : Nat) : Nat := if reason = 4 then 0xB else if reason = 3 then 0xA else if reason = 2 then 3 else 7
/-- What a PROFILE_SELECT checks before it looks at the set. -/
def State.profGuard (s : State) (n : Nat) (f : State → State) : State :=
  if !s.booted then s.boxDone n 5 []
  else if s.boxArg n 0 &&& 0xFFFF_FEEC ≠ 0 then s.boxDone n 3 []
  else f s
/-- The reason for which a set is not stored: it is read, authenticated and held against the variant (R110), and its contents are
checked at the load. -/
def State.storeRefusal (s : State) (ts : TackSet) : Nat :=
  if ts.empty then 5
  else if !ts.readOk then 4
  else if !ts.sigOk || !s.keep.customerRoot then 1
  else if wrongVariant s.variant ts then 3
  else 0
/-- A selection is stored for the next reset that evaluates selection. -/
def State.profStore (s : State) (n : Nat) : State :=
  let x := fld (s.boxArg n 0) 0 2
  let r := s.storeRefusal (s.tackSet x)
  if r = 0 then ({ s with keep := { s.keep with stored := some (Fin.ofNat 4 x) } }).boxDone n 0 []
  else (s.when (r = 4) State.vendorRecord).boxDone n (profErr r) []
/-- A set is loaded at once. -/
def State.profNow (s : State) (n : Nat) : State :=
  let x := fld (s.boxArg n 0) 0 2
  if s.progMode ≠ modeStop || s.starting || s.moving then s.boxDone n 6 []
  else
    let ts := s.tackSet x
    let r := s.setRefusal ts
    if r = 0 then (s.takeSet x (s.keep.stored = some (Fin.ofNat 4 x)) true ts).updService.boxDone n 0 []
    else ((s.refuseSet r).when (r = 4) State.vendorRecord).boxDone n (profErr r) []
/-- PROFILE_QUERY. -/
def State.profQuery (s : State) (n : Nat) : State :=
  let st := match s.keep.stored with
    | some k => 0x100 * k.val + 0x1000
    | none => 0
  s.boxDone n 0 [w32 (s.rf 0x00 0x48 0 2 + 0x10 * s.rf 0x00 0x48 4 1 + st), s.prog.build]

/-! ### Rows: resets, supplies, pins -/

/-- The levels at PROF1:PROF0 as a sampling point finds them (R30). -/
def State.setProf (s : State) (prof : BitVec 2) : State := { s with pins := { s.pins with prof := prof } }
/-- The levels at the straps and at MOVING_N, the lid, the mesh and the OTP as a power-on reset finds them. -/
def State.setStraps (s : State) (x : PowerOn) : State :=
  ({ s with pins := { s.pins with prof := x.prof, slotId := x.slotId, svcModeLow := x.svcModeLow, movingNLow := x.movingLow }
            keep := { s.keep with otpOk := x.otpOk } }).wr 0x61 0x48 (w32 (b2n x.lidOpen + 2 * b2n x.meshBroken))
def execPowerOnReset (x : PowerOn) (elapsedNs : Nat) (s : State) := answer s ((s.setStraps x).resetBoot 1 x.aonKept elapsedNs)
/-- A phase exceeds its time (R107): the boot ends with that phase in BOOT_PHASE, and maintenance service starts. Phases 1 to 4
can overrun while the farrier runs, every phase that the boot has gone through up to the first tick. -/
def execBootPhaseOverrun (phase : Fin 9) (s : State) :=
  answer s (
    let p := phase.val
    let full := s.rf 0x00 0x40 0 8 ≠ 2 && s.rf 0x00 0x40 0 8 ≠ 4
    let early := s.farr.run = FarrRun.boot && 1 ≤ p && p ≤ 4
    let late := s.bootPhase = 8 && !s.tro.bootOver && 1 ≤ p && (full || (p ≠ 3 && p ≠ 4))
    if !early && !late then s
    else
      let s := [0, 1, 2].foldl State.offLane s.cutRun
      let s := { s with prog := { s.prog with imageOk := false }, tro := { s.tro with bootOver := true } }
      let s := if p ≤ 5 then (s.noSet (s.rf 0x00 0x48 0 2) (s.rb 0x00 0x48 4)).refresh else s
      (s.setPhase p).wr 0x00 0x58 (w32 (b2n (s.blockNotFail 11))))
/-- A reset of cause 0x05; its row names no pin levels: the straps read as last found (log 12). -/
def execFaultReset (s : State) := answer s (s.resetBoot 5 true s.sinceSave)
def execMgmtWatchdogReset (s : State) := answer s (if s.pins.running && !s.pins.recovery then s.watchdog else s)
def execLogicLow (mv : Nat) (s : State) :=
  answer s (if s.pins.running && mv < 16_800 then (s.wr 0x00 0x5C (w32 mv)).raise 7 0 0 0 else s)
/-- LOGIC_IN falls below 12.0 V: with the hold-up store below its threshold, or during the boot, the sequence starts at once. -/
def execLogicInInterruption (s : State) :=
  answer s (if !s.pins.running || s.pins.interrupted || s.pins.pfActive then s
    else
      let s := { s with pins := { s.pins with interrupted := true, fellAt := s.tb.count } }
      if !s.pins.holdup || !s.booted then s.startPowerFail else s)
/-- LOGIC_IN is above 14.0 V again: within 10 ms nothing happens, after the start of the sequence it runs on (R44). -/
def execLogicInReturn (within10ms : Bool) (s : State) :=
  answer s (if s.pins.pfActive then { s with pins := { s.pins with pfReturned := true } }
    else if s.pins.interrupted && within10ms then { s with pins := { s.pins with interrupted := false } }
    else s)
/-- The interruption reaches 10 ms. In STABLE nothing is written (R475). -/
def execPowerFail (s : State) :=
  answer s (if s.pins.running && s.pins.interrupted && !s.pins.pfActive && s.gaitNow < 4 then s.startPowerFail else s)
/-- The sequence is complete (R44): with LOGIC_IN back the module starts warm, otherwise it is off. -/
def execPowerFailReset (returned : Bool) (elapsedNs : Nat) (s : State) :=
  answer s (if !s.pins.pfActive then s
    else if returned || s.pins.pfReturned then s.resetBoot (if s.pins.porBroken then 1 else 2) true elapsedNs
    else s.off)
def execHoldupCharged (s : State) :=
  answer s (if s.pins.running && !s.pins.interrupted then { s with pins := { s.pins with holdup := true } } else s)
/-- SAFE_N has been low for 2,000 IOCLK cycles (R31); with `low` false the pin is high and its demand withdrawn; `railsOk` says
whether the two rails of the safe-state line are complementary (R51). -/
def execSafeNFilterExpiry (x : SafeLine) (s : State) :=
  answer s ({ s with pins := { s.pins with safeN := x.low }, tro := { s.tro with railsOk := x.railsOk } }).lineCauses
/-- The filter of MOVING_N has seen 100 ms of high (R32). -/
def execMovingFilterStationary (s : State) := answer s { s with pins := { s.pins with moving := false, movingNLow := false } }
def execUsbVbusChange (above : Bool) (s : State) := answer s { s with pins := { s.pins with usb := above } }
/-- In ROM recovery an image arrives over USB (R411): management firmware into slot A, or a provisioning image, which Evopel has
signed and which enrols a customer root while an epoch remains (R419); the module then resets. -/
def execRomRecoveryImage (provision : Bool) (h : ImageHdr) (s : State) :=
  answer s (if !s.pins.recovery || !s.pins.usb then s
    else if provision then
      if h.evopelOk && h.digestOk && s.keep.epochs < 64 then
        ({ s with keep := { s.keep with customerRoot := true } }).resetBoot 1 true s.sinceSave
      else s
    else if s.authFail h = 0 then
      let others := s.keep.slotA.comps.filter (fun c => c.hdr.type ≠ 1)
      let a : Slot := { s.keep.slotA with comps := { hdr := { h with type := 1 } } :: others }
      ({ s with keep := { s.keep with slotA := a, activeB := false } }).resetBoot 1 true s.sinceSave
    else s)

/-! ### Rows: mailbox commands of start-up and time -/

def execPing (inst : Fin 3) (s : State) :=
  answer s (s.serve inst.val 0x01 (fun _ => true) (List.range 57) (fun t =>
    t.boxDone inst.val 0 ((List.range ((fld (t.box inst.val).cmd 16 16 + 3) / 4)).map (t.boxArg inst.val))))
/-- The letter of the variant in ASCII. -/
def variantLetter : Variant → Word
  | .f => 0x46
  | .c => 0x43
  | .n => 0x4E
/-- The management firmware's version. -/
def State.fwVersion (s : State) : Word := ((slotComp s.activeSlot 1).map (fun c => c.hdr.fwVersion)).getD 0 &&& 0xFFFF
def execGetId (inst : Fin 3) (s : State) :=
  answer s (s.serve inst.val 0x02 (fun _ => true) [0] (fun t =>
    t.boxDone inst.val 0 [variantLetter t.variant, Config.serialLo, Config.serialHi, Config.hwRev, t.fwVersion]))
/-- ARG0 names a stored selection, an immediate load, or a revocation, which ignores the other fields. -/
def profKind (a : List Word) : Nat := let w := a.getD 0 0; if bit w 8 then 2 else if bit w 4 then 1 else 0
def execProfileSelectStore (inst : Fin 3) (s : State) :=
  answer s (s.serve inst.val 0x10 (fun a => profKind a = 0) [4] (fun t => t.profGuard inst.val (fun u => u.profStore inst.val)))
def execProfileSelectImmediate (inst : Fin 3) (s : State) :=
  answer s (s.serve inst.val 0x10 (fun a => profKind a = 1) [4] (fun t => t.profGuard inst.val (fun u => u.profNow inst.val)))
def execProfileSelectRevoke (inst : Fin 3) (s : State) :=
  answer s (s.serve inst.val 0x10 (fun a => profKind a = 2) [4] (fun t =>
    t.profGuard inst.val (fun u => ({ u with keep := { u.keep with stored := none } }).boxDone inst.val 0 [])))
def execProfileQuery (inst : Fin 3) (s : State) := answer s (s.serve inst.val 0x11 (fun _ => true) [0] (fun t => t.profQuery inst.val))
/-- The reset of a warm RESTART: from the management instance the command completes once the planes run again (R106). -/
def State.warmRestart (s : State) : State :=
  let t := s.warmReset
  if (t.box 2).running && fld (t.box 2).cmd 0 8 = 0x90 then t.boxDone 2 0 [] else t
/-- The cycle in progress that the source lane has not completed (R208). -/
def State.awaitsDone (s : State) : Bool :=
  s.progMode = modeRun && s.tro.collecting && s.votingLanes.head?.any (fun l => (s.lane l).doneAt.isNone)
/-- RESTART, warm (R106, R208): the retain record is written before the lanes are reset, after the source lane's completion of
the cycle in progress; in STOP the record is that of the entry into STOP. -/
def State.restartWarm (s : State) (n : Nat) : State :=
  if s.moving then s.boxDone n 6 []
  else
    let s := s.boxRun n
    if s.awaitsDone then { s with prog := { s.prog with retainTrig := some .restart } }
    else (if s.progMode = modeStop && s.prog.retainTrig.isNone then s else s.writeRetain true true).warmRestart
def execRestartWarm (inst : Fin 3) (s : State) :=
  answer s (s.serve inst.val 0x90 (fun a => !bit (a.getD 0 0) 0) [4] (fun t => t.restartWarm inst.val))
/-- RESTART, cold: the reset is its answer; it samples PROF1:PROF0 (R30). -/
def execRestartCold (x : ColdStart) (s : State) :=
  answer s (s.serve x.inst.val 0x90 (fun a => bit (a.getD 0 0) 0) [4] (fun t =>
    if t.moving then t.boxDone x.inst.val 6 [] else (t.setProf x.prof).resetBoot 3 true t.sinceSave))
/-- TIME_SET_WALL (R139). -/
def State.setWall (s : State) (n : Nat) : State :=
  let at_ := (s.boxArg n 2).toNat + 2 ^ 32 * (s.boxArg n 3).toNat
  let wall := (s.boxArg n 0).toNat * 1_000_000_000 + (s.boxArg n 1).toNat
  if 999_999_999 < (s.boxArg n 1).toNat || s.tb.count < at_ then s.boxDone n 3 []
  else
    let old := s.wallSeconds s.tb.count
    let o : Int := (wall : Int) - (at_ : Int)
    let s := ((s.wr 0x05 0x74 (wInt o)).wr 0x05 0x78 (wInt (o / 2 ^ 32))).wr 0x05 0x7C
      (w32 (1 + 0x1_0000 * ((s.rf 0x05 0x7C 16 16 + 1) % 0x1_0000)))
    (s.raise 39 old (s.wallSeconds s.tb.count) 0).boxDone n 0 []
def execTimeSetWall (inst : Fin 3) (s : State) := answer s (s.serve inst.val 0x60 (fun _ => true) [16] (fun t => t.setWall inst.val))

end Sys2Proof.Machine
end

