-- ==== Sys2Proof/Machine/Update.lean ====
section
/-! DEFINITION. Field update (R428 to R445): sessions, the package header, the hobble, the service pause, trial and owner
lock. -/

namespace Sys2Proof.Machine

/-! ### What the UPD page shows (R444, R445) -/

/-- The owner lock as OWNER_LOCK returns it. -/
def State.ownerWord (s : State) : Word :=
  match s.keep.ownerLock with
  | none => 0
  | some p => w32 (1 + 0x10 * p.val)
/-- 600 s in ns: the session timeout and the trial's length. -/
def updLimit : Nat := 600_000_000_000
/-- UPD.STATE. -/
def State.updStateWord (s : State) : Word :=
  let k := s.keep
  let w := setBit (setBit (setBit (s.rd 0x71 0x44) 8 k.activeB) 9 k.slotA.valid) 10 k.slotB.valid
  setBit (setFld w 12 2 (if k.trial then k.trialBoots else 0)) 16 k.ownerLock.isSome
/-- UPD.TRIAL_LEFT. -/
def State.trialLeft (s : State) : Word :=
  if s.updState = 4 then w32 ((s.keep.trialStart + updLimit - s.tb.count) / 1_000_000_000) else 0
/-- UPD.IDLE_S. -/
def State.updIdle (s : State) : Word := if s.upd.held then w32 (min 1023 ((s.tb.count - s.upd.lastCmd) / 1_000_000_000)) else 0
/-- The partner's last valid health word shows UPDATING. -/
def State.pUpdating (s : State) : Bool := s.dup.heard && s.rb 0x50 0x6C 10
/-- UPD.HOBBLE. -/
def State.hobbleWord (s : State) : Word :=
  w32 (b2n s.moving + 2 * b2n ((s.rd 0x00 0x5C).toNat < 20_000) + 4 * b2n s.keep.ownerLock.isSome + 8 * b2n s.pUpdating)

/-! ### The hobble (R435) -/

/-- The source of a session may be used. -/
def State.srcEnabled (s : State) (src : Nat) : Bool := s.rb 0x71 0x40 (src - 1)
/-- The reason for which UPD_OPEN and UPD_ACTIVATE are refused with a source, 0 for none. -/
def State.hobble (s : State) (src : Nat) : Nat :=
  if s.moving then 1
  else if (s.rd 0x00 0x5C).toNat < 20_000 then 2
  else if s.keep.ownerLock.isSome then 3
  else if s.pUpdating then 4
  else if !s.srcEnabled src then 6
  else if s.keep.trial then 7
  else 0
/-- A command is refused by the hobble. -/
def State.hobbled (s : State) (n code reason : Nat) : State := (s.updRefuse reason code).boxDone n 6 []

/-! ### Sessions (R431 to R433) -/

/-- UPD_OPEN. The 16-bit session ID is a free value. -/
def State.updOpen (s : State) (n : Nat) : State :=
  let src := fld (s.boxArg n 0) 0 2
  if !((n = 1 && (src = 1 || src = 2)) || (n = 2 && src = 3)) then s.boxDone n 4 []
  else if s.upd.held then (s.updRefuse 5 0x40).boxDone n 5 []
  else if s.hobble src ≠ 0 then s.hobbled n 0x40 (s.hobble src)
  else if 20_971_520 < (s.boxArg n 1).toNat then s.boxDone n 3 []
  else
    let id := fld (Config.freeWord s.freeIx) 0 16
    let s := s.draw
    let s := s.setSpare { s.spareSlot with valid := false }
    let s := { s with upd := { held := true, bytes := [], lastCmd := s.tb.count } }
    let s := ((s.wr 0x71 0x48 (w32 (id + 0x1_0000 * ((s.rf 0x71 0x48 16 16 + 1) % 0x1_0000)))).wr 0x71 0x4C (s.boxArg n 1)).wr 0x71 0x50 0
    let s := (s.wrFld 0x71 0x44 4 2 src).setUpd 1
    s.boxDone n 0 [w32 id, w32 (b2n (!s.keep.activeB))]
/-- A session command acts where its ID is that of the session held; any other completes with ERR 0x05. -/
def State.updSession (s : State) (n : Nat) (f : State → State) : State :=
  if s.upd.held && fld (s.boxArg n 0) 0 16 = s.rf 0x71 0x48 0 16 then f s else s.boxDone n 5 []
/-- A session command has been accepted. -/
def State.updTouch (s : State) : State := { s with upd := { s.upd with lastCmd := s.tb.count } }
/-- UPD_WRITE: data from shared SRAM, or from the USB update buffer. -/
def State.updWrite (s : State) (n : Nat) : State :=
  let ofs := (s.boxArg n 1).toNat
  let len := (s.boxArg n 2).toNat
  let buf := (s.boxArg n 3).toNat
  let usb := s.rf 0x71 0x44 4 2 = 3
  let ok := 4 ≤ len && len ≤ 65_536 && ofs % 4 = 0 && len % 4 = 0 && ofs + len ≤ (s.rd 0x71 0x4C).toNat &&
    buf + len ≤ (if usb then 0x1_0000 else 0x100_0000)
  if !ok then s.boxDone n 3 []
  else
    let src := if usb then usbMem buf else sramMem buf
    let bytes := ((s.bytes src len).zipIdx).foldl (fun t (b, i) => stSet 0 t (ofs + i) b) s.upd.bytes
    let s := ({ s with upd := { s.upd with bytes := bytes } }).updTouch
    let s := (s.setSpare { s.spareSlot with valid := false }).setUpd 1
    (s.wr 0x71 0x50 (w32 (min 0x1FF_FFFF ((s.rd 0x71 0x50).toNat + len)))).boxDone n 0 []

/-! ### Verification (R428, R429, R434) -/

/-- Byte and little-endian word of the package. -/
def State.pkgByte (s : State) (a : Nat) : Nat := (stGet (0 : Byte) s.upd.bytes a).toNat
def State.pkgWord (s : State) (a : Nat) : Nat :=
  s.pkgByte a + 0x100 * s.pkgByte (a + 1) + 0x1_0000 * s.pkgByte (a + 2) + 0x100_0000 * s.pkgByte (a + 3)
/-- COUNT, and TYPE of component `i`. -/
def State.pkgCount (s : State) : Nat := s.pkgByte 5
def State.pkgType (s : State) (i : Nat) : Nat := s.pkgByte (16 + 16 * i)
/-- The header's own part keeps R428. -/
def State.pkgHeadOk (s : State) : Bool :=
  s.pkgWord 0 = 0x3633_394C && s.pkgByte 4 = 1 && 1 ≤ s.pkgCount && s.pkgCount ≤ 4 && s.pkgByte 6 < 8 && s.pkgByte 7 = 0 &&
    s.pkgWord 8 ≤ 20_971_520 && s.pkgWord 8 = (s.rd 0x71 0x4C).toNat && (List.range s.pkgCount).any (fun i => s.pkgType i = 1)
/-- The header's entry of component `i` keeps R428. -/
def State.pkgEntryOk (s : State) (i : Nat) : Bool :=
  let o := s.pkgWord (20 + 16 * i)
  1 ≤ s.pkgType i && s.pkgType i ≤ 4 && s.pkgByte (17 + 16 * i) = 0 && s.pkgByte (18 + 16 * i) = 0 && s.pkgByte (19 + 16 * i) = 0 &&
    o % 4096 = 0 && o + s.pkgWord (24 + 16 * i) ≤ s.pkgWord 8 && s.pkgWord (28 + 16 * i) = 0
/-- VARIANTS bit of the fitted variant. -/
def variantBit : Variant → Nat
  | .f => 0
  | .c => 1
  | .n => 2
/-- The failing component and the reason of R434, none where the package is good. A component whose image is of another type
than the header names is a header fault. -/
def State.pkgFault (s : State) (comps : List Component) : Option (Nat × Nat) :=
  let ix := List.range s.pkgCount
  let hdr (i : Nat) : ImageHdr := (comps.getD i { hdr := { type := 0 } }).hdr
  let why (i : Nat) : Nat := s.authFail (hdr i)
  if !s.pkgHeadOk then some (0, 6)
  else match ix.find? (fun i => !s.pkgEntryOk i || (hdr i).type ≠ s.pkgType i) with
    | some i => some (i, 6)
    | none =>
      if !(s.pkgByte 6).testBit (variantBit s.variant) then some (0, 7)
      else match ix.find? (fun i => why i ≠ 0 && why i ≠ 4) with
        | some i => some (i, why i)
        | none => (ix.find? (fun i => why i ≠ 0)).map (fun i => (i, why i))
/-- UPD_VERIFY: the components of the package, and those of the active slot whose type it lacks. -/
def State.updVerify (s : State) (n : Nat) (comps : List Component) : State :=
  let s := s.updTouch
  match s.pkgFault comps with
  | some (i, r) => s.boxDone n (if r = 4 || 6 ≤ r then 3 else 7) [w32 (i + 0x100 * r)]
  | none =>
    let new := comps.take s.pkgCount
    let old := s.activeSlot.comps.filter (fun c => !new.any (fun d => d.hdr.type = c.hdr.type))
    let s := (s.setSpare { valid := true, build := w32 (s.pkgWord 12), comps := new ++ old }).setUpd 2
    s.boxDone n 0 []

/-! ### Activation (R437 to R440) -/

/-- A bundle of a slot gives set `n` other contents than the areas hold. -/
def State.bundleDiffers (s : State) (x : Slot) (n : Nat) : Bool :=
  match slotComp x 4 with
  | none => false
  | some b => b.tacks.getD n {} ≠ s.keep.tackSets.getD n {}
/-- The number of the active tack set. -/
def State.activeSet (s : State) : Nat := s.rf 0x00 0x48 0 2
/-- The reason for which UPD_ACTIVATE is refused. -/
def State.activateRefusal (s : State) : Nat :=
  let r := s.hobble (s.rf 0x71 0x44 4 2)
  if r ≠ 0 then r
  else if s.updState ≠ 2 then 8
  else if s.progMode ≠ modeStop && s.bundleDiffers s.spareSlot s.activeSet then 9
  else 0
/-- The slot pointer is written: the command completes, the session ends and the service pause begins. -/
def State.startPause (s : State) (n : Nat) : State :=
  let s := { s with
    keep := { s.keep with activeB := !s.keep.activeB, trial := true, trialBoots := 1, trialStart := s.tb.count, trialAbort := false }
    upd := { s.upd with held := false, bytes := [] } }
  let s := (s.boxDone n 0 []).setUpd 3
  ((s.wr 0x71 0x4C 0).wr 0x71 0x50 0).updBoundary
/-- UPD_ACTIVATE: an ACTIVE module with a healthy partner yields first. -/
def State.updActivate (s : State) (n : Nat) : State :=
  let r := s.activateRefusal
  if r ≠ 0 then s.hobbled n 0x43 r
  else
    let s := s.updTouch
    if s.mayYield then ({ s.startYield with dup := { s.startYield.dup with pauseAfter := some (Fin.ofNat 3 n) } }).boxRun n
    else s.startPause n
/-- The management core and the service cores restart: commands accepted and not complete are aborted (R101), and the
management demand is withdrawn for the length of the restart. -/
def State.coresRestart (s : State) : State :=
  let s := [0, 1, 2].foldl (fun t n => t.boxDone n 9 []) s
  let s := [4, 5, 6, 7, 8].foldl State.freeSems s
  { s with tro := { s.tro with mgmtDemand := s.pins.pfActive || s.progMode = modeStop || !s.tro.committed } }
/-- A changed bundle is loaded in STOP, as an immediate selection. -/
def State.pauseLoad (s : State) : State :=
  let n := s.activeSet
  if s.progMode = modeStop && s.bundleDiffers s.activeSlot n then
    let ts := s.tackSet n
    let r := s.setRefusal ts
    if r = 0 then s.takeSet n (s.keep.stored = some (Fin.ofNat 4 n)) true ts else s.refuseSet r
  else s
/-- The service images of the slot in use; one that fails its check outside its header's outcomes is refused by its digest. -/
def State.pauseService (s : State) (ok : Bool) : State :=
  if ok then s.bootService else ({ s with prog := { s.prog with svcHeld := true } }).raise 240 3 3 0
/-- The service pause, to its end: the trial starts, or the old firmware is back. -/
def State.servicePause (s : State) (fwOk serviceOk : Bool) (ms : Nat) : State :=
  if s.updState ≠ 3 then s
  else
    let s := s.coresRestart
    let why := if s.firmwareFail s.activeSlot ≠ 0 then s.firmwareFail s.activeSlot else if fwOk then 0 else 3
    let s := s.wr 0x71 0x6C (w32 (min 511 ms))
    if why ≠ 0 then
      let s := s.raise 240 1 (w32 why) 0
      let s := { s with keep := { s.keep with activeB := !s.keep.activeB, trial := false, trialBoots := 0 } }
      let s := ((s.pauseService serviceOk).sat16 0x71 0x70).wrBit 0x71 0x44 17 true
      ((s.setUpd 0).raise 246 4 0 0).updService
    else
      let s := (s.pauseLoad).pauseService serviceOk
      (({ s with keep := { s.keep with trialStart := s.tb.count } }).setUpd 4).updService

/-! ### Trial (R441, R442) and owner lock (R436) -/

/-- UPD_CONFIRM. -/
def State.updConfirm (s : State) (n : Nat) : State :=
  let k := s.keep
  if s.updState ≠ 4 || 2 < k.trialBoots || k.trialStart + updLimit ≤ s.tb.count then s.hobbled n 0x44 0xB
  else
    let arb := (s.activeSlot.comps.map (fun c => c.hdr.secVer)).foldl max k.arb
    let sets := match slotComp s.activeSlot 4 with
      | some b => (List.range 4).map (fun i => b.tacks.getD i {})
      | none => k.tackSets
    let s := { s with keep := { k with arb := arb, tackSets := sets, copyPending := false, trial := false, trialBoots := 0, trialAbort := false } }
    (s.setUpd 0).boxDone n 0 []
/-- UPD_ABORT: of a session by its ID, or of a trial, which has no session. -/
def State.updAbort (s : State) (n : Nat) : State :=
  if s.updState = 4 then ({ s with keep := { s.keep with trialAbort := true } }).boxDone n 0 []
  else s.updSession n (fun t => (t.updDrop).boxDone n 0 [])
/-- UPD_STATUS. -/
def State.updStatus (s : State) (n : Nat) : State :=
  s.boxDone n 0 [s.updStateWord, s.rd 0x71 0x4C, s.rd 0x71 0x50, s.trialLeft, s.rd 0x71 0x5C, s.hobbleWord]
/-- OWNER_LOCK, sub-command 2. -/
def State.ownerClear (s : State) (n : Nat) : State :=
  match s.keep.ownerLock with
  | none => s.boxDone n 0 [0]
  | some p =>
    if p.val = n || n = 2 then ({ s with keep := { s.keep with ownerLock := none } }).boxDone n 0 [0] else s.boxDone n 4 []
/-- The sub-command of OWNER_LOCK. -/
def ownerKind (a : List Word) : Nat := fld (a.getD 0 0) 0 2

/-! ### Rows -/

def execUpdOpen (inst : Fin 3) (s : State) := answer s (s.serve inst.val 0x40 (fun _ => true) [8] (fun t => t.updOpen inst.val))
def execUpdWrite (inst : Fin 3) (s : State) :=
  answer s (s.serve inst.val 0x41 (fun _ => true) [16] (fun t => t.updSession inst.val (fun u => u.updWrite inst.val)))
def execUpdVerify (inst : Fin 3) (comps : List Component) (s : State) :=
  answer s (s.serve inst.val 0x42 (fun _ => true) [4] (fun t => t.updSession inst.val (fun u => u.updVerify inst.val comps)))
def execUpdActivate (inst : Fin 3) (s : State) :=
  answer s (s.serve inst.val 0x43 (fun _ => true) [4] (fun t => t.updSession inst.val (fun u => u.updActivate inst.val)))
def execUpdConfirm (inst : Fin 3) (s : State) := answer s (s.serve inst.val 0x44 (fun _ => true) [0] (fun t => t.updConfirm inst.val))
def execUpdAbort (inst : Fin 3) (s : State) := answer s (s.serve inst.val 0x45 (fun _ => true) [4] (fun t => t.updAbort inst.val))
def execUpdStatus (inst : Fin 3) (s : State) := answer s (s.serve inst.val 0x46 (fun _ => true) [0] (fun t => t.updStatus inst.val))
/-- Sub-command 3, which OWNER_LOCK does not have, is refused with the query. -/
def execOwnerLockQuery (inst : Fin 3) (s : State) :=
  answer s (s.serve inst.val 0x47 (fun a => ownerKind a = 0 || ownerKind a = 3) [4] (fun t =>
    if fld (t.boxArg inst.val 0) 0 2 = 3 then t.boxDone inst.val 3 [] else t.boxDone inst.val 0 [t.ownerWord]))
def execOwnerLockSet (inst : Fin 3) (s : State) :=
  answer s (s.serve inst.val 0x47 (fun a => ownerKind a = 1) [4] (fun t =>
    let u := { t with keep := { t.keep with ownerLock := some inst } }
    u.boxDone inst.val 0 [u.ownerWord]))
def execOwnerLockClear (inst : Fin 3) (s : State) :=
  answer s (s.serve inst.val 0x47 (fun a => ownerKind a = 2) [4] (fun t => t.ownerClear inst.val))
/-- 600 s pass without an accepted command of the session. -/
def execUpdSessionTimeout (s : State) :=
  answer s (if s.upd.held then (s.advanceTo (s.upd.lastCmd + updLimit)).updDrop else s)
def execUpdServicePause (fwOk serviceOk : Bool) (ms : Nat) (s : State) := answer s (s.servicePause fwOk serviceOk ms)

end Sys2Proof.Machine
end

