-- ==== Sys2Proof/Machine/Program.lean ====
section
/-! DEFINITION. The control program (R201 to R216): mode requests and changes, program starts, forces and the online change. -/

namespace Sys2Proof.Machine

/-! ### Modes (R201 to R204) -/

/-- A hold condition of R204 applies; with internal scan open the program cannot leave STOP either (R422). -/
def State.holdCondition (s : State) : Bool :=
  s.svcStart || !s.loaded || s.bistPending || s.tro.faultVote || s.tro.faultCyc || s.rb 0x60 0x0C 3
/-- A request is refused. -/
def State.modeRefuse (s : State) (why : Nat) : State := s.wrFld 0x09 0x44 12 4 why
/-- The reason for which a request is refused now, 0 for none (R203, R204, R409). `lanes` marks a request of the write
vote. -/
def State.modeJudge (s : State) (req : Nat) (lanes : Bool) : Nat :=
  let m := s.progMode
  if req = modeRun then
    if m = modeRun || s.starting then 4
    else if s.holdCondition then 2
    else if m = modeStop && !s.prog.imageOk then 5
    else 0
  else if req = modeStop then (if m = modeStop then 4 else if s.moving && !lanes then 1 else 0)
  else if m ≠ modeRun then 4
  else if s.moving then 1
  else 0
/-- REASON for the initiator of a request; none where it may not request. -/
def modeReason : Init → Option Nat
  | .mgmt => some 1
  | .svc _ => some 2
  | .vote => some 3
  | _ => none
/-- An accepted request waits for the tick. Of two that execute in one cycle the voted one is taken and the other refused (R219);
commands at one instant of the time base are in one cycle (DESIGN CHOICE, log 69). -/
def State.acceptMode (s : State) (mode : Nat) (cold : Bool) (why : Nat) : State :=
  let t := { s with prog := { s.prog with req := some ⟨mode, cold, why, s.tb.count⟩ } }
  match s.prog.req with
  | some r =>
    if r.at_ = s.tb.count && r.reason = 3 && why ≠ 3 then s.modeRefuse 4
    else t.when (r.at_ = s.tb.count && r.reason ≠ 3 && why = 3) (fun u => u.modeRefuse 4)
  | none => t
/-- MODE_REQ takes a value: REQ 1 RUN, 2 STOP, 3 HOLD. -/
def State.modeRequest (s : State) (i : Init) (v : Word) : State :=
  let req := fld v 0 2
  if req = 0 then s
  else match modeReason i with
    | none => s.modeRefuse 3
    | some why =>
      let mode := if req = 1 then modeRun else if req = 2 then modeStop else modeHold
      let f := s.modeJudge mode (why = 3)
      if f ≠ 0 then s.modeRefuse f else s.acceptMode mode (bit v 4) why
/-- The program changes its mode, with a REASON of R221; entry into STOP renews the management demand (R202) and asks for the
retain record (R208). -/
def State.enterMode (s : State) (m why : Nat) : State :=
  let old := s.progMode
  if old = m then s
  else
    let s := ({ s with prog := { s.prog with forced := none } }.wrFld 0x09 0x44 0 2 m).wrFld 0x09 0x44 8 4 why
    let s := s.wrFld 0x09 0x44 16 16 (s.rf 0x09 0x44 16 16 + 1)
    let s := if m = modeRun then s else s.ocEnd 8
    let s := if m = modeHold then { s with prog := { s.prog with holdSince := s.tb.count } } else s
    let s := if m = modeStop then
        let trig := if s.gait.stage = .stop then RetainTrig.gait else RetainTrig.stop
        let s := { s with prog := { s.prog with retainTrig := some (s.prog.retainTrig.getD trig) }, tro := { s.tro with committed := false } }
        s.mgmtSafe
      else s
    let s := if m = modeRun then s else { s with tro := { s.tro with collecting := false, extended := false, vote := .none, skipped := false } }
    s.raise 86 (w32 m) (w32 why) 0
/-- Forced entry into STOP; a start in progress ends (R203, reason 0x9). -/
def State.forceStop (s : State) (why : Nat) : State :=
  let s := { s with prog := { s.prog with starting := false, req := none } }
  if s.progMode = modeStop then (s.wrBit 0x09 0x44 5 false).wrFld 0x09 0x44 8 4 why else s.enterMode modeStop why
/-- A STOP that the program cannot escape at the tick: of HOLD_MAX or a second overrun, or MOVING in HOLD (R203, R211). -/
def State.forcedStop (s : State) : Option Nat :=
  match s.prog.forced with
  | some why => some why
  | none => if s.progMode = modeHold && s.moving then some 6 else none
/-- The forced STOP at the tick: a STOP requested for it that may be taken gives the reason (R219), any other request is refused as
one that comes from STOP (log 69). -/
def State.takeForced (s : State) (why : Nat) : State :=
  let t := { s with prog := { s.prog with req := none } }
  match s.prog.req with
  | none => t.enterMode modeStop why
  | some r =>
    let f := if r.mode = modeStop then s.modeJudge modeStop (r.reason = 3) else 4
    if f = 0 then t.enterMode modeStop r.reason else (t.modeRefuse f).enterMode modeStop why
/-- PRG.HOLD_LEFT: ms left in HOLD. -/
def State.holdLeft (s : State) : Word :=
  if s.progMode = modeHold then w32 ((s.prog.holdSince + s.rf 0x09 0x4C 0 14 * 1_000_000 + 999_999 - s.tb.count) / 1_000_000) else 0

/-! ### A start from STOP (R205) -/

/-- The lanes that are not OFF are reset and taken through phases 6 and 7; with an image that is not authenticated they are OFF
and the start has failed. -/
def State.programStart (s : State) : State :=
  if !s.starting || s.prog.starting then s
  else
    let cold := match s.prog.req with | some r => r.cold | none => false
    let s := s.bootLaneImage (fun l => s.laneState l ≠ 0)
    if s.prog.imageOk then
      let s := s.restart cold
      { s with prog := { s.prog with starting := true } }
    else
      let s := [0, 1, 2].foldl State.offLane s
      let s := { s with prog := { s.prog with req := none } }
      ((s.wrBit 0x09 0x44 5 false).wrFld 0x09 0x44 8 4 8).updService
/-- All lanes of a start begin at one write number past every number in use. -/
def State.vwRestart (s : State) : State :=
  let n := s.vw.issued.foldl max s.vw.base
  { s with vw := { slots := [], issued := [n, n, n], base := n } }
/-- The lanes in BOOT at the first tick after phase 7: those whose boot ROM is done vote, the others have failed (R167). -/
def State.lanesVote (s : State) : State :=
  let s : State := [0, 1, 2].foldl (fun (t : State) l =>
    if t.laneState l ≠ 1 then t
    else if (t.lane l).bootReady then
      let t := (t.setLane l 3).modLane l (fun x => { x with bootReady := false, late := 0, dis := 0 })
      { t with tro := { t.tro with entered := t.tro.entered ||| 2 ^ l } }
    else t.failLane l 6) s
  let s := s.voterUpdate
  (s.when (s.votingCount < 2) (fun t => t.safeCause 6)).lineCauses
/-- The tick that ends a start. -/
def State.startTick (s : State) : State :=
  if !s.prog.starting then s
  else
    let req := s.prog.req
    let s : State := { s.vwRestart with prog := { s.prog with starting := false, req := none } }
    let s := (s.lanesVote).wrBit 0x09 0x44 5 false
    if s.votingCount < 2 then s.wrFld 0x09 0x44 8 4 8
    else s.enterMode modeRun (match req with | some r => r.reason | none => 0xA)

/-! ### Forces (R215) -/

/-- The signal of a force word may be forced: an output in use with FORCEABLE. -/
def State.forceable (s : State) (i : Nat) : Bool :=
  let w0 := s.mapWord i 0
  mapKind w0 ≠ 0 && mapOut w0 && bit w0 10
/-- A completed key pair sets word `w` of force `i`. -/
def State.forceSet (s : State) (i w : Nat) (v : Word) : State :=
  let s := s.setTab 0x0A (0x4000 + 4 * i + w) (if w = 0 then v &&& 1 else v)
  let s := s.setTab 0x0A (0x4003 + 4 * i) s.ns
  s.wr 0x0A 0x48 (w32 s.forcesOn.length)

/-! ### Online change (R212 to R214) -/

/-- OC_STAT.STATE. -/
def State.ocState (s : State) : Nat := s.rf 0x09 0x6C 0 3
/-- A state and a RESULT. -/
def State.ocSet (s : State) (st result : Nat) : State := (s.wrFld 0x09 0x6C 0 3 st).wrFld 0x09 0x6C 4 4 result
/-- OPEN. -/
def State.ocOpen (s : State) : State :=
  if 1 ≤ s.ocState && s.ocState ≤ 3 then s
  else if !s.compat then s.ocSet 5 2
  else if s.progMode ≠ modeRun then s.ocSet 5 8
  else
    let clear := { s with mem := s.mem.filter (fun c => !(ocMem 0 ≤ c.1 && c.1 < ocMem 0x20_0000)) }
    (clear.ocSet 1 0).wrFld 0x09 0x6C 16 16 0
/-- ARM with a relocation list: its areas, and C of R213. -/
def ocCarry (areas : List (Nat × Nat × Nat)) : Nat := (areas.map (fun a => (a.2.2 + 7) / 8)).sum + 16 * areas.length
/-- The relocation list of the change, with its C in OC_CARRY. -/
def State.ocList (s : State) (areas : List (Nat × Nat × Nat)) : State :=
  ({ s with prog := { s.prog with ocAreas := areas } }).wr 0x09 0x74 (w32 (min 0x3_FFFF (ocCarry areas)))
/-- The bytes of the image that the change has loaded. -/
def State.ocCells (s : State) : List (Nat × Byte) :=
  (s.mem.filter (fun c => ocMem 0 ≤ c.1 && c.1 < ocMem 0x20_0000)).map (fun c => (c.1 - ocMem 0, c.2))
def State.ocArm (s : State) : State := if s.ocState = 1 then (s.ocSet 2 0).ocList (Config.relocList s.ocCells) else s
/-- OC_CTRL takes a value whose key pair is complete: OPEN and ARM. -/
def State.ocCommand (s : State) (v : Word) : State :=
  let s := if bit v 0 then s.ocOpen else s
  if bit v 1 then s.ocArm else s
/-- OC_WIN: a word of the new image, into the alternate half of every lane that is not OFF. -/
def State.ocWrite (s : State) (o : Nat) (v : Word) : State :=
  let a := s.rf 0x09 0x70 0 21 + 4 * o
  if s.ocState ≠ 1 || 0x20_0000 < a + 4 then s
  else
    let alt := 0x20_0000 * (1 - s.runHalf)
    let s := s.setBytes (ocMem a) (bytesOf v)
    ([0, 1, 2].filter (fun l => s.laneState l ≠ 0)).foldl (fun t l => t.setBytes (laneMem l (alt + a)) (bytesOf v)) s
/-- The checks end. -/
def State.ocChecked (s : State) (sigOk hashOk : Bool) (listBytes : Nat) : State :=
  if s.ocState ≠ 2 then s
  else if !sigOk then s.ocSet 5 3
  else if !hashOk then s.ocSet 5 4
  else if 0x4_0000 < listBytes then s.ocSet 5 5
  else s.ocSet 3 0
/-- The switch test for the cycle that the tick ends: every lane that votes has completed in time, and the carry fits. -/
def State.ocFits (s : State) : Bool :=
  let ds := s.votingLanes.map (fun l => (s.lane l).doneAt)
  s.tro.collecting && !s.tro.extended && ds.all (fun d => match d with | some c => c < s.deadline | none => false) &&
    (ds.map (fun d => d.getD 0)).foldl max 0 + s.rf 0x09 0x74 0 18 + 16 ≤ s.periodIo
/-- The areas of the relocation list carried in lane `l`. -/
def State.ocCarryLane (s : State) (l : Nat) : State :=
  s.prog.ocAreas.foldl (fun t a =>
    let src := laneMem l a.1
    let cells := (t.mem.filter (fun c => src ≤ c.1 && c.1 < src + a.2.2)).map (fun c => (a.2.1 + (c.1 - src), c.2))
    t.fillLane l a.2.1 a.2.2 cells) s
/-- The map's pending shadow, applied where R220 allows it. -/
def State.applyMap (s : State) : State :=
  let sel (k : Nat) : Bool := keyIsTab k && keyOff k < 0x4000
  if (s.shadows 0x0A sel).isEmpty then s
  else if (s.without 0x08).mapOk then (s.applyShadows 0x0A sel).sendSubst
  else (s.dropShadows 0x0A sel).accessFault .hw (addrOf 0x0A 0x20) 9
/-- The switch: the areas are carried, the switch word is set, the image is kept in the MRAM reserve, the map applied. The entry
point stands in a header whose layout the manual leaves to Mixait: its word is a free value. -/
def State.ocSwitch (s : State) : State :=
  let was := s.mapWord
  let e := Config.freeWord s.freeIx
  let left := ([0, 1, 2].filter (fun l => !s.voting l)).map (fun l => 2 ^ l)
  let s := s.votingLanes.foldl (fun t l => (t.ocCarryLane l).setBytes (laneMem l 0x3E_FFFC) (bytesOf e)) s.draw
  let kept := { s with
    mem := s.mem.filter (fun c => !(keptMem 0 ≤ c.1 && c.1 < keptMem 0x20_0000))
    prog := { s.prog with altHalf := !s.prog.altHalf, ocKept := true, needReload := s.prog.needReload ||| left.sum } }
  let s := s.ocCells.foldl (fun t c => t.setByte (keptMem c.1) c.2) kept
  let s := (s.applyMap).keepForces (fun i => was i 0)
  (s.ocSet 4 1).raise 87 0 0 0
/-- The test of an armed change at a tick. -/
def State.ocTick (s : State) : State :=
  if s.ocState ≠ 3 || s.progMode ≠ modeRun then s
  else if s.ocFits then s.ocSwitch
  else
    let n := min 0xFFFF (s.rf 0x09 0x6C 16 16 + 1)
    let s := s.wrFld 0x09 0x6C 16 16 n
    if 1000 ≤ n then s.ocSet 5 6 else s

/-! ### Rows -/

def execProgramStart (s : State) := answer s (s.programStart).reintFollow
/-- HOLD_MAX has elapsed in HOLD: the event now, STOP at the next tick. -/
def execHoldTimeout (s : State) :=
  answer s (if s.progMode = modeHold then
      ({ s with prog := { s.prog with forced := some 5 } }).raise 89 0 0 0
    else s)
def execOcCheckDone (sigOk hashOk : Bool) (listBytes : Nat) (s : State) := answer s (s.ocChecked sigOk hashOk listBytes)

end Sys2Proof.Machine
end

