-- ==== Sys2Proof/Machine/Gait.lean ====
section
/-! DEFINITION. The power ladder (R467 to R478): requests, the downward transition, wake sources, exits, heat. -/

namespace Sys2Proof.Machine

/-! ### Requests (R469, R470) -/

/-- GAIT.POLICY, whose FLOOR is 0 after a TRIPLE_FAULT in it (R477). -/
def State.policyWord (s : State) : Word := if s.gait.polFault then setFld (s.rd 0x72 0x40) 0 3 0 else s.rd 0x72 0x40
/-- FLOOR, AUTO_STOP and HOT_CANTER of it. -/
def State.gaitFloor (s : State) : Nat := fld s.policyWord 0 3
def State.autoStop (s : State) : Bool := s.rb 0x72 0x40 4
def State.hotCanter (s : State) : Bool := s.rb 0x72 0x40 5
/-- GAIT.PSTAT.HOT. -/
def State.hot (s : State) : Bool := s.rb 0x72 0x0C 1
/-- A transition is in progress. -/
def State.inTransition (s : State) : Bool := s.gait.stage ≠ .none
/-- SYS.DIE_TEMP in 0.1 °C. -/
def State.dieTemp (s : State) : Int := signed 16 (s.rf 0x00 0x60 0 16)
/-- The instances from which the gait commands are accepted in each gait (R472, R496). -/
def State.gaitBoxOk (s : State) (n : Nat) : Bool := s.gaitNow = 0 || (s.gaitNow = 1 && n ≠ 1) || n = 2
/-- The reason of R470 for which a request for gait `t` is refused, 0 for none. -/
def State.gaitRefusal (s : State) (t : Nat) : Nat :=
  if s.moving then 1
  else if s.gaitFloor < t then 2
  else if 2 ≤ t && s.progMode ≠ modeStop && !s.autoStop then 3
  else if s.updState ≠ 0 then 4
  else if s.role = 1 && !s.mayYield then 5
  else if !s.booted then 6
  else 0
/-- A wake source can act: below GALLOP, or during a transition that leaves it (R472, R475). -/
def State.mayWake (s : State) : Bool := s.gaitNow ≠ 0 || s.inTransition
/-- A wake source acts: the exit is due, and a downward transition goes no further. Of several the lowest code counts. -/
def State.wakeBy (s : State) (code : Nat) : State :=
  if !s.mayWake then s
  else
    let c := match s.gait.wake with | none => code | some w => min w code
    let cut := if s.inTransition && s.gait.stage ≠ .accepted then some (s.rf 0x72 0x44 4 3) else s.gait.cut
    let s := { s with gait := { s.gait with wake := some c, stage := .none, cut := cut }, dup := { s.dup with gaitAfter := false } }
    (s.wrBit 0x72 0x0C 0 false).wrFld 0x72 0x44 4 3 0
/-- The transition to `t` is accepted; it starts 1 ms later. -/
def State.gaitAccept (s : State) (t : Nat) : State :=
  ({ s with gait := { s.gait with stage := .accepted, startAt := s.tb.count + 1_000_000 } }.wrBit 0x72 0x0C 0 true).wrFld 0x72 0x44 4 3 t
/-- GAIT_SET. A request upwards for another gait than GALLOP has no rule: it is refused. -/
def State.gaitSet (s : State) (n : Nat) : State :=
  let t := fld (s.boxArg n 0) 0 3
  if !s.gaitBoxOk n then s.boxDone n 4 []
  else if 4 < t then s.boxDone n 3 []
  else if s.inTransition then s.boxDone n 5 []
  else if t = s.gaitNow then s.boxDone n 0 []
  else if t = 0 then (if 1200 ≤ s.dieTemp then s.boxDone n 6 [] else (s.wakeBy 5).boxDone n 0 [])
  else if t < s.gaitNow then s.boxDone n 6 []
  else
    let r := s.gaitRefusal t
    if r ≠ 0 then (s.wrFld 0x72 0x44 12 4 r).boxDone n 6 [] else (s.gaitAccept t).boxDone n 0 []

/-! ### Going down (R471, R475) -/

/-- The gait of the transition in progress. -/
def State.gaitTarget (s : State) : Nat := s.rf 0x72 0x44 4 3
/-- The transition ends, whether it has run or is abandoned. -/
def State.gaitEnd (s : State) : State :=
  let s := { s with gait := { s.gait with stage := .none }, dup := { s.dup with gaitAfter := false } }
  (s.wrBit 0x72 0x0C 0 false).wrFld 0x72 0x44 4 3 0
/-- A gait is entered: GAIT_CHANGED with the new and the old one. -/
def State.gaitChanged (s : State) (new : Nat) : State :=
  let old := s.gaitNow
  let s := ((s.wrFld 0x72 0x44 0 3 new).wr 0x72 0x50 s.ns).wr 0x72 0x5C (w32 ((s.rf 0x72 0x5C 0 16 + 1) % 0x1_0000))
  s.raise 3 (w32 new) (w32 old) 0
/-- DEBUG_SPLIT and UNUSABLE of the three lanes, after their page was reset. -/
def State.laneFlags (s : State) : State :=
  [0, 1, 2].foldl (fun u l => (u.wrBit 0x06 (laneOff l 4) 8 (u.keep.debugSplit.testBit l)).wrBit 0x06 (laneOff l 4) 9 (u.laneUnusable l)) s
/-- What WALK and STABLE lose: every page that `sel` chooses, the planes' state, and every memory but what `mem` keeps. -/
def State.planesLost (s : State) (sel : Nat → Bool) (mem : Nat → Bool) : State :=
  let roleIn := s.roleIn
  let s := (s.resetPages sel).resetUnits sel
  let s := { s with
    mem := s.mem.filter (fun c => mem c.1)
    img := [], vw := {}, reint := {}, prog := {}, dup := {}
    tro := { spookDemand := s.tro.spookDemand, railsOk := s.tro.railsOk }
    lanes := s.lanes.map (fun (x : Lane) => { autoUsed := x.autoUsed, hashBan := x.hashBan })
    boxes := (s.boxes.set 0 {}).set 1 {}
    bells := s.bells.filter (fun n => n = 2) }
  s.laneFlags.wrBit 0x50 0x58 5 roleIn
/-- A page that WALK does not keep: one outside the management plane. -/
def lostInWalk (p : Nat) : Bool := pagePlane p ≠ .management
/-- A page that STABLE does not keep: all but the pages whose registers the always-on region and OTP hold. -/
def lostInStable (p : Nat) : Bool := !(p = 0x00 || p = 0x60 || p = 0x61 || p = 0x72)
/-- The staging area is flushed in step 6; the manual gives this flush no trigger code, so P1 is free. -/
def State.gaitFlush (s : State) : State :=
  ({ s with recd := { s.recd with flushDue := some (Config.freeWord s.freeIx).toNat } }.draw).flush true true
/-- Steps 3 to 7. -/
def State.goDown (s : State) : State :=
  let t := s.gaitTarget
  let can := ((List.range 6).filter (fun n => s.rb (canPage n) 0x40 4)).map (fun n => 2 ^ n)
  let s := { s with gait := { s.gait with canWake := can.sum, entryFi := s.rd 0x0B 0x50, lastDiff := 0 } }
  let s := s.dropLinks.gaitFlush
  let s := (s.gaitChanged t).gaitEnd
  let s := if t = 2 then s.clearNet else s
  let s := if 3 ≤ t then { s with keep := { s.keep with monoSaved := s.tb.count, freqSaved := s.rd 0x05 0x4C } } else s
  if t = 3 then s.planesLost lostInWalk (fun a => (usbMem 0 ≤ a && a < usbMem 0x1_0000) || hostMem 0 ≤ a)
  else if t = 4 then
    let s := s.planesLost lostInStable (fun a => hostMem 0 ≤ a)
    { s with inlet := [], recd := {}, upd := {}, boxes := [{}, {}, {}], bells := [], farr := {} }
  else s.refresh
/-- The transition is abandoned, with the refusal of R470; one for heat that leaves GALLOP running ends PSTAT.HOT too. -/
def State.gaitAbandon (s : State) (why : Nat) : State :=
  let s := if s.gaitNow = 0 then s.wrBit 0x72 0x0C 1 false else s
  (s.gaitEnd).wrFld 0x72 0x44 12 4 why
/-- Step 2: the program is asked to stop where the target stops the lanes. -/
def State.gaitStep2 (s : State) : State :=
  if s.moving then s.gaitAbandon 1
  else if 2 ≤ s.gaitTarget && s.progMode ≠ modeStop then
    { s with gait := { s.gait with stage := .stop }, prog := { s.prog with req := some ⟨modeStop, false, 1, s.tb.count⟩ } }
  else s.goDown
/-- Step 1: an ACTIVE module yields first. -/
def State.gaitStep1 (s : State) : State :=
  if s.moving then s.gaitAbandon 1
  else if s.role = 1 then
    if s.mayYield then
      let s := s.startYield
      { s with gait := { s.gait with stage := .yield }, dup := { s.dup with gaitAfter := true } }
    else s.gaitAbandon 5
  else s.gaitStep2
/-- The retain record is in MRAM, or there is none: a transition or a warm RESTART that waited for it goes on. -/
def State.retainDone (s : State) (done mramOk : Bool) : State :=
  match s.prog.retainTrig with
  | none => s
  | some why =>
    let s := s.writeRetain done mramOk
    let s := { s with prog := { s.prog with retainTrig := none } }
    if why = .restart && !s.pins.pfActive then s.warmRestart
    else if s.gait.stage = .retain then s.goDown else s

/-! ### Exits (R467, R473) -/

/-- GAIT.EXIT_US: at most the exit time of R467; the duration itself is a free value. -/
def State.exitUs (s : State) (old : Nat) : State :=
  let top := if old = 1 then 20 else if old = 2 then 200 else if old = 3 then 2000 else 20_000
  (s.wr 0x72 0x54 (w32 ((Config.freeWord s.freeIx).toNat % (top + 1)))).draw
/-- The data plane runs again: cameras and displays train, and views are checked and start from STOPPED with the parameters last
applied (R473, R282). -/
def State.visionBack (s : State) : State :=
  let s := (List.range 8).foldl (fun t c => if t.rb (camPage c) 0x40 0 && t.camState c = 0 && t.camUp c then t.camLinking c else t) s
  let s := { s with views := s.views.map (fun (v : View) => { v with recheck := true }) }
  (List.range 6).foldl (fun t d => if t.rb (dspPage d) 0x40 0 then t.dspStart d else t) s
/-- The exit to GALLOP after a wake source has acted. One that stopped a transition before its step 7 finds the module's units as the
steps done have left them; GAIT_CHANGED is raised for the way down and for the exit (R475). -/
def State.gaitExit (s : State) (x : ExitNow) : State :=
  match s.gait.wake with
  | none => s
  | some w =>
    let old := s.gaitNow
    let cut := s.gait.cut
    let s := { s with gait := { s.gait with wake := none, cut := none } }
    if old = 0 then
      let s := match cut with
        | some t => (s.gaitChanged t).gaitChanged 0
        | none => s
      (s.wrFld 0x72 0x44 8 4 w).raise 4 (w32 w) 0 0
    else
      let s : State :=
        if old = 4 then (s.setProf x.prof).resetBoot 7 true x.elapsedNs
        else if old = 3 then
          let s := s.tbReset true x.elapsedNs
          let s := (s.gaitChanged 0)
          let s := { s with tro := { s.tro with bootAt := s.tb.count } }
          (if s.fioFitted && !s.pageHeld 0x0B then s.setLink 1 else s).lineCauses.bootOn
        else if old = 2 then
          let s := (s.gaitChanged 0).visionBack
          let s := if s.fioFitted && s.linkMode = 2 then s.setLink 1 else s
          if s.rb 0x09 0x48 0 && !s.holdCondition && s.prog.imageOk && !s.starting then
            ({ s with prog := { s.prog with req := some ⟨modeRun, false, 4, s.tb.count⟩ } }).wrBit 0x09 0x44 5 true
          else s
        else (s.gaitChanged 0).visionBack
      let s := (s.wrFld 0x72 0x44 8 4 w).wrBit 0x72 0x0C 1 false
      (s.exitUs old).refresh.raise 4 (w32 w) 0 0

/-! ### Measurements and heat (R125, R474) -/

/-- DIE_TEMP and LOGIC_MV as measured each ms. -/
def State.measure (s : State) (temp : Int) (mv : Nat) : State :=
  let was := s.dieTemp
  let s := (s.wrFld 0x00 0x60 0 16 (BitVec.ofInt 16 temp).toNat).wr 0x00 0x5C (w32 (min 0xFFFF mv))
  let rose := was < 1300 && 1300 ≤ temp
  let s := s.when rose (fun t => t.raise 9 0 0 0)
  let s := s.when (decide (-550 < was) && decide (temp ≤ -550)) (fun t => t.raise 10 0 0 0)
  let s := if rose && s.hotCanter && !s.moving && s.gaitNow = 0 && !s.inTransition then
      ((s.gaitAccept 1).wrBit 0x72 0x0C 1 true).gaitStep1 else s
  if s.hot && s.gaitNow = 1 && temp < 1200 then s.wakeBy 6 else s

/-! ### Rows -/

def execGaitSet (inst : Fin 3) (s : State) := answer s (s.serve inst.val 0x20 (fun _ => true) [4] (fun t => t.gaitSet inst.val))
def execGaitQuery (inst : Fin 3) (s : State) :=
  answer s (s.serve inst.val 0x21 (fun _ => true) [0] (fun t =>
    if t.gaitBoxOk inst.val then t.boxDone inst.val 0 [t.rd 0x72 0x44, t.policyWord, t.rd 0x72 0x58] else t.boxDone inst.val 4 []))
/-- 1 ms after its acceptance a transition starts (R469). -/
def execGaitTransitionStart (s : State) :=
  answer s (if s.gait.stage = .accepted then (s.advanceTo s.gait.startAt).gaitStep1 else s)
def execGaitExit (x : ExitNow) (s : State) := answer s (s.gaitExit x)
/-- WAKE_N has been low for 1 ms (R33). -/
def execWakeNWake (s : State) := answer s (s.wakeBy 2)
/-- RTC_S has come to a non-zero RTC_ALARM; the alarm is cleared when it acts. -/
def execRtcAlarmWake (s : State) :=
  answer s (if s.keep.rtcAlarm ≠ 0 && s.rb 0x72 0x48 2 && s.mayWake then
      let r := if later 32 s.keep.rtcAlarm s.keep.rtcS then s.keep.rtcAlarm else s.keep.rtcS
      ({ s with keep := { s.keep with rtcS := r, rtcAlarm := 0 } }).wakeBy 3
    else s)
/-- A wake sample of the field inputs. -/
def execFieldInputWakeSample (fi : Word) (s : State) :=
  answer s (if (s.gaitNow = 2 || s.gaitNow = 3) && s.rb 0x72 0x48 3 && s.fioFitted then
      let d := (fi ^^^ s.gait.entryFi) &&& s.rd 0x72 0x4C
      let hit := d &&& s.gait.lastDiff ≠ 0
      let s := { s with gait := { s.gait with lastDiff := d } }
      if hit then s.wakeBy 4 else s
    else s)
def execCanWakePattern (n : Fin 6) (s : State) :=
  answer s (
    let armed := if s.gaitNow = 0 then s.rb (canPage n.val) 0x40 4 else s.gait.canWake.testBit n.val
    if s.mayWake && s.gaitNow ≤ 3 && s.rb 0x72 0x48 0 && armed then s.wakeBy 1 else s)
def execDieTempSample (temp : Int) (mv : Nat) (s : State) := answer s (if s.mgmtRuns then s.measure temp mv else s)
/-- MOVING_N has been low for 1 ms (R32). -/
def execMovingFilterMoving (s : State) := answer s { s with pins := { s.pins with moving := true, movingNLow := true } }
def execRetainRecordWrite (done mramOk : Bool) (s : State) := answer s (s.retainDone done mramOk)

end Sys2Proof.Machine
end

