-- ==== Sys2Proof/Machine/Troika.lean ====
section
/-! DEFINITION. The control cycle (R174 to R200, R210, R211): completions, the vote, the commit, the exit from the safe state
and the tick. -/

namespace Sys2Proof.Machine

/-! ### Completion and collect (R180, R182) -/

/-- DONE_AT of lane `l`, and its value for no completion. -/
def doneAtOff (l : Nat) : Nat := 0x64 + 4 * l
def doneNone : Nat := 0xFFF_FFFF
/-- The collect of cycle `k` opens with its snapshot. -/
def State.openCollect (s : State) (k : Word) : State :=
  let s := { s with tro := { s.tro with collecting := true, collectK := k, extended := false, vote := .none, voteClean := false } }
  let s := s.wrFld 0x07 0x54 0 3 0
  [0, 1, 2].foldl (fun t l => (t.wr 0x08 (doneAtOff l) (w32 doneNone)).modLane l (fun x => { x with doneAt := none, outLocked := false })) s
/-- A completion write of lane `l` is performed in IOCLK cycle `cyc` after the tick: one for another cycle, or a second one, is
ignored; one that had been released (`rel`) is performed although the lane has failed since (R169). In an overrun the FINAL
test waits for the donor's completion of a later cycle (R194). -/
def State.completion (s : State) (l : Nat) (rel : Bool) (k : Word) (cyc : Nat) : State :=
  if !s.tro.collecting || !(s.voting l || rel) || k ≠ s.tro.collectK || (s.lane l).doneAt.isSome then s
  else
    let s := s.modLane l (fun x => { x with doneAt := some cyc, outLocked := true, lastDone := some (k, s.image (imgIn l) 1) })
    let s := (s.wr 0x08 (doneAtOff l) (w32 (min doneNone cyc))).wrBit 0x07 0x54 l true
    if s.tro.extended then s else s.finalTest l cyc

/-! ### The vote (R183 to R185) -/

/-- The value that the present lanes' copies of one word give, none where no rule of R183 commits one. -/
def votePick : List DWord → Option DWord
  | [a] => some a
  | [a, b] => if a = b then some a else none
  | [a, b, c] => if a = b || a = c then some a else if b = c then some b else none
  | _ => none
/-- What a vote finds: the words that have a value, the words that have none, the words in which each lane disagrees. -/
structure VoteOut where
  words : List (Nat × DWord)
  bad : List Nat
  dis : List (Nat × Nat)
  deriving DecidableEq, Repr
/-- The least of a list of word numbers. -/
def leastOf : List Nat → Option Nat
  | [] => none
  | a :: r => some (r.foldl min a)
/-- The output images of the present lanes compared word by word, over the words that some lane has set. -/
def State.voteWords (s : State) (present : List Nat) : VoteOut :=
  let keys := ((present.flatMap (fun l => (s.imageCells (imgOut l)).map Prod.fst)).filter (fun k => k < s.outLen)).eraseDups
  let vals (k : Nat) : List DWord := present.map (fun l => s.image (imgOut l) k)
  let words := keys.filterMap (fun k => (votePick (vals k)).map (fun v => (k, v)))
  let dis := words.flatMap (fun c => (present.filter (fun l => s.image (imgOut l) c.1 ≠ c.2)).map (fun l => (l, c.1)))
  { words := words, bad := keys.filter (fun k => votePick (vals k) = none), dis := dis }
/-- The first word in which lane `l` disagrees. -/
def VoteOut.firstDis (v : VoteOut) (l : Nat) : Option Nat := leastOf ((v.dis.filter (fun d => d.1 = l)).map Prod.snd)
/-- The voted image: the words committed; a word without a value keeps that of the last commit. -/
def State.takeVote (s : State) (v : VoteOut) : State :=
  let old := v.bad.map (fun k => (k, s.image imgCommitted k))
  ((s.clearImage imgVoted).putImage imgVoted v.words).putImage imgVoted old
/-- The slack of R200 in a vote with two or more present lanes: that of the second one. -/
def State.slack (s : State) (ds : List Nat) : State :=
  let first := ds.foldl min (ds.headD 0)
  let rest := ds.erase first
  let d2 := rest.foldl min (rest.headD first)
  let sl := s.deadline - d2
  let s := s.wr 0x08 0x70 (w32 (min sl (s.rf 0x08 0x70 0 28)))
  let warn := s.rf 0x08 0x48 0 28
  s.wrBit 0x08 0x0C 0 (warn ≠ 0 && sl < warn)
/-- Lane `l` is late at the deadline. -/
def State.laneLate (s : State) (l : Nat) : State :=
  let s := (s.sat16 0x07 0x68).modLane l (fun x => { x with late := x.late + 1 })
  s.raise (laneEv l 7) s.tro.collectK 0 0
/-- Lane `l` disagreed first in word `w`. -/
def State.laneDisagrees (s : State) (l w : Nat) : State :=
  let s := ((s.sat16 0x07 0x6C).wr 0x07 0x70 (w32 (w % 0x2000 + 0x1_0000 * l))).modLane l (fun x => { x with dis := x.dis + 1 })
  s.raise (laneEv l 8) s.tro.collectK (w32 w) 0
/-- The failure rule at the end of a vote. -/
def State.failRule (s : State) : State :=
  [0, 1, 2].foldl (fun t l =>
    let x := t.lane l
    if t.voting l && (max 1 (t.rf 0x07 0x48 4 4) ≤ x.late || max 1 (t.rf 0x07 0x48 8 4) ≤ x.dis) then
      (t.modLane l (fun x => { x with late := 0, dis := 0 })).failLane l 8
    else t) s
/-- The vote over the present lanes. With one present lane nothing is compared: a lane that is the only one VOTING with LIMP_EN
gives its image (R188), otherwise the outputs hold. -/
def State.vote (s : State) (present : List Nat) : State :=
  let k := s.tro.collectK
  let mask := (present.map (fun l => 2 ^ l)).sum
  let v := s.voteWords present
  let limp := s.votingCount = 1 && s.limpEn
  let two := 2 ≤ present.length
  let s := if two then s.slack (present.map (fun l => (s.lane l).doneAt.getD 0)) else s
  let s := if two || limp then s.takeVote v else s
  let s := if two then s else s.sat16 0x07 0x74
  let clean := two && v.bad.isEmpty && v.dis.isEmpty
  let s := { s with tro := { s.tro with vote := if two || limp then .image else .hold, voteClean := clean } }
  let s := s.when (two && !v.bad.isEmpty) (fun t => t.safeCause (if present.length = 3 then 5 else 4))
  let s := present.foldl (fun t l =>
    match (if two then v.firstDis l else none) with
    | some w => t.laneDisagrees l w
    | none => if v.bad.isEmpty then t.modLane l (fun x => { x with late := 0, dis := 0 }) else t) s
  (s.failRule).raise 81 k (w32 mask) 0
/-- The collect deadline (R182, R210, R211), its events in one cycle. With no lane VOTING there is nothing to vote and no
overrun. -/
def State.atDeadline (s : State) : State := s.oneCycle fun s =>
  if !s.tro.collecting || s.progMode ≠ modeRun || s.tro.vote ≠ .none then s
  else
    let s := s.voterUpdate
    let d := s.deadline
    let inTime (l : Nat) : Bool := match (s.lane l).doneAt with | some c => c < d | none => false
    let voting := s.votingLanes
    let present := voting.filter inTime
    let s := s.wrFld 0x07 0x40 8 3 (present.map (fun l => 2 ^ l)).sum
    if voting.isEmpty then { s with tro := { s.tro with vote := .hold } }
    else if present.isEmpty then
      if s.tro.extended then
        { s with tro := { s.tro with collecting := false }, prog := { s.prog with forced := some 7 } }
      else
        let s := { s with tro := { s.tro with extended := true } }
        ((s.sat16 0x08 0x74).wr 0x09 0x64 s.tro.collectK).raise 85 s.tro.collectK 0 0
    else
      let s := (voting.filter (fun l => !inTime l)).foldl State.laneLate s
      (s.vote present).reintFollow

/-! ### Commit and exit (R186, R189) -/

/-- A lane that has not completed the cycle when the tick is sampled, while another did, has failed (R184). -/
def State.tickClause (s : State) : State :=
  if s.progMode = modeRun && s.tro.collecting && s.tro.vote ≠ .none then
    let done (l : Nat) : Bool := (s.lane l).doneAt.isSome
    if [0, 1, 2].any done then
      [0, 1, 2].foldl (fun t l => if t.voting l && !done l then t.failLane l 8 else t) s
    else s
  else s
/-- OFLAGS.EXIT_REQ of the voted image. -/
def State.exitReq (s : State) : Bool := (s.image imgVoted 0).getLsbD 32
/-- The conditions of R189 at the tick that commits. -/
def State.mayExit (s : State) : Bool :=
  s.latched && s.tro.voteClean && !s.tro.demandSeen && !s.lineDemand && 2 ≤ s.votingCount && !s.tro.faultVote && !s.tro.faultCyc &&
    s.progMode = modeRun && s.exitReq
/-- The latch is cleared. -/
def State.safeExit (s : State) : State :=
  ((s.wrBit 0x07 0x0C 0 false).wr 0x07 0x44 0).raise 84 s.tro.collectK 0 0
/-- The commit at a tick, where the vote has given an image. The demand of a reset or of STOP is withdrawn at the first commit in
RUN (R108, R202). -/
def State.commitTick (s : State) : State :=
  let prev := s.tro.commitNow
  if s.tro.vote = .image then
    let dem := s.lineDemand
    let s := if s.mayExit then s.safeExit else s
    let s := { s with dup := { s.dup with digest := s.inputDigest } }
    let s := (s.wr 0x07 0x7C s.tro.collectK).commitVoted
    let first := !s.tro.committed && s.progMode = modeRun && !s.pins.pfActive
    let s := { s with tro := { s.tro with vote := .none, committed := true, everCommitted := true, commitPrev := prev, commitNow := true
                                          demandSeen := dem, mgmtDemand := s.tro.mgmtDemand && !first } }
    s.firstRole
  else { s with tro := { s.tro with vote := .none, commitPrev := prev, commitNow := false, demandSeen := s.lineDemand } }

/-! ### Modes at the tick (R203, R204, R107) -/

/-- The first tick after phase 7 (R107, R167, R204). -/
def State.bootTick (s : State) : State :=
  let s := (s.lanesVote).setPhase 0xF
  let s := s.wr 0x00 0x54 (w32 (min 0xFFFF ((s.tb.count - s.tro.bootAt) / 1_000_000)))
  let s := { s with dup := { s.dup with bootEnd := s.tb.count } }
  let s := if s.rb 0x09 0x48 0 && !s.holdCondition && s.prog.imageOk then s.enterMode modeRun 4 else s
  s.updService
/-- A request taken at the tick, judged again on what the tick finds (R219). -/
def State.takeRequest (s : State) (r : ModeReq) : State :=
  let none_ : State := { s with prog := { s.prog with req := none } }
  let f := s.modeJudge r.mode (r.reason = 3)
  if f ≠ 0 then
    let s := none_.modeRefuse f
    if s.gait.stage = .stop then s.gaitAbandon 1 else s
  else if r.mode = modeRun && s.progMode = modeStop then s.wrBit 0x09 0x44 5 true
  else none_.enterMode r.mode r.reason
/-- Mode changes at a tick. -/
def State.modeTick (s : State) : State :=
  if s.bootPhase = 8 then s.bootTick
  else if s.starting then s.startTick
  else
    match s.forcedStop with
    | some why => s.takeForced why
    | none => match s.prog.req with
      | none => s
      | some r => s.takeRequest r
/-- A downward transition that waited for the program's stop goes on to its record. -/
def State.gaitStopTick (s : State) : State :=
  if s.gait.stage = .stop && s.progMode = modeStop then
    if s.prog.retainTrig.isSome then { s with gait := { s.gait with stage := .retain } } else s.goDown
  else s

/-! ### Boundaries at the tick (R84, R176, R223, R244, R252) -/

/-- Every key. -/
def anyKey (_ : Nat) : Bool := true
/-- The key of FIO.PAIR_EN, which applies only in STOP (R240). -/
def isPairEn (k : Nat) : Bool := k = rk 0x0B 0x5C
/-- Both channels of every pair that the pending PAIR_EN changes are OFF (R240). -/
def State.pairsOff (s : State) : Bool :=
  let d := s.rd 0x0B 0x5C ^^^ s.nextKey (rk 0x0B 0x5C)
  (List.range 12).all (fun p => !bit d p || s.rf 0x0B 0x60 (2 * p) 2 = 0)
/-- The chosen shadows of FIO apply. -/
def State.fioApply (s : State) (sel : Nat → Bool) : State :=
  if (s.shadows 0x0B sel).isEmpty then s else (s.applyShadows 0x0B sel).fioChanged s
/-- A combination that may not be applied is discarded, with APPLY_REFUSED. -/
def State.discard (s : State) (p : Nat) (sel : Nat → Bool) : State := (s.dropShadows p sel).accessFault .hw (addrOf p 0x20) 9
/-- The boundary of a tick in STOP. -/
def State.stopBoundary (s : State) : State :=
  let cyc (t : State) : Bool := !(t.shadows 0x08 anyKey).isEmpty
  let inLenKey := rk 0x08 0x44
  let s := if cyc s && !s.cycleOk then s.discard 0x08 anyKey else s
  let maps (t : State) : Bool := (t.shadowOf inLenKey).isSome || !(t.shadows 0x0A anyKey).isEmpty
  let s := if maps s && !s.mapOk then
      let s := if (s.shadows 0x0A anyKey).isEmpty then s else s.discard 0x0A anyKey
      if (s.shadowOf inLenKey).isSome then s.discard 0x08 (fun k => k = inLenKey) else s
    else s
  let changed := !(s.shadows 0x0A anyKey).isEmpty
  (((s.applyShadows 0x08 anyKey).applyShadows 0x0A anyKey).when changed State.sendSubst).applyShadows 0x0C anyKey
/-- The boundaries of a tick: those of the field unit at every tick, PAIR_EN only in STOP with its channels OFF (R240), and in STOP
all the others. -/
def State.tickBoundary (s : State) : State :=
  if s.progMode = modeStop then s.stopBoundary.fioApply (fun k => !isPairEn k || s.pairsOff)
  else s.fioApply (fun k => !isPairEn k)

/-! ### The tick (R174 to R179, R210) -/

/-- Ticks are generated and sampled: from the end of boot phase 7, in GALLOP and CANTER, with blocks 3 and 8 not held. -/
def State.tickRuns (s : State) : Bool :=
  s.pins.running && s.gaitNow < 2 && (s.booted || (s.bootPhase = 8 && !s.tro.bootOver && !s.pins.pfActive)) && !s.pageHeld 0x08 && !s.pageHeld 0x05
/-- The due instant of the next tick: the first multiple of P at or after now, and after the last tick. -/
def State.nextDue (s : State) : Nat :=
  let p := s.periodNs
  let a := (s.tb.count + p - 1) / p * p
  if s.tro.ticked && a ≤ s.dueTick then (s.dueTick / p + 1) * p else a
/-- CYCLE and program time of the tick, with its events. -/
def State.cycleTick (s : State) (due : Nat) : State :=
  let first := !s.tro.ticked
  let k : Word := if first then 0 else s.cycle + 1
  let s := ((s.wr 0x08 0x50 k).wr 0x08 0x54 (w32 due)).wr 0x08 0x58 (w32 (due / 2 ^ 32))
  let s := ({ s with tro := { s.tro with ticked := true } }).strobeFor 0 (due * 65536)
  let s := s.raise 80 k 0 0
  s.when (!first && k = 0) (fun t => t.raise 90 0 0 0)
/-- The lane latch, captured and cleared (R59). -/
def State.takeLatch (s : State) : State × List Word :=
  let ws := (List.range 8).map (fun w => s.rd 0x02 (0x60 + 4 * w))
  ((List.range 8).foldl (fun t w => t.wr 0x02 (0x60 + 4 * w) 0) s, ws)
/-- Captured bits of the lane latch put back where no snapshot is written. -/
def State.backLatch (s : State) (ws : List Word) : State :=
  (List.range 8).foldl (fun t w => t.wr 0x02 (0x60 + 4 * w) (t.rd 0x02 (0x60 + 4 * w) ||| ws.getD w 0)) s
/-- The snapshot of the tick, with the lane latch `ev` as it stood before the tick cycle: written in RUN, not at the tick after an
overrun (R210), and not after POWER_FAIL (R208). -/
def State.snapTick (s : State) (due : Nat) (ev : List Word) : State :=
  let k := s.cycle
  let s := s.snapCapture k
  let run := s.progMode = modeRun
  let s : State :=
    if run && s.tro.collecting && s.tro.extended && !s.tro.skipped then
      let s := [0, 1, 2].foldl (fun (t : State) l =>
        (t.wr 0x08 (doneAtOff l) (w32 doneNone)).modLane l (fun x => { x with doneAt := x.doneAt.map (fun _ => 0) })) s
      { s.backLatch ev with tro := { s.tro with skipped := true } }
    else if run && !s.pins.pfActive then (s.snapWrite k due ev).openCollect k
    else { s.backLatch ev with tro := { s.tro with collecting := false, extended := false } }
  let s := (s.wr 0x08 0x5C (w32 s.deadline)).wr 0x08 0x60 (w32 (48 + s.inLen))
  { s with tro := { s.tro with entered := 0, verdictOk := false } }
/-- The deadline of a collect whose own command has not come before the tick. -/
def State.missedDeadline (s : State) : State :=
  if s.tro.collecting && s.tro.vote = .none && (!s.tro.extended || s.tro.skipped) then s.atDeadline else s
/-- What waited for the role to fall: the gait's step 2 (R471), the service pause (R399). -/
def State.afterYield (s : State) : State :=
  if s.role ≠ 2 then s
  else
    let s := if s.dup.gaitAfter then
        let s := { s with dup := { s.dup with gaitAfter := false } }
        if s.gait.stage = .yield then s.gaitStep2 else s
      else s
    match s.dup.pauseAfter with
    | none => s
    | some n =>
      let s := { s with dup := { s.dup with pauseAfter := none } }
      if s.upd.held then s.startPause n.val else s
/-- What a tick due at `due` does in its own cycle: a bit of the lane latch that this sets belongs to the following snapshot (R59). -/
def State.tickCycle (due : Nat) (s : State) : State :=
  let (s, ev) := s.takeLatch
  let s := (s.ocTick.tickClause).commitTick
  let s := (s.modeTick).cycleTick due
  let s := (s.reintTick).tickBoundary
  (s.snapTick due ev).duplexTick
/-- A control tick. -/
def State.tick (s : State) : State :=
  if !s.tickRuns then s
  else
    let due := s.nextDue
    let s := ((s.advanceTo due).missedDeadline).oneCycle (State.tickCycle due)
    (s.afterYield.gaitStopTick).reintFollow.refresh

/-! ### Rows -/

def execControlTick (s : State) := answer s s.tick
/-- The verdict read of R177, 400 IOCLK cycles before the tick. -/
def execFwatchVerdictRead (returned : Bool) (s : State) :=
  answer s { s with tro := { s.tro with verdicts := (List.range 6).map (fun v => s.rd 0x49 (fwOff v 8)), verdictOk := returned && s.fwUp } }
/-- The first access of `f`'s kind leaves lane `l`'s egress. -/
def State.dropIo (s : State) (l : Nat) (f : Egress → Bool) : State :=
  s.modLane l (fun x => { x with ioq := x.ioq.eraseP f })
/-- A released store of lane `l` to an address of register space waits (R161). -/
def State.hasIo (s : State) (l : Nat) (a : Word) : Bool := (s.lane l).ioq.any (fun e => e.write && e.addr = a)
def execLaneCompletion (l : Fin 3) (k : Word) (cyc : Nat) (s : State) :=
  answer s ((s.dropIo l.val (fun e => e.write && e.addr = addrOf 0x07 0x54)).completion l.val (s.hasIo l.val (addrOf 0x07 0x54)) k cyc)
def execCollectDeadline (s : State) := answer s s.atDeadline
/-- A lane's own demand (R187): a write of bit 0 of VOTE.LANE_SAFE, also of a lane that failed after its release (R169). -/
def State.laneSafe (s : State) (l : Nat) (rel demand : Bool) : State :=
  if (1 ≤ s.laneState l && s.laneState l ≤ 3) || rel then (s.wrBit 0x07 0x80 l demand).lineCauses else s
def execLaneSafeWrite (l : Fin 3) (demand : Bool) (s : State) :=
  answer s ((s.dropIo l.val (fun e => e.write && e.addr = addrOf 0x07 0x80)).laneSafe l.val (s.hasIo l.val (addrOf 0x07 0x80)) demand)

end Sys2Proof.Machine
end

