-- ==== Sys2Proof/Machine/Reads.lean ====
section
/-! DEFINITION. What a register or table word reads as (R69 to R82): words whose value follows the state behind them, and the
words that answer each initiator with its own value. -/

namespace Sys2Proof.Machine

/-! ### Header words that follow the state (R70) -/

/-- The word whose bits are the numbers listed. -/
def bitList (l : List Nat) : Word := w32 ((l.map (fun i => 2 ^ i)).sum)
/-- A word with one bit for each condition listed. -/
def flagWord (l : List (Nat × Bool)) : Word := bitList ((l.filter Prod.snd).map Prod.fst)
/-- APPLY_STAT.PENDING of a page. -/
def State.pendingOn (s : State) (p : Nat) : Bool := !(s.shadows p (fun _ => true)).isEmpty

/-- VTIM.PSTAT (R307). A camera generator runs whenever its values are applied (R293). -/
def State.vtimStat (s : State) : Word :=
  let up := s.booted && s.dataPlaneUp
  w32 (b2n (s.tbState = tbLocked) + 2 * b2n (s.pendingOn 0x48) +
    0x100 * (bitsOf 6 (fun d => s.dspState d ≠ 0)).toNat + 0x1_0000 * (bitsOf 8 (fun _ => up)).toNat)
/-- FWATCH.PSTAT (R323). -/
def State.fwStat (s : State) : Word :=
  w32 ((bitsOf 6 (fun v => s.watchState v ≠ 0)).toNat + 0x100 * (bitsOf 6 (fun v => (s.watch v).demand)).toNat +
    0x1_0000 * (bitsOf 6 (fun v => s.watchState v = 2)).toNat)
/-- LANE.PSTAT (R170). -/
def State.laneStat (s : State) : Word :=
  w32 (s.votingMask + 0x10 * (bitsOf 3 (fun l => s.laneState l = 6)).toNat + 0x100 * (bitsOf 3 (fun l => s.rb 0x06 (laneOff l 4) 8)).toNat)
/-- TACK.PSTAT (R424). -/
def State.tackStat (s : State) : Word :=
  setBit (setBit (setBit (s.rd 0x60 0x0C) 1 s.inApproved) 4 (64 ≤ s.keep.epochs)) 6 (!s.keep.customerRoot)

/-- PSTAT of a page. -/
def State.pstat (s : State) (p : Nat) : Word :=
  let w := s.rd p 0x0C
  if p = 0x00 then setBit w 0 s.booted
  else if p = 0x02 then setBit (setBit w 1 (s.rb 0x02 0x08 8)) 2 (128 < s.inlet.length)
  else if p = 0x04 then s.farrStat
  else if p = 0x06 then s.laneStat
  else if p = 0x07 then setBit (setBit w 1 s.reintBusy) 2 s.tro.faultVote
  else if p = 0x08 then setBit (setBit w 1 (s.shadowOf (rk 0x08 0x40)).isSome) 2 s.tro.faultCyc
  else if p = 0x09 then flagWord [(0, s.prog.faultPrg)]
  else if p = 0x0A then flagWord [(0, s.loaded), (1, s.prog.faultSig), (2, s.pendingOn p)]
  else if p = 0x0B then flagWord [(0, s.linkMode = 3), (1, s.pendingOn p), (2, s.loaded)]
  else if p = 0x0C then flagWord [(0, s.field.faultIlk), (1, s.pendingOn p), (2, s.loaded)]
  else if 0x10 ≤ p ∧ p ≤ 0x15 then
    let c := s.can (p - 0x10)
    flagWord [(0, s.pendingOn p), (1, c.nbt ≠ s.rd p 0x48 || c.dbt ≠ s.rd p 0x4C || c.tdc ≠ s.rd p 0x50)]
  else if p = 0x18 then flagWord [(0, s.pendingOn p)]
  else if p = 0x30 then flagWord [(0, s.loaded)]
  else if 0x31 ≤ p ∧ p ≤ 0x38 then flagWord [(0, !(s.shadows p isStructural).isEmpty)]
  else if 0x39 ≤ p ∧ p ≤ 0x3E then flagWord [(0, s.viewPending (p - 0x39))]
  else if 0x40 ≤ p ∧ p ≤ 0x45 then flagWord [(0, s.pendingOn p)]
  else if p = 0x48 then s.vtimStat
  else if p = 0x49 then s.fwStat
  else if p = 0x50 then flagWord [(0, s.dup.fault)]
  else if p = 0x60 then s.tackStat
  else if p = 0x61 then flagWord [(0, s.tro.spookDemand)]
  else if p = 0x70 then
    flagWord [(0, s.recd.flushDue.isSome), (1, s.keep.studGen.length = 32_704), (2, s.recd.exp.isSome), (3, 1024 < s.recd.staged.length)]
  else if p = 0x71 then flagWord [(0, s.keep.copyPending)]
  else w

/-- EVT_RAW of a page: the present level of the conditions behind its events. -/
def State.evtRaw (s : State) (p : Nat) : Word :=
  if p = 0x00 then
    flagWord [(7, (s.rd 0x00 0x5C).toNat < 16_800), (8, s.pins.pfActive), (9, (1300 : Int) ≤ s.dieTemp), (10, s.dieTemp ≤ (-550 : Int))]
  else if p = 0x05 then flagWord [(1, [1, 2, 3, 4].all (fun c => !s.tbValid c))]
  else if p = 0x06 then
    flagWord ([0, 1, 2].flatMap (fun l =>
      [(10 * l + 2, s.rb 0x06 (laneOff l 4) 8), (10 * l + 3, s.laneState l = 4), (10 * l + 5, s.laneState l = 6)]))
  else if p = 0x07 then flagWord [(1, s.voterMode = 2), (2, s.latched)]
  else if p = 0x0A then flagWord [(0, s.rd 0x0A 0x4C ≠ 0 || s.rd 0x0A 0x50 ≠ 0)]
  else if p = 0x0B then flagWord [(5, 1 ≤ s.supply), (6, 2 ≤ s.supply), (7, s.supply = 3), (10, s.linkMode = 1)]
  else if p = 0x0C then flagWord [(0, !s.firing.isEmpty)]
  else if 0x10 ≤ p ∧ p ≤ 0x15 then flagWord [(2, s.canErr (p - 0x10) ≠ 0), (3, s.rb p 0xA0 16 || s.rf p 0xA0 20 2 ≠ 0)]
  else if p = 0x23 then flagWord [(0, s.rb 0x23 0x44 0)]
  else if 0x31 ≤ p ∧ p ≤ 0x38 then flagWord [(0, s.camLinkUp (p - 0x31))]
  else if 0x40 ≤ p ∧ p ≤ 0x45 then flagWord [(0, s.dspState (p - 0x40) = 2)]
  else if p = 0x49 then
    flagWord [(4, (List.range 6).any (fun v => !(s.watch v).returnOk)), (6, (List.range 6).any (fun v => (s.watch v).demand))]
  else if p = 0x50 then flagWord [(0, s.rb 0x50 0x5C 0)]
  else if p = 0x60 then flagWord [(0, s.tackLocked)]
  else if p = 0x61 then flagWord [(0, s.rd 0x61 0x4C ≠ 0)]
  else if p = 0x70 then flagWord [(2, s.keep.studGen.length = 32_704)]
  else if p = 0x71 then flagWord [(0, s.updState ≠ 0)]
  else 0

/-! ### Words of single pages -/

/-- A word of lane `l`'s register set (R171). -/
def State.laneWord (s : State) (l off : Nat) : Word := s.rd 0x06 (laneOff l off)
/-- LANE page: a lane sees its own set in SELF and zeros in the sets; others see the sets (R170). -/
def State.lanePage (s : State) (i : Init) (off : Nat) : Word :=
  match i with
  | .lane l =>
    if off = 0 then w32 (0x06 + 0x1_0000 * (l.val + 1))
    else if 0x40 ≤ off && off < 0x80 then s.laneWord l.val (off - 0x40)
    else if 0x80 ≤ off then 0 else s.rd 0x06 off
  | _ => if 0x80 ≤ off && off < 0x140 then s.laneWord ((off - 0x80) / 0x40) ((off - 0x80) % 0x40) else s.rd 0x06 off

/-- The head entry of a receive queue (R332). -/
def queueWord (q : List (List Word)) (w : Nat) : Word := (q.head?.bind (fun e => e[w]?)).getD 0
/-- CAN page: fills and heads of the queues (R352). -/
def State.canWord (s : State) (n off : Nat) : Word :=
  let c := s.can n
  if off = 0x70 then w32 c.rxq0.length
  else if off = 0x74 then w32 c.rxq1.length
  else if 0x100 ≤ off ∧ off < 0x150 then queueWord c.rxq0 ((off - 0x100) / 4)
  else if 0x180 ≤ off ∧ off < 0x1D0 then queueWord c.rxq1 ((off - 0x180) / 4)
  else s.rd (canPage n) off

/-- A word of DS_WIN: the dataset in DS_SEL, its first 1,432 bytes (R366, R380). -/
def State.dsWord (s : State) (off : Nat) : Word :=
  if 1432 ≤ off then 0 else bytesWord ((List.range 4).map (fun j => stGet 0 s.net.dsReady (2048 * s.rf 0x20 0x74 0 10 + off + j)))

/-- SPOOK.RESP0 and RESP1: with APPROVED the ACTION of sources 0 to 2 reads 2 (R414). -/
def State.respWord (s : State) (off : Nat) : Word :=
  let w := s.rd 0x61 off
  if off = 0x40 && s.approved then setFld (setFld (setFld w 0 2 2) 4 2 2) 8 2 2 else w

/-- REC page: what stands in staging and MRAM (R465), the reader's own set of APP words (R448), and
CFG, which is 0 after a TRIPLE_FAULT in it (R466). -/
def State.recPage (s : State) (i : Init) (off : Nat) : Word :=
  if off = 0x40 && s.recd.cfgFault then 0
  else if off = 0x44 then s.keep.nextSeq
  else if off = 0x48 then (s.keep.ring.head?.map Rec.seq).getD 0
  else if off = 0x4C then w32 (s.keep.studGen.length + 0x1_0000 * s.keep.studAlarm.length)
  else if off = 0x50 then w32 s.recd.staged.length
  else if off = 0x5C then w32 s.recd.buckets.length
  else if off = 0x64 then w32 ((s.recd.exp.map expLeft).getD 0)
  else if off = 0x6C then 0
  else if 0x70 ≤ off ∧ off ≤ 0x78 then s.rd 0x70 (appOff (initCode i) ((off - 0x70) / 4))
  else s.rd 0x70 off

/-- XLINK.ROLE with DRV_EN and a takeover that has run out of its wait (R402, R394). -/
def State.roleWord (s : State) : Word :=
  let late := s.dup.tryUntil.any (fun t => t.2 ≤ s.tb.count)
  setBit (setBit (s.rd 0x50 0x58) 6 s.drvEn) 8 (s.rb 0x50 0x58 8 || late)

/-- DSP.DCLK_KHZ: HTOTAL · VTOTAL / P at the time base's rate, while the port is not STOPPED (R296, R305). -/
def State.dclkWord (s : State) (d : Nat) : Word :=
  if s.dspState d = 0 then 0
  else
    let n := s.rf 0x48 (vtD d 4) 0 13 * s.rf 0x48 (vtD d 0xC) 0 12 * 65536 * 1_000_000
    w32 (clipNat 0xF_FFFF (fixRound ((n : Int) * (2 ^ 34 + signed 32 (s.rd 0x05 0x48).toNat)) (max 1 (s.dspPeriod d) * 2 ^ 34)))
/-- What a page answers for the words below its tables, before the widths of a read (R73, R74). -/
def State.pageWord (s : State) (i : Init) (p off : Nat) : Word :=
  if off = 0x0C then s.pstat p
  else if off = 0x10 then s.evtRaw p
  else if off = 0x28 then ((s.kpPend p).map KpPend.val).getD 0
  else if p = 0x06 then s.lanePage i off
  else if p = 0x00 && off = 0x4C then (match s.keep.stored with | none => 0 | some n => w32 (n.val + 0x10))
  else if p = 0x00 && off = 0x64 then Config.serialLo
  else if p = 0x00 && off = 0x68 then Config.serialHi
  else if p = 0x02 && off = 0x44 then w32 s.inlet.length
  else if p = 0x05 && off = 0x44 then s.tb.latches.getD (initCode i - 4) 0
  else if p = 0x09 && off = 0x50 then s.holdLeft
  else if p = 0x0A && off = 0x5C then flagWord [(0, s.moving), (1, s.pins.moving), (2, s.progMoving)]
  else if 0x10 ≤ p ∧ p ≤ 0x15 then s.canWord (p - 0x10) off
  else if p = 0x20 && 0x800 ≤ off then s.dsWord (off - 0x800)
  else if p = 0x23 && off = 0x48 then w32 (Config.pcieVendor.toNat + 0x1_0000 * 0x0936)
  else if 0x40 ≤ p && p ≤ 0x45 && off = 0x78 then s.dclkWord (p - 0x40)
  else if p = 0x50 && off = 0x58 then s.roleWord
  else if p = 0x50 && off = 0x64 then w32 s.health
  else if p = 0x50 && off = 0x68 then w32 (s.health / 2 ^ 32)
  else if p = 0x60 && off = 0x50 then w32 s.keep.epochs
  else if p = 0x60 && off = 0x54 then w32 s.keep.arb
  else if p = 0x60 && off = 0x58 then w32 s.keep.dbgFail
  else if p = 0x61 && (off = 0x40 || off = 0x44) then s.respWord off
  else if p = 0x70 then s.recPage i off
  else if p = 0x72 && off = 0x40 then s.policyWord
  else if p = 0x71 && off = 0x44 then s.updStateWord
  else if p = 0x71 && off = 0x54 then s.updIdle
  else if p = 0x71 && off = 0x58 then s.trialLeft
  else if p = 0x71 && off = 0x60 then s.hobbleWord
  else if p = 0x71 && off = 0x64 then s.keep.slotA.build
  else if p = 0x71 && off = 0x68 then s.keep.slotB.build
  else if p = 0x61 && off = 0x40 && s.rb 0x60 0x40 0 then (s.rd p off &&& ~~~0x333) ||| 0x222
  else s.rd p off

/-- A martingale entry of the REC table (R466). -/
def State.martWord (s : State) (ix : Nat) : Word :=
  match s.recd.buckets[ix % 0x400]? with
  | none => 0
  | some b =>
    if ix < 0x400 then w32 (b.code + 0x1_0000 * b.rate + 2 ^ 26 * (b.burst - 1))
    else w32 (b.level % 0x1_0000 + 0x1_0000 * min 0xFFFF (((s.recd.supp.filter (fun x => x.code = b.code)).map Supp.count).sum))
/-- Status of station `st` in the SIG table (R223). -/
def State.stationWord (s : State) (st : Nat) : Word :=
  setFld (s.tab 0x0A (0x8040 + st)) 0 2 (if !s.stationEn st then 0 else if s.stationLost st then 2 else 1)

/-- A word of a page's table (R81): zero where the table has none. -/
def State.tabWord (s : State) (p ix : Nat) : Word :=
  if p = 0x02 && ix < 0x100 then s.routeWord ix
  else if p = 0x02 && ix < 0x200 && evAbsent s.variant (ix - 0x100) then 0
  else if p = 0x0A && 0x8040 ≤ ix && ix < 0x8080 then s.stationWord (ix - 0x8040)
  else if p = 0x50 then
    let d := (s.image imgMirror (ix / 2)).toNat
    if s.dup.mirrorOk then w32 (d / 2 ^ (32 * (ix % 2))) else 0
  else if p = 0x60 then s.attr ix
  else if p = 0x70 then s.martWord ix
  else if p = 0x72 then (if ix = 0 then w32 s.keep.rtcS else w32 s.keep.rtcAlarm)
  else s.tab p ix

/-! ### Reads of the register bus -/

/-- The limits of a page's index: its bits and the last index before the wrap (R81). -/
def tabTop (p : Nat) : Nat := ((blockOf p).map Block.top).getD 0
/-- A page has a table. -/
def hasTable (p : Nat) : Bool := 0 < tabTop p
/-- IND_ADDR of a page. -/
def State.indAddr (s : State) (p : Nat) : Nat := (s.rd p 0x30).toNat
/-- IND_ADDR advances by 1 and wraps from the last index to 0. -/
def State.indNext (s : State) (p : Nat) : State :=
  s.wr p 0x30 (if tabTop p ≤ s.indAddr p then 0 else w32 (s.indAddr p + 1))
/-- The pages whose map carries a VW field and a table (R82, R180). -/
def vwPage (p : Nat) : Bool := p = 0x01 || p = 0x07 || p = 0x08 || p = 0x09

end Sys2Proof.Machine
end

