-- ==== Sys2Proof/Machine/Mailbox.lean ====
section
/-! DEFINITION. The mailbox's own rows (R98 to R104, R396, R496): the doorbell, completions that the firmware decides, and the
duplex commands. -/

namespace Sys2Proof.Machine

/-- DOORBELL takes a value (R99): with BUSY at 0 a 1 latches CMD and the arguments; with BUSY at 1 it is ignored with cause
MBOX_BUSY. -/
def State.doorbell (s : State) (i : Init) (n : Nat) (addr v : Word) : State :=
  let p := boxPage n
  if !bit v 0 then s
  else if s.boxBusy n then s.accessFault i addr 0xB
  else
    let s := s.modBox n (fun b => { b with
      cmd := s.rd p 0x40, args := (List.range 14).map (fun j => s.rd p (0x44 + 4 * j)), running := false })
    ({ s with bells := s.bells.filter (fun x => x ≠ n) ++ [n] }.wrBit p 0x80 0 true).wr p 0x7C 1

/-- The argument lengths of the command codes of R496 (R104); none for a code that does not exist. -/
def cmdLens (code : Nat) (a : List Word) : Option (List Nat) :=
  if code = 0x01 then some (List.range 57)
  else if [0x02, 0x11, 0x21, 0x31, 0x44, 0x46, 0x52, 0x81].contains code then some [0]
  else if [0x10, 0x20, 0x42, 0x43, 0x45, 0x47, 0x71, 0x80, 0x90].contains code then some [4]
  else if [0x30, 0x40, 0x53].contains code then some [8]
  else if [0x50, 0x51].contains code then some [12]
  else if [0x41, 0x60].contains code then some [16]
  else if code = 0x70 then some [if fld (a.getD 0 0) 0 2 = 2 then 8 else 4]
  else none
/-- The command held completes with a result that the firmware gives; one that R101 to R104 decide completes with theirs, and
one that runs on completes by its own happening. -/
def State.boxComplete (s : State) (n err : Nat) (resp : List Word) : State :=
  let b := s.box n
  let code := fld b.cmd 0 8
  if !s.boxNext n then s
  else match cmdLens code b.args with
    | none => s.boxDone n 1 []
    | some ls =>
      if !planeOk code n then s.boxDone n 4 []
      else if !ls.contains (fld b.cmd 16 16) then s.boxDone n 2 []
      else if code = 0x52 && !b.kpDone then s.boxDone n 3 []
      else s.boxDone n err resp

/-! ### Duplex commands (R396) -/

/-- The answer of DUPLEX_ROLE. -/
def State.duplexAnswer (s : State) (n : Nat) : State := s.boxDone n 0 [s.roleWord, s.rd 0x50 0x6C, s.rd 0x50 0x70]
/-- INHIBIT set or cleared. -/
def State.duplexInhibit (s : State) (n : Nat) (b : Bool) : State :=
  if !s.duplexEn then s.boxDone n 0xA [] else (s.wrBit 0x50 0x58 7 b).duplexAnswer n
/-- The sub-command of DUPLEX_ROLE. -/
def roleSub (a : List Word) : Nat := fld (a.getD 0 0) 0 2
/-- DUPLEX_YIELD: it completes at the tick at which the role falls. -/
def State.duplexYield (s : State) (n : Fin 3) : State :=
  if !s.mayYield then s.boxDone n.val 6 []
  else
    let s := s.startYield.boxRun n.val
    { s with dup := { s.dup with yieldBox := some n } }

/-! ### Rows -/

def execMboxCommandComplete (inst : Fin 3) (err : BitVec 8) (resp : List Word) (s : State) :=
  answer s (s.boxComplete inst.val err.toNat resp)
/-- Sub-command 3, which DUPLEX_ROLE does not have, is refused with the query. -/
def execDuplexRoleQuery (inst : Fin 3) (s : State) :=
  answer s (s.serve inst.val 0x80 (fun a => roleSub a = 0 || roleSub a = 3) [4] (fun t =>
    if roleSub (t.box inst.val).args = 3 then t.boxDone inst.val 3 [] else t.duplexAnswer inst.val))
def execDuplexRoleSetInhibit (inst : Fin 3) (s : State) :=
  answer s (s.serve inst.val 0x80 (fun a => roleSub a = 1) [4] (fun t => t.duplexInhibit inst.val true))
def execDuplexRoleClearInhibit (inst : Fin 3) (s : State) :=
  answer s (s.serve inst.val 0x80 (fun a => roleSub a = 2) [4] (fun t => t.duplexInhibit inst.val false))
def execDuplexYield (inst : Fin 3) (s : State) :=
  answer s (s.serve inst.val 0x81 (fun _ => true) [0] (fun t => t.duplexYield inst))

end Sys2Proof.Machine
end

