-- ==== Sys2Proof/Machine/Access.lean ====
section
/-! DEFINITION. What stands between an initiator and a register (R71 to R76, R92 to R94): triplicated fields at a read or a scrub
(R78), the targets of a lane, grants, held and absent pages, widths, and reads. -/

namespace Sys2Proof.Machine

/-! ### Triplicated fields (R78) -/

/-- Address of the word with key `k`; a table word is reached through IND_DATA. -/
def keyAddr (k : Nat) : Word := addrOf (keyPage k) (if keyIsTab k then 0x34 else keyOff k)
/-- XLINK's fault state (R403). -/
def State.xlinkFault (s : State) : State :=
  let s := { s with dup := { s.dup with fault := true } }
  if s.role ≤ 1 then s.leaveRole else s.setRoleOut false
/-- The fault reaction to an unrecoverable field: SYS, EVR and BRIDLE R105, LANE R173, VOTE and CYC R195, PRG R203, SIG R224, FIO
R228, ILK R248, XLINK R403, TACK and SPOOK R427, REC R466, GAIT R477. -/
def State.blockFault (s : State) (k : Nat) : State :=
  let p := keyPage k
  if p = 0x00 || p = 0x02 || p = 0x03 then s.resetBoot 5 true s.sinceSave
  else if p = 0x06 then
    if keyOff k < 0x80 then s.setT3 (rk 0x06 0x14) (resetWord (rk 0x06 0x14))
    else
      let l := (keyOff k - 0x80) / 0x40
      let s := s.modLane l (fun x => { x with winFault := true })
      if 1 ≤ s.laneState l && s.laneState l ≤ 5 then (s.failLane l 2).reintFollow else s
  else if p = 0x07 then ({ s with tro := { s.tro with faultVote := true } }).safeCause 7
  else if p = 0x08 then ({ s with tro := { s.tro with faultCyc := true } }).safeCause 7
  else if p = 0x09 then ({ s with prog := { s.prog with faultPrg := true } }).forceStop 9
  else if p = 0x0A then { s with prog := { s.prog with faultSig := true } }
  else if p = 0x0B then s.setLink 3
  else if p = 0x0C then ({ s with field := { s.field with faultIlk := true } }).refresh
  else if p = 0x50 then s.xlinkFault
  else if k = rk 0x60 0x40 || k = rk 0x61 0x40 || k = rk 0x61 0x44 then ({ s with sec := { s.sec with fault := true } }).spookDemand
  else if k = rk 0x70 0x40 then { s with recd := { s.recd with cfgFault := true } }
  else if k = rk 0x72 0x40 then { s with gait := { s.gait with polFault := true } }
  else s
/-- The copies' departures from a base that has itself moved by `d`. -/
def shiftUpset (u : Upset) (d : Word) : Upset :=
  let q (x : Bool) : Bool := xor x (parity d)
  ⟨u.d0 ^^^ d, u.d1 ^^^ d, u.d2 ^^^ d, q u.q0, q u.q1, q u.q2⟩
/-- How far the value that a read gives departs from the base. -/
def T3Judge.dev : T3Judge → Word
  | .sound d => d
  | .repair d => d
  | .fault d => d
def State.t3Dev (s : State) (k : Nat) : Word := (alGet s.upsets k).elim 0 (fun u => (judgeT3 u).dev)
/-- The field is judged for a read by `ini`, or for the scrub. An unrecoverable field takes the majority as its value; the tick
generator stays at its last applied period (R200). -/
def State.judge (s : State) (k ini : Nat) : State :=
  match alGet s.upsets k with
  | none => s
  | some u =>
    if !(accOf k).t3 then s
    else match judgeT3 u with
      | .sound d => s.setT3 k (s.key k ^^^ d)
      | .repair d => (s.setT3 k (s.key k ^^^ d)).raise 20 (keyAddr k) 0 0
      | .fault d =>
        let s := if keyPage k = 0x08 then s else { s.setKey k (s.key k ^^^ d) with upsets := alSet s.upsets k (shiftUpset u d) }
        (s.error (keyPage k) (offOf (keyAddr k)) ini 8 21 (keyAddr k)).blockFault k
/-- Upsets strike the copies of a field, and the scrubber visits it. -/
def State.scrub (s : State) (k : Nat) (u : Upset) : State :=
  if !(accOf k).t3 || !s.pageUp (keyPage k) then s
  else ({ s with upsets := alSet s.upsets k (addUpset (s.upset k) u) }).judge k 0xC

/-! ### What an access meets -/

/-- What becomes of an access before it reaches a register: it passes; it reads zero and writes nothing; it meets a page whose
unit is held; it is refused with a cause; it is a lane's to no page at all. -/
inductive Gate where
  | pass
  | zero
  | held
  | refuse (cause : Nat)
  | nowhere
  deriving DecidableEq, Repr

/-- Page index of an address in register space, with the one MBOX page. -/
def rawPage (addr : Word) : Nat := (addr.toNat - 0x4000_0000) / 0x1000
/-- The access goes through the bridle (R48): for the lanes and the write vote, the semaphores of the crossing BRIDLE page. -/
def bridled : Init → Nat → Bool
  | .lane _, p => p = 0x03
  | .vote, p => p = 0x03
  | .hw, _ => false
  | .mgmt, p => pagePlane p ≠ .management
  | _, _ => true
/-- The page's plane is stopped (R94, R467). -/
def State.planeStopped (s : State) (p : Nat) : Bool :=
  match pagePlane p with
  | .data => !s.dataPlaneUp
  | .control => 2 ≤ s.gaitNow
  | _ => false
/-- The accesses for which the bridle consults the grant table (R92). -/
def needsGrant (i : Init) (p : Nat) : Bool :=
  match i with
  | .dma | .pcie => true
  | .svc _ => pagePlane p = .control || pagePlane p = .management
  | .mgmt => pagePlane p = .control
  | _ => false
/-- Bit of the grant word for an initiator (R97). -/
def grantBit (i : Init) (write : Bool) : Nat :=
  match i with
  | .svc n => n.val + 4 * b2n write
  | .mgmt => 8 + b2n write
  | .dma => 10 + b2n write
  | _ => 12 + b2n write
/-- The active tack set grants the access. -/
def State.granted (s : State) (i : Init) (p : Nat) (write : Bool) : Bool :=
  !needsGrant i p || bit (s.tab 0x03 (if 0x80 ≤ p then 1 else p)) (grantBit i write)
/-- The pages that a lane reaches (R75), in SPLIT and DEBUG only its own LANE page (R164). -/
def State.laneReaches (s : State) (l p off : Nat) : Bool :=
  p = 0x06 || (s.laneState l ≠ 4 && s.laneState l ≠ 5 && (pagePlane p = .control || (p = 0x03 && 0x80 ≤ off && off < 0xC0)))
/-- The memory windows: a write to one may be narrow (R73). -/
def memWindow (p off : Nat) : Bool :=
  0x800 ≤ off && (p = 0x09 || p = 0x60 || p = 0x70 || (p = 0x20 && off < 0x800 + 1432))
/-- The checks in their order (DEDUCED: R71 to R94 name no precedence): assignment, an absent unit's page (R2, for a lane too,
before R75), a lane's targets, the bridle, the page, the width. -/
def State.gate (s : State) (i : Init) (addr : Word) (n : Nat) (write atomic : Bool) : Gate :=
  let p := pageOf i addr
  let off := offOf addr
  let here := assigned (rawPage addr) && !pageAbsent s.variant p
  let width : Gate :=
    if atomic then .refuse 0xA
    else if addr.toNat % n ≠ 0 then .refuse 2
    else if write && n < 4 && !memWindow p off then .refuse 1
    else .pass
  match i with
  | .lane l =>
    if !assigned (rawPage addr) then .nowhere
    else if !here then .zero
    else if !s.laneReaches l.val p off then .refuse 3
    else if s.pageHeld p then .held
    else width
  | _ =>
    if !here then .zero
    else if bridled i p && s.planeStopped p then (if i = .troika then .zero else .refuse 0xE)
    else if !s.granted i p write then .refuse 4
    else if s.pageHeld p then .held
    else width
/-- An access is refused: its cause is recorded and the initiator gets a bus error. -/
def State.refuse (s : State) (i : Init) (addr : Word) (cause : Nat) : State :=
  (if cause = 0xE then (s.sat16 0x03 0x48).error (pageOf i addr) (offOf addr) (initCode i) 0xE 25 addr
    else s.accessFault i addr cause).busError
/-- A lane's access to no page is recorded in no ERRINFO (R75). -/
def State.refuseNowhere (s : State) (i : Init) (addr : Word) : State :=
  (s.raise 26 addr (errWord (offOf addr) (initCode i) 3 0) 0).busError

/-! ### Posting (R72, R90, R96) -/

/-- The pages that are strict in every case (R90). -/
def strictPage (p : Nat) : Bool :=
  p = 0x01 || 0x80 ≤ p || p = 0x03 || (0x10 ≤ p && p ≤ 0x15) || [0x18, 0x20, 0x22, 0x60, 0x70, 0x71].contains p
/-- A posting range covers the page (R96). -/
def State.posted (s : State) (i : Init) (p : Nat) : Bool :=
  bridled i p && !strictPage p &&
    (List.range 8).any (fun k =>
      let w := s.rd 0x03 (0xC0 + 4 * k)
      let base := fld w 12 20
      bit w 1 && base ≤ 0x4_0000 + p && 0x4_0000 + p < base + fld w 4 8)
/-- A write is refused (R72): a posted one is counted in POST_ERR and its bus error does not reach the initiator; one without a
grant is never posted. -/
def State.refuseWrite (s : State) (i : Init) (addr : Word) (cause : Nat) : State :=
  let t := s.refuse i addr cause
  if cause ≠ 4 && s.posted i (pageOf i addr) then { t.sat16 0x03 0x44 with bus := s.bus } else t

/-! ### Reads (R73, R74) -/

/-- The word at IND_ADDR, whose read moves the index on but on a VW page (R81, R82). -/
def State.indRead (s : State) (ini p : Nat) : State × Word :=
  let ix := s.indAddr p
  let s := s.judge (tk p ix) ini
  let w := s.tabWord p ix ^^^ s.t3Dev (tk p ix)
  (if vwPage p then s else s.indNext p, w)
/-- A read of TB_NS loads the reader's epoch latch (R130). -/
def State.tbNsLatch (s : State) (ini : Nat) : State :=
  if 4 ≤ ini && ini ≤ 0xA then { s with tb := { s.tb with latches := s.tb.latches.set (ini - 4) s.epoch } } else s
/-- A word of a page is read, with the effects of R74. The spook sensor's reading is a free value. -/
def State.readWord (s : State) (i : Init) (p off : Nat) : State × Word :=
  let ini := initCode i
  if off = 0x34 && hasTable p then s.indRead ini p
  else if p = 0x05 && off = 0x40 then (s.tbNsLatch ini, s.ns)
  else if 0x10 ≤ p && p ≤ 0x15 && (off = 0x78 || off = 0x7C) then s.rxqPop (p - 0x10) ((off - 0x78) / 4)
  else if p = 0x70 && off = 0x60 then s.expPop
  else if p = 0x61 && off = 0x88 then (s.draw, Config.freeWord s.freeIx &&& 0xFFFF)
  else if p = 0x00 && off = 0x58 && s.serviceLive then (s, s.service)
  else
    let s := s.judge (rk p off) ini
    (s, s.pageWord i p off ^^^ s.t3Dev (rk p off))
/-- Bytes of a word from an address on. -/
def narrowRead (addr : Word) (n : Nat) (w : Word) : Word :=
  if n < 4 then w32 (w.toNat / 2 ^ (8 * (addr.toNat % 4)) % 2 ^ (8 * n)) else w
/-- One access of at most 32 bits reads. -/
def State.readPart (s : State) (i : Init) (addr : Word) (n : Nat) (atomic : Bool) : State :=
  let p := pageOf i addr
  match s.gate i addr n false atomic with
  | .nowhere => s.refuseNowhere i addr
  | .zero => s.busData 0
  | .held => s.busData (narrowRead addr n (if offOf addr / 4 = 0 then setBit (s.pageWord i p 0) 24 true else 0))
  | .refuse c => s.refuse i addr c
  | .pass =>
    let (s, w) := s.readWord i p (offOf addr / 4 * 4)
    s.busData (narrowRead addr n w)
/-- The parts of an access of `n` bytes (R73): one of up to 32 bits, or words in rising order. -/
def accessParts (addr : Word) (n : Nat) : List (Word × Nat) :=
  if n ≤ 4 then [(addr, n)] else (List.range (n / 4)).map (fun j => (addr + w32 (4 * j), 4))
/-- A wide access at an address that is not a multiple of its size is refused whole. -/
def wideUnaligned (addr : Word) (n : Nat) : Bool := 4 < n && addr.toNat % n ≠ 0
/-- The sizes of an access to register space: 8 to 256 bits. -/
def accessSize (n : Nat) : Bool := [1, 2, 4, 8, 16, 32].contains n
/-- A read of register space. Nothing happens outside it, or for a size that no access has. -/
def State.busRead (s : State) (i : Init) (addr : Word) (n : Nat) (atomic : Bool) : State :=
  let s := { s with bus := {} }
  if !isRegSpace addr || !accessSize n then s
  else if wideUnaligned addr n then
    match s.gate i addr 1 false atomic with
    | .pass => s.refuse i addr 2
    | _ => s.readPart i addr 4 atomic
  else
    let r := (accessParts addr n).foldl (fun (c : State × List Word × Bool) x =>
      let t := c.1.readPart i x.1 x.2 atomic
      (t, c.2.1 ++ [t.bus.data], c.2.2 || t.bus.err)) (s, [], false)
    { r.1 with bus := { data := r.2.1.headD 0, more := r.2.1.tail, err := r.2.2 } }
/-- A bus error on a lane's read is a load access fault in its cores (R72). -/
def State.laneLoadFault (s : State) (i : Init) : State :=
  match i with
  | .lane l => if s.bus.err then (s.laneTrap l.val 5 (s.lane l.val).pc) else s
  | _ => s
/-- A read on behalf of an initiator. An unaligned load of a lane never leaves it. -/
def State.initRead (s : State) (i : Init) (addr : Word) (n : Nat) : State :=
  if isLane i && isRegSpace addr && accessSize n && addr.toNat % n ≠ 0 then s.busError.laneLoadFault i
  else (s.busRead i addr n false).laneLoadFault i

/-! ### Rows -/

def execT3ScrubVisit (key : Nat) (u : Upset) (s : State) := answer s (s.scrub key u)
def execIndDataRead (i : Init) (page : Fin 128) (s : State) := answer s (s.initRead i (addrOf page.val 0x34) 4)
def execTbNsRead (i : Init) (s : State) := answer s (s.initRead i (addrOf 0x05 0x40) 4)
def execRxqPop (n : Fin 6) (q : Fin 2) (i : Init) (s : State) :=
  answer s (s.initRead i (addrOf (canPage n.val) (0x78 + 4 * q.val)) 4)
def execExpPortRead (i : Init) (s : State) := answer s (s.initRead i (addrOf 0x70 0x60) 4)
/-- An access that the bridle has ended for want of an answer (R94). -/
def execBridleTimeout (i : Init) (addr : Word) (write : Bool) (s : State) :=
  answer s (
    let p := pageOf i addr
    if !isRegSpace addr || !assigned (rawPage addr) || pageAbsent s.variant p || !bridled i p then s
    else if write && i = .troika && s.planeStopped p then s
    else if !write then (s.refuse i addr 0xE).laneLoadFault i
    else if isLane i then s
    else s.refuseWrite i addr 0xE)

end Sys2Proof.Machine
end

