-- ==== Sys2Proof/Machine/Write.lean ====
section
/-! DEFINITION. Writes of registers and table words by their access codes (R77 to R85) and by the words that act: key pairs,
buffered writes, APPLY, indirect tables, semaphores, the pending banks and the command registers of every unit. -/

namespace Sys2Proof.Machine

/-! ### Fields that a write may change -/

/-- The KP bits that a pair may change now: ROUTE_LOCK only rises (R66), and with APPROVED the ACTION of sources 0 to 2 is fixed
(R414). -/
def State.kpMask (s : State) (k : Nat) : Word :=
  let m := w32 (accOf k).kp
  if k = rk 0x02 0x08 then m &&& ~~~(s.key k)
  else if k = rk 0x61 0x40 && s.approved then m &&& ~~~0x333
  else m
/-- The word holds plain fields beside its KP fields. -/
def mixedWord (k : Nat) : Bool := (accOf k).rw ≠ 0 || k = rk 0x07 0x5C || k = rk 0x09 0x68
/-- Words whose KP fields are commands: they read 0, and a set bit always asks for something. -/
def kpCommand (k : Nat) : Bool :=
  k = rk 0x09 0x40 || k = rk 0x09 0x68 || (keyPage k = 0x06 && !keyIsTab k && (accOf k).kp = 3)
/-- A write of `v` to the word with key `k` at `addr` by its access code: plain fields at once, buffered ones into the shadow, KP
fields as the page's pending value. -/
def State.putWord (s : State) (i : Init) (k : Nat) (addr v : Word) : State :=
  let a := accOf k
  let old := s.nextKey k
  let plain := merge (w32 a.rw) (s.key k) v &&& ~~~(v &&& w32 a.w1c)
  let s :=
    if a.rw = 0 && a.w1c = 0 then s
    else if a.ab then s.setShadow k (merge (w32 a.rw) old v)
    else if a.t3 then s.setT3 k plain
    else s.setKey k plain
  let m := s.kpMask k
  if a.kp = 0 then s
  else if mixedWord k && v &&& m = old &&& m && !(kpCommand k && v &&& m ≠ 0) then s
  else s.kpStart ⟨keyPage k, k, addr, v, initCode i⟩

/-! ### What follows a change (R34, R185, R227, R300, R340, R360, R375, R416, R444) -/

/-- Inputs of the offset computation, with DCTRL, whose SRC decides whether there is one (R299, R300). -/
def offsetInput (k : Nat) : Bool :=
  let p := keyPage k
  let o := keyOff k
  if p = 0x48 then true
  else if 0x40 ≤ p ∧ p ≤ 0x45 then !keyIsTab k && o = 0x40
  else if 0x31 ≤ p ∧ p ≤ 0x38 then !keyIsTab k && (o = 0x4C || o = 0x50 || o = 0x54)
  else if 0x39 ≤ p ∧ p ≤ 0x3E then (if keyIsTab k then o < 0x4000 else [0x40, 0x44, 0x48, 0x50, 0x58].contains o)
  else false
/-- What a changed word, or a new shadow of it, sets off. -/
def State.afterWord (s : State) (k : Nat) : State :=
  let p := keyPage k
  if p = 0x07 then
    let s := s.voterUpdate
    (if s.latched && !s.limping then s.substitute imgHeld else s).refresh
  else if k = rk 0x05 0x50 then s.tbSelect
  else if p = 0x0B || p = 0x0C then s.refresh
  else if 0x10 ≤ p ∧ p ≤ 0x15 then (if (accOf k).ab then s.scheduleNow (p - 0x10) else s)
  else if k = rk 0x18 0x40 then s.mvbCfg
  else if k = rk 0x23 0x40 then (if s.rb 0x23 0x40 0 then s else s.pcieDown)
  else if k = rk 0x61 0x40 || k = rk 0x61 0x44 then s.spookDemand
  else if p = 0x71 then s.updBoundary
  else if offsetInput k && (accOf k).ab then s.offsetsStale
  else s

/-! ### Key pairs (R79) -/

/-- The value that a pair gives its word: only the KP fields take it. -/
def State.kpWord (s : State) (k : KpPend) : Word := merge (s.kpMask k.key) (s.nextKey k.key) k.val
/-- A completed pair's value is accepted: its ranges and sets, and for TB.FREQ the states FREE and HOLDOVER (R147). -/
def State.kpAccepts (s : State) (k : KpPend) : Bool :=
  valueOk k.key (s.kpWord k) && (k.key ≠ rk 0x05 0x4C || s.tbState = tbFree || s.tbState = tbHoldover)
/-- A pair on VOTE.REINT is complete (R190): its fields are kept, and START starts. -/
def State.reintWord (s : State) (v : Word) : State :=
  let s := s.wr 0x07 0x5C (v &&& 0x1033)
  if bit v 8 then (s.reintStart (fld v 0 2) (fld v 4 2) (bit v 12)).1 else s
/-- A pair on the control word of lane `l` is complete (R164, R167). -/
def State.laneCtrl (s : State) (l : Nat) (v : Word) : State :=
  let s := if bit v 0 then s.splitRequest l else s
  (if bit v 1 then s.failRequest l else s).reintFollow
/-- A completed pair takes effect. -/
def State.kpEffect (s : State) (i : Init) (k : KpPend) : State :=
  let w := s.kpWord k
  let p := keyPage k.key
  let o := keyOff k.key
  let a := accOf k.key
  if k.key = rk 0x05 0x4C then s.setRate (signed 32 w.toNat) s.tb.p
  else if k.key = rk 0x07 0x5C then s.reintWord k.val
  else if k.key = rk 0x09 0x40 then s.modeRequest i k.val
  else if k.key = rk 0x09 0x68 then s.ocCommand k.val
  else if p = 0x06 && kpCommand k.key then s.laneCtrl ((o - 0x80) / 0x40) k.val
  else if isForceKey k.key then s.forceSet ((o - 0x4000) / 4) (o % 4) k.val
  else if o = 0x40 && !keyIsTab k.key && (p = 0x01 || 0x80 ≤ p) then
    let n := if p = 0x01 then 0 else p - 0x7F
    if s.rd p 0x40 = k.val && !s.boxBusy n then s.modBox n (fun b => { b with kpDone := true }) else s
  else
    let s := if a.ab then s.setShadow k.key w else if a.t3 then s.setT3 k.key w else s.setKey k.key w
    s.afterWord k.key
/-- KEY_N takes a value: it completes the page's pending pair, or fails. A table word's completion moves IND_ADDR on (R81). -/
def State.keyN (s : State) (i : Init) (p : Nat) (v : Word) : State :=
  let s := s.wr p 0x2C v
  match s.kpPend p with
  | none => s.kpFail p (initCode i) (addrOf p 0x2C)
  | some k =>
    let s := s.kpDrop p
    if v ≠ ~~~k.val || !s.kpAccepts k then s.kpFail p (initCode i) k.addr
    else
      let s := s.kpEffect i k
      if keyIsTab k.key then s.indNext p else s
/-- The 64 cycles of a pending value are over. -/
def State.kpExpire (s : State) (p : Nat) : State :=
  match s.kpPend p with
  | none => s
  | some k => (s.kpDrop p).kpFail p k.ini k.addr

/-! ### Buffered writes (R84, R85) -/

/-- The shadows of a page whose boundary is the tick in STOP take effect, but for a combination of R176 or R220 that may
not, and PAIR_EN, which waits for its tick (R240). -/
def State.applyStop (s : State) (p : Nat) : State :=
  let len := rk 0x08 0x44
  if p = 0x08 then
    let s := if !(s.shadows p anyKey).isEmpty && !s.cycleOk then s.discard p anyKey else s
    let s := if (s.shadowOf len).isSome && !(s.without 0x0A).mapOk then s.discard p (fun k => k = len) else s
    s.applyShadows p anyKey
  else if p = 0x0A then
    if (s.shadows p anyKey).isEmpty then s
    else if (s.without 0x08).mapOk then (s.applyShadows p anyKey).sendSubst
    else s.discard p anyKey
  else if p = 0x0B then (s.fioApply (fun k => !isPairEn k)).refresh
  else (s.applyShadows p anyKey).refresh
/-- A write of 1 to APPLY. -/
def State.applyWrite (s : State) (i : Init) (p : Nat) (addr v : Word) : State :=
  let rule := ((blockOf p).map Block.apply).getD .none_
  if !bit v 0 || rule = .none_ then s
  else if rule = .inStop && s.progMode = modeStop then s.applyStop p
  else (s.wrBit p 0x24 1 true).accessFault i addr 9
/-- The natural boundary of a page, for the instance named where the page serves several (R84). -/
def State.boundary (s : State) (p inst : Nat) : State :=
  if p = 0x08 || p = 0x0A || p = 0x0B || p = 0x0C then (if s.tickRuns then s.tickBoundary.refresh else s)
  else if 0x10 ≤ p ∧ p ≤ 0x15 then s.applySchedule (p - 0x10)
  else if p = 0x18 then s.applyPolls
  else if p = 0x20 then s.gateBoundary (inst % 4)
  else if 0x31 ≤ p ∧ p ≤ 0x38 then s.applyShadows p (fun k => !isStructural k)
  else if 0x39 ≤ p ∧ p ≤ 0x3E then s.viewConfigure (p - 0x39)
  else if 0x40 ≤ p ∧ p ≤ 0x45 then s.applyShadows p anyKey
  else if p = 0x30 || p = 0x48 || p = 0x49 then s.viewConfigure (inst % 6)
  else if p = 0x71 then s.updBoundary
  else s

/-! ### Indirect tables (R81, R82) -/

/-- Bits of IND_ADDR of a page. -/
def indMask (p : Nat) : Word := w32 (2 ^ (Nat.log2 (tabTop p) + 1) - 1)
/-- The word is a data word of a transmit object or event buffer (R354). -/
def isBufData (ix : Nat) : Bool := 0x800 ≤ ix && ix < 0x1400 && 2 ≤ ix % 32 && ix % 32 < 18
/-- A service core may not write configuration of the vision path while SVC_CFG_EN is 0 (R284, R323). -/
def State.visRefuses (s : State) (i : Init) (k : Nat) : Bool :=
  let p := keyPage k
  isSvc i && !s.rb 0x30 0x08 0 &&
    ((0x31 ≤ p && p ≤ 0x45 && ((accOf k).ab || (p ≤ 0x38 && k = rk p 0x40))) || (p = 0x49 && (accOf k).ab))
/-- A write of word `ix` of a CAN channel's table (R333, R334, R354): the second part says that it was performed. -/
def State.canTab (s : State) (i : Init) (n ix : Nat) (addr v : Word) : State × Bool :=
  let p := canPage n
  let o := (ix - 0x800) / 32
  let b := (ix - 0x1000) / 32
  let obj := 0x800 ≤ ix && ix < 0x1000
  let buf := 0x1000 ≤ ix && ix < 0x1400
  if obj && (isBufData ix || ix % 32 = 18) then
    if !bit (s.tab p (objBase o + 1)) 10 then (s.refuse i addr 4, false)
    else if ix % 32 = 18 then (s.completeObj n o, true)
    else (s.setTab p ix v, true)
  else if buf && ix % 32 < 18 && s.rb p 0x80 b then (s.refuse i addr 4, false)
  else if buf && isBufData ix then (s.setTab p ix v, true)
  else ((s.putWord i (tk p ix) addr v).afterWord (tk p ix), true)
/-- RTC_ALARM takes a value; one already passed acts at once where an alarm can wake the module (R472, R475). -/
def State.rtcAlarmSet (s : State) (v : Word) : State :=
  let s := { s with keep := { s.keep with rtcAlarm := v.toNat } }
  if v ≠ 0 && !later 32 v.toNat s.keep.rtcS && s.rb 0x72 0x48 2 && s.mayWake then
    ({ s with keep := { s.keep with rtcAlarm := 0 } }).wakeBy 3
  else s
/-- A write of IND_DATA acts on the word at IND_ADDR. The index moves on, for a KP word only when its pair completes; a write that
is refused leaves it, and so does a voted one, which finds no word with code VW. -/
def State.indWrite (s : State) (i : Init) (p : Nat) (addr v : Word) : State :=
  let ix := s.indAddr p
  let k := tk p ix
  if !hasTable p || i = .vote then s
  else if p = 0x02 && ix < 0x100 && s.rb 0x02 0x08 8 then s.refuse i addr 0xD
  else if p = 0x02 && 0x100 ≤ ix && ix < 0x200 && evAbsent s.variant (ix - 0x100) then s.indNext p
  else if isForceKey k && !s.forceable ((ix - 0x4000) / 4) then s.refuse i addr 4
  else if s.visRefuses i k then s.refuse i addr 4
  else if 0x10 ≤ p ∧ p ≤ 0x15 then
    let r := s.canTab i (p - 0x10) ix addr v
    if r.2 then r.1.indNext p else r.1
  else if k = tk 0x72 1 then (s.rtcAlarmSet v).indNext p
  else if (accOf k).kp ≠ 0 then s.putWord i k addr v
  else ((s.putWord i k addr v).afterWord k).indNext p

/-! ### Words that act -/

/-- Semaphore `k` (R95): FORCE, RELEASE and ACQUIRE in that order. -/
def State.semWrite (s : State) (i : Init) (k : Nat) (addr v : Word) : State :=
  let off := 0x80 + 4 * k
  let me := initCode i
  let s := if bit v 10 && i = .mgmt then s.wr 0x03 off 0xF else s
  let s :=
    if !bit v 9 then s
    else if s.rf 0x03 off 0 4 = me then s.wr 0x03 off 0xF
    else s.accessFault i addr 0xF
  if bit v 8 && s.rf 0x03 off 0 4 = 0xF then s.wr 0x03 off (w32 me) else s
/-- A pending bank of EVR (R60). -/
def State.bankWrite (s : State) (i : Init) (off : Nat) (addr v : Word) : State :=
  let b := (off - 0x100) / 0x20
  let own : Bool := match i with | .mgmt => true | .svc n => n.val = b | _ => false
  if !own || v = 0 then s.refuse i addr 0xC else s.wr 0x02 off (s.rd 0x02 off &&& ~~~v)
/-- CMD, ARG, DOORBELL and STATUS of a mailbox instance (R99, R100). CMD and ARG are kept while BUSY is 1. -/
def State.boxWrite (s : State) (i : Init) (p off : Nat) (addr v : Word) : State :=
  let n := if p = 0x01 then 0 else p - 0x7F
  if 0x40 ≤ off && off < 0x7C then
    if s.boxBusy n then s.accessFault i addr 0xB
    else
      let s := s.wr p off v
      if off ≠ 0x40 then s
      else
        let s := s.modBox n (fun b => { b with kpDone := false })
        if fld v 0 8 = 0x52 then s.kpStart ⟨p, rk p 0x40, addr, v, initCode i⟩ else s
  else if off = 0x7C then s.doorbell i n addr v
  else s.putWord i (rk p off) addr v
/-- A write of the PTP measurement's high offset word delivers the measurement (R133). -/
def State.measDeliver (s : State) : State :=
  let t := (s.rd 0x05 0x64).toNat + 2 ^ 32 * (s.rd 0x05 0x68).toNat
  s.tbMeasure 1 t (signed 64 ((s.rd 0x05 0x6C).toNat + 2 ^ 32 * (s.rd 0x05 0x70).toNat))
/-- Initiators that may write a word of TB (R147). -/
def tbWriter (i : Init) (off : Nat) : Bool := i = .mgmt || ((i = .hw || isSvc i) && 0x64 ≤ off && off ≤ 0x70)
/-- DS_WIN: payload of the input dataset that DS_SEL names (R366). -/
def State.dsWrite (s : State) (off : Nat) (v : Word) : State :=
  let d := s.rf 0x20 0x74 0 10
  if 1432 ≤ off || bit (s.tab 0x20 (0x800 + d)) 11 then s
  else
    let bank := (bytesOf v).zipIdx.foldl (fun b (c : Byte × Nat) => stSet 0 b (2048 * d + off + c.2) c.1) s.net.dsReady
    { s with net := { s.net with dsReady := bank } }
/-- A word of a DMA channel's set (R374, R382). -/
def State.dmaWrite (s : State) (i : Init) (off : Nat) (addr v : Word) : State :=
  let c := (off - 0x40) / 0x20
  let o := (off - 0x40) % 0x20
  if o = 8 then s.dmaLog2 c v
  else if o = 0x10 then s.dmaTailSet c v
  else if o = 0x14 then s.dmaCtrl c v
  else s.putWord i (rk 0x22 off) addr v
/-- The parameter area of a view takes words from Troika alone (R274). -/
def State.paramWrite (s : State) (i : Init) (v off : Nat) (addr x : Word) : State :=
  if i ≠ .troika then s.refuse i addr 4
  else if off = 0x200 then s.viewCommit v x
  else s.modView v (fun y => { y with writeBank := alSet y.writeBank off x })
/-- Registers of the CAN pages that act. -/
def State.canWrite (s : State) (i : Init) (n off : Nat) (addr v : Word) : State :=
  let k := rk (canPage n) off
  if off = 0x40 then s.canCtrl n v
  else if off = 0x80 then s.evbRequest n v
  else if off = 0x84 then s.evbAbortReq n v
  else (s.putWord i k addr v).afterWord k
/-- Registers of the data plane's pages that act. -/
def State.dataWrite (s : State) (i : Init) (p off : Nat) (addr v : Word) : State :=
  let k := rk p off
  if s.visRefuses i k then s.refuse i addr 4
  else if p = 0x20 && off = 0x78 then s.dsCommitted (fld v 0 10)
  else if p = 0x20 && 0x800 ≤ off then s.dsWrite (off - 0x800) v
  else if p = 0x22 && 0x40 ≤ off && off < 0x140 then s.dmaWrite i off addr v
  else if 0x31 ≤ p && p ≤ 0x38 && off = 0x40 then s.camCtrl (p - 0x31) v
  else if 0x31 ≤ p && p ≤ 0x38 && off = 0x94 then s.i2cCmd (p - 0x31) v
  else if 0x39 ≤ p && p ≤ 0x3E && 0x200 ≤ off && off < 0x480 then s.paramWrite i (p - 0x39) off addr v
  else if 0x40 ≤ p && p ≤ 0x45 && off = 0x64 then s.dcsCtrl (p - 0x40) v
  else if p = 0x49 && 0x40 ≤ off && off < 0x1C0 && (off - 0x40) % 0x40 = 0x38 then
    (if bit v 0 then s.watchRelease ((off - 0x40) / 0x40) else s)
  else (s.putWord i k addr v).afterWord k
/-- Registers of the management plane's pages that act. -/
def State.mgmtWrite (s : State) (i : Init) (p off : Nat) (addr v : Word) : State :=
  let k := rk p off
  if p = 0x60 && off = 0x44 then s.tackCmd v
  else if p = 0x61 && off = 0x4C then (if i = .mgmt then s.spookClear v else s.refuse i addr 4)
  else if p = 0x70 && off = 0x6C then (if fld v 0 16 < 0x8000 then s.refuse i addr 4 else s.appCode (initCode i) v)
  else if p = 0x70 && 0x70 ≤ off && off ≤ 0x78 then s.wr 0x70 (appOff (initCode i) ((off - 0x70) / 4)) v
  else (s.putWord i k addr v).afterWord k
/-- A register below the tables takes a value. -/
def State.regWrite (s : State) (i : Init) (p off : Nat) (addr v : Word) : State :=
  let k := rk p off
  if p = 0x01 || 0x80 ≤ p then s.boxWrite i p off addr v
  else if p = 0x02 && 0x100 ≤ off && off < 0x1A0 then s.bankWrite i off addr v
  else if p = 0x03 && 0x80 ≤ off && off < 0xC0 then s.semWrite i ((off - 0x80) / 4) addr v
  else if p = 0x05 && off = 0x70 then (s.putWord i k addr v).measDeliver
  else if p = 0x07 && off = 0x5C then (if bit v 9 then s.reintAbort else s).putWord i k addr v
  else if p = 0x09 && off = 0x68 then (if bit v 2 then s.ocEnd 7 else s).putWord i k addr v
  else if p = 0x09 && 0x800 ≤ off then s.ocWrite ((off - 0x800) / 4) v
  else if 0x10 ≤ p ∧ p ≤ 0x15 then s.canWrite i (p - 0x10) off addr v
  else if pagePlane p = .data then s.dataWrite i p off addr v
  else if pagePlane p = .management then s.mgmtWrite i p off addr v
  else (s.putWord i k addr v).afterWord k
/-- The words of the VW pages that a voted write reaches (R98, R180, R196, R199, R221), with the header words of R79 and R81. -/
def vwWord (p off : Nat) : Bool :=
  [0x28, 0x2C, 0x30].contains off ||
    (if p = 0x01 then off = 0x14 || off = 0x18 || off = 0x20 || (0x40 ≤ off && off ≤ 0x80)
    else if p = 0x03 then 0x80 ≤ off && off < 0xC0
    else if p = 0x07 then off = 0x48 || off = 0x5C
    else if p = 0x08 then [0x40, 0x44, 0x48, 0x4C].contains off
    else p = 0x09 && off = 0x40)
/-- A page takes a word: the header's words act alike on every page. -/
def State.writeWord (s : State) (i : Init) (p off : Nat) (addr v : Word) : State :=
  if i = .vote && !vwWord p off then s
  else if p = 0x05 && !tbWriter i off then s.refuse i addr 4
  else if p = 0x07 && off = 0x5C && !(i = .mgmt || i = .vote || isSvc i) then s.refuse i addr 4
  else if off = 0x20 then s.applyWrite i p addr v
  else if off = 0x28 then s.kpDrop p
  else if off = 0x2C then s.keyN i p v
  else if off = 0x30 then (if hasTable p then s.wr p 0x30 (v &&& indMask p) else s)
  else if off = 0x34 then s.indWrite i p addr v
  else s.regWrite i p off addr v

end Sys2Proof.Machine
end

