-- ==== Sys2Proof/Machine/Bus.lean ====
section
/-! DEFINITION. Accesses of the register bus (R71 to R100) and the rows that are one: writes by every initiator, the write vote
(R87 to R89), releases from a lane (R160 to R162), inbound PCIe accesses (R376), boundaries. -/

namespace Sys2Proof.Machine

/-! ### Writes (R72, R73, R90) -/

/-- The word that a write to a memory window leaves where it is narrow. -/
def State.windowWord (s : State) (p off : Nat) (addr : Word) (n : Nat) (v : Word) : Word :=
  if 4 ≤ n then v
  else
    let old := if p = 0x20 then s.dsWord (off - 0x800)
      else if p = 0x09 then s.memWord (ocMem (s.rf 0x09 0x70 0 21 + (off - 0x800)))
      else s.rd p off
    setFld old (8 * (addr.toNat % 4)) (8 * n) v.toNat
/-- One access of at most 32 bits writes. A bus error of a posted write is counted and does not reach its initiator (R72). -/
def State.writePart (s : State) (i : Init) (addr : Word) (n : Nat) (v : Word) (atomic : Bool) : State :=
  let p := pageOf i addr
  let off := offOf addr / 4 * 4
  match s.gate i addr n true atomic with
  | .nowhere => s.refuseNowhere i addr
  | .zero => s
  | .held => s
  | .refuse c => s.refuseWrite i addr c
  | .pass =>
    let t := s.writeWord i p off addr (s.windowWord p off addr n v)
    if t.bus.err && s.posted i p then { t.sat16 0x03 0x44 with bus := s.bus } else t
/-- A write of register space: its parts are performed in rising order, each whatever became of the others. -/
def State.busWrite (s : State) (i : Init) (addr : Word) (n : Nat) (vs : List Word) (atomic : Bool) : State :=
  let s := { s with bus := {} }
  if !isRegSpace addr || !accessSize n then s
  else if wideUnaligned addr n then
    match s.gate i (w32 (addr.toNat / 4 * 4)) 4 true atomic with
    | .pass => s.refuseWrite i addr 2
    | .refuse c => s.refuseWrite i addr c
    | .nowhere => s.refuseNowhere i addr
    | _ => s
  else
    let r := ((accessParts addr n).zipIdx).foldl (fun (c : State × Bool) x =>
      let t := ({ c.1 with bus := {} }).writePart i x.1.1 x.1.2 (vs.getD x.2 0) atomic
      (t, c.2 || t.bus.err)) (s, false)
    { r.1 with bus := { err := r.2 } }

/-! ### The write vote (R87 to R89) -/

/-- A slot replaced in its place, or added at its number's. -/
def putSlot (l : List VwSlot) (k : VwSlot) : List VwSlot :=
  if l.any (fun x => x.num = k.num) then l.map (fun x => if x.num = k.num then k else x) else l ++ [k]
def State.setSlot (s : State) (k : VwSlot) : State := { s with vw := { s.vw with slots := putSlot s.vw.slots k } }
/-- VWRITE_SPLIT, once per write number. -/
def State.vwSplit (s : State) (k : VwSlot) : State :=
  match k.matched with
  | some (a, _) => if k.splitRaised then s.setSlot k else (s.setSlot { k with splitRaised := true }).vwError 6 28 a
  | none => s.setSlot k
/-- A voted store of lane `l` enters the write vote. A lane whose queue of 16 is full waits; one that does not vote is not
heard. -/
def State.vwArrive (s : State) (l : Nat) (addr v : Word) : State :=
  let n := s.vw.issued.getD l 0
  if !s.voting l || s.vw.base + 16 ≤ n then s
  else
    let s := { s with vw := { s.vw with issued := s.vw.issued.set l (n + 1) } }
    let known := s.vw.slots.find? (fun k => k.num = n)
    if known.isNone && n < s.vw.base then s.vwSettle
    else
      let k := known.getD { num := n, got := [] }
      let k' : VwSlot := { k with got := k.got ++ [(l, addr, v)] }
      let s :=
        if k.dropped then s
        else match k.matched with
          | some m => if m = (addr, v) then s.setSlot k' else s.vwSplit k'
          | none =>
            match s.vwMatch k' with
            | some m =>
              let k' := { k' with matched := some m }
              if k'.got.any (fun g => g.2 ≠ m) then s.vwSplit k' else s.setSlot k'
            | none => if s.votingCount < 2 then (s.setSlot k').vwDrop k' else s.setSlot k'
      s.vwSettle
/-- The write at the front is executed where it has matched. -/
def State.vwExecute (s : State) : State :=
  let s := s.vwSettle
  match s.vw.slots.find? (fun k => k.num = s.vw.base) with
  | none => s
  | some k =>
    match k.matched with
    | none => s
    | some (a, v) =>
      let bus := s.bus
      let s := (s.setSlot { k with executed := true }).busWrite .vote a 4 [v] false
      ({ s.retireSlot k.num with bus := bus }).vwSettle
/-- 10,000 IOCLK cycles after the first arrival of the oldest number that is still open: a lane that has not written it is late,
or the number is dropped. -/
def State.vwTimeout (s : State) : State :=
  let late (k : VwSlot) : Bool := k.matched.isSome && !k.splitRaised && !s.vwAllIn k.num
  match s.vw.slots.find? (fun k => !k.dropped && (k.matched.isNone || late k)) with
  | none => s
  | some k => (if k.matched.isSome then s.vwSplit k else s.vwDrop k).vwSettle
/-- A page whose lane stores pass the write vote (R75, R98, R180, R221). -/
def votedTarget (addr : Word) : Bool :=
  let p := rawPage addr
  vwPage p || (p = 0x03 && 0x80 ≤ offOf addr && offOf addr < 0xC0)
/-- A store of lane `l` to register space (R72, R75, R87, R170, R180): a narrow or unaligned one never leaves the lane; DONE and
LANE_SAFE are written directly, the VW pages by vote, and any other page ignores it. DONE's cycle is the time since the tick. -/
def State.laneStore (s : State) (l : Fin 3) (addr : Word) (n : Nat) (v : Word) (atomic : Bool) : State :=
  let s := { s with bus := {} }
  if !isRegSpace addr || !accessSize n then s
  else if n ≠ 4 || addr.toNat % 4 ≠ 0 then s.laneTrap l.val 7 (s.lane l.val).pc
  else match s.gate (.lane l) addr 4 true atomic with
    | .pass =>
      if addr = addrOf 0x07 0x54 then s.completion l.val false v ((s.tb.count - s.dueTick) / 5)
      else if addr = addrOf 0x07 0x80 then s.laneSafe l.val false (bit v 0)
      else if votedTarget addr then s.vwArrive l.val addr v
      else s
    | .refuse c => s.refuse (.lane l) addr c
    | .nowhere => s.refuseNowhere (.lane l) addr
    | .zero => s
    | .held => s
/-- A write on behalf of an initiator. -/
def State.initWrite (s : State) (i : Init) (addr : Word) (n : Nat) (vs : List Word) (atomic : Bool) : State :=
  match i with
  | .lane l => s.laneStore l addr n (vs.headD 0) atomic
  | _ => (s.busWrite i addr n vs atomic).reintFollow
/-- One aligned word written. -/
def State.put1 (s : State) (i : Init) (p off : Nat) (v : Word) : State := s.initWrite i (addrOf p off) 4 [v] false
/-- A value and its complement: both parts of a key pair (R79). -/
def State.putPair (s : State) (i : Init) (p off : Nat) (v : Word) : State := (s.put1 i p off v).put1 i p 0x2C (~~~v)
/-- A table word written through IND_ADDR and IND_DATA. -/
def State.putTab (s : State) (i : Init) (p ix : Nat) (v : Word) : State := (s.put1 i p 0x30 (w32 ix)).put1 i p 0x34 v

/-! ### Releases from a lane (R160 to R162, R164, R165) -/

/-- The datum of a load from a register page enters a core: its register takes it, in a cycle of its own (R161). -/
def State.loadDatum (s : State) (l : Nat) (sh : Bool) (e : Egress) : State :=
  let v := extendLoad e.bytes e.signed s.bus.data
  let w := sigVec v 0 0 0 (sigTag (wbCode e.wb) e.wbReg 0)
  let wl := s.winCfg l
  s.modLane l (fun x => (if sh || s.laneAlone l then x else lclk wl w w none x).onCore sh (fun c => c.put e.wb e.wbReg v))
/-- A released access leaves the lane: a load is performed, a store waits for its own command. -/
def State.releaseEntry (s : State) (l : Fin 3) (e : Egress) : State :=
  if e.write then s.modLane l.val (fun x => { x with ioq := x.ioq ++ [e], outLocked := x.outLocked || e.addr = addrOf 0x07 0x54 })
  else
    let s := s.busRead (.lane l) e.addr e.bytes false
    if s.bus.err then s.laneTrap l.val 5 e.pc else s.loadDatum l.val false e
/-- The register access of an instruction of a lane that runs alone is performed at once (R164). -/
def State.aloneAccess (s : State) (l : Fin 3) (sh : Bool) (e : Egress) : State :=
  if e.write then s.laneStore l e.addr e.bytes e.data false
  else
    let s := s.busRead (.lane l) e.addr e.bytes false
    if s.bus.err then s.coreTrap l.val sh 5 e.pc else s.loadDatum l.val sh e
/-- One instruction of a core of lane `l`, with its register access where the lane runs alone. -/
def State.laneInstr (s : State) (l : Fin 3) (r : Retire) : State :=
  let t := s.laneStep l.val r
  if s.laneIdle l.val || !s.laneAlone l.val || (r.shadow && s.laneState l.val ≠ 4) || (s.laneExc l.val r).isSome then t
  else match retireEgress r with
    | some e => t.aloneAccess l r.shadow e
    | none => t
/-- The comparison of the oldest closed window of lane `l`. -/
def State.compareWindow (s : State) (l : Fin 3) (railsOk flagged : Bool) : State :=
  let st := s.laneState l.val
  match (s.lane l.val).closed with
  | [] => s
  | c :: rest =>
    if st < 1 || 3 < st then s
    else
      let o (x : Nat) : Nat := laneOff l.val x
      let s := (s.inc32 0x06 (o 0xC)).modLane l.val (fun x => { x with closed := rest })
      let s := (s.wr 0x06 (o 0x18) (w32 c.sigMain.toNat)).wr 0x06 (o 0x1C) (w32 (c.sigMain.toNat / 2 ^ 32))
      if !railsOk || c.sigMain ≠ c.sigShadow then (s.raise (laneEv l.val 0) 0 0 0).failLane l.val 1
      else
        let s := match c.entry with
          | none => s
          | some e => s.releaseEntry l e
        let s := if (s.lane l.val).splitPend then (if s.maySplit l.val then s.enterSplit l.val else s.refuseSplit l.val) else s
        if s.rd 0x06 (o 0xC) &&& 0xFF ≠ 0xFF then s
        else if flagged then s.inc32 0x06 (o 0x14)
        else (s.raise (laneEv l.val 1) 0 0 0).failLane l.val 2

/-! ### Rows: registers -/

def execGeneralRegisterWrite (i : Init) (addr : Word) (bytes : Nat) (vs : List Word) (atomic : Bool) (s : State) :=
  answer s (s.initWrite i addr bytes vs atomic)
def execIndDataWrite (i : Init) (page : Fin 128) (v : Word) (s : State) := answer s (s.put1 i page.val 0x34 v)
def execKpValueWrite (i : Init) (addr : Word) (v : Word) (s : State) := answer s (s.initWrite i addr 4 [v] false)
def execKeyNWrite (i : Init) (page : Fin 128) (v : Word) (s : State) := answer s (s.put1 i page.val 0x2C v)
def execKeyWrite (i : Init) (page : Fin 128) (v : Word) (s : State) := answer s (s.put1 i page.val 0x28 v)
def execKeypairExpiry (page : Nat) (s : State) := answer s (s.kpExpire page)
def execAbWrite (i : Init) (addr : Word) (v : Word) (s : State) := answer s (s.initWrite i addr 4 [v] false)
def execBoundaryApply (page inst : Nat) (s : State) := answer s (if s.pageUp page then s.boundary page inst else s)
def execApply (i : Init) (page : Fin 128) (v : Word) (s : State) := answer s (s.put1 i page.val 0x20 v)
/-- R77: only the bits of the low half that the high half selects take the written value. -/
def execWmRegisterWrite (i : Init) (addr : Word) (v : Word) (s : State) :=
  answer s (s.initWrite i addr 4 [wmMerge (s.rd (pageOf i addr) (offOf addr)) v] false)
def execEvrPendW1c (i : Init) (bank : Fin 5) (w : Fin 8) (v : Word) (s : State) :=
  answer s (s.put1 i 0x02 (0x100 + 0x20 * bank.val + 4 * w.val) v)
/-- Index, value and complement of a route word (R67). -/
def execRouteWordWrite (i : Init) (n : Fin 256) (v : Word) (s : State) :=
  answer s ((s.putTab i 0x02 n.val v).put1 i 0x02 0x2C (~~~v))
/-- An occurrence of an event whose earlier occurrence is still crossing is merged with it (R64). -/
def execEventOccurrence (n : Fin 256) (p0 p1 p2 : Word) (unacked : Bool) (s : State) :=
  answer s (if unacked then s else s.occur n.val p0 p1 p2)
/-- A voted store arrives; it leaves the lane's queue of released accesses where it waited there. -/
def execVotedWriteArrival (l : Fin 3) (addr : Word) (v : Word) (s : State) :=
  answer s (
    let t := s.laneStore l addr 4 v false
    if votedTarget addr && t.vw.issued = s.vw.issued && s.voting l.val then t
    else t.dropIo l.val (fun e => e.write && e.addr = addr && e.data = v))
def execVotedWriteExecute (s : State) := answer s (s.vwExecute).reintFollow
def execVotedWriteTimeout (s : State) := answer s s.vwTimeout
/-- A request that lost to a control-plane request is repeated and then performed (R93). -/
def execBridleRetry (i : Init) (addr : Word) (v : Option Word) (s : State) :=
  answer s (
    if !isRegSpace addr || !bridled i (pageOf i addr) then s
    else
      let s := (s.sat16 0x03 0x40).raise 24 0 0 0
      match v with
      | none => s.initRead i addr 4
      | some v => s.initWrite i addr 4 [v] false)
def execSemAcquire (i : Init) (k : Fin 16) (s : State) := answer s (s.put1 i 0x03 (0x80 + 4 * k.val) 0x100)
def execSemRelease (i : Init) (k : Fin 16) (s : State) := answer s (s.put1 i 0x03 (0x80 + 4 * k.val) 0x200)
def execSemForce (i : Init) (k : Fin 16) (s : State) := answer s (s.put1 i 0x03 (0x80 + 4 * k.val) 0x400)
def execMboxDoorbell (i : Init) (v : Word) (s : State) := answer s (s.put1 i 0x01 0x7C v)
def execMeasOfsHiWrite (i : Init) (v : Word) (s : State) := answer s (s.put1 i 0x05 0x70 v)

/-! ### Rows: lanes and the program -/

def execLaneInstruction (l : Fin 3) (r : Retire) (s : State) := answer s (s.laneInstr l r).reintFollow
def execLockstepCompare (l : Fin 3) (railsOk : Bool) (selfTestFlagged : Bool) (s : State) :=
  answer s (s.compareWindow l railsOk selfTestFlagged).reintFollow
/-- START, with the fields of the written word (R190). -/
def execReintStart (i : Init) (v : Word) (s : State) := answer s (s.putPair i 0x07 0x5C ((v &&& 0x1033) ||| 0x100))
def execReintAbort (i : Init) (s : State) := answer s (s.put1 i 0x07 0x5C 0x200)
def execSplitReq (i : Init) (l : Fin 3) (s : State) := answer s (s.putPair i 0x06 (laneOff l.val 0) 1)
def execFailReq (i : Init) (l : Fin 3) (s : State) := answer s (s.putPair i 0x06 (laneOff l.val 0) 2)
def execModeReqRun (i : Init) (cold : Bool) (s : State) := answer s (s.putPair i 0x09 0x40 (w32 (1 + 0x10 * b2n cold)))
def execModeReqStop (i : Init) (s : State) := answer s (s.putPair i 0x09 0x40 2)
def execModeReqHold (i : Init) (s : State) := answer s (s.putPair i 0x09 0x40 3)
def execOcOpen (i : Init) (s : State) := answer s (s.putPair i 0x09 0x68 1)
def execOcWinWrite (i : Init) (off : Fin 512) (v : Word) (s : State) := answer s (s.put1 i 0x09 (0x800 + 4 * off.val) v)
/-- ARM; the operand says what the relocation list in the header of the loaded image reads as (R212, R213). -/
def execOcArm (i : Init) (areas : List (Nat × Nat × Nat)) (s : State) :=
  answer s (
    let t := s.putPair i 0x09 0x68 2
    if s.ocState = 1 && t.ocState = 2 then
      t.ocList areas
    else t)
def execOcAbort (i : Init) (s : State) := answer s (s.put1 i 0x09 0x68 4)
/-- A force word: index, value and complement (R215, R223). -/
def execForceWrite (i : Init) (sig : Fin 4096) (word : Fin 3) (v : Word) (s : State) :=
  answer s ((s.putTab i 0x0A (0x4000 + 4 * sig.val + word.val) v).put1 i 0x0A 0x2C (~~~v))

/-! ### Rows: the data plane and the networks -/

def execCamRun (c : Fin 8) (i : Init) (v : Word) (s : State) := answer s (s.put1 i (camPage c.val) 0x40 v)
def execI2cStart (c : Fin 8) (i : Init) (v : Word) (s : State) := answer s (s.put1 i (camPage c.val) 0x94 (v ||| 0x1_0000))
def execDcsSend (d : Fin 6) (i : Init) (v : Word) (s : State) := answer s (s.put1 i (dspPage d.val) 0x64 (v ||| 0x100))
def execCanModeWrite (n : Fin 6) (i : Init) (v : Word) (s : State) := answer s (s.put1 i (canPage n.val) 0x40 v)
def execCanObjectUpdate (n : Fin 6) (o : Fin 64) (i : Init) (s : State) :=
  answer s (s.putTab i (canPage n.val) (objBase o.val + 18) 0)
def execEvbReq (n : Fin 6) (i : Init) (v : Word) (s : State) := answer s (s.put1 i (canPage n.val) 0x80 v)
def execEvbAbort (n : Fin 6) (i : Init) (v : Word) (s : State) := answer s (s.put1 i (canPage n.val) 0x84 v)
/-- RECOVER beside the other fields of CTRL as they are (R337). -/
def execCanRecover (n : Fin 6) (i : Init) (s : State) :=
  answer s (s.put1 i (canPage n.val) 0x40 (setBit (s.rd (canPage n.val) 0x40) 3 true))
def execDsCommit (i : Init) (v : Word) (s : State) := answer s (s.put1 i 0x20 0x78 v)
def execDmaTailWrite (c : Fin 8) (i : Init) (v : Word) (s : State) := answer s (s.put1 i 0x22 (dmaOff c.val 0x10) v)
/-- CTRL of a DMA channel with one of its bits changed (R374). -/
def execDmaEnable (c : Fin 8) (i : Init) (s : State) :=
  answer s (s.put1 i 0x22 (dmaOff c.val 0x14) (setBit (s.dmaWord c.val 0x14) 0 true))
def execDmaDisable (c : Fin 8) (i : Init) (s : State) :=
  answer s (s.put1 i 0x22 (dmaOff c.val 0x14) (setBit (s.dmaWord c.val 0x14) 0 false))
def execDmaResume (c : Fin 8) (i : Init) (s : State) :=
  answer s (s.put1 i 0x22 (dmaOff c.val 0x14) (setBit (s.dmaWord c.val 0x14) 1 true))
/-- An access to the shared SRAM from the host (R376). -/
def State.pcieSram (s : State) (addr n : Nat) (w : Option (List Word)) : State :=
  match w with
  | some vs =>
    if s.rb 0x23 0x40 1 then s.setBytes (sramMem addr) ((wordsBytes vs).take n) else s.sat16 0x23 0x54
  | none =>
    let ws := (List.range ((n + 3) / 4)).map (fun j => bytesWord (s.bytes (sramMem (addr + 4 * j)) (min 4 (n - 4 * j))))
    { s with bus := { data := ws.headD 0, more := ws.tail } }
/-- An access to the MSI-X structures, by whole words. -/
def State.pcieMsix (s : State) (addr n : Nat) (w : Option (List Word)) : State :=
  let words := List.range (n / 4)
  match w with
  | some vs => words.foldl (fun t j => t.msixWrite (addr / 4 * 4 + 4 * j) (vs.getD j 0)) s
  | none =>
    let ws := words.map (fun j => s.msixWord (addr / 4 * 4 + 4 * j))
    { s with bus := { data := ws.headD 0, more := ws.tail } }
/-- An access from the host: BAR0 is a register access of initiator 0xA, BAR2 the shared SRAM, BAR4 the MSI-X structures (R375,
R376). In a service pause it holds (R437). -/
def State.pcieInbound (s : State) (bar : Bar) (addr n : Nat) (w : Option (List Word)) : State :=
  if !s.pcieUp || s.inPause then s
  else match bar with
    | .barRegs =>
      if 0x100_0000 < addr + n then s
      else match w with
        | none => s.busRead .pcie (w32 (0x4000_0000 + addr)) n false
        | some vs => s.busWrite .pcie (w32 (0x4000_0000 + addr)) n vs false
    | .barSram => if 0x100_0000 < addr + n then s else s.pcieSram addr n w
    | .barMsix => if 0x2000 < addr + n then s else s.pcieMsix addr n w
def execPcieInboundAccess (bar : Bar) (addr bytes : Nat) (w : Option (List Word)) (s : State) :=
  answer s (s.pcieInbound bar addr bytes w).reintFollow

/-! ### Rows: the tack room, the spook alarm, the recorder -/

/-- OP_CMD with an operation and START, its slots and streaming bits as written (R406, R407). -/
def State.tackStart (s : State) (i : Init) (op : Nat) (v : Word) : State :=
  s.put1 i 0x60 0x44 (setBit (setFld v 0 8 op) 31 true)
def execTackOpAesGcmEncrypt (i : Init) (v : Word) (s : State) := answer s (s.tackStart i 0x01 v)
def execTackOpAesGcmDecrypt (i : Init) (v : Word) (s : State) := answer s (s.tackStart i 0x02 v)
def execTackOpAesCtr (i : Init) (v : Word) (s : State) := answer s (s.tackStart i 0x03 v)
def execTackOpAesCmac (i : Init) (v : Word) (s : State) := answer s (s.tackStart i 0x04 v)
def execTackOpSha256 (i : Init) (v : Word) (s : State) := answer s (s.tackStart i 0x10 v)
def execTackOpSha384 (i : Init) (v : Word) (s : State) := answer s (s.tackStart i 0x11 v)
def execTackOpHmacSha256 (i : Init) (v : Word) (s : State) := answer s (s.tackStart i 0x12 v)
def execTackOpHmacSha384 (i : Init) (v : Word) (s : State) := answer s (s.tackStart i 0x13 v)
def execTackOpEcdsaSignP256 (i : Init) (v : Word) (s : State) := answer s (s.tackStart i 0x20 v)
def execTackOpEcdsaSignP384 (i : Init) (v : Word) (s : State) := answer s (s.tackStart i 0x21 v)
def execTackOpEcdsaVerifyP256 (i : Init) (v : Word) (s : State) := answer s (s.tackStart i 0x22 v)
def execTackOpEcdsaVerifyP384 (i : Init) (v : Word) (s : State) := answer s (s.tackStart i 0x23 v)
def execTackOpEcdhP256 (i : Init) (v : Word) (s : State) := answer s (s.tackStart i 0x30 v)
def execTackOpEcdhP384 (i : Init) (v : Word) (s : State) := answer s (s.tackStart i 0x31 v)
def execTackOpHkdf (i : Init) (v : Word) (s : State) := answer s (s.tackStart i 0x40 v)
def execTackOpDrbgGenerate (i : Init) (v : Word) (s : State) := answer s (s.tackStart i 0x50 v)
def execTackOpGenerateKey (i : Init) (v : Word) (s : State) := answer s (s.tackStart i 0x60 v)
def execTackOpImportWrapped (i : Init) (v : Word) (s : State) := answer s (s.tackStart i 0x61 v)
def execTackOpExportWrapped (i : Init) (v : Word) (s : State) := answer s (s.tackStart i 0x62 v)
def execTackOpDelete (i : Init) (v : Word) (s : State) := answer s (s.tackStart i 0x63 v)
def execTackOpImportPlaintext (i : Init) (v : Word) (s : State) := answer s (s.tackStart i 0x64 v)
def execSpookLatchW1c (i : Init) (v : Word) (s : State) := answer s (s.put1 i 0x61 0x4C v)
def execAppCodeWrite (i : Init) (v : Word) (s : State) := answer s (s.put1 i 0x70 0x6C v)

end Sys2Proof.Machine
end

