-- ==== Sys2Proof/Machine/Dispatch.lean ====
section
/-! DEFINITION. The meaning of every command: one arm per row of the table of operations and events. -/

namespace Sys2Proof.Machine

/-- The effect of a command on everything but the queue. -/
def exec (i : Instr) (s : State) : Host.Outcome State Fault Refusal :=
  match i with
  | .generalRegisterWrite ini addr bytes vs atomic => Sys2Proof.Machine.execGeneralRegisterWrite ini addr bytes vs atomic s
  | .indDataRead ini page => Sys2Proof.Machine.execIndDataRead ini page s
  | .indDataWrite ini page v => Sys2Proof.Machine.execIndDataWrite ini page v s
  | .kpValueWrite ini addr v => Sys2Proof.Machine.execKpValueWrite ini addr v s
  | .keyNWrite ini page v => Sys2Proof.Machine.execKeyNWrite ini page v s
  | .keyWrite ini page v => Sys2Proof.Machine.execKeyWrite ini page v s
  | .keypairExpiry page => Sys2Proof.Machine.execKeypairExpiry page s
  | .t3ScrubVisit key u => Sys2Proof.Machine.execT3ScrubVisit key u s
  | .abWrite ini addr v => Sys2Proof.Machine.execAbWrite ini addr v s
  | .boundaryApply page inst => Sys2Proof.Machine.execBoundaryApply page inst s
  | .apply ini page v => Sys2Proof.Machine.execApply ini page v s
  | .wmRegisterWrite ini addr v => Sys2Proof.Machine.execWmRegisterWrite ini addr v s
  | .evrPendW1c ini bank w v => Sys2Proof.Machine.execEvrPendW1c ini bank w v s
  | .routeWordWrite ini n v => Sys2Proof.Machine.execRouteWordWrite ini n v s
  | .eventOccurrence n p0 p1 p2 unacked => Sys2Proof.Machine.execEventOccurrence n p0 p1 p2 unacked s
  | .votedWriteArrival l addr v => Sys2Proof.Machine.execVotedWriteArrival l addr v s
  | .votedWriteExecute => Sys2Proof.Machine.execVotedWriteExecute s
  | .votedWriteTimeout => Sys2Proof.Machine.execVotedWriteTimeout s
  | .bridleRetry ini addr v => Sys2Proof.Machine.execBridleRetry ini addr v s
  | .bridleTimeout ini addr write => Sys2Proof.Machine.execBridleTimeout ini addr write s
  | .semAcquire ini k => Sys2Proof.Machine.execSemAcquire ini k s
  | .semRelease ini k => Sys2Proof.Machine.execSemRelease ini k s
  | .semForce ini k => Sys2Proof.Machine.execSemForce ini k s
  | .mboxDoorbell ini v => Sys2Proof.Machine.execMboxDoorbell ini v s
  | .mboxCommandComplete inst err resp => Sys2Proof.Machine.execMboxCommandComplete inst err resp s
  | .ping inst => Sys2Proof.Machine.execPing inst s
  | .getId inst => Sys2Proof.Machine.execGetId inst s
  | .profileSelectStore inst => Sys2Proof.Machine.execProfileSelectStore inst s
  | .profileSelectImmediate inst => Sys2Proof.Machine.execProfileSelectImmediate inst s
  | .profileSelectRevoke inst => Sys2Proof.Machine.execProfileSelectRevoke inst s
  | .profileQuery inst => Sys2Proof.Machine.execProfileQuery inst s
  | .gaitSet inst => Sys2Proof.Machine.execGaitSet inst s
  | .gaitQuery inst => Sys2Proof.Machine.execGaitQuery inst s
  | .bistRun inst => Sys2Proof.Machine.execBistRun inst s
  | .bistResult inst => Sys2Proof.Machine.execBistResult inst s
  | .updOpen inst => Sys2Proof.Machine.execUpdOpen inst s
  | .updWrite inst => Sys2Proof.Machine.execUpdWrite inst s
  | .updVerify inst comps => Sys2Proof.Machine.execUpdVerify inst comps s
  | .updActivate inst => Sys2Proof.Machine.execUpdActivate inst s
  | .updConfirm inst => Sys2Proof.Machine.execUpdConfirm inst s
  | .updAbort inst => Sys2Proof.Machine.execUpdAbort inst s
  | .updStatus inst => Sys2Proof.Machine.execUpdStatus inst s
  | .ownerLockQuery inst => Sys2Proof.Machine.execOwnerLockQuery inst s
  | .ownerLockSet inst => Sys2Proof.Machine.execOwnerLockSet inst s
  | .ownerLockClear inst => Sys2Proof.Machine.execOwnerLockClear inst s
  | .recRead inst => Sys2Proof.Machine.execRecRead inst s
  | .recExport inst => Sys2Proof.Machine.execRecExport inst s
  | .recClearStudbook inst => Sys2Proof.Machine.execRecClearStudbook inst s
  | .martingaleSet inst => Sys2Proof.Machine.execMartingaleSet inst s
  | .timeSetWall inst => Sys2Proof.Machine.execTimeSetWall inst s
  | .getChallenge inst => Sys2Proof.Machine.execGetChallenge inst s
  | .submit inst sigOk => Sys2Proof.Machine.execSubmit inst sigOk s
  | .zeroize inst => Sys2Proof.Machine.execZeroize inst s
  | .duplexRoleQuery inst => Sys2Proof.Machine.execDuplexRoleQuery inst s
  | .duplexRoleSetInhibit inst => Sys2Proof.Machine.execDuplexRoleSetInhibit inst s
  | .duplexRoleClearInhibit inst => Sys2Proof.Machine.execDuplexRoleClearInhibit inst s
  | .duplexYield inst => Sys2Proof.Machine.execDuplexYield inst s
  | .restartWarm inst => Sys2Proof.Machine.execRestartWarm inst s
  | .restartCold x => Sys2Proof.Machine.execRestartCold x s
  | .powerOnReset x elapsedNs => Sys2Proof.Machine.execPowerOnReset x elapsedNs s
  | .bootPhaseOverrun phase => Sys2Proof.Machine.execBootPhaseOverrun phase s
  | .faultReset => Sys2Proof.Machine.execFaultReset s
  | .mgmtWatchdogReset => Sys2Proof.Machine.execMgmtWatchdogReset s
  | .logicLow mv => Sys2Proof.Machine.execLogicLow mv s
  | .logicInInterruption => Sys2Proof.Machine.execLogicInInterruption s
  | .logicInReturn within10ms => Sys2Proof.Machine.execLogicInReturn within10ms s
  | .powerFail => Sys2Proof.Machine.execPowerFail s
  | .powerFailReset returned elapsedNs => Sys2Proof.Machine.execPowerFailReset returned elapsedNs s
  | .holdupCharged => Sys2Proof.Machine.execHoldupCharged s
  | .safeNFilterExpiry x => Sys2Proof.Machine.execSafeNFilterExpiry x s
  | .movingFilterMoving => Sys2Proof.Machine.execMovingFilterMoving s
  | .movingFilterStationary => Sys2Proof.Machine.execMovingFilterStationary s
  | .wakeNWake => Sys2Proof.Machine.execWakeNWake s
  | .roleInChange asserted => Sys2Proof.Machine.execRoleInChange asserted s
  | .ppsIn back => Sys2Proof.Machine.execPpsIn back s
  | .secondMark => Sys2Proof.Machine.execSecondMark s
  | .tbWrap => Sys2Proof.Machine.execTbWrap s
  | .tbNsRead ini => Sys2Proof.Machine.execTbNsRead ini s
  | .measOfsHiWrite ini v => Sys2Proof.Machine.execMeasOfsHiWrite ini v s
  | .tbMeasurement src t theta => Sys2Proof.Machine.execTbMeasurement src t theta s
  | .refSourceTimeout x => Sys2Proof.Machine.execRefSourceTimeout x s
  | .monoTimeSave => Sys2Proof.Machine.execMonoTimeSave s
  | .tbCapture src => Sys2Proof.Machine.execTbCapture src s
  | .controlTick => Sys2Proof.Machine.execControlTick s
  | .fwatchVerdictRead returned => Sys2Proof.Machine.execFwatchVerdictRead returned s
  | .laneCompletion l k cyc => Sys2Proof.Machine.execLaneCompletion l k cyc s
  | .collectDeadline => Sys2Proof.Machine.execCollectDeadline s
  | .laneSafeWrite l demand => Sys2Proof.Machine.execLaneSafeWrite l demand s
  | .reintStart ini v => Sys2Proof.Machine.execReintStart ini v s
  | .reintAbort ini => Sys2Proof.Machine.execReintAbort ini s
  | .autoReintStart l => Sys2Proof.Machine.execAutoReintStart l s
  | .reintResetDone => Sys2Proof.Machine.execReintResetDone s
  | .laneBootDone l hashOk => Sys2Proof.Machine.execLaneBootDone l hashOk s
  | .laneBootTimeout l => Sys2Proof.Machine.execLaneBootTimeout l s
  | .reintCopyPassDone dirtied => Sys2Proof.Machine.execReintCopyPassDone dirtied s
  | .syncTimeout => Sys2Proof.Machine.execSyncTimeout s
  | .laneInstruction l r => Sys2Proof.Machine.execLaneInstruction l r s
  | .laneWindowFull l => Sys2Proof.Machine.execLaneWindowFull l s
  | .lockstepCompare l railsOk selfTestFlagged => Sys2Proof.Machine.execLockstepCompare l railsOk selfTestFlagged s
  | .laneSramScrub l word e => Sys2Proof.Machine.execLaneSramScrub l word e s
  | .laneClockCheck l ppm stopped => Sys2Proof.Machine.execLaneClockCheck l ppm stopped s
  | .splitReq ini l => Sys2Proof.Machine.execSplitReq ini l s
  | .failReq ini l => Sys2Proof.Machine.execFailReq ini l s
  | .debugRequest l a => Sys2Proof.Machine.execDebugRequest l a s
  | .modeReqRun ini cold => Sys2Proof.Machine.execModeReqRun ini cold s
  | .modeReqStop ini => Sys2Proof.Machine.execModeReqStop ini s
  | .modeReqHold ini => Sys2Proof.Machine.execModeReqHold ini s
  | .programStart => Sys2Proof.Machine.execProgramStart s
  | .holdTimeout => Sys2Proof.Machine.execHoldTimeout s
  | .retainRecordWrite done mramOk => Sys2Proof.Machine.execRetainRecordWrite done mramOk s
  | .ocOpen ini => Sys2Proof.Machine.execOcOpen ini s
  | .ocWinWrite ini off v => Sys2Proof.Machine.execOcWinWrite ini off v s
  | .ocArm ini areas => Sys2Proof.Machine.execOcArm ini areas s
  | .ocAbort ini => Sys2Proof.Machine.execOcAbort ini s
  | .ocCheckDone sigOk hashOk listBytes => Sys2Proof.Machine.execOcCheckDone sigOk hashOk listBytes s
  | .forceWrite ini sig word v => Sys2Proof.Machine.execForceWrite ini sig word v s
  | .stationLost st => Sys2Proof.Machine.execStationLost st s
  | .mapCrcCheck mapEcc => Sys2Proof.Machine.execMapCrcCheck mapEcc s
  | .isoLinkFrame f => Sys2Proof.Machine.execIsoLinkFrame f s
  | .fieldSideLinkTimeout => Sys2Proof.Machine.execFieldSideLinkTimeout s
  | .linkSyncTimeout => Sys2Proof.Machine.execLinkSyncTimeout s
  | .couplerCheckDone fiFault rbFault outFault => Sys2Proof.Machine.execCouplerCheckDone fiFault rbFault outFault s
  | .inputSample fi rb => Sys2Proof.Machine.execInputSample fi rb s
  | .fieldCounterEdge c rising => Sys2Proof.Machine.execFieldCounterEdge c rising s
  | .foShort n => Sys2Proof.Machine.execFoShort n s
  | .foOvertemp n => Sys2Proof.Machine.execFoOvertemp n s
  | .foOpenLoad n => Sys2Proof.Machine.execFoOpenLoad n s
  | .foReadback n => Sys2Proof.Machine.execFoReadback n s
  | .outputSwitchOff n currentMa decayUs => Sys2Proof.Machine.execOutputSwitchOff n currentMa decayUs s
  | .fieldWarn mv => Sys2Proof.Machine.execFieldWarn mv s
  | .fieldNormal mv => Sys2Proof.Machine.execFieldNormal mv s
  | .fieldSag mv => Sys2Proof.Machine.execFieldSag mv s
  | .fieldLost mv => Sys2Proof.Machine.execFieldLost mv s
  | .fieldOk mv => Sys2Proof.Machine.execFieldOk mv s
  | .ilkCrcCheck => Sys2Proof.Machine.execIlkCrcCheck s
  | .camRun c ini v => Sys2Proof.Machine.execCamRun c ini v s
  | .camLinkTrained c => Sys2Proof.Machine.execCamLinkTrained c s
  | .camLinkTrainTimeout c => Sys2Proof.Machine.execCamLinkTrainTimeout c s
  | .camLinkLost c => Sys2Proof.Machine.execCamLinkLost c s
  | .camPacket c vc dt hdr crcOk payload => Sys2Proof.Machine.execCamPacket c vc dt hdr crcOk payload s
  | .camFrameStart c frameNo => Sys2Proof.Machine.execCamFrameStart c frameNo s
  | .camLineArrival c y pixels queueFull back => Sys2Proof.Machine.execCamLineArrival c y pixels queueFull back s
  | .camFrameEnd c frameNo => Sys2Proof.Machine.execCamFrameEnd c frameNo s
  | .camFrameStartMissing c => Sys2Proof.Machine.execCamFrameStartMissing c s
  | .cameraSyncStrobe c => Sys2Proof.Machine.execCameraSyncStrobe c s
  | .i2cStart c ini v => Sys2Proof.Machine.execI2cStart c ini v s
  | .i2cDone c ack answered data => Sys2Proof.Machine.execI2cDone c ack answered data s
  | .pcommit v k => Sys2Proof.Machine.execPcommit v k s
  | .viewFrameStart v => Sys2Proof.Machine.execViewFrameStart v s
  | .dspEnable d => Sys2Proof.Machine.execDspEnable d s
  | .dspLinkTrained d bcUp => Sys2Proof.Machine.execDspLinkTrained d bcUp s
  | .dspTrainTimeout d => Sys2Proof.Machine.execDspTrainTimeout d s
  | .dspLinkLost d => Sys2Proof.Machine.execDspLinkLost d s
  | .displayFrameStart d => Sys2Proof.Machine.execDisplayFrameStart d s
  | .dcsSend d ini v => Sys2Proof.Machine.execDcsSend d ini v s
  | .dcsSent d => Sys2Proof.Machine.execDcsSent d s
  | .offsetComputeDone v => Sys2Proof.Machine.execOffsetComputeDone v s
  | .refOutEmission v => Sys2Proof.Machine.execRefOutEmission v s
  | .dofsChange d v => Sys2Proof.Machine.execDofsChange d v s
  | .metadataLineCheck d syncOk readerTiles frame => Sys2Proof.Machine.execMetadataLineCheck d syncOk readerTiles frame s
  | .displayReportReceived d r => Sys2Proof.Machine.execDisplayReportReceived d r s
  | .reportJudgement d n histOk => Sys2Proof.Machine.execReportJudgement d n histOk s
  | .fwatchRelease v => Sys2Proof.Machine.execFwatchRelease v s
  | .canModeWrite n ini v => Sys2Proof.Machine.execCanModeWrite n ini v s
  | .canIntegrated n => Sys2Proof.Machine.execCanIntegrated n s
  | .canFrameReceived n f sofBack => Sys2Proof.Machine.execCanFrameReceived n f sofBack s
  | .rxqPop n q ini => Sys2Proof.Machine.execRxqPop n q ini s
  | .canObjectUpdate n o ini => Sys2Proof.Machine.execCanObjectUpdate n o ini s
  | .evbReq n ini v => Sys2Proof.Machine.execEvbReq n ini v s
  | .evbAbort n ini v => Sys2Proof.Machine.execEvbAbort n ini v s
  | .canTxDone n buf sofNs => Sys2Proof.Machine.execCanTxDone n buf sofNs s
  | .canFrameError n own buf fld tec rec => Sys2Proof.Machine.execCanFrameError n own buf fld tec rec s
  | .canRecover n ini => Sys2Proof.Machine.execCanRecover n ini s
  | .canBusoffRecovered n => Sys2Proof.Machine.execCanBusoffRecovered n s
  | .canReferenceReceived n f sofBack elapsed => Sys2Proof.Machine.execCanReferenceReceived n f sofBack elapsed s
  | .canReferenceMissing n => Sys2Proof.Machine.execCanReferenceMissing n s
  | .canMasterReferenceSend n lostTo => Sys2Proof.Machine.execCanMasterReferenceSend n lostTo s
  | .canBackupReferenceSend n lostTo => Sys2Proof.Machine.execCanBackupReferenceSend n lostTo s
  | .canInitWatchExpiry n lostTo => Sys2Proof.Machine.execCanInitWatchExpiry n lostTo s
  | .canExclusiveWindow n w busIdle => Sys2Proof.Machine.execCanExclusiveWindow n w busIdle s
  | .canArbitratingWindow n w => Sys2Proof.Machine.execCanArbitratingWindow n w s
  | .canWakePattern n => Sys2Proof.Machine.execCanWakePattern n s
  | .mvbFrameReceived a b => Sys2Proof.Machine.execMvbFrameReceived a b s
  | .mvbBasicPeriod => Sys2Proof.Machine.execMvbBasicPeriod s
  | .mvbPollMiss e => Sys2Proof.Machine.execMvbPollMiss e s
  | .mvbSilenceExpiry => Sys2Proof.Machine.execMvbSilenceExpiry s
  | .mvbCollisionReset => Sys2Proof.Machine.execMvbCollisionReset s
  | .ethFrameReceived port f egressDelay => Sys2Proof.Machine.execEthFrameReceived port f egressDelay s
  | .ethLink port up speed => Sys2Proof.Machine.execEthLink port up speed s
  | .ethAddressAgeing mac => Sys2Proof.Machine.execEthAddressAgeing mac s
  | .ethGateChange port waited => Sys2Proof.Machine.execEthGateChange port waited s
  | .dsCommit ini v => Sys2Proof.Machine.execDsCommit ini v s
  | .outSeqWrite k => Sys2Proof.Machine.execOutSeqWrite k s
  | .dmaTailWrite c ini v => Sys2Proof.Machine.execDmaTailWrite c ini v s
  | .dmaEnable c ini => Sys2Proof.Machine.execDmaEnable c ini s
  | .dmaDisable c ini => Sys2Proof.Machine.execDmaDisable c ini s
  | .dmaResume c ini => Sys2Proof.Machine.execDmaResume c ini s
  | .dmaDescriptorDone c desc src err => Sys2Proof.Machine.execDmaDescriptorDone c desc src err s
  | .pcieInboundAccess bar addr bytes w => Sys2Proof.Machine.execPcieInboundAccess bar addr bytes w s
  | .pcieLinkDown => Sys2Proof.Machine.execPcieLinkDown s
  | .pcieLinkUp gen width => Sys2Proof.Machine.execPcieLinkUp gen width s
  | .xlinkFrameSend => Sys2Proof.Machine.execXlinkFrameSend s
  | .xlinkFrameReceived f => Sys2Proof.Machine.execXlinkFrameReceived f s
  | .ethHeartbeatReceived f => Sys2Proof.Machine.execEthHeartbeatReceived f s
  | .xlinkUp => Sys2Proof.Machine.execXlinkUp s
  | .xlinkDown => Sys2Proof.Machine.execXlinkDown s
  | .roleHoldTimeout => Sys2Proof.Machine.execRoleHoldTimeout s
  | .laneRotation => Sys2Proof.Machine.execLaneRotation s
  | .farrierBlockDone sig supplyOk clockOk tempOk => Sys2Proof.Machine.execFarrierBlockDone sig supplyOk clockOk tempOk s
  | .farrierPrecheckRetry supplyOk clockOk tempOk expired => Sys2Proof.Machine.execFarrierPrecheckRetry supplyOk clockOk tempOk expired s
  | .tackOpAesGcmEncrypt ini v => Sys2Proof.Machine.execTackOpAesGcmEncrypt ini v s
  | .tackOpAesGcmDecrypt ini v => Sys2Proof.Machine.execTackOpAesGcmDecrypt ini v s
  | .tackOpAesCtr ini v => Sys2Proof.Machine.execTackOpAesCtr ini v s
  | .tackOpAesCmac ini v => Sys2Proof.Machine.execTackOpAesCmac ini v s
  | .tackOpSha256 ini v => Sys2Proof.Machine.execTackOpSha256 ini v s
  | .tackOpSha384 ini v => Sys2Proof.Machine.execTackOpSha384 ini v s
  | .tackOpHmacSha256 ini v => Sys2Proof.Machine.execTackOpHmacSha256 ini v s
  | .tackOpHmacSha384 ini v => Sys2Proof.Machine.execTackOpHmacSha384 ini v s
  | .tackOpEcdsaSignP256 ini v => Sys2Proof.Machine.execTackOpEcdsaSignP256 ini v s
  | .tackOpEcdsaSignP384 ini v => Sys2Proof.Machine.execTackOpEcdsaSignP384 ini v s
  | .tackOpEcdsaVerifyP256 ini v => Sys2Proof.Machine.execTackOpEcdsaVerifyP256 ini v s
  | .tackOpEcdsaVerifyP384 ini v => Sys2Proof.Machine.execTackOpEcdsaVerifyP384 ini v s
  | .tackOpEcdhP256 ini v => Sys2Proof.Machine.execTackOpEcdhP256 ini v s
  | .tackOpEcdhP384 ini v => Sys2Proof.Machine.execTackOpEcdhP384 ini v s
  | .tackOpHkdf ini v => Sys2Proof.Machine.execTackOpHkdf ini v s
  | .tackOpDrbgGenerate ini v => Sys2Proof.Machine.execTackOpDrbgGenerate ini v s
  | .tackOpGenerateKey ini v => Sys2Proof.Machine.execTackOpGenerateKey ini v s
  | .tackOpImportWrapped ini v => Sys2Proof.Machine.execTackOpImportWrapped ini v s
  | .tackOpExportWrapped ini v => Sys2Proof.Machine.execTackOpExportWrapped ini v s
  | .tackOpDelete ini v => Sys2Proof.Machine.execTackOpDelete ini v s
  | .tackOpImportPlaintext ini v => Sys2Proof.Machine.execTackOpImportPlaintext ini v s
  | .tackOpDone out => Sys2Proof.Machine.execTackOpDone out s
  | .drbgReseed healthOk => Sys2Proof.Machine.execDrbgReseed healthOk s
  | .spookTrigger srcs => Sys2Proof.Machine.execSpookTrigger srcs s
  | .spookLatchW1c ini v => Sys2Proof.Machine.execSpookLatchW1c ini v s
  | .otpRecheck ok => Sys2Proof.Machine.execOtpRecheck ok s
  | .debugChallengeExpiry => Sys2Proof.Machine.execDebugChallengeExpiry s
  | .updSessionTimeout => Sys2Proof.Machine.execUpdSessionTimeout s
  | .updServicePause fwOk serviceOk ms => Sys2Proof.Machine.execUpdServicePause fwOk serviceOk ms s
  | .recordAccept vendor => Sys2Proof.Machine.execRecordAccept vendor s
  | .appCodeWrite ini v => Sys2Proof.Machine.execAppCodeWrite ini v s
  | .martingaleRefill => Sys2Proof.Machine.execMartingaleRefill s
  | .martingaleSecondEnd => Sys2Proof.Machine.execMartingaleSecondEnd s
  | .recFlush ringOk studOk => Sys2Proof.Machine.execRecFlush ringOk studOk s
  | .recFlushInterval => Sys2Proof.Machine.execRecFlushInterval s
  | .expPortRead ini => Sys2Proof.Machine.execExpPortRead ini s
  | .recExportTimeout => Sys2Proof.Machine.execRecExportTimeout s
  | .mramRefresh readOk => Sys2Proof.Machine.execMramRefresh readOk s
  | .gaitTransitionStart => Sys2Proof.Machine.execGaitTransitionStart s
  | .gaitExit x => Sys2Proof.Machine.execGaitExit x s
  | .rtcAlarmWake => Sys2Proof.Machine.execRtcAlarmWake s
  | .fieldInputWakeSample fi => Sys2Proof.Machine.execFieldInputWakeSample fi s
  | .dieTempSample temp mv => Sys2Proof.Machine.execDieTempSample temp mv s
  | .farrierPreconditionFail supplyOk clockOk tempOk => Sys2Proof.Machine.execFarrierPreconditionFail supplyOk clockOk tempOk s
  | .foDriverCooled n => Sys2Proof.Machine.execFoDriverCooled n s
  | .usbVbusChange above => Sys2Proof.Machine.execUsbVbusChange above s
  | .romRecoveryImage provision h => Sys2Proof.Machine.execRomRecoveryImage provision h s
  | .displayLineEmission v line ecc => Sys2Proof.Machine.execDisplayLineEmission v line ecc s
  | .pcieCompletionTimeout c => Sys2Proof.Machine.execPcieCompletionTimeout c s

end Sys2Proof.Machine
end

