-- ==== Sys2Proof/WellFormed.lean ====
section
/-! DEFINITION. The bounds that a command's operands respect: what can stand at the module's register bus, its buses and its
pins. -/

namespace Sys2Proof

/-- A byte address in register space (R69). -/
def wfReg (a : Word) : Bool := 0x4000_0000 ≤ a.toNat && a.toNat < 0x4100_0000
/-- The address of a register word. -/
def wfWordAt (a : Word) : Bool := wfReg a && a.toNat % 4 = 0
/-- A page of register space, or one of the two further mailbox instances. -/
def wfPage (p : Nat) : Bool := p ≤ 0x81
/-- The size of an access in bytes, and the words it carries (R73). -/
def wfWide (bytes : Nat) (vs : List Word) : Bool :=
  [1, 2, 4, 8, 16, 32].contains bytes && vs.length = max 1 (bytes / 4)
/-- 4 KB pages of a lane's SRAM, each once (R191). -/
def wfPages (l : List Nat) : Bool := l.all (fun p => p < 0x400) && decide l.Nodup

/-- An access of a lane core: 1, 2 or 4 bytes. -/
def BusOp.wellFormed : BusOp → Bool
  | .none => true
  | .load _ n _ | .store _ n _ => [1, 2, 4].contains n
/-- A retiring instruction names one of 32 registers, and a CSR by its 12-bit number (R158). -/
def Retire.wellFormed (r : Retire) : Bool :=
  r.wbReg < 32 && r.fflags < 32 && r.csr.all (fun o => o.num < 0x1000 && o.rd < 32) && r.bus.wellFormed
/-- An isolation-link frame: sixteen bytes, and a current for each of 24 channels (R226, R251). -/
def IsoFrame.wellFormed (f : IsoFrame) : Bool := f.raw.length = 16 && f.currents.length = 24
/-- A CAN frame: an identifier of 11 or 29 bits, a DLC of 4 bits, at most 64 bytes (R332). -/
def CanFrame.wellFormed (f : CanFrame) : Bool :=
  f.id < (if f.ide then 2 ^ 29 else 2 ^ 11) && f.dlc < 16 && f.data.length ≤ (if f.fdf then 64 else 8)
/-- An MVB frame: a 12-bit port address and a 4-bit F-code, at most 32 bytes (R357). -/
def MvbFrame.wellFormed : MvbFrame → Bool
  | .master p f _ => p < 0x1000 && f < 16
  | .slave d => d.length ≤ 32
  | .bad => true
/-- An Ethernet frame: 48-bit addresses, a 16-bit Ethertype, a 3-bit priority (R362). -/
def EthFrame.wellFormed (f : EthFrame) : Bool :=
  f.src < 2 ^ 48 && f.dst < 2 ^ 48 && f.ethertype < 2 ^ 16 && (f.pcp.getD 0) < 8 && f.payload.length ≤ f.len
/-- A Selcy frame: 32 bytes, an image of at most 8,192 words, and the CRC (R389). -/
def XFrame.wellFormed (f : XFrame) : Bool := 36 ≤ f.raw.length && f.raw.length ≤ 36 + 8 * 8192
/-- A display report: 64 bytes (R314). -/
def Report.wellFormed (r : Report) : Bool := r.raw.length = 64

/-- The operands of a command lie within their bounds. -/
def Instr.wellFormed : Instr → Bool
  | .generalRegisterWrite _ addr bytes vs _ => wfReg addr && wfWide bytes vs
  | .indDataRead .. => true
  | .indDataWrite .. => true
  | .kpValueWrite _ addr _ => wfWordAt addr
  | .keyNWrite .. => true
  | .keyWrite .. => true
  | .keypairExpiry page => wfPage page
  | .t3ScrubVisit key _ => wfPage (key / 0x2_0000)
  | .abWrite _ addr _ => wfWordAt addr
  | .boundaryApply page inst => wfPage page && decide (inst < 8)
  | .apply .. => true
  | .wmRegisterWrite _ addr _ => wfWordAt addr
  | .evrPendW1c .. => true
  | .routeWordWrite .. => true
  | .eventOccurrence .. => true
  | .votedWriteArrival _ addr _ => wfReg addr
  | .votedWriteExecute => true
  | .votedWriteTimeout => true
  | .bridleRetry _ addr _ => wfReg addr
  | .bridleTimeout _ addr _ => wfReg addr
  | .semAcquire .. => true
  | .semRelease .. => true
  | .semForce .. => true
  | .mboxDoorbell .. => true
  | .mboxCommandComplete _ _ resp => decide (resp.length ≤ 14)
  | .ping .. => true
  | .getId .. => true
  | .profileSelectStore .. => true
  | .profileSelectImmediate .. => true
  | .profileSelectRevoke .. => true
  | .profileQuery .. => true
  | .gaitSet .. => true
  | .gaitQuery .. => true
  | .bistRun .. => true
  | .bistResult .. => true
  | .updOpen .. => true
  | .updWrite .. => true
  | .updVerify .. => true
  | .updActivate .. => true
  | .updConfirm .. => true
  | .updAbort .. => true
  | .updStatus .. => true
  | .ownerLockQuery .. => true
  | .ownerLockSet .. => true
  | .ownerLockClear .. => true
  | .recRead .. => true
  | .recExport .. => true
  | .recClearStudbook .. => true
  | .martingaleSet .. => true
  | .timeSetWall .. => true
  | .getChallenge .. => true
  | .submit .. => true
  | .zeroize .. => true
  | .duplexRoleQuery .. => true
  | .duplexRoleSetInhibit .. => true
  | .duplexRoleClearInhibit .. => true
  | .duplexYield .. => true
  | .restartWarm .. => true
  | .restartCold .. => true
  | .powerOnReset .. => true
  | .bootPhaseOverrun phase => decide (1 ≤ phase.val ∧ phase.val ≤ 7)
  | .faultReset => true
  | .mgmtWatchdogReset => true
  | .logicLow .. => true
  | .logicInInterruption => true
  | .logicInReturn .. => true
  | .powerFail => true
  | .powerFailReset .. => true
  | .holdupCharged => true
  | .safeNFilterExpiry .. => true
  | .movingFilterMoving => true
  | .movingFilterStationary => true
  | .wakeNWake => true
  | .roleInChange .. => true
  | .ppsIn .. => true
  | .secondMark => true
  | .tbWrap => true
  | .tbNsRead .. => true
  | .measOfsHiWrite .. => true
  | .tbMeasurement src _ _ => decide (0 < src.val)
  | .refSourceTimeout x => decide (0 < x.src.val)
  | .monoTimeSave => true
  | .tbCapture .. => true
  | .controlTick => true
  | .fwatchVerdictRead .. => true
  | .laneCompletion .. => true
  | .collectDeadline => true
  | .laneSafeWrite .. => true
  | .reintStart .. => true
  | .reintAbort .. => true
  | .autoReintStart .. => true
  | .reintResetDone => true
  | .laneBootDone .. => true
  | .laneBootTimeout .. => true
  | .reintCopyPassDone dirtied => wfPages dirtied
  | .syncTimeout => true
  | .laneInstruction _ r => r.wellFormed
  | .laneWindowFull .. => true
  | .lockstepCompare .. => true
  | .laneSramScrub _ word _ => decide (word < 0x10_0000)
  | .laneClockCheck .. => true
  | .splitReq .. => true
  | .failReq .. => true
  | .debugRequest .. => true
  | .modeReqRun .. => true
  | .modeReqStop .. => true
  | .modeReqHold .. => true
  | .programStart => true
  | .holdTimeout => true
  | .retainRecordWrite .. => true
  | .ocOpen .. => true
  | .ocWinWrite .. => true
  | .ocArm .. => true
  | .ocAbort .. => true
  | .ocCheckDone .. => true
  | .forceWrite .. => true
  | .stationLost .. => true
  | .mapCrcCheck .. => true
  | .isoLinkFrame f => f.wellFormed
  | .fieldSideLinkTimeout => true
  | .linkSyncTimeout => true
  | .couplerCheckDone .. => true
  | .inputSample .. => true
  | .fieldCounterEdge .. => true
  | .foShort .. => true
  | .foOvertemp .. => true
  | .foOpenLoad .. => true
  | .foReadback .. => true
  | .outputSwitchOff .. => true
  | .fieldWarn .. => true
  | .fieldNormal .. => true
  | .fieldSag .. => true
  | .fieldLost .. => true
  | .fieldOk .. => true
  | .ilkCrcCheck => true
  | .camRun .. => true
  | .camLinkTrained .. => true
  | .camLinkTrainTimeout .. => true
  | .camLinkLost .. => true
  | .camPacket _ vc dt _ _ payload => decide (vc < 4 ∧ dt < 64 ∧ payload.length < 0x1_0000)
  | .camFrameStart .. => true
  | .camLineArrival _ y px _ _ => decide (y < 0x1000) && px.all (fun p => decide (p < 0x1000))
  | .camFrameEnd .. => true
  | .camFrameStartMissing .. => true
  | .cameraSyncStrobe .. => true
  | .i2cStart .. => true
  | .i2cDone _ _ _ data => decide (data.length ≤ 4)
  | .pcommit .. => true
  | .viewFrameStart .. => true
  | .dspEnable .. => true
  | .dspLinkTrained .. => true
  | .dspTrainTimeout .. => true
  | .dspLinkLost .. => true
  | .displayFrameStart .. => true
  | .dcsSend .. => true
  | .dcsSent .. => true
  | .offsetComputeDone .. => true
  | .refOutEmission .. => true
  | .dofsChange .. => true
  | .metadataLineCheck .. => true
  | .displayReportReceived _ r => r.wellFormed
  | .reportJudgement .. => true
  | .fwatchRelease .. => true
  | .canModeWrite .. => true
  | .canIntegrated .. => true
  | .canFrameReceived _ f _ => f.wellFormed
  | .rxqPop .. => true
  | .canObjectUpdate .. => true
  | .evbReq .. => true
  | .evbAbort .. => true
  | .canTxDone .. => true
  | .canFrameError .. => true
  | .canRecover .. => true
  | .canBusoffRecovered .. => true
  | .canReferenceReceived _ f _ _ => f.wellFormed
  | .canReferenceMissing .. => true
  | .canMasterReferenceSend .. => true
  | .canBackupReferenceSend .. => true
  | .canInitWatchExpiry .. => true
  | .canExclusiveWindow .. => true
  | .canArbitratingWindow .. => true
  | .canWakePattern .. => true
  | .mvbFrameReceived a b => a.wellFormed && b.wellFormed
  | .mvbBasicPeriod => true
  | .mvbPollMiss e => decide (e < 0x400)
  | .mvbSilenceExpiry => true
  | .mvbCollisionReset => true
  | .ethFrameReceived _ f _ => f.wellFormed
  | .ethLink _ _ speed => decide (speed < 4)
  | .ethAddressAgeing mac => decide (mac < 2 ^ 48)
  | .ethGateChange .. => true
  | .dsCommit .. => true
  | .outSeqWrite .. => true
  | .dmaTailWrite .. => true
  | .dmaEnable .. => true
  | .dmaDisable .. => true
  | .dmaResume .. => true
  | .dmaDescriptorDone _ desc _ err => decide (desc.length = 8 ∧ err < 16)
  | .pcieInboundAccess _ _ bytes w => [1, 2, 4, 8, 16, 32].contains bytes && (w.getD []).length ≤ 8
  | .pcieLinkDown => true
  | .pcieLinkUp gen width => decide (1 ≤ gen ∧ gen ≤ 4) && [1, 2, 4, 8].contains width
  | .xlinkFrameSend => true
  | .xlinkFrameReceived f => f.wellFormed
  | .ethHeartbeatReceived f => f.wellFormed
  | .xlinkUp => true
  | .xlinkDown => true
  | .roleHoldTimeout => true
  | .laneRotation => true
  | .farrierBlockDone .. => true
  | .farrierPrecheckRetry .. => true
  | .tackOpAesGcmEncrypt .. => true
  | .tackOpAesGcmDecrypt .. => true
  | .tackOpAesCtr .. => true
  | .tackOpAesCmac .. => true
  | .tackOpSha256 .. => true
  | .tackOpSha384 .. => true
  | .tackOpHmacSha256 .. => true
  | .tackOpHmacSha384 .. => true
  | .tackOpEcdsaSignP256 .. => true
  | .tackOpEcdsaSignP384 .. => true
  | .tackOpEcdsaVerifyP256 .. => true
  | .tackOpEcdsaVerifyP384 .. => true
  | .tackOpEcdhP256 .. => true
  | .tackOpEcdhP384 .. => true
  | .tackOpHkdf .. => true
  | .tackOpDrbgGenerate .. => true
  | .tackOpGenerateKey .. => true
  | .tackOpImportWrapped .. => true
  | .tackOpExportWrapped .. => true
  | .tackOpDelete .. => true
  | .tackOpImportPlaintext .. => true
  | .tackOpDone .. => true
  | .drbgReseed .. => true
  | .spookTrigger .. => true
  | .spookLatchW1c .. => true
  | .otpRecheck .. => true
  | .debugChallengeExpiry => true
  | .updSessionTimeout => true
  | .updServicePause .. => true
  | .recordAccept .. => true
  | .appCodeWrite .. => true
  | .martingaleRefill => true
  | .martingaleSecondEnd => true
  | .recFlush .. => true
  | .recFlushInterval => true
  | .expPortRead .. => true
  | .recExportTimeout => true
  | .mramRefresh .. => true
  | .gaitTransitionStart => true
  | .gaitExit .. => true
  | .rtcAlarmWake => true
  | .fieldInputWakeSample .. => true
  | .dieTempSample .. => true
  | .farrierPreconditionFail .. => true
  | .foDriverCooled .. => true
  | .usbVbusChange .. => true
  | .romRecoveryImage .. => true
  | .displayLineEmission .. => true
  | .pcieCompletionTimeout .. => true

end Sys2Proof
end

