-- ==== Sys2Proof/Safety.lean ====
section
/-! DEFINITION. What counts as a safe run, the invariants of the module's state, and the terms in which claims speak of commands:
that one completes, that an access meets nothing that stops it, and what a command leaves as it was. -/

namespace Sys2Proof.Machine

/-! ### Outcomes -/

/-- The outcome is a next state: neither a fault nor a refusal. -/
def Goes : Host.Outcome State Fault Refusal → Prop
  | .next _ => True
  | _ => False

/-- The command answers a next state, and that state is as `P` says. -/
def Completes (c : Instr) (s : State) (P : State → Prop) : Prop := ∃ t, exec c s = .next t ∧ P t

/-- Whatever next state the command answers is as `P` says. -/
def Leaves (c : Instr) (s : State) (P : State → Prop) : Prop := ∀ t, exec c s = .next t → P t

/-! ### Invariants -/

/-- The stores of the state stand in their canonical form: the byte memories, the registers and table words, and the
images. -/
abbrev State.Canonical (s : State) : Prop :=
  Memory.wf s.mem = true ∧ stWf resetWord s.regs = true ∧ stWf (fun _ => (0 : DWord)) s.img = true

/-- The units that the module holds: 3 lanes, 8 camera ports, 6 views, display ports, frame-watch instances and CAN
channels, 3 mailbox instances (R4, R98). -/
abbrev State.Fitted (s : State) : Prop :=
  s.lanes.length = 3 ∧ s.cams.length = 8 ∧ s.views.length = 6 ∧ s.dsps.length = 6 ∧ s.watches.length = 6 ∧ s.cans.length = 6 ∧
    s.boxes.length = 3

/-- The recorder inlet queue holds at most 256 entries (R61). -/
abbrev State.InletBounded (s : State) : Prop := s.inlet.length ≤ 256

/-- The invariant of the module: canonical stores, every unit in its place, the inlet queue within its bound. -/
abbrev State.Inv (s : State) : Prop := s.Canonical ∧ s.Fitted ∧ s.InletBounded

/-! ### Register accesses -/

/-- An access of an initiator that is no lane to the word at `off` of the page at index `p` meets nothing that refuses or loses it
(R71 to R94, R118). -/
abbrev State.Open (s : State) (i : Init) (p off : Nat) (write : Bool) : Prop :=
  isLane i = false ∧ s.gate i (addrOf p off) 4 write false = .pass

/-- A word that takes plain writes alone: no key pair, no clearing by 1, no shadow, no triplicate. -/
abbrev plainWord (k : Nat) : Prop := (accOf k).kp = 0 ∧ (accOf k).w1c = 0 ∧ (accOf k).ab = false ∧ (accOf k).t3 = false

/-- The three copies of the word agree with it (R78). -/
abbrev State.Sound (s : State) (k : Nat) : Prop := alGet s.upsets k = none

/-! ### The mailbox -/

/-- Instance `n` is the next in doorbell order and holds a command with this code, from a plane that R103 allows, with an argument
length that R104 allows, of which no block that it needs is UNUSABLE (R118). -/
abbrev State.Holds (s : State) (n code : Nat) (lens : List Nat) : Prop :=
  s.boxNext n = true ∧ fld (s.box n).cmd 0 8 = code ∧ planeOk code n = true ∧ fld (s.box n).cmd 16 16 ∈ lens ∧
    (cmdBlocks code).any s.blockBad = false

/-- Instance `n` of `t` shows the command that it held in `s` as completed with `err` and `len` response words (R99): STATUS with
DONE for BUSY, ERR, the command's TAG and RESP_LEN. -/
abbrev State.Ended (s t : State) (n err len : Nat) : Prop :=
  t.rd (boxPage n) 0x80 = w32 (2 + err % 256 * 0x100 + fld (s.box n).cmd 8 8 * 0x1_0000 + len * 0x100_0000)

/-- Word `j` of RESP of instance `n`. -/
def State.resp (t : State) (n j : Nat) : Word := t.rd (boxPage n) (0x84 + 4 * j)

/-! ### The lanes -/

/-- The main core of lane `l` executes the instruction `r`: the lane is there and runs, it waits for nothing, and the fetch is read
right. -/
abbrev State.LaneRuns (s : State) (l : Nat) (r : Retire) : Prop :=
  l < s.lanes.length ∧ s.laneIdle l = false ∧ laneStalls (s.lane l) = false ∧ r.shadow = false ∧ r.fetchEcc ≠ .uncorrectable

/-! ### Frames -/

/-- Beside the pending bits of the page headers, every register and table word outside the pages listed reads as before. -/
def SamePages (ps : List Nat) (s t : State) : Prop := ∀ k, keyPage k ∉ ps → (∀ p, k ≠ rk p 0x18) → t.key k = s.key k

/-- Every byte of memory reads as before. -/
def SameBytes (s t : State) : Prop := ∀ a, t.byte a = s.byte a

/-- Only registers, the inlet queue of the recorder and the bus answer differ. -/
def OnlyRegisters (s t : State) : Prop := t = { s with regs := t.regs, inlet := t.inlet, bus := t.bus }

/-- Where a descriptor's data go, if its destination is a memory (R371): the shared SRAM, the host's memory or the network
buffers. -/
def dmaTarget (d : List Word) : Option Nat :=
  if dDst d = 0 then some (sramMem (dDstAt d))
  else if dDst d = 1 then some (hostMem (dDstAt d))
  else if dDst d = 5 then some (netMem (dDstAt d))
  else none

/-! ### Families of commands of which a frame is stated -/

/-- A row of the field I/O board. -/
def fieldRow : Instr → Bool
  | .isoLinkFrame .. | .fieldSideLinkTimeout .. | .linkSyncTimeout .. | .couplerCheckDone .. | .inputSample ..
    | .fieldCounterEdge .. | .foShort .. | .foOvertemp .. | .foOpenLoad .. | .foReadback .. | .foDriverCooled ..
    | .outputSwitchOff .. | .fieldWarn .. | .fieldNormal .. | .fieldSag .. | .fieldLost .. | .fieldOk .. | .ilkCrcCheck .. => true
  | _ => false

/-- A row of the time base. -/
def timeRow : Instr → Bool
  | .tbMeasurement .. | .tbCapture .. | .refSourceTimeout .. | .ppsIn .. | .tbWrap .. => true
  | _ => false

/-- A row of a camera port, a view, a display port or the frame watch. -/
def visionRow : Instr → Bool
  | .camLinkTrainTimeout .. | .camLinkTrained .. | .cameraSyncStrobe .. | .dspTrainTimeout .. | .dspLinkTrained ..
    | .i2cDone .. | .dcsSent .. | .offsetComputeDone .. | .pcommit .. | .camPacket .. | .displayLineEmission ..
    | .displayReportReceived .. | .reportJudgement .. | .fwatchRelease .. | .camFrameStartMissing .. | .dofsChange ..
    | .metadataLineCheck .. | .camFrameStart .. | .displayFrameStart .. | .camLineArrival .. | .camFrameEnd ..
    | .camLinkLost .. | .dspEnable .. | .dspLinkLost .. | .viewFrameStart .. | .refOutEmission .. => true
  | _ => false

/-- A row of the frame watch. -/
def watchRow : Instr → Bool
  | .displayReportReceived .. | .reportJudgement .. | .fwatchRelease .. | .metadataLineCheck .. => true
  | _ => false

/-- A row of a CAN channel that delivers no signal. -/
def canRow : Instr → Bool
  | .canArbitratingWindow .. | .canBusoffRecovered .. | .canExclusiveWindow .. | .canBackupReferenceSend ..
    | .canFrameError .. | .canInitWatchExpiry .. | .canIntegrated .. | .canMasterReferenceSend .. | .canReferenceMissing ..
    | .canTxDone .. => true
  | _ => false

/-- A row of the MVB controller that delivers no signal. -/
def mvbRow : Instr → Bool
  | .mvbCollisionReset .. | .mvbSilenceExpiry .. | .mvbPollMiss .. | .mvbBasicPeriod .. => true
  | _ => false

/-- A row of the Ethernet switch but a change of a gate. -/
def ethRow : Instr → Bool
  | .ethLink .. | .ethAddressAgeing .. | .outSeqWrite .. | .ethFrameReceived .. => true
  | _ => false

/-- A mailbox command that asks for an answer only, or ends one. -/
def answerRow : Instr → Bool
  | .bistResult .. | .duplexRoleClearInhibit .. | .duplexRoleQuery .. | .duplexRoleSetInhibit .. | .gaitQuery .. | .getId ..
    | .mboxCommandComplete .. | .ownerLockQuery .. | .ping .. | .profileQuery .. | .recRead .. | .timeSetWall ..
    | .updStatus .. => true
  | _ => false

/-- A row of the recorder that carries on by itself. -/
def recorderRow : Instr → Bool
  | .martingaleRefill .. | .martingaleSecondEnd .. | .recFlushInterval .. | .recFlush .. | .recordAccept ..
    | .recExportTimeout .. => true
  | _ => false

/-- A row that changes a pin or a supply alone. -/
def pinRow : Instr → Bool
  | .movingFilterMoving .. | .movingFilterStationary .. | .logicInReturn .. | .holdupCharged .. | .usbVbusChange .. => true
  | _ => false

/-- A command that stores no byte into a memory. -/
def storesNothing : Instr → Bool
  | .keypairExpiry .. | .boundaryApply .. | .eventOccurrence .. | .votedWriteTimeout .. | .mboxCommandComplete .. | .ping ..
    | .getId .. | .profileSelectStore .. | .profileSelectImmediate .. | .profileSelectRevoke .. | .profileQuery ..
    | .gaitSet .. | .gaitQuery .. | .bistRun .. | .bistResult .. | .updOpen .. | .updWrite .. | .updVerify ..
    | .updActivate .. | .updConfirm .. | .updAbort .. | .updStatus .. | .ownerLockQuery .. | .ownerLockSet ..
    | .ownerLockClear .. | .recRead .. | .recExport .. | .recClearStudbook .. | .martingaleSet .. | .timeSetWall ..
    | .getChallenge .. | .zeroize .. | .duplexRoleQuery .. | .duplexRoleSetInhibit .. | .duplexRoleClearInhibit ..
    | .duplexYield .. | .logicLow .. | .logicInReturn .. | .holdupCharged .. | .safeNFilterExpiry .. | .movingFilterMoving ..
    | .movingFilterStationary .. | .wakeNWake .. | .roleInChange .. | .ppsIn .. | .secondMark .. | .tbWrap ..
    | .tbMeasurement .. | .refSourceTimeout .. | .monoTimeSave .. | .tbCapture .. | .fwatchVerdictRead ..
    | .collectDeadline .. | .laneSafeWrite .. | .autoReintStart .. | .laneBootDone .. | .laneBootTimeout .. | .syncTimeout ..
    | .laneWindowFull .. | .laneSramScrub .. | .laneClockCheck .. | .debugRequest .. | .holdTimeout .. | .ocCheckDone ..
    | .stationLost .. | .mapCrcCheck .. | .isoLinkFrame .. | .fieldSideLinkTimeout .. | .linkSyncTimeout ..
    | .couplerCheckDone .. | .inputSample .. | .fieldCounterEdge .. | .foShort .. | .foOvertemp .. | .foOpenLoad ..
    | .foReadback .. | .outputSwitchOff .. | .fieldWarn .. | .fieldNormal .. | .fieldSag .. | .fieldLost .. | .fieldOk ..
    | .ilkCrcCheck .. | .camLinkTrained .. | .camLinkTrainTimeout .. | .camLinkLost .. | .camPacket .. | .camFrameStart ..
    | .camLineArrival .. | .camFrameEnd .. | .camFrameStartMissing .. | .cameraSyncStrobe .. | .i2cDone .. | .pcommit ..
    | .viewFrameStart .. | .dspEnable .. | .dspLinkTrained .. | .dspTrainTimeout .. | .dspLinkLost .. | .displayFrameStart ..
    | .dcsSent .. | .offsetComputeDone .. | .refOutEmission .. | .dofsChange .. | .metadataLineCheck ..
    | .displayReportReceived .. | .reportJudgement .. | .fwatchRelease .. | .canIntegrated .. | .canFrameReceived ..
    | .canTxDone .. | .canFrameError .. | .canBusoffRecovered .. | .canReferenceReceived .. | .canReferenceMissing ..
    | .canMasterReferenceSend .. | .canBackupReferenceSend .. | .canInitWatchExpiry .. | .canExclusiveWindow ..
    | .canArbitratingWindow .. | .canWakePattern .. | .mvbFrameReceived .. | .mvbBasicPeriod .. | .mvbPollMiss ..
    | .mvbSilenceExpiry .. | .mvbCollisionReset .. | .ethFrameReceived .. | .ethLink .. | .ethAddressAgeing ..
    | .ethGateChange .. | .outSeqWrite .. | .bootPhaseOverrun .. | .xlinkFrameSend .. | .xlinkFrameReceived ..
    | .ethHeartbeatReceived .. | .xlinkUp .. | .xlinkDown .. | .roleHoldTimeout .. | .laneRotation .. | .drbgReseed ..
    | .spookTrigger .. | .otpRecheck .. | .debugChallengeExpiry .. | .updSessionTimeout .. | .updServicePause ..
    | .recordAccept .. | .martingaleRefill .. | .martingaleSecondEnd .. | .recFlush .. | .recFlushInterval ..
    | .recExportTimeout .. | .mramRefresh .. | .rtcAlarmWake .. | .fieldInputWakeSample .. | .foDriverCooled ..
    | .usbVbusChange .. | .displayLineEmission .. | .bridleTimeout .. | .tackOpDone .. => true
  | _ => false

end Sys2Proof.Machine
end

