-- ==== Sys2Proof/Certificates/Slice0/Obligations.lean ====
section
/-! DEFINITION. The statements about the module: what every command does where nothing stops it, what it leaves as it was, and what
holds of every step. -/

open Sys2Proof Sys2Proof.Machine

/-- For every command c and state s, a step of s with c at the front of its queue is exec of c on s with the queue's rest.
(00_scope) -/
def Obligations.StepRunsFront : Prop :=
  ∀ (c : Instr) (s : State), step (s.withPending (c :: s.pending)) = exec c s

/-- Every command answers a next state from every state; the commands that wait and the fitted variant are as before.
(00_scope, R1) -/
def Obligations.EveryCommandKeepsQueueAndVariant : Prop :=
  ∀ (c : Instr) (s : State), Completes c s fun t => t.pending = s.pending ∧ t.variant = s.variant

/-- With an empty queue, while the module runs and its gait is above WALK, a step advances the 96-bit time count by 4 ns and
the rate correction: the count and fraction after it are those before it plus 4·2^32 + F + P in units of 2^-32 ns. That an
empty queue lets the clock run is the model's own choice (log entry 3). (R128) -/
def Obligations.EmptyQueueIsOneClockCycle : Prop :=
  ∀ s : State, s.pending = [] → s.gaitNow < 3 → s.pins.running = true → 0 ≤ (4 * 2 ^ 32 + (s.tbF + s.tb.p) : Int) →
    ∃ t, step s = .next t ∧
      ((t.tb.count : Int) * 2 ^ 32 + t.tb.frac = s.tb.count * 2 ^ 32 + s.tb.frac + 4 * 2 ^ 32 + (s.tbF + s.tb.p)) ∧ t.tb.frac < 2 ^ 32

/-- The state after power-on reset has canonical stores, every unit in its place and an inlet queue within its bound. (R61,
R97, R494) -/
def Obligations.ResetMeetsInvariant : Prop :=
  State.reset.Inv

/-- From every state with canonical stores (strictly rising keys, no entry equal to what its key reads as), with 3 lanes, 8
cameras, 6 views, displays, watches and CAN channels and 3 mailbox instances, and with at most 256 inlet entries, every step
answers a next state of which the same holds. (R4, R61, R98, R494) -/
def Obligations.EveryStepKeepsInvariant : Prop :=
  ∀ s t : State, s.Inv → step s = .next t → t.Inv

/-- A word write of a plain RW register of BRIDLE, CYC, PRG or SIG that meets nothing which stops it sets the register's
writable bits to the written value and keeps the others; a masked write changes only the bits of the low half that the high
half selects. (R73, R77, R85) -/
def Obligations.PlainRegisterWrite : Prop :=
  (∀ (i : Init) (p off : Nat) (v : Word) (s : State), p ∈ [0x03, 0x08, 0x09, 0x0A] → 0x40 ≤ off → off < 0x80 → off % 4 = 0 →
      plainWord (rk p off) → s.Open i p off true →
      (i = .vote → vwWord p off = true) →
      Completes (.generalRegisterWrite i (addrOf p off) 4 [v] false) s fun t =>
        t.rd p off = merge (w32 (accOf (rk p off)).rw) (s.rd p off) v ∧ t.bus.err = false) ∧
    (∀ (i : Init) (p off : Nat) (v : Word) (s : State), p ∈ [0x03, 0x08, 0x09, 0x0A] → 0x40 ≤ off → off < 0x80 → off % 4 = 0 →
      plainWord (rk p off) → s.Open i p off true →
      (i = .vote → vwWord p off = true) →
      Completes (.wmRegisterWrite i (addrOf p off) v) s fun t =>
        t.rd p off = merge (w32 (accOf (rk p off)).rw) (s.rd p off) (wmMerge (s.rd p off) v) ∧ t.bus.err = false)

/-- The masked write of v over old reads, at bit i below 16, the written bit where bit i + 16 of v is 1 and the old bit where
it is 0, and reads 0 in bits 31 to 16. (R77) -/
def Obligations.MaskedWriteSelectsBits : Prop :=
  ∀ (old v : Word) (i : Nat), (i < 16 → bit (wmMerge old v) i = if bit v (i + 16) then bit v i else bit old i) ∧
    (16 ≤ i → bit (wmMerge old v) i = false)

/-- A read of IND_DATA on a page with a table, outside the VW pages, answers the table word at IND_ADDR, and IND_ADDR moves on
by 1 and wraps from the last index to 0. A write of IND_DATA to an occurrence counter of the event router sets its low half,
but that of an event which the variant lacks keeps and reads zero; one to a buffered word of the signal map or the MVB poll
table goes to the shadow, sets PENDING and leaves the word in force; in every case IND_ADDR moves on. (R73, R81, R84, R63, R3)
-/
def Obligations.IndirectData : Prop :=
  (∀ (i : Init) (page : Fin 128) (s : State), page.val ≠ 0x01 → hasTable page.val = true → vwPage page.val = false →
    s.Sound (tk page.val (s.indAddr page.val)) → s.Open i page.val 0x34 false →
    Completes (.indDataRead i page) s fun t =>
      t.bus.data = s.tabWord page.val (s.indAddr page.val) ∧ t.bus.err = false ∧
        t.rd page.val 0x30 = if tabTop page.val ≤ s.indAddr page.val then 0 else w32 (s.indAddr page.val + 1)) ∧
    (∀ (i : Init) (v : Word) (s : State), i ≠ .vote → 0x100 ≤ s.indAddr 0x02 → s.indAddr 0x02 < 0x200 → s.Open i 0x02 0x34 true →
      Completes (.indDataWrite i 0x02 v) s fun t => t.rd 0x02 0x30 = w32 (s.indAddr 0x02 + 1) ∧
        if evAbsent s.variant (s.indAddr 0x02 - 0x100) then
          t.tab 0x02 (s.indAddr 0x02) = s.tab 0x02 (s.indAddr 0x02) ∧ t.tabWord 0x02 (s.indAddr 0x02) = 0
        else t.tab 0x02 (s.indAddr 0x02) = merge 0xFFFF (s.tab 0x02 (s.indAddr 0x02)) v) ∧
    (∀ (i : Init) (page : Fin 128) (v : Word) (s : State), page.val = 0x0A ∨ page.val = 0x18 → i ≠ .vote →
      s.indAddr page.val < (if page.val = 0x0A then 0x4000 else 0x400) → s.Open i page.val 0x34 true →
      Completes (.indDataWrite i page v) s fun t =>
        t.shadowOf (tk page.val (s.indAddr page.val)) =
            some (merge (w32 (accOf (tk page.val (s.indAddr page.val))).rw) (s.nextKey (tk page.val (s.indAddr page.val))) v) ∧
          t.tab page.val (s.indAddr page.val) = s.tab page.val (s.indAddr page.val) ∧ t.rb page.val 0x24 0 = true ∧
          t.rd page.val 0x30 = w32 (s.indAddr page.val + 1))

/-- A value written to a KP word of CYC, PRG or SIG beside which the word has no plain fields becomes the page's one pending
value with its initiator; the word keeps its value. The complement written to KEY_N while a pair for a posting range of BRIDLE
or a substitute word of SIG is pending sets the word's KP bits to the pending value and leaves nothing pending; a wrong
complement leaves the word, drops the value and records cause KEYPAIR. A write to KEY drops the page's pending value without
an error; the expiry of a pending value drops it with cause KEYPAIR in ERRINFO and one more in ERRCNT. (R79) -/
def Obligations.KeyPairs : Prop :=
  (∀ (i : Init) (p off : Nat) (v : Word) (s : State), p ∈ [0x08, 0x09, 0x0A] → 0x40 ≤ off → off < 0x80 → off % 4 = 0 →
    (accOf (rk p off)).kp ≠ 0 → mixedWord (rk p off) = false → s.Open i p off true → (i = .vote → vwWord p off = true) →
    Completes (.kpValueWrite i (addrOf p off) v) s fun t =>
      t.kpPend p = some ⟨p, rk p off, addrOf p off, v, initCode i⟩ ∧ t.rd p off = s.rd p off) ∧
    (∀ (i : Init) (k : KpPend) (s : State), k.key ∈ [rk 0x0A 0x58, rk 0x03 0xC0, rk 0x03 0xDC] → k.page = keyPage k.key →
      s.kpPend k.page = some k → s.Open i k.page 0x2C true →
      ∀ page : Fin 128, page.val = k.page → Completes (.keyNWrite i page (~~~k.val)) s fun t =>
        t.key k.key = merge (w32 (accOf k.key).kp) (s.nextKey k.key) k.val ∧ t.kpPend k.page = none) ∧
    (∀ (i : Init) (k : KpPend) (v : Word) (s : State), k.key ∈ [rk 0x0A 0x58, rk 0x03 0xC0, rk 0x03 0xDC] → k.page = keyPage k.key →
      s.kpPend k.page = some k → v ≠ ~~~k.val → s.Open i k.page 0x2C true →
      ∀ page : Fin 128, page.val = k.page → Completes (.keyNWrite i page v) s fun t =>
        t.key k.key = s.key k.key ∧ t.kpPend k.page = none ∧
          t.rd k.page 0x38 = errWord (k.addr.toNat % 0x1000) (initCode i) 5 (s.rf k.page 0x38 24 8 + 1)) ∧
    (∀ (i : Init) (page : Fin 128) (v : Word) (s : State), page.val ∈ [0x03, 0x07, 0x08, 0x09, 0x0A, 0x0B, 0x0C] → s.Open i page.val 0x28 true →
      Completes (.keyWrite i page v) s fun t => t.kpPend page.val = none ∧ t.bus.err = false ∧ t.rd page.val 0x38 = s.rd page.val 0x38) ∧
    (∀ (page : Nat) (k : KpPend) (s : State), s.kpPend page = some k → page ≠ 0x02 →
      Completes (.keypairExpiry page) s fun t => t.kpPend page = none ∧
        t.rd page 0x38 = errWord (k.addr.toNat % 0x1000) k.ini 5 (s.rf page 0x38 24 8 + 1))

/-- Index, value and complement by an initiator that reaches the page set the route word of an event while ROUTE_LOCK is 0,
with the bits that R62 forces reading 1, and while it is 1 they leave it; they set a force word of a forceable output signal
(the enable word keeps bit 0 alone). (R66, R67, R79, R215, R223) -/
def Obligations.RouteAndForceWords : Prop :=
  (∀ (i : Init) (n : Fin 256) (v : Word) (s : State), i ≠ .vote → s.rb 0x02 0x08 8 = false → s.kpPend 0x02 = none →
      s.shadowOf (tk 0x02 n.val) = none → s.Open i 0x02 0x30 true → s.Open i 0x02 0x34 true → s.Open i 0x02 0x2C true →
      Completes (.routeWordWrite i n v) s fun t => t.tab 0x02 n.val = merge 0x77F (s.tab 0x02 n.val) v ∧
        t.routeWord n.val = t.tab 0x02 n.val ||| (if evForced n.val then 0x60 else 0) ∧ t.kpPend 0x02 = none) ∧
    (∀ (i : Init) (n : Fin 256) (v : Word) (s : State), i ≠ .vote → s.rb 0x02 0x08 8 = true → s.kpPend 0x02 = none →
      s.Open i 0x02 0x30 true → s.Open i 0x02 0x34 true → s.Open i 0x02 0x2C true →
      Completes (.routeWordWrite i n v) s fun t => t.tab 0x02 n.val = s.tab 0x02 n.val) ∧
    (∀ (i : Init) (sig : Fin 4096) (word : Fin 3) (v : Word) (s : State), i ≠ .vote → s.forceable sig.val = true → s.kpPend 0x0A = none →
      s.Open i 0x0A 0x30 true → s.Open i 0x0A 0x34 true → s.Open i 0x0A 0x2C true →
      Completes (.forceWrite i sig word v) s fun t => t.tab 0x0A (0x4000 + 4 * sig.val + word.val) = if word.val = 0 then v &&& 1 else v)

/-- A write to a buffered VTIM register goes to its shadow, sets PENDING and leaves the register; at the frame start of a
display the one pending value of its page takes effect, PENDING clears and APPLY_CNT advances; APPLY in STOP does the same on
the SIG page where the map is in order, and outside STOP is refused with REFUSED set and cause APPLY_REFUSED while the shadows
stay. (R84, R85) -/
def Obligations.BufferedWriteAndApply : Prop :=
  (∀ (i : Init) (off : Nat) (v : Word) (s : State), 0x40 ≤ off → off < 0x2C0 → off % 4 = 0 → (accOf (rk 0x48 off)).ab = true →
      s.Open i 0x48 off true → s.visRefuses i (rk 0x48 off) = false → i ≠ .vote →
      Completes (.abWrite i (addrOf 0x48 off) v) s fun t =>
        t.shadowOf (rk 0x48 off) = some (merge (w32 (accOf (rk 0x48 off)).rw) (s.nextKey (rk 0x48 off)) v) ∧
          t.rd 0x48 off = s.rd 0x48 off ∧ t.rb 0x48 0x24 0 = true) ∧
    (∀ (d : Fin 6) (k : Nat) (v : Word) (s : State), s.pageUp (0x40 + d.val) = true → k ≠ rk (0x40 + d.val) 0x24 →
      s.shadow = [(k, v)] → keyPage k = 0x40 + d.val →
      Completes (.boundaryApply (0x40 + d.val) 0) s fun t => t.key k = v ∧ t.shadow = [] ∧ t.rb (0x40 + d.val) 0x24 0 = false ∧
        t.rf (0x40 + d.val) 0x24 8 8 = (s.rf (0x40 + d.val) 0x24 8 8 + 1) % 256) ∧
    (∀ (i : Init) (k : Nat) (w v : Word) (s : State), bit v 0 = true → i ≠ .vote → s.progMode = modeStop → s.shadow = [(k, w)] →
      keyPage k = 0x0A → k ≠ rk 0x0A 0x24 → (s.without 0x08).mapOk = true → s.Open i 0x0A 0x20 true →
      Completes (.apply i 0x0A v) s fun t => t.key k = w ∧ t.shadow = [] ∧ t.rb 0x0A 0x24 0 = false) ∧
    (∀ (i : Init) (v : Word) (s : State), bit v 0 = true → i ≠ .vote → s.progMode ≠ modeStop → s.Open i 0x0A 0x20 true →
      Completes (.apply i 0x0A v) s fun t => t.shadow = s.shadow ∧ t.rb 0x0A 0x24 1 = true ∧
        t.rd 0x0A 0x38 = errWord 0x20 (initCode i) 9 (s.rf 0x0A 0x38 24 8 + 1))

/-- A scrub's visit to a triplicated field whose block is up leaves the field's value as it was and the three copies equal
where no copy was upset and where one was (lost its parity, the other two as written), then with event 20; where two or three
copies have lost their parity the value becomes the bitwise majority, and in the signal map the visit records cause 8 with
initiator 0xC and puts SIG into fault state; a visit to a word that is not triplicated changes nothing. (R78, R224) -/
def Obligations.ScrubRepairsOneUpsetCopy : Prop :=
  (∀ (k : Nat) (s : State), (accOf k).t3 = true → s.pageUp (keyPage k) = true → s.Sound k →
      Completes (.t3ScrubVisit k ⟨0, 0, 0, false, false, false⟩) s fun t => t.key k = s.key k ∧ t.Sound k ∧ t.inlet = s.inlet) ∧
    (∀ (k : Nat) (d : Word) (u : Upset) (s : State), (accOf k).t3 = true → s.pageUp (keyPage k) = true → s.Sound k → parity d = true →
      u ∈ ([⟨d, 0, 0, false, false, false⟩, ⟨0, d, 0, false, false, false⟩, ⟨0, 0, d, false, false, false⟩] : List Upset) →
      Completes (.t3ScrubVisit k u) s fun t => t.key k = s.key k ∧ t.Sound k ∧ t.tab 0x02 (0x200 + 20) = s.ns) ∧
    (∀ (k : Nat) (d e g : Word) (s : State), (accOf k).t3 = true → keyPage k = 0x0A → s.pageUp 0x0A = true → s.Sound k →
      parity d = true → parity e = true →
      Completes (.t3ScrubVisit k ⟨d, e, g, false, false, false⟩) s fun t =>
        t.key k = s.key k ^^^ ((d &&& e) ||| (d &&& g) ||| (e &&& g)) ∧ t.prog.faultSig = true ∧
          t.rd 0x0A 0x38 = errWord (offOf (keyAddr k)) 0xC 8 (s.rf 0x0A 0x38 24 8 + 1)) ∧
    (∀ (k : Nat) (u : Upset) (s : State), (accOf k).t3 = false → Completes (.t3ScrubVisit k u) s fun t => t = s)

/-- An occurrence of an event without a unit page of its own (20 to 23, 26 to 29) counts once, unless COUNT_FREEZE holds the
counter, records the time, sets the event's bit in the management bank where its route word has it, and enters the recorder
inlet with its parameters and its time, monotonic and wall, where the route word has REC and the queue has room; one that is
merged changes nothing. A write by the owner of a bank clears exactly the bits written as 1; a service core's write to the
management bank is recorded with cause PEND_OWNER. (R58, R60, R63) -/
def Obligations.EventsAndTheirBanks : Prop :=
  (∀ (n : Fin 256) (p0 p1 p2 : Word) (s : State), n.val ∈ [20, 21, 22, 23, 26, 27, 28, 29] →
      Completes (.eventOccurrence n p0 p1 p2 false) s fun t =>
        t.tab 0x02 (0x100 + n.val) = (if s.rb 0x02 0x08 0 then s.tab 0x02 (0x100 + n.val)
          else w32 (min 0xFFFF (fld (s.tab 0x02 (0x100 + n.val)) 0 16 + 1))) ∧
        t.tab 0x02 (0x200 + n.val) = s.ns ∧
        (bit (s.routeWord n.val) 5 = true → t.rb 0x02 0x180 n.val = true) ∧
        t.inlet = if bit (s.routeWord n.val) 6 ∧ s.inlet.length < 256 then
            s.inlet ++ [⟨n.val, fld (s.routeWord n.val) 8 3, s.ns, s.epoch, p0, p1, p2, s.rb 0x05 0x7C 0, s.wallSeconds s.tb.count⟩]
          else s.inlet) ∧
    (∀ (n : Fin 256) (p0 p1 p2 : Word) (s : State), Completes (.eventOccurrence n p0 p1 p2 true) s fun t => t = s) ∧
    (∀ (bank : Fin 5) (w : Fin 8) (v : Word) (s : State), v ≠ 0 →
      ∀ i : Init, (if h : bank.val < 4 then i = .svc ⟨bank.val, h⟩ else i = .mgmt) → s.Open i 0x02 (0x100 + 0x20 * bank.val + 4 * w.val) true →
      Completes (.evrPendW1c i bank w v) s fun t =>
        t.rd 0x02 (0x100 + 0x20 * bank.val + 4 * w.val) = s.rd 0x02 (0x100 + 0x20 * bank.val + 4 * w.val) &&& ~~~v ∧ t.bus.err = false) ∧
    (∀ (w : Fin 8) (v : Word) (n : Fin 4) (s : State), s.Open (.svc n) 0x02 (0x180 + 4 * w.val) true →
      Completes (.evrPendW1c (.svc n) 4 w v) s fun t =>
        t.rd 0x02 0x38 = errWord (0x180 + 4 * w.val) (4 + n.val) 0xC (s.rf 0x02 0x38 24 8 + 1))

/-- ACQUIRE makes the writer the owner of a free semaphore and leaves an owned one; RELEASE by the owner frees it; FORCE by
the management core frees it from any owner. No other semaphore changes. RELEASE by another than the owner leaves the owner
and is recorded with cause SEM_NOT_OWNER. (R95, R71) -/
def Obligations.SemaphoreCommands : Prop :=
  (∀ (i : Init) (k : Fin 16) (s : State), s.Open i 0x03 (0x80 + 4 * k.val) true →
      Completes (.semAcquire i k) s fun t => t.bus.err = false ∧
        t.rf 0x03 (0x80 + 4 * k.val) 0 4 = (if s.rf 0x03 (0x80 + 4 * k.val) 0 4 = 0xF then initCode i else s.rf 0x03 (0x80 + 4 * k.val) 0 4) ∧
        ∀ j : Fin 16, j ≠ k → t.rd 0x03 (0x80 + 4 * j.val) = s.rd 0x03 (0x80 + 4 * j.val)) ∧
    (∀ (i : Init) (k : Fin 16) (s : State), s.Open i 0x03 (0x80 + 4 * k.val) true → s.rf 0x03 (0x80 + 4 * k.val) 0 4 = initCode i →
      Completes (.semRelease i k) s fun t => t.rf 0x03 (0x80 + 4 * k.val) 0 4 = 0xF ∧ t.bus.err = false ∧
        ∀ j : Fin 16, j ≠ k → t.rd 0x03 (0x80 + 4 * j.val) = s.rd 0x03 (0x80 + 4 * j.val)) ∧
    (∀ (k : Fin 16) (s : State), s.Open .mgmt 0x03 (0x80 + 4 * k.val) true →
      Completes (.semForce .mgmt k) s fun t => t.rf 0x03 (0x80 + 4 * k.val) 0 4 = 0xF ∧ t.bus.err = false ∧
        ∀ j : Fin 16, j ≠ k → t.rd 0x03 (0x80 + 4 * j.val) = s.rd 0x03 (0x80 + 4 * j.val)) ∧
    (∀ (i : Init) (k : Fin 16) (s : State), s.Open i 0x03 (0x80 + 4 * k.val) true → s.rf 0x03 (0x80 + 4 * k.val) 0 4 ≠ initCode i →
      Completes (.semRelease i k) s fun t => t.rd 0x03 (0x80 + 4 * k.val) = s.rd 0x03 (0x80 + 4 * k.val) ∧
        t.rd 0x03 0x38 = errWord (0x80 + 4 * k.val) (initCode i) 0xF (s.rf 0x03 0x38 24 8 + 1))

/-- The first arrival of a VOTING lane's store opens its write number; a matched acquire of a semaphore at the front is
executed for the lanes with code 3 and counted in VW_SEQ; a number that has found no match after 10,000 cycles is dropped with
cause VWRITE_FAIL and INIT 3. A retried acquire of a semaphore counts one retry, raises BRIDLE_RETRY and is then performed; an
access that the bridle ends for want of an answer counts one timeout, records cause TIMEOUT on its page and gives the
initiator a bus error. (R87, R89, R95, R93, R94) -/
def Obligations.BridleAndWriteVote : Prop :=
  (∀ (l : Fin 3) (k : Fin 16) (v : Word) (s : State), s.voting l.val = true → 2 ≤ s.votingCount → s.vw.slots = [] →
      s.vw.issued.getD l.val 0 = s.vw.base → l.val < s.vw.issued.length →
      s.gate (.lane l) (addrOf 0x03 (0x80 + 4 * k.val)) 4 true false = .pass →
      Completes (.votedWriteArrival l (addrOf 0x03 (0x80 + 4 * k.val)) v) s fun t =>
        t.vw.slots = [{ num := s.vw.base, got := [(l.val, addrOf 0x03 (0x80 + 4 * k.val), v)] }] ∧
          t.vw.issued.getD l.val 0 = s.vw.base + 1 ∧ t.vw.base = s.vw.base) ∧
    (∀ (k : Fin 16) (x : VwSlot) (s : State), s.vw.slots = [x] → x.num = s.vw.base → x.dropped = false →
      x.matched = some (addrOf 0x03 (0x80 + 4 * k.val), 0x100) → s.gate .vote (addrOf 0x03 (0x80 + 4 * k.val)) 4 true false = .pass →
      s.rf 0x03 (0x80 + 4 * k.val) 0 4 = 0xF →
      Completes .votedWriteExecute s fun t => t.rf 0x03 (0x80 + 4 * k.val) 0 4 = 3 ∧ t.vw.base = s.vw.base + 1 ∧
        t.rf 0x07 0x58 0 16 = (s.rf 0x07 0x58 0 16 + 1) % 0x1_0000) ∧
    (∀ (x : VwSlot) (l : Nat) (off : Nat) (v : Word) (s : State), s.vw.slots = [x] → x.dropped = false → x.matched = none →
      x.got = [(l, addrOf 0x08 off, v)] → off < 0x1000 → x.num = s.vw.base →
      Completes .votedWriteTimeout s fun t => t.vw.base = s.vw.base + 1 ∧
        t.rd 0x08 0x38 = errWord off 3 7 (s.rf 0x08 0x38 24 8 + 1)) ∧
    (∀ (i : Init) (k : Fin 16) (s : State), bridled i 0x03 = true → s.Open i 0x03 (0x80 + 4 * k.val) true →
      s.rf 0x03 (0x80 + 4 * k.val) 0 4 = 0xF →
      Completes (.bridleRetry i (addrOf 0x03 (0x80 + 4 * k.val)) (some 0x100)) s fun t =>
        t.rf 0x03 0x40 0 16 = min 0xFFFF (s.rf 0x03 0x40 0 16 + 1) ∧ t.rb 0x03 0x18 0 = true ∧
          t.rf 0x03 (0x80 + 4 * k.val) 0 4 = initCode i) ∧
    (∀ (i : Init) (page : Fin 128) (off : Nat) (s : State), off < 0x1000 → page.val ≠ 0x01 → assigned page.val = true →
      pageAbsent s.variant page.val = false → bridled i page.val = true →
      Completes (.bridleTimeout i (addrOf page.val off) false) s fun t => t.bus.err = true ∧
        t.rf 0x03 0x48 0 16 = min 0xFFFF (s.rf 0x03 0x48 0 16 + 1) ∧
        t.rd page.val 0x38 = errWord off (initCode i) 0xE (s.rf page.val 0x38 24 8 + 1))

/-- A 1 written to DOORBELL with BUSY at 0 latches CMD and the arguments, sets BUSY and puts the instance last in the doorbell
order; with BUSY at 1 it leaves the command and records cause MBOX_BUSY; a 0 does nothing. The firmware's completion of the
instance that is first in that order clears BUSY, sets DONE and gives ERR, TAG and the response words; where the code does not
exist, its plane may not give it, its length is wrong or its key pair is missing the completion is the refusal with ERR 1, 4,
2 or 3. (R98, R99, R102, R103, R104) -/
def Obligations.MailboxDoorbell : Prop :=
  (∀ (i : Init) (v : Word) (s : State), s.Open i 0x01 0x7C true →
      ∀ n, n < s.boxes.length → boxPage n = mboxPage i → Completes (.mboxDoorbell i v) s fun t => t.bus.err = false ∧
        if bit v 0 = false then t.box n = s.box n ∧ t.bells = s.bells
        else if s.boxBusy n then
          t.box n = s.box n ∧ t.bells = s.bells ∧ t.rd (mboxPage i) 0x38 = errWord 0x7C (initCode i) 0xB (s.rf (mboxPage i) 0x38 24 8 + 1)
        else
          t.boxBusy n = true ∧ (t.box n).cmd = s.rd (mboxPage i) 0x40 ∧ t.bells = s.bells.filter (fun x => x ≠ n) ++ [n] ∧
            (t.box n).args = (List.range 14).map (fun j => s.rd (mboxPage i) (0x44 + 4 * j))) ∧
    (∀ (inst : Fin 3) (err : BitVec 8) (resp : List Word) (ls : List Nat) (s : State), s.boxNext inst.val = true →
      cmdLens (fld (s.box inst.val).cmd 0 8) (s.box inst.val).args = some ls → planeOk (fld (s.box inst.val).cmd 0 8) inst.val = true →
      fld (s.box inst.val).cmd 16 16 ∈ ls → (fld (s.box inst.val).cmd 0 8 = 0x52 → (s.box inst.val).kpDone = true) → resp.length ≤ 14 →
      Completes (.mboxCommandComplete inst err resp) s fun t =>
        s.Ended t inst.val err.toNat resp.length ∧ t.boxBusy inst.val = false ∧
          ∀ j (h : j < resp.length), t.resp inst.val j = resp[j]) ∧
    (∀ (inst : Fin 3) (err : BitVec 8) (resp : List Word) (s : State), s.boxNext inst.val = true →
      cmdLens (fld (s.box inst.val).cmd 0 8) (s.box inst.val).args = none →
      Completes (.mboxCommandComplete inst err resp) s fun t => s.Ended t inst.val 1 0) ∧
    (∀ (inst : Fin 3) (err : BitVec 8) (resp : List Word) (ls : List Nat) (s : State), s.boxNext inst.val = true →
      cmdLens (fld (s.box inst.val).cmd 0 8) (s.box inst.val).args = some ls →
      (planeOk (fld (s.box inst.val).cmd 0 8) inst.val = false ∨ fld (s.box inst.val).cmd 16 16 ∉ ls ∨
        fld (s.box inst.val).cmd 0 8 = 0x52 ∧ (s.box inst.val).kpDone = false) →
      Completes (.mboxCommandComplete inst err resp) s fun t =>
        s.Ended t inst.val (if planeOk (fld (s.box inst.val).cmd 0 8) inst.val = false then 4
          else if fld (s.box inst.val).cmd 16 16 ∉ ls then 2 else 3) 0)

/-- A measurement of a source that REF_CFG names, not before the last step, counts in the source's run, which starts again
after TIMEOUT_MS, and the source's valid bit shows a run of four or more; one of a source that is not named changes nothing; a
lost source's valid bit and run are cleared, whatever measurement of another comes in the same cycle. (R133, R134) -/
def Obligations.TimeBaseMeasurement : Prop :=
  (∀ (src : Fin 5) (t : Nat) (theta : Int) (s : State), src.val ≠ 0 → s.tbPrios.contains src.val = true → s.tb.lastStep ≤ t →
      s.tb.consec.length = 4 →
      ∀ n, n = (if s.tb.consec.getD (src.val - 1) 0 = 0 ∨ t < s.tb.lastT.getD (src.val - 1) 0 + s.tbTimeout
          then s.tb.consec.getD (src.val - 1) 0 + 1 else 1) →
      Completes (.tbMeasurement src t theta) s fun u =>
        u.tb.consec.getD (src.val - 1) 0 = n ∧ u.rb 0x05 0x5C src.val = decide (4 ≤ n)) ∧
    (∀ (src : Fin 5) (t : Nat) (theta : Int) (s : State), s.tbPrios.contains src.val = false →
      Completes (.tbMeasurement src t theta) s fun u => u = s) ∧
    (∀ (x : RefLoss) (s : State), x.src.val ≠ 0 →
      Completes (.refSourceTimeout x) s fun u => u.rb 0x05 0x5C x.src.val = false ∧ u.tb.consec.getD (x.src.val - 1) 0 = 0)

/-- A second mark counts the always-on clock; while the clock runs it brings the time to the next instant, not before now, at
which wall time (monotonic time while that is not valid) is a whole second, raises TB_PPS_OUT where it is enabled in LOCKED
and HOLDOVER, and in HOLDOVER HOLD_S shows the whole seconds since its entry; a wrap brings the time to the next carry into
TB_EPOCH and raises TB_WRAP; the save keeps the time and F. A read of TB_NS that meets nothing which stops it answers the low
32 bits of the time and copies TB_EPOCH into the latch of the reading initiator (codes 4 to 0xA), the others' latches staying.
An edge of a capture source latches the time in every armed slot that names the source, and disarms it; PPS_IN latches the
time of its edge, raises TB_PPS and serves source 3; the write of the high offset word delivers the measurement of source 1.
(R37, R129, R132, R136, R141, R478, R130, R36, R133, R143) -/
def Obligations.TimeMarksAndCaptures : Prop :=
  (∀ s : State, Completes .secondMark s fun t => t.keep.rtcS = (s.keep.rtcS + 1) % 2 ^ 32 ∧
      (s.gaitNow < 3 → s.pins.running = true → t.tb.count = s.nextMark ∧ t.tb.lastMark = some s.nextMark ∧ s.tb.count ≤ s.nextMark ∧
        ((s.nextMark : Int) + s.wallOffset) % 1_000_000_000 = 0 ∧
        (s.rb 0x05 0x08 2 = true → 2 ≤ s.tbState → t.pins.ppsRise = some s.nextMark) ∧
        (s.tbState = tbHoldover → s.tb.count < s.nextMark →
          t.rd 0x05 0x80 = w32 (min 0xFFFF_FFFF ((s.nextMark - s.tb.holdAt) / 1_000_000_000))))) ∧
    (∀ s : State, Completes .tbWrap s fun t => t.tb.count = (s.tb.count / 2 ^ 32 + 1) * 2 ^ 32 ∧ t.rb 0x05 0x18 0 = true) ∧
    (∀ s : State, Completes .monoTimeSave s fun t => t.keep.monoSaved = s.tb.count ∧ t.keep.freqSaved = s.rd 0x05 0x4C) ∧
    (∀ (i : Init) (s : State), s.Open i 0x05 0x40 false → s.tb.latches.length = 7 → 4 ≤ initCode i → initCode i ≤ 0xA →
    Completes (.tbNsRead i) s fun t => t.bus.data = s.ns ∧ t.bus.err = false ∧ t.tb.latches.getD (initCode i - 4) 0 = s.epoch ∧
      ∀ j, j ≠ initCode i - 4 → t.tb.latches.getD j 0 = s.tb.latches.getD j 0) ∧
    (∀ (src : Fin 63) (k : Fin 4) (s : State), s.rb 0x05 (0xA0 + 0x10 * k.val) 8 = true → s.rf 0x05 (0xA0 + 0x10 * k.val) 0 7 = src.val →
      Completes (.tbCapture src) s fun t => t.rd 0x05 (0xA4 + 0x10 * k.val) = w32 s.tb.count ∧
        t.rd 0x05 (0xA8 + 0x10 * k.val) = w32 (s.tb.count / 2 ^ 32) ∧ t.rb 0x05 (0xA0 + 0x10 * k.val) 8 = false) ∧
    (∀ (back : Nat) (k : Fin 4) (s : State), s.rb 0x05 (0xA0 + 0x10 * k.val) 8 = true → s.rf 0x05 (0xA0 + 0x10 * k.val) 0 7 = 60 →
      Completes (.ppsIn back) s fun t => t.rd 0x05 (0xA4 + 0x10 * k.val) = w32 (s.tb.count - back) ∧ t.rb 0x05 0x18 5 = true) ∧
    (∀ (i : Init) (v : Word) (s : State), s.Open i 0x05 0x70 true → tbWriter i 0x70 = true → s.tbPrios.contains 1 = true →
      s.tb.lastStep ≤ (s.rd 0x05 0x64).toNat + 2 ^ 32 * (s.rd 0x05 0x68).toNat → s.tb.lastT.length = 4 →
      Completes (.measOfsHiWrite i v) s fun t => t.rd 0x05 0x70 = v ∧
        t.tb.lastT.getD 0 0 = (s.rd 0x05 0x64).toNat + 2 ^ 32 * (s.rd 0x05 0x68).toNat)

/-- An instruction without a bus access that takes no exception moves the main core's pc on, counts in minstret and writes its
integer register, x0 excepted; a Zicsr instruction gives its register the old value of the CSR and a written mscratch the new
one; MRET goes to mepc, and any other leaves the core in its mode. An exception sets mcause and mepc, takes the core to
machine mode and the base of mtvec, retires nothing, and shows in EXC_CAUSE and EXC_PC unless it is an environment call or a
breakpoint. No byte of memory changes. (R150, R152, R155, R158) -/
def Obligations.LaneInstructionRetires : Prop :=
  (∀ (l : Fin 3) (r : Retire) (s : State), s.LaneRuns l.val r → r.bus = .none → s.laneExc l.val r = none →
      Completes (.laneInstruction l r) s fun t => SameBytes s t ∧
        (r.csr = none → (t.lane l.val).minstret = (s.lane l.val).minstret + 1) ∧
        (r.mret = false → (t.lane l.val).pc = retirePc r ∧ (t.lane l.val).user = (s.lane l.val).user) ∧
        (r.mret = true → (t.lane l.val).pc = (s.lane l.val).csr 0x341) ∧
        (r.mret = false → r.opt ≠ .wfi → r.csr = none → r.wb = .x → r.wbReg % 32 ≠ 0 →
          alGet (t.lane l.val).xs (r.wbReg % 32) = some r.wbv) ∧
        (r.csr = none → r.wb = .x → r.wbReg % 32 = 0 → (t.lane l.val).xs = (s.lane l.val).xs) ∧
        (∀ (o : CsrOp) (old : Word), r.csr = some o → r.mret = false → r.opt ≠ .wfi → (s.lane l.val).csrRead l.val o.num = some old →
          (o.num ∉ [0xB00, 0xB80, 0xC00, 0xC80] → o.rd % 32 ≠ 0 → alGet (t.lane l.val).xs (o.rd % 32) = some old) ∧
            (∀ v, o.num = 0x340 → csrNew o old = some v → (t.lane l.val).csr 0x340 = v))) ∧
    (∀ (l : Fin 3) (r : Retire) (c : Nat) (s : State), s.LaneRuns l.val r → s.laneExc l.val r = some c →
      Completes (.laneInstruction l r) s fun t => SameBytes s t ∧ (t.lane l.val).csr 0x342 = w32 c ∧ (t.lane l.val).csr 0x341 = r.pc ∧
        (t.lane l.val).user = false ∧ (t.lane l.val).pc = ((s.lane l.val).csr 0x305 &&& ~~~3) ∧
        (t.lane l.val).minstret = (s.lane l.val).minstret ∧ (t.lane l.val).xs = (s.lane l.val).xs ∧
        (c ∉ [3, 8, 11] → t.rd 0x06 (laneOff l.val 0x28) = w32 c ∧ t.rd 0x06 (laneOff l.val 0x2C) = r.pc))

/-- A store of n bytes (1 to 4) into the lane's SRAM writes exactly the n low bytes of its datum at the address, in the lane's
own SRAM; every other byte of every memory is as before. A load of n bytes from it gives its integer register those bytes,
extended as the load says, and changes no byte. (R153, R155) -/
def Obligations.LaneStoreTouchesItsBytesOnly : Prop :=
  (∀ (l : Fin 3) (r : Retire) (a : Word) (n : Nat) (d : Word) (p : Nat) (s : State), s.LaneRuns l.val r →
      r.bus = .store a n d → 1 ≤ n → n ≤ 4 → laneTarget a.toNat n = .sram p → s.laneExc l.val r = none →
      Completes (.laneInstruction l r) s fun t =>
        (∀ j, j < n → t.byte (laneMem l.val p + j) = (bytesOf d).getD j 0) ∧
          ∀ x, x < laneMem l.val p ∨ laneMem l.val p + n ≤ x → t.byte x = s.byte x) ∧
    (∀ (l : Fin 3) (r : Retire) (a : Word) (n : Nat) (sg : Bool) (p : Nat) (s : State), s.LaneRuns l.val r →
      r.bus = .load a n sg → 1 ≤ n → n ≤ 4 → laneTarget a.toNat n = .sram p → s.laneExc l.val r = none → r.mret = false → r.opt ≠ .wfi →
      r.csr = none → r.wb = .x → r.wbReg % 32 ≠ 0 →
      Completes (.laneInstruction l r) s fun t => SameBytes s t ∧
        alGet (t.lane l.val).xs (r.wbReg % 32) = some (extendLoad n sg (bytesWord (s.bytes (laneMem l.val p) n))))

/-- A window in progress that reaches its longest length closes and waits, and the next starts with the length in WIN_CFG; the
comparison of equal signatures without an egress entry counts the window; unequal signatures fail the lane with cause
MISMATCH. (R159, R160, R168, R172) -/
def Obligations.LaneWindows : Prop :=
  (∀ (l : Fin 3) (s : State), l.val < s.lanes.length → s.laneIdle l.val = false → s.laneAlone l.val = false →
      (s.lane l.val).winCyc < 2 ^ (s.lane l.val).winLog2 →
      Completes (.laneWindowFull l) s fun t => (t.lane l.val).closed.length = (s.lane l.val).closed.length + 1 ∧
        (t.lane l.val).winCyc = 0 ∧ (t.lane l.val).winLog2 = s.winCfg l.val ∧ (t.lane l.val).pc = (s.lane l.val).pc) ∧
    (∀ (l : Fin 3) (c : Closed) (rest : List Closed) (flagged : Bool) (s : State), l.val < s.lanes.length →
      (s.lane l.val).closed = c :: rest → 1 ≤ s.laneState l.val → s.laneState l.val ≤ 3 → c.sigMain = c.sigShadow → c.entry = none →
      (s.lane l.val).splitPend = false → (s.rd 0x06 (laneOff l.val 0xC) + 1) &&& 0xFF ≠ 0xFF → s.reintBusy = false →
      Completes (.lockstepCompare l true flagged) s fun t => (t.lane l.val).closed = rest ∧
        t.rd 0x06 (laneOff l.val 0xC) = s.rd 0x06 (laneOff l.val 0xC) + 1 ∧ t.rd 0x06 (laneOff l.val 0x18) = w32 c.sigMain.toNat) ∧
    (∀ (l : Fin 3) (c : Closed) (rest : List Closed) (railsOk flagged : Bool) (s : State), l.val < s.lanes.length →
      (s.lane l.val).closed = c :: rest → 1 ≤ s.laneState l.val → s.laneState l.val ≤ 3 → c.sigMain ≠ c.sigShadow →
      Completes (.lockstepCompare l railsOk flagged) s fun t => t.laneState l.val = 6 ∧ t.rf 0x06 (laneOff l.val 4) 16 4 = 1)

/-- A write of LANE_SAFE by a lane in BOOT, SYNC or VOTING sets its own demand bit as written; the first completion of a
VOTING lane for the collect in progress is kept with its cycle in DONE_AT and sets the lane's DONE bit; the verdict read takes
frame watch's words. Of three present lanes' copies of a word the vote commits the value that at least two give, and none
where all differ; of two it commits the value on which they agree, and none otherwise. (R180, R182, R187, R183) -/
def Obligations.LaneWordsAndVote : Prop :=
  (∀ (l : Fin 3) (demand : Bool) (s : State), 1 ≤ s.laneState l.val → s.laneState l.val ≤ 3 →
      Completes (.laneSafeWrite l demand) s fun t => t.rb 0x07 0x80 l.val = demand) ∧
    (∀ (l : Fin 3) (k : Word) (cyc : Nat) (s : State), l.val < s.lanes.length → s.tro.collecting = true → s.voting l.val = true →
      k = s.tro.collectK → (s.lane l.val).doneAt = none →
      Completes (.laneCompletion l k cyc) s fun t => (t.lane l.val).doneAt = some cyc ∧
        t.rd 0x08 (doneAtOff l.val) = w32 (min doneNone cyc) ∧ t.rb 0x07 0x54 l.val = true) ∧
    (∀ (returned : Bool) (s : State), Completes (.fwatchVerdictRead returned) s fun t =>
      t.tro.verdicts = (List.range 6).map (fun v => s.rd 0x49 (fwOff v 8)) ∧ t.tro.verdictOk = (returned && s.fwUp)) ∧
    (∀ a b c v : DWord, votePick [a, b, c] = some v ↔ (a = b ∧ v = a) ∨ (a = c ∧ v = a) ∨ (b = c ∧ v = b)) ∧
    (∀ a b v : DWord, votePick [a, b] = some v ↔ a = b ∧ v = a)

/-- A tick in STOP with nothing pending (no request, start, collect, reintegration, armed change, buffered write, gait
transition; SINGLE without duplex) advances CYCLE by 1, from 0 at the first tick, stamps it with the due instant, a multiple
of the period not before now, and raises CYC_TICK; the program stays in STOP. At the deadline of a cycle in RUN for which no
VOTING lane has completed, the collect is extended once: CYC_OVERRUN is counted and PRG shows the cycle. (R174, R175, R84,
R182, R210) -/
def Obligations.TicksAndCollectDeadline : Prop :=
  (∀ s : State, s.tickRuns = true → s.booted = true → s.progMode = modeStop → s.starting = false → s.prog.req = none → s.prog.forced = none →
    s.tro.collecting = false → s.tro.vote = .none → s.shadow = [] → s.reintState ∈ [0, 1, 5, 6, 7] → s.ocState ≠ 3 → s.role = 0 →
    s.duplexEn = false → s.dup.yieldSent = false → s.dup.tryUntil = none → s.gait.stage = .none → s.periodNs ≠ 0 →
    Completes .controlTick s fun t => t.cycle = (if s.tro.ticked then s.cycle + 1 else 0) ∧ t.rd 0x08 0x54 = w32 s.nextDue ∧
      t.rd 0x08 0x58 = w32 (s.nextDue / 2 ^ 32) ∧ s.nextDue % s.periodNs = 0 ∧ s.tb.count ≤ s.nextDue ∧ t.tb.count = s.nextDue ∧
      t.rb 0x08 0x18 0 = true ∧ t.progMode = modeStop) ∧
    (∀ s : State, s.tro.collecting = true → s.progMode = modeRun → s.tro.vote = .none → s.votingLanes ≠ [] →
    (∀ l, l < 3 → s.voting l = true → (s.lane l).doneAt = none) → s.tro.extended = false →
    Completes .collectDeadline s fun t => t.tro.extended = true ∧ t.tro.collecting = true ∧
      t.rf 0x08 0x74 0 16 = min 0xFFFF (s.rf 0x08 0x74 0 16 + 1) ∧ t.rd 0x09 0x64 = s.tro.collectK)

/-- START, with its key pair by the management core or a granted service core, for a FAILED, SPLIT or DEBUG lane whose farrier
block has not failed, with a VOTING donor, no other reintegration and the program not in STOP, enters RESET with the target,
donor and RELOAD as written; Troika's own start does so for a lane that is due; the end of RESET takes the target to BOOT;
ABORT ends it with RESULT ABORTED. A lane in BOOT whose boot ROM has found its image good waits for its tick, or enters SYNC
as the target of a reintegration, which goes on to COPY; a lane that does not come out of BOOT fails with cause BOOT_TIMEOUT;
the end of a pass counts its pages; a target 16 cycles in SYNC fails with RESULT SYNC_TIMEOUT. (R190, R192, R193, R167, R191)
-/
def Obligations.Reintegration : Prop :=
  (∀ (i : Init) (v : Word) (d : Nat) (s : State), (i = .mgmt ∨ isSvc i = true) → s.rb 0x07 0x5C 8 = false →
      s.Open i 0x07 0x5C true → s.Open i 0x07 0x2C true → fld v 0 2 < 3 →
      s.laneState (fld v 0 2) ∈ [4, 5, 6] → s.laneUnusable (fld v 0 2) = false → s.reintBusy = false → d < 3 →
      s.pickDonor (fld v 0 2) (fld v 4 2) = some d → s.progMode ≠ modeStop →
      Completes (.reintStart i v) s fun t => t.reintState = 1 ∧ t.reintTarget = fld v 0 2 ∧ t.reintDonor = d ∧ t.reint.reload = bit v 12) ∧
    (∀ (l : Fin 3) (d : Nat) (s : State), l.val < s.lanes.length → s.rb 0x07 0x48 16 = true → (s.lane l.val).autoDue = true →
      (s.lane l.val).autoUsed < 3 → (s.lane l.val).hashBan = false → s.laneState l.val ∈ [4, 5, 6] → s.laneUnusable l.val = false →
      s.reintBusy = false → d < 3 → s.pickDonor l.val 3 = some d → s.progMode ≠ modeStop →
      Completes (.autoReintStart l) s fun t => t.reintState = 1 ∧ t.reintTarget = l.val ∧ t.reintDonor = d ∧
        (t.lane l.val).autoUsed = (s.lane l.val).autoUsed + 1) ∧
    (∀ s : State, s.reintState = 1 → s.reint.reload = false →
      Completes .reintResetDone s fun t => t.reintState = 2 ∧ t.laneState s.reintTarget = 1) ∧
    (∀ (i : Init) (s : State), (i = .mgmt ∨ isSvc i = true) → s.Open i 0x07 0x5C true → s.reintBusy = true →
      Completes (.reintAbort i) s fun t => t.reintState = 6 ∧ t.rf 0x07 0x60 12 4 = 8) ∧
    (∀ (l : Fin 3) (s : State), l.val < s.lanes.length → s.laneState l.val = 1 → (s.lane l.val).bootReady = false → s.reintState ≠ 2 →
      Completes (.laneBootDone l true) s fun t => (t.lane l.val).bootReady = true ∧ t.laneState l.val = 1) ∧
    (∀ (l : Fin 3) (s : State), s.laneState l.val = 1 → (s.lane l.val).bootReady = false → s.reintState = 2 → s.reintTarget = l.val →
      s.prog.needReload.testBit l.val = false →
      Completes (.laneBootDone l true) s fun t => t.laneState l.val = 2 ∧ t.reintState = 3) ∧
    (∀ (l : Fin 3) (s : State), s.laneState l.val = 1 → (s.lane l.val).bootReady = false →
      Completes (.laneBootTimeout l) s fun t => t.laneState l.val = 6 ∧ t.rf 0x06 (laneOff l.val 4) 16 4 = 6) ∧
    (∀ (dirtied : List Nat) (s : State), s.reintState = 3 →
      Completes (.reintCopyPassDone dirtied) s fun t =>
        t.rf 0x07 0x64 0 16 = min 0xFFFF (s.rf 0x07 0x64 0 16 + s.reint.dirty.length) ∧ t.reint.next = [] ∧ t.reintState = 3) ∧
    (∀ s : State, s.reintState ∈ [3, 4] → 16 ≤ s.rf 0x07 0x60 16 8 →
      Completes .syncTimeout s fun t => t.reintState = 6 ∧ t.rf 0x07 0x60 12 4 = 7 ∧ t.laneState s.reintTarget = 6)

/-- SPLIT_REQ, with its key pair, of a VOTING lane beside two others while the vehicle stands is accepted and waits for the
lane's window; FAIL_REQ of a lane in VOTING or SYNC fails it with cause REQUEST. A corrected word of the lane SRAM is counted
with its address; a clock that has stopped or departs by more than 500 ppm fails a lane in BOOT, SYNC or VOTING with cause
CLOCK; a debug access, where debug is unlocked, takes the lane to DEBUG and marks it. (R164, R165, R167, R155, R163, R166,
R172) -/
def Obligations.LaneFaultsAndRequests : Prop :=
  (∀ (i : Init) (l : Fin 3) (s : State), i ≠ .vote → l.val < s.lanes.length → s.Open i 0x06 (laneOff l.val 0) true → s.Open i 0x06 0x2C true →
      s.maySplit l.val = true →
      Completes (.splitReq i l) s fun t => (t.lane l.val).splitPend = true ∧ t.rb 0x06 (laneOff l.val 0) 0 = true ∧
        t.rb 0x06 (laneOff l.val 4) 10 = false) ∧
    (∀ (i : Init) (l : Fin 3) (s : State), i ≠ .vote → s.Open i 0x06 (laneOff l.val 0) true → s.Open i 0x06 0x2C true →
      s.laneState l.val ∈ [2, 3] → s.reintBusy = false →
      Completes (.failReq i l) s fun t => t.laneState l.val = 6 ∧ t.rf 0x06 (laneOff l.val 4) 16 4 = 9) ∧
    (∀ (l : Fin 3) (word : Nat) (s : State), s.laneState l.val ≠ 0 →
      Completes (.laneSramScrub l word .corrected) s fun t =>
        t.rf 0x06 (laneOff l.val 0x30) 0 16 = min 0xFFFF (s.rf 0x06 (laneOff l.val 0x30) 0 16 + 1) ∧
          t.rd 0x06 (laneOff l.val 0x34) = w32 (4 * word % 0x40_0000) ∧ SameBytes s t) ∧
    (∀ (l : Fin 3) (ppm : Int) (stopped : Bool) (s : State), stopped = true ∨ 500 < ppm.natAbs → 1 ≤ s.laneState l.val →
      s.laneState l.val ≤ 3 →
      Completes (.laneClockCheck l ppm stopped) s fun t => t.laneState l.val = 6 ∧ t.rf 0x06 (laneOff l.val 4) 16 4 = 4) ∧
    (∀ (l : Fin 3) (a : DebugAct) (s : State), s.rb 0x60 0x5C 0 = true → s.laneState l.val ∈ [1, 2, 3, 4] →
      (s.laneState l.val = 3 → s.moving = false ∧ s.votingCount = 3) →
      Completes (.debugRequest l a) s fun t => t.laneState l.val = 5 ∧ t.rb 0x06 (laneOff l.val 4) 8 = true)

/-- A request for RUN, STOP or HOLD that nothing refuses now waits for the tick with its initiator's reason; one that is
refused shows the reason in REFUSE and leaves what waits; beside a voted request accepted at the same instant one of another
initiator is refused with REFUSE 4 (that one instant is one cycle is the model's choice, log entry 69). HOLD_MAX elapsed in
HOLD forces STOP at the next tick with reason 5, whatever request waits, and raises PRG_HOLD_TIMEOUT. (R203, R204, R219) -/
def Obligations.ModeRequestsAndHoldLimit : Prop :=
  (∀ (c : (Init → Instr) × Nat × Bool), c ∈ [((Instr.modeReqRun · false), modeRun, false), ((Instr.modeReqRun · true), modeRun, true),
      (Instr.modeReqStop, modeStop, false), (Instr.modeReqHold, modeHold, false)] →
    ∀ (i : Init) (why : Nat) (s : State), modeReason i = some why → s.Open i 0x09 0x40 true → s.Open i 0x09 0x2C true →
      (s.modeJudge c.2.1 (why = 3) = 0 → (∀ r, s.prog.req = some r → r.at_ ≠ s.tb.count ∨ r.reason ≠ 3 ∨ why = 3) →
        Completes (c.1 i) s fun t => t.prog.req = some ⟨c.2.1, c.2.2, why, s.tb.count⟩ ∧ t.progMode = s.progMode) ∧
      (∀ r, s.modeJudge c.2.1 (why = 3) = 0 → s.prog.req = some r → r.at_ = s.tb.count → r.reason = 3 → why ≠ 3 →
        Completes (c.1 i) s fun t => t.prog.req = some r ∧ t.rf 0x09 0x44 12 4 = 4) ∧
      (s.modeJudge c.2.1 (why = 3) ≠ 0 →
        Completes (c.1 i) s fun t => t.prog.req = s.prog.req ∧ t.rf 0x09 0x44 12 4 = s.modeJudge c.2.1 (why = 3))) ∧
    (∀ s : State, s.progMode = modeHold →
    Completes .holdTimeout s fun t => t.prog.forced = some 5 ∧ t.prog.req = s.prog.req ∧ t.rb 0x09 0x18 3 = true)

/-- OPEN in RUN with a compatible image opens the change; a word of OC_WIN is stored in the image at OC_ADDR, and no byte
changes but those and the alternate halves of the lanes; ARM goes to CHECK with its relocation list; a good check arms it;
ABORT ends it with RESULT ABORTED. (R212, R213) -/
def Obligations.OnlineChange : Prop :=
  (∀ (i : Init) (s : State), i ≠ .vote → s.Open i 0x09 0x68 true → s.Open i 0x09 0x2C true → s.ocState ∉ [1, 2, 3] → s.compat = true →
      s.progMode = modeRun → Completes (.ocOpen i) s fun t => t.ocState = 1 ∧ t.rf 0x09 0x6C 4 4 = 0) ∧
    (∀ (i : Init) (off : Fin 512) (v : Word) (s : State), i ≠ .vote → s.Open i 0x09 (0x800 + 4 * off.val) true → s.ocState = 1 →
      ∀ a, a = s.rf 0x09 0x70 0 21 + 4 * off.val → a + 4 ≤ 0x20_0000 →
      Completes (.ocWinWrite i off v) s fun t => (∀ j, j < 4 → t.byte (ocMem a + j) = (bytesOf v).getD j 0) ∧
        ∀ x, (x < ocMem a ∨ ocMem a + 4 ≤ x) →
          (∀ l, l < 3 → x < laneMem l (0x20_0000 * (1 - s.runHalf) + a) ∨ laneMem l (0x20_0000 * (1 - s.runHalf) + a) + 4 ≤ x) →
          t.byte x = s.byte x) ∧
    (∀ (i : Init) (areas : List (Nat × Nat × Nat)) (s : State), i ≠ .vote → s.Open i 0x09 0x68 true → s.Open i 0x09 0x2C true →
      s.ocState = 1 →
      Completes (.ocArm i areas) s fun t => t.ocState = 2 ∧ t.prog.ocAreas = areas ∧ t.rd 0x09 0x74 = w32 (min 0x3_FFFF (ocCarry areas))) ∧
    (∀ (listBytes : Nat) (s : State), s.ocState = 2 → listBytes ≤ 0x4_0000 →
      Completes (.ocCheckDone true true listBytes) s fun t => t.ocState = 3) ∧
    (∀ (i : Init) (s : State), i ≠ .vote → s.Open i 0x09 0x68 true → s.ocState ∈ [1, 2, 3] →
      Completes (.ocAbort i) s fun t => t.ocState = 5 ∧ t.rf 0x09 0x6C 4 4 = 7)

/-- Each of the 21 operation codes written to OP_CMD with START, while no operation runs and its checks find no error, makes
the tack room busy with that operation, its slots and the length in OP_LEN; while one runs, another is not begun and ERR_BUSY
is set. A running operation that completes leaves the tack room idle with DONE, counts in OP_CNT and shows ERR 0 or, where its
check failed, ERR 5 without output; a reseed clears the request count, a failed health test sets the DRBG error; an expired
challenge is no longer valid. (R405, R406, R407, R408, R420) -/
def Obligations.TackRoomOperations : Prop :=
  (∀ c ∈ ([(Instr.tackOpAesGcmEncrypt, 0x01), (Instr.tackOpAesGcmDecrypt, 0x02), (Instr.tackOpAesCtr, 0x03), (Instr.tackOpAesCmac, 0x04),
      (Instr.tackOpSha256, 0x10), (Instr.tackOpSha384, 0x11), (Instr.tackOpHmacSha256, 0x12), (Instr.tackOpHmacSha384, 0x13),
      (Instr.tackOpEcdsaSignP256, 0x20), (Instr.tackOpEcdsaSignP384, 0x21), (Instr.tackOpEcdsaVerifyP256, 0x22),
      (Instr.tackOpEcdsaVerifyP384, 0x23), (Instr.tackOpEcdhP256, 0x30), (Instr.tackOpEcdhP384, 0x31), (Instr.tackOpHkdf, 0x40),
      (Instr.tackOpDrbgGenerate, 0x50), (Instr.tackOpGenerateKey, 0x60), (Instr.tackOpImportWrapped, 0x61),
      (Instr.tackOpExportWrapped, 0x62), (Instr.tackOpDelete, 0x63), (Instr.tackOpImportPlaintext, 0x64)] :
      List ((Init → Word → Instr) × Nat)),
    ∀ (i : Init) (v : Word) (s : State), i ≠ .vote → s.Open i 0x60 0x44 true →
      (s.rb 0x60 0x4C 0 = false → s.opError c.2 (fld v 8 6) (fld v 16 6) = 0 →
        Completes (c.1 i v) s fun t => t.sec.op = some ⟨c.2, fld v 8 6, fld v 16 6, bit v 25, s.rf 0x60 0x48 0 12⟩ ∧
          t.rb 0x60 0x4C 0 = true) ∧
      (s.rb 0x60 0x4C 0 = true → Completes (c.1 i v) s fun t => t.sec.op = s.sec.op ∧ t.rb 0x60 0x4C 2 = true)) ∧
    (∀ (o : TackOp) (out : List Byte) (s : State), s.sec.op = some o → Completes (.tackOpDone (.ok out)) s fun t =>
      t.sec.op = none ∧ t.rf 0x60 0x4C 0 2 = 2 ∧ t.rf 0x60 0x4C 8 8 = 0 ∧ t.rd 0x60 0xC0 = s.rd 0x60 0xC0 + 1) ∧
    (∀ (o : TackOp) (s : State), s.sec.op = some o → Completes (.tackOpDone .bad) s fun t =>
      t.sec.op = none ∧ t.rf 0x60 0x4C 0 2 = 2 ∧ t.rf 0x60 0x4C 8 8 = 5 ∧ t.rd 0x60 0xC0 = s.rd 0x60 0xC0 + 1 ∧
        t.keep.blobs = s.keep.blobs ∧ t.sec.volatile = s.sec.volatile) ∧
    (∀ s : State, Completes (.drbgReseed true) s fun t => t.sec.drbg = 0) ∧
    (∀ s : State, Completes (.drbgReseed false) s fun t => t.rb 0x60 0x0C 5 = true) ∧
    (∀ s : State, Completes .debugChallengeExpiry s fun t => t.sec.nonce = none)

/-- Sources whose condition appears are latched, and RAW follows the conditions; a write of LATCH by the management core
clears exactly the written bits whose condition has ended; a failed OTP check latches source 11. (R415, R416, R426) -/
def Obligations.SpookAlarm : Prop :=
  (∀ (srcs : BitVec 12) (s : State), Completes (.spookTrigger srcs) s fun t => t.rd 0x61 0x48 = w32 srcs.toNat ∧
      ∀ k, k < 12 → srcs.getLsbD k = true → bit (s.rd 0x61 0x48) k = false → t.rb 0x61 0x4C k = true) ∧
    (∀ (v : Word) (s : State), s.Open .mgmt 0x61 0x4C true → Completes (.spookLatchW1c .mgmt v) s fun t =>
      t.rd 0x61 0x4C = s.rd 0x61 0x4C &&& (~~~v ||| s.rd 0x61 0x48) &&& 0xFFF) ∧
    (∀ (ok : Bool) (s : State), Completes (.otpRecheck ok) s fun t => t.keep.otpOk = ok ∧ (ok = false → t.rb 0x61 0x4C 11 = true))

/-- GET_CHALLENGE answers eight nonce words and the serial number; a good response to a challenge not 60 s old, with the
vehicle standing, opens the scopes asked for and clears the count of failures; a bad one uses up the challenge and counts;
ZEROIZE with its word erases the blobs and the root and burns an epoch. (R418, R420, R421) -/
def Obligations.DebugUnlockAndZeroize : Prop :=
  (∀ (inst : Fin 3) (s : State), s.Holds inst.val 0x70 [4] → fld (s.boxArg inst.val 0) 0 2 = 1 →
      Completes (.getChallenge inst) s fun t => s.Ended t inst.val 0 10 ∧
        t.sec.nonce = some ((List.range 8).map (fun j => Config.freeWord (s.freeIx + j))) ∧
          (∀ j, j < 8 → t.resp inst.val j = Config.freeWord (s.freeIx + j)) ∧ t.resp inst.val 8 = Config.serialLo) ∧
    (∀ (inst : Fin 3) (s : State), s.Holds inst.val 0x70 [8] → fld (s.boxArg inst.val 0) 0 2 = 2 → s.moving = false →
      (2 ≤ fld (s.boxArg inst.val 1) 0 2 → s.progMode = modeStop) → s.sec.nonce.isSome = true → s.tb.count < s.sec.nonceAt + 60_000_000_000 →
      Completes (.submit inst true) s fun t => s.Ended t inst.val 0 0 ∧ t.keep.dbgFail = 0 ∧ t.sec.nonce = none ∧
        t.rd 0x60 0x5C = s.rd 0x60 0x5C ||| w32 (fld (s.boxArg inst.val 1) 0 2)) ∧
    (∀ (inst : Fin 3) (s : State), s.Holds inst.val 0x70 [8] → fld (s.boxArg inst.val 0) 0 2 = 2 → s.moving = false →
      (2 ≤ fld (s.boxArg inst.val 1) 0 2 → s.progMode = modeStop) → s.sec.nonce.isSome = true → s.tb.count < s.sec.nonceAt + 60_000_000_000 → s.keep.dbgFail < 2 →
      Completes (.submit inst false) s fun t => s.Ended t inst.val 7 0 ∧ t.keep.dbgFail = s.keep.dbgFail + 1 ∧ t.sec.nonce = none) ∧
    (∀ (inst : Fin 3) (s : State), s.Holds inst.val 0x71 [4] → s.boxArg inst.val 0 = 0x5A45_524F →
      Completes (.zeroize inst) s fun t => s.Ended t inst.val 0 0 ∧ t.keep.blobs = [] ∧ t.keep.customerRoot = false ∧
        t.keep.epochs = min 64 (s.keep.epochs + 1) ∧ t.tackLocked = true)

/-- The head of the inlet leaves it and, where it bypasses the martingale and there is room, is staged last with the next SEQ;
an application record of severity 7 with a code from 0x8000 is staged with its initiator and parameters. A refill brings time
to the next millisecond and raises every bucket by its rate up to its burst; the end of a second brings time to the next whole
second and clears what was suppressed; the flush interval brings time to the next half second and asks for a flush where none
is due; a flush that is due empties staging, counts, and writes a staged record to the ring. (R446, R448, R450, R455, R451,
R452, R454) -/
def Obligations.RecordsAndMartingale : Prop :=
  (∀ (e : Inlet) (rest : List Inlet) (s : State), s.mgmtRuns = true → s.inlet = e :: rest → e.sev = 7 → s.recd.staged.length < 2048 →
      s.recd.gapOwed = 0 → s.pfOver = false →
      Completes (.recordAccept none) s fun t => t.inlet = rest ∧ t.keep.nextSeq = s.keep.nextSeq + 1 ∧
        ∃ r, t.recd.staged = s.recd.staged ++ [r] ∧ r.code = e.code % 0x1_0000 ∧ r.seq = s.keep.nextSeq ∧ r.p0 = e.p0 ∧ r.p1 = e.p1 ∧
          r.p2 = e.p2 ∧ r.ns = e.ns ∧ r.epoch = e.epoch ∧ r.wallValid = e.wallValid ∧ r.wallS = e.wallS) ∧
    (∀ (i : Init) (v : Word) (s : State), i ≠ .vote → s.Open i 0x70 0x6C true → 0x8000 ≤ fld v 0 16 → fld v 24 3 = 7 →
      s.recd.staged.length < 2048 → s.recd.gapOwed = 0 → s.pfOver = false →
      Completes (.appCodeWrite i v) s fun t => t.bus.err = false ∧ t.keep.nextSeq = s.keep.nextSeq + 1 ∧
        ∃ r, t.recd.staged = s.recd.staged ++ [r] ∧ r.code = fld v 0 16 ∧ r.source = initCode i ∧ r.sev = 7 ∧ r.seq = s.keep.nextSeq ∧
          r.p0 = s.rd 0x70 (appOff (initCode i) 0)) ∧
    (∀ s : State, s.recTimed = true → Completes .martingaleRefill s fun t => t.tb.count = s.nextMultiple 1_000_000 s.recd.refillAt ∧
      t.tb.count % 1_000_000 = 0 ∧ t.recd.defLevel = min (s.recd.defLevel + 10) 8000 ∧
      t.recd.buckets = s.recd.buckets.map (fun b => { b with level := min (b.level + b.rate) (1000 * b.burst) })) ∧
    (∀ s : State, s.recTimed = true → Completes .martingaleSecondEnd s fun t =>
      t.tb.count = s.nextMultiple 1_000_000_000 s.recd.endAt ∧ t.tb.count % 1_000_000_000 = 0 ∧ t.recd.supp = [] ∧
        t.recd.buckets = s.recd.buckets) ∧
    (∀ s : State, s.recTimed = true → s.recd.flushDue = none → Completes .recFlushInterval s fun t =>
      t.tb.count = s.nextMultiple 500_000_000 s.recd.flushAt ∧ t.recd.flushDue = some 2) ∧
    (∀ (studOk : Bool) (trig : Nat) (r : Rec) (s : State), s.recd.flushDue = some trig → s.recd.staged = [r] → s.recd.gapOwed = 0 →
      s.pfOver = false → s.keep.ring.length < 491_520 →
      Completes (.recFlush true studOk) s fun t => t.recd.staged = [] ∧ t.recd.flushDue = none ∧ t.rd 0x70 0x68 = s.rd 0x70 0x68 + 1 ∧
        ∃ q, t.keep.ring = s.keep.ring ++ [q] ∧ q.code = r.code ∧ q.seq = r.seq ∧ q.p0 = r.p0 ∧ q.p1 = r.p1 ∧ q.p2 = r.p2)

/-- REC_READ answers how many records it put into the window; REC_EXPORT of the ring starts an export of those from the SEQ
asked for; REC_CLEAR_STUDBOOK, with its key pair and the vehicle standing, empties the general studbook; MARTINGALE_SET gives
a code its bucket, full. A read of EXP_PORT gives the next word of the export, and all ones with none; an export that nobody
reads ends; the yearly refresh in GALLOP counts. (R453, R459, R462, R463, R491) -/
def Obligations.RecorderCommandsAndExport : Prop :=
  (∀ (inst : Fin 3) (s : State), s.Holds inst.val 0x50 [12] → fld (s.boxArg inst.val 0) 0 2 < 2 → (s.boxArg inst.val 2).toNat ∈ List.range' 1 64 →
      Completes (.recRead inst) s fun t => s.Ended t inst.val 0 3 ∧ t.resp inst.val 2 = s.keep.nextSeq ∧
        t.resp inst.val 0 = w32 ((s.areaFrom (fld (s.boxArg inst.val 0) 0 2) (s.boxArg inst.val 1)).take (s.boxArg inst.val 2).toNat).length) ∧
    (∀ (inst : Fin 3) (s : State), s.Holds inst.val 0x51 [12] → fld (s.boxArg inst.val 0) 0 2 = 0 → s.recd.exp = none → s.boxArg inst.val 2 = 0 →
      s.areaFrom 0 (s.boxArg inst.val 1) ≠ [] →
      Completes (.recExport inst) s fun t => s.Ended t inst.val 0 2 ∧
        t.recd.exp = some { area := 0, words := [], recs := (s.areaFrom 0 (s.boxArg inst.val 1)).map Prod.snd, readAt := s.tb.count }) ∧
    (∀ (inst : Fin 3) (s : State), s.Holds inst.val 0x52 [0] → (s.box inst.val).kpDone = true → s.moving = false → s.recd.exp = none →
      Completes (.recClearStudbook inst) s fun t => s.Ended t inst.val 0 0 ∧ t.keep.studGen = [] ∧ t.keep.studFull = false ∧
        t.keep.studAlarm = s.keep.studAlarm) ∧
    (∀ (inst : Fin 3) (s : State), s.Holds inst.val 0x53 [8] → fld (s.boxArg inst.val 1) 0 10 ∈ List.range' 1 1000 →
      s.recd.buckets.length < 1024 → (∀ b ∈ s.recd.buckets, b.code ≠ fld (s.boxArg inst.val 0) 0 16) →
      Completes (.martingaleSet inst) s fun t => s.Ended t inst.val 0 0 ∧
        t.recd.buckets = s.recd.buckets ++ [⟨fld (s.boxArg inst.val 0) 0 16, fld (s.boxArg inst.val 1) 0 10,
          fld (s.boxArg inst.val 1) 16 6 + 1, 1000 * (fld (s.boxArg inst.val 1) 16 6 + 1)⟩]) ∧
    (∀ (i : Init) (w : Word) (rest : List Word) (e : Export) (s : State), s.Open i 0x70 0x60 false → s.recd.exp = some e → e.words = w :: rest →
      Completes (.expPortRead i) s fun t => t.bus.data = w ∧ t.bus.err = false ∧
        t.recd.exp = if rest = [] ∧ e.recs = [] then none else some { e with words := rest, readAt := s.tb.count }) ∧
    (∀ (i : Init) (s : State), s.Open i 0x70 0x60 false → s.recd.exp = none →
      Completes (.expPortRead i) s fun t => t.bus.data = 0xFFFF_FFFF ∧ t.recd.exp = none) ∧
    (∀ s : State, Completes .recExportTimeout s fun t => t.recd.exp = none ∧ t.keep = s.keep) ∧
    (∀ s : State, s.gaitNow = 0 → Completes (.mramRefresh true) s fun t => t.keep.refreshes = s.keep.refreshes + 1)

/-- 1,000 ns after a tick the module sends the frame of that tick, once, and counts HB_SEQ; a frame with a bad CRC is counted
and changes nothing else of the partner's state; a good one of the partner shows its role, sequence and health; a heartbeat
over Ethernet does so too; the link's state follows XLINK_UP and XLINK_DOWN. (R389, R391, R393) -/
def Obligations.DuplexLink : Prop :=
  (∀ s : State, s.xlinkUp = true → s.dup.frameDue = true → s.gaitNow < 2 → Completes .xlinkFrameSend s fun t =>
      t.dup.sent = some (s.advanceTo (s.dueTick + 1000)).frameNow ∧ t.dup.frameDue = false ∧ t.dup.hbNext = (s.dup.hbNext + 1) % 0x1_0000 ∧ t.rd 0x50 0x60 = w32 s.dup.hbNext) ∧
    (∀ (f : XFrame) (s : State), s.xlinkUp = true → s.rb 0x50 0x5C 0 = true → f.crcOk = false →
      Completes (.xlinkFrameReceived f) s fun t => t.rf 0x50 0x78 0 16 = min 0xFFFF (s.rf 0x50 0x78 0 16 + 1) ∧ t.dup = s.dup) ∧
    (∀ (f : XFrame) (s : State), s.xlinkUp = true → s.rb 0x50 0x5C 0 = true → f.crcOk = true → f.slot ≠ s.rb 0x00 0x44 4 →
      Completes (.xlinkFrameReceived f) s fun t => t.rf 0x50 0x58 2 2 = f.role % 4 ∧ t.rf 0x50 0x5C 16 16 = f.hbSeq % 0x1_0000 ∧
        t.rd 0x50 0x6C = w32 f.health ∧ t.rd 0x50 0x70 = w32 (f.health / 2 ^ 32)) ∧
    (∀ (f : XFrame) (s : State), s.xlinkUp = true → s.ethUp = true → f.crcOk = true → f.slot ≠ s.rb 0x00 0x44 4 →
      Completes (.ethHeartbeatReceived f) s fun t => t.rf 0x50 0x58 2 2 = f.role % 4 ∧ t.dup.ethSeen = true ∧
        t.rd 0x50 0x6C = w32 f.health) ∧
    (∀ s : State, s.xlinkUp = true → s.rb 0x50 0x5C 0 = false → s.xlinkTested = false → Completes .xlinkUp s fun t => t.rb 0x50 0x5C 0 = true ∧ t.rb 0x50 0x18 0 = true) ∧
    (∀ s : State, s.rb 0x50 0x5C 0 = true → Completes .xlinkDown s fun t => t.rb 0x50 0x5C 0 = false ∧ t.rb 0x50 0x18 1 = true)

/-- When the hold time ends the module releases ROLE_OUT and an ACTIVE one becomes OUTRIDER; ROLE_IN asserted against its own
line does the same; DUPLEX_ROLE answers the role word and sets or clears INHIBIT; DUPLEX_YIELD of an ACTIVE module with a
healthy partner sends the yield and completes later, and else answers ERR 6. (R34, R385, R386, R396) -/
def Obligations.DuplexRoles : Prop :=
  (∀ s : State, s.roleOut = true → Completes .roleHoldTimeout s fun t => t.roleOut = false ∧ t.role = if s.role = 1 then 2 else s.role) ∧
    (∀ s : State, s.roleOut = true → s.role = 1 → Completes (.roleInChange true) s fun t => t.roleIn = true ∧ t.role = 2 ∧ t.roleOut = false) ∧
    (∀ s : State, s.dup.tryUntil = none → Completes (.roleInChange false) s fun t => t.roleIn = false ∧ t.role = s.role) ∧
    (∀ (inst : Fin 3) (s : State), s.Holds inst.val 0x80 [4] → roleSub (s.box inst.val).args = 0 →
      Completes (.duplexRoleQuery inst) s fun t => s.Ended t inst.val 0 3 ∧ t.resp inst.val 0 = s.roleWord) ∧
    (∀ (inst : Fin 3) (s : State), s.Holds inst.val 0x80 [4] → roleSub (s.box inst.val).args = 1 → s.duplexEn = true →
      Completes (.duplexRoleSetInhibit inst) s fun t => s.Ended t inst.val 0 3 ∧ t.inhibit = true) ∧
    (∀ (inst : Fin 3) (s : State), s.Holds inst.val 0x80 [4] → roleSub (s.box inst.val).args = 2 → s.duplexEn = true →
      Completes (.duplexRoleClearInhibit inst) s fun t => s.Ended t inst.val 0 3 ∧ t.inhibit = false) ∧
    (∀ (inst : Fin 3) (s : State), s.Holds inst.val 0x81 [0] → s.mayYield = true →
      Completes (.duplexYield inst) s fun t => t.dup.yieldNext = true ∧ t.dup.yieldBox = some inst ∧ t.boxBusy inst.val = true) ∧
    (∀ (inst : Fin 3) (s : State), s.Holds inst.val 0x81 [0] → s.mayYield = false →
      Completes (.duplexYield inst) s fun t => s.Ended t inst.val 6 0)

/-- PING answers its arguments; GET_ID the letter of the variant, the serial number, the hardware revision and the firmware
version; PROFILE_SELECT stores or revokes the selection; PROFILE_QUERY answers it with the build; BIST_RUN of blocks that may
be tested starts a run over them and BIST_RESULT answers the results; TIME_SET_WALL sets the offset and its validity. (R100,
R110, R111, R121, R139, R496) -/
def Obligations.StartUpCommands : Prop :=
  (∀ (inst : Fin 3) (s : State), s.Holds inst.val 0x01 (List.range 57) → ∀ n, n = (fld (s.box inst.val).cmd 16 16 + 3) / 4 →
      Completes (.ping inst) s fun t => s.Ended t inst.val 0 n ∧ ∀ j, j < n → t.resp inst.val j = s.boxArg inst.val j) ∧
    (∀ (inst : Fin 3) (s : State), s.Holds inst.val 0x02 [0] → Completes (.getId inst) s fun t => s.Ended t inst.val 0 5 ∧
      t.resp inst.val 0 = variantLetter s.variant ∧ t.resp inst.val 1 = Config.serialLo ∧ t.resp inst.val 2 = Config.serialHi ∧
        t.resp inst.val 3 = Config.hwRev ∧ t.resp inst.val 4 = s.fwVersion) ∧
    (∀ (inst : Fin 3) (s : State), s.Holds inst.val 0x10 [4] → profKind (s.box inst.val).args = 0 → s.booted = true →
      s.boxArg inst.val 0 &&& 0xFFFF_FEEC = 0 → s.storeRefusal (s.tackSet (fld (s.boxArg inst.val 0) 0 2)) = 0 →
      Completes (.profileSelectStore inst) s fun t => s.Ended t inst.val 0 0 ∧
        t.keep = { s.keep with stored := some (Fin.ofNat 4 (fld (s.boxArg inst.val 0) 0 2)) }) ∧
    (∀ (inst : Fin 3) (s : State), s.Holds inst.val 0x10 [4] → profKind (s.box inst.val).args = 1 → s.booted = true →
      s.boxArg inst.val 0 &&& 0xFFFF_FEEC = 0 → s.progMode = modeStop → s.starting = false → s.moving = false →
      s.setRefusal (s.tackSet (fld (s.boxArg inst.val 0) 0 2)) = 0 →
      Completes (.profileSelectImmediate inst) s fun t => t.boxBusy inst.val = false ∧ t.loaded = true ∧
        t.rf 0x00 0x48 0 2 = fld (s.boxArg inst.val 0) 0 2) ∧
    (∀ (inst : Fin 3) (s : State), s.Holds inst.val 0x10 [4] → profKind (s.box inst.val).args = 2 → s.booted = true →
      s.boxArg inst.val 0 &&& 0xFFFF_FEEC = 0 →
      Completes (.profileSelectRevoke inst) s fun t => s.Ended t inst.val 0 0 ∧ t.keep = { s.keep with stored := none }) ∧
    (∀ (inst : Fin 3) (s : State), s.Holds inst.val 0x11 [0] → Completes (.profileQuery inst) s fun t => s.Ended t inst.val 0 2 ∧
      fld (t.resp inst.val 0) 0 2 = s.rf 0x00 0x48 0 2 ∧ (bit (t.resp inst.val 0) 12 = s.keep.stored.isSome) ∧ t.resp inst.val 1 = s.prog.build) ∧
    (∀ (inst : Fin 3) (s : State), s.Holds inst.val 0x30 [8] → s.farr.run = .idle →
      ∀ bs, bs = (List.range 64).filter (fun b => bit (s.boxArg inst.val (b / 32)) (b % 32)) → bs ≠ [] →
      (∀ b ∈ bs, blockAbsent s.variant b = false ∧ s.mayTest b = true) →
      Completes (.bistRun inst) s fun t => t.farr.run = .runtime inst ∧ t.farr.left = bs ∧ t.boxBusy inst.val = true) ∧
    (∀ (inst : Fin 3) (s : State), s.Holds inst.val 0x31 [0] → Completes (.bistResult inst) s fun t => s.Ended t inst.val 0 5 ∧
      ∀ j, j < 4 → t.resp inst.val j = s.rd 0x04 (0x40 + 4 * j)) ∧
    (∀ (inst : Fin 3) (at_ wall : Nat) (s : State), s.Holds inst.val 0x60 [16] → (s.boxArg inst.val 1).toNat ≤ 999_999_999 →
      at_ = (s.boxArg inst.val 2).toNat + 2 ^ 32 * (s.boxArg inst.val 3).toNat → at_ ≤ s.tb.count →
      wall = (s.boxArg inst.val 0).toNat * 1_000_000_000 + (s.boxArg inst.val 1).toNat →
      Completes (.timeSetWall inst) s fun t => s.Ended t inst.val 0 0 ∧ t.rd 0x05 0x74 = wInt ((wall : Int) - at_) ∧
        t.rd 0x05 0x78 = wInt (((wall : Int) - at_) / 2 ^ 32) ∧ t.rb 0x05 0x7C 0 = true)

/-- A power-on reset, a reset after a fault, a cold and a warm restart each show their cause and count one reset, the first
with the straps as it finds them, and a warm restart in a cycle that its source lane has not completed waits for that; the
management watchdog, before its third expiry within 10 s, resets the management plane alone, showing cause 6, and no mailbox
instance stays busy; a boot phase that overruns stays in BOOT_PHASE with maintenance service where the MRAM controller serves
it, and the lanes are OFF; a provisioning image in ROM recovery, where no spook source stands, enrols the customer root.
(R105, R106, R107, R411, R419) -/
def Obligations.ResetsOfTheModule : Prop :=
  (∀ (x : PowerOn) (elapsed : Nat) (s : State), Completes (.powerOnReset x elapsed) s fun t => t.rf 0x00 0x40 0 8 = 1 ∧
      t.keep.boots = min 0xFFFF (s.keep.boots + 1) ∧ t.rb 0x00 0x44 4 = x.slotId ∧ t.svcStart = (x.svcModeLow && !x.movingLow) ∧
        t.keep.otpOk = x.otpOk) ∧
    (∀ s : State, Completes .faultReset s fun t => t.rf 0x00 0x40 0 8 = 5 ∧ t.keep.boots = min 0xFFFF (s.keep.boots + 1)) ∧
    (∀ (x : ColdStart) (s : State), s.Holds x.inst.val 0x90 [4] → bit (s.boxArg x.inst.val 0) 0 = true → s.moving = false →
      Completes (.restartCold x) s fun t => t.rf 0x00 0x40 0 8 = 3 ∧ t.keep.boots = min 0xFFFF (s.keep.boots + 1)) ∧
    (∀ (inst : Fin 3) (s : State), s.Holds inst.val 0x90 [4] → bit (s.boxArg inst.val 0) 0 = false → s.moving = false →
      s.awaitsDone = false →
      Completes (.restartWarm inst) s fun t => t.rf 0x00 0x40 0 8 = 4 ∧ t.keep.boots = min 0xFFFF (s.keep.boots + 1)) ∧
    (∀ (inst : Fin 3) (s : State), s.Holds inst.val 0x90 [4] → bit (s.boxArg inst.val 0) 0 = false → s.moving = false →
      s.awaitsDone = true → Completes (.restartWarm inst) s fun t => t.prog.retainTrig = some .restart ∧ t.boxBusy inst.val = true ∧
        t.keep = s.keep ∧ t.regs = s.regs) ∧
    (∀ s : State, s.pins.running = true → s.pins.recovery = false →
      (s.keep.wdTimes.filter (fun t => s.tb.count < t + 10_000_000_000)).length < 2 →
      Completes .mgmtWatchdogReset s fun t => t.rf 0x00 0x40 0 8 = 6 ∧ t.keep.boots = min 0xFFFF (s.keep.boots + 1) ∧
        ∀ n, n < 3 → t.boxBusy n = false) ∧
    (∀ (phase : Fin 9) (s : State), (s.farr.run = .boot ∧ 1 ≤ phase.val ∧ phase.val ≤ 4) ∨
        (s.bootPhase = 8 ∧ s.tro.bootOver = false ∧ 1 ≤ phase.val ∧
          (s.rf 0x00 0x40 0 8 ∉ [2, 4] ∨ phase.val ∉ [3, 4])) →
      Completes (.bootPhaseOverrun phase) s fun t => t.bootPhase = phase.val ∧ t.rd 0x00 0x58 = (if s.blockNotFail 11 then 1 else 0) ∧
        ∀ l, l < 3 → t.laneState l = 0) ∧
    (∀ (h : ImageHdr) (s : State), s.pins.recovery = true → s.pins.usb = true → h.evopelOk = true → h.digestOk = true →
      s.keep.epochs < 64 → s.keep.otpOk = true → fld (s.rd 0x61 0x48) 0 12 = 0 →
      Completes (.romRecoveryImage true h) s fun t => t.keep.customerRoot = true ∧ t.keep.boots = min 0xFFFF (s.keep.boots + 1))

/-- LOGIC_LOW shows the voltage; an interruption with the hold-up store charged is ridden through, one without starts the
power-fail sequence, as does 10 ms of interruption: the time is saved, the safe state taken, the role released; a module whose
supply stays away is then off; SAFE_N demands and latches the safe state, as do rails that are not complementary; the filters
set MOVING; the sample of a temperature below the limit is shown. (R28, R31, R32, R42, R43, R44, R45, R125, R474) -/
def Obligations.SuppliesAndPins : Prop :=
  (∀ (mv : Nat) (s : State), s.pins.running = true → mv < 16_800 → Completes (.logicLow mv) s fun t => t.rd 0x00 0x5C = w32 mv ∧ t.rb 0x00 0x18 7 = true) ∧
    (∀ s : State, s.pins.running = true → s.pins.interrupted = false → s.pins.pfActive = false → s.pins.holdup = true → s.booted = true →
      Completes .logicInInterruption s fun t => t = { s with pins := { s.pins with interrupted := true, fellAt := s.tb.count } }) ∧
    (∀ s : State, s.pins.running = true → s.pins.interrupted = false → s.pins.pfActive = false → s.pins.holdup = false →
      Completes .logicInInterruption s fun t => t.pins.pfActive = true ∧ t.keep.monoSaved = s.tb.count) ∧
    (∀ s : State, s.pins.interrupted = true → s.pins.pfActive = false →
      Completes (.logicInReturn true) s fun t => t = { s with pins := { s.pins with interrupted := false } }) ∧
    (∀ s : State, s.pins.running = true → s.pins.interrupted = true → s.pins.pfActive = false → s.gaitNow < 4 →
      Completes .powerFail s fun t => t.pins.pfActive = true ∧ t.keep.monoSaved = s.tb.count ∧ t.latched = true ∧ t.roleOut = false ∧
        t.rb 0x00 0x18 8 = true) ∧
    (∀ (elapsed : Nat) (s : State), s.pins.pfActive = true → s.pins.pfReturned = false →
      Completes (.powerFailReset false elapsed) s fun t => t.pins.running = false ∧ t.keep.boots = s.keep.boots ∧ t.keep.ring = s.keep.ring) ∧
    (∀ s : State, s.pins.running = true → s.pins.interrupted = false →
      Completes .holdupCharged s fun t => t = { s with pins := { s.pins with holdup := true } }) ∧
    (∀ (x : SafeLine) (s : State), x.low = true ∨ x.railsOk = false →
      Completes (.safeNFilterExpiry x) s fun t => t.pins.safeN = x.low ∧ t.tro.railsOk = x.railsOk ∧ t.latched = true ∧ t.rb 0x07 0x44 0 = true) ∧
    (∀ (x : SafeLine) (s : State), x.low = false → x.railsOk = true →
      Completes (.safeNFilterExpiry x) s fun t => t.pins.safeN = false ∧ t.tro.railsOk = true) ∧
    (∀ s : State, Completes .movingFilterMoving s fun t => t.moving = true ∧ t.regs = s.regs) ∧
    (∀ s : State, Completes .movingFilterStationary s fun t => t.moving = s.progMoving ∧ t.regs = s.regs) ∧
    (∀ (above : Bool) (s : State), Completes (.usbVbusChange above) s fun t => t = { s with pins := { s.pins with usb := above } }) ∧
    (∀ (temp : Int) (mv : Nat) (s : State), s.mgmtRuns = true → temp < 1300 →
      Completes (.dieTempSample temp mv) s fun t => t.rf 0x00 0x60 0 16 = (BitVec.ofInt 16 temp).toNat ∧ t.rd 0x00 0x5C = w32 (min 0xFFFF mv))

/-- A run whose preconditions hold passes its check; a boot run whose preconditions do not hold waits; a block whose signature
is the golden one reads PASS, another FAIL, and the run goes on with the blocks left; a precondition that fails ends a run
with the cause shown; a rotation in an OUTRIDER with three lanes VOTING takes the next lane and tests it. (R116, R117, R118,
R120, R397) -/
def Obligations.FarrierRuns : Prop :=
  (∀ (expired : Bool) (s : State), s.farr.run ≠ .idle → s.farr.checked = false →
      Completes (.farrierPrecheckRetry true true true expired) s fun t => t = { s with farr := { s.farr with checked := true } }) ∧
    (∀ (supplyOk clockOk tempOk : Bool) (s : State), s.farr.run = .boot → s.farr.checked = false → (supplyOk && clockOk && tempOk) = false →
      Completes (.farrierPrecheckRetry supplyOk clockOk tempOk false) s fun t => t = s) ∧
    (∀ (sig : Word) (b c : Nat) (rest : List Nat) (s : State), s.farr.run ≠ .idle → s.farr.left = b :: c :: rest → b < 64 → s.blockRes b ≠ 2 →
      Completes (.farrierBlockDone sig true true true) s fun t => t.farr.left = c :: rest ∧ t.tab 0x04 b = sig ∧
        t.blockRes b = if sig = stGet 0 s.keep.golden b then 1 else 2) ∧
    (∀ (supplyOk clockOk tempOk : Bool) (inst : Fin 3) (s : State), s.farr.run = .runtime inst → (supplyOk && clockOk && tempOk) = false →
      Completes (.farrierPreconditionFail supplyOk clockOk tempOk) s fun t => t.farr.run = .idle ∧ t.rf 0x04 0x0C 0 2 = 0 ∧
        t.rb 0x04 0x0C 8 = !supplyOk ∧ t.rb 0x04 0x0C 9 = !clockOk ∧ t.rb 0x04 0x0C 10 = !tempOk) ∧
    (∀ s : State, s.rb 0x50 0x40 2 = true → s.role = 2 → s.votingCount = 3 → s.farr.run = .idle → s.dup.rotating = none → s.reintBusy = false →
      Completes .laneRotation s fun t => t.farr.run = .rotation (Fin.ofNat 3 (s.dup.rotNext % 3)) ∧ t.farr.left = [s.dup.rotNext % 3] ∧
        t.dup.rotNext = (s.dup.rotNext % 3 + 1) % 3 ∧ t.laneState (s.dup.rotNext % 3) = 6)

/-- A start whose lane image authenticates and keeps its limits loads it and is ready for its tick; the retain record of a
stop is written with the cycle that its source lane has last completed; an enabled station without a frame is marked lost and
counted; the check of the map shows its CRC and, where a loaded map departs, takes SIG to its fault state. (R205, R208, R218,
R224, R409) -/
def Obligations.ProgramStartAndRecords : Prop :=
  (∀ (c : Component) (s : State), s.starting = true → s.prog.starting = false → s.slotImage = some c → s.authFail c.hdr = 0 →
      layoutOk c.image = true →
      Completes .programStart s fun t => t.prog.starting = true ∧ t.prog.image = c.image ∧ t.prog.imageOk = true) ∧
    (∀ (l : Nat) (ls : List Nat) (c : Word × DWord) (why : RetainTrig) (s : State), s.votingLanes = l :: ls → (s.lane l).lastDone = some c →
      s.prog.retainTrig = some why → (why ≠ .restart ∨ s.pins.pfActive = true) → s.gait.stage ≠ .retain →
      Completes (.retainRecordWrite true true) s fun t => t.keep.retain = s.retainFrom l c ∧ t.rf 0x09 0x5C 4 4 = 1 ∧
        t.rd 0x09 0x60 = c.1 ∧ t.prog.retainTrig = none) ∧
    (∀ (st : Fin 64) (s : State), s.stationEn st.val = true → s.stationLost st.val = false → s.pageHeld 0x0A = false →
      Completes (.stationLost st) s fun t => t.stationLost st.val = true ∧ t.rb 0x0A 0x18 0 = true ∧
        fld (t.tab 0x0A (0x8040 + st.val)) 16 16 = min 0xFFFF (fld (s.tab 0x0A (0x8040 + st.val)) 16 16 + 1)) ∧
    (∀ s : State, Completes (.mapCrcCheck false) s fun t => t.rd 0x0A 0x54 = s.tableCrc 0x0A 0 0x4000 ∧
      (s.loaded = true → s.tableCrc 0x0A 0 0x4000 ≠ s.rd 0x0A 0x58 → t.prog.faultSig = true))

/-- A frame with a bad CRC is counted, and 16 in a row take PARALLEL to SERIAL; a good one ends the run and shows the field
voltage and every channel's current; 256 µs without a frame switch every output off at the pins; SERIAL without
synchronisation becomes FAULT, and a completed coupler check takes it to PARALLEL; a sample window moves every input filter by
one step; a configured edge counts, but for an input whose coupler has failed; the table's check shows its CRC and a departure
takes the table to its fault state. (R226, R228, R229, R230, R231, R233, R248) -/
def Obligations.FieldLinkAndInputs : Prop :=
  (∀ (f : IsoFrame) (s : State), s.fioFitted = true → s.pageHeld 0x0B = false → s.pins.running = true → f.synced = true → f.crcOk = false →
      Completes (.isoLinkFrame f) s fun t => t.field.crcRun = s.field.crcRun + 1 ∧
        t.rf 0x0B 0x84 0 16 = min 0xFFFF (s.rf 0x0B 0x84 0 16 + 1) ∧
        t.linkMode = if 15 ≤ s.field.crcRun ∧ s.linkMode = 2 then 1 else s.linkMode) ∧
    (∀ (f : IsoFrame) (s : State), s.fioFitted = true → s.pageHeld 0x0B = false → s.pins.running = true → f.synced = true → f.crcOk = true →
      Completes (.isoLinkFrame f) s fun t => t.field.crcRun = 0 ∧ t.rd 0x0B 0x44 = w32 (min 0xFFFF f.fieldMv) ∧
        ∀ n, n < 24 → t.rf 0x0B (foStat n) 0 12 = min 0xFFF (f.currents.getD n 0)) ∧
    (∀ s : State, s.fioFitted = true → Completes .fieldSideLinkTimeout s fun t => t.foPins = 0 ∧ t.regs = s.regs) ∧
    (∀ s : State, s.fioFitted = true → s.linkMode = 1 → s.field.cplChecked = false →
      Completes .linkSyncTimeout s fun t => t.linkMode = 3 ∧ t.rb 0x0B 0x18 10 = true) ∧
    (∀ (fiF rbF outF : Word) (s : State), s.fioFitted = true → s.linkMode = 1 → s.supply ≠ 3 → s.fioWaits = false →
      Completes (.couplerCheckDone fiF rbF outF) s fun t => t.linkMode = 2 ∧ t.rd 0x0B 0x88 = fiF ∧ t.rd 0x0B 0x8C = rbF &&& 0xFF_FFFF) ∧
    (∀ (fi rb : Word) (s : State), s.fioFitted = true → s.pageHeld 0x0B = false → s.linkMode = 1 ∨ s.linkMode = 2 →
      Completes (.inputSample fi rb) s fun t => ∀ n, n < 32 → s.rb 0x0B 0x88 n = false →
        let x := filterStep (fld (s.tab 0x0B n) 0 8) (fld (s.tab 0x0B (0x40 + n)) 0 8) (s.rb 0x0B 0x50 n) (bit fi n)
        t.tab 0x0B (0x40 + n) = w32 x.1 ∧ t.rb 0x0B 0x50 n = x.2) ∧
    (∀ (c : Fin 8) (rising : Bool) (s : State), s.fioFitted = true → s.linkMode = 2 → ∀ cfg, cfg = s.rf 0x0B 0x58 (2 * c.val) 2 →
      Completes (.fieldCounterEdge c rising) s fun t => t.rd 0x0B (0xA0 + 4 * c.val) =
        if s.rb 0x0B 0x88 c.val = false ∧ (cfg = 3 ∨ (cfg = 1 ∧ rising = true) ∨ (cfg = 2 ∧ rising = false)) then s.rd 0x0B (0xA0 + 4 * c.val) + 1
        else s.rd 0x0B (0xA0 + 4 * c.val)) ∧
    (∀ s : State, pageAbsent s.variant 0x0C = false → Completes .ilkCrcCheck s fun t => t.rd 0x0C 0x4C = s.tableCrc 0x0C 0 128 ∧
      (s.loaded = true → s.tableCrc 0x0C 0 128 ≠ s.rd 0x0C 0x50 → t.field.faultIlk = true))

/-- A short or an overtemperature switches the channel off, latches it and marks it; a mismatch with a supply present is
reported; a cooled driver's mark goes; a switch-off shows its energy and reports one above the limit; WARN, NORMAL, SAG, LOST
and OK move the supply state, LOST taking PARALLEL to SERIAL and every output off at the pins until a commit. (R236, R237,
R238, R241, R242, R243) -/
def Obligations.FieldOutputsAndSupply : Prop :=
  (∀ (n : Fin 24) (s : State), s.fioFitted = true → Completes (.foShort n) s fun t => t.rb 0x0B 0x6C n.val = true ∧
      t.rb 0x0B (foStat n.val) 16 = true ∧ t.rb 0x0B 0x18 2 = true) ∧
    (∀ (n : Fin 24) (s : State), s.fioFitted = true → Completes (.foOvertemp n) s fun t => t.rb 0x0B 0x6C n.val = true ∧
      t.rb 0x0B (foStat n.val) 17 = true ∧ bit t.field.hot n.val = true ∧ t.rb 0x0B 0x18 3 = true) ∧
    (∀ (n : Fin 24) (s : State), s.fioFitted = true → s.rbMismatch n.val = true → s.supply ≤ 1 →
      Completes (.foReadback n) s fun t => t.rb 0x0B 0x18 1 = true) ∧
    (∀ (n : Fin 24) (s : State), s.fioFitted = true → Completes (.foDriverCooled n) s fun t => bit t.field.hot n.val = false) ∧
    (∀ (n : Fin 24) (currentMa decayUs : Nat) (s : State), s.fioFitted = true → Completes (.outputSwitchOff n currentMa decayUs) s fun t =>
      t.rf 0x0B (foStat n.val) 24 8 = min 255 (24 * currentMa * decayUs / 1_000_000) ∧
        (s.rf 0x0B 0x80 0 8 < 24 * currentMa * decayUs / 1_000_000 → t.rb 0x0B 0x18 13 = true)) ∧
    (∀ (mv : Nat) (s : State), s.fioFitted = true → s.supply = 0 → mv < 18000 →
      Completes (.fieldWarn mv) s fun t => t.supply = 1 ∧ t.rd 0x0B 0x44 = w32 mv ∧ t.rb 0x0B 0x18 5 = true) ∧
    (∀ (mv : Nat) (s : State), s.fioFitted = true → s.supply = 1 → 18500 ≤ mv →
      Completes (.fieldNormal mv) s fun t => t.supply = 0 ∧ t.rd 0x0B 0x44 = w32 (min 0xFFFF mv)) ∧
    (∀ (mv : Nat) (s : State), s.fioFitted = true → s.supply ≤ 1 → mv < 15000 →
      Completes (.fieldSag mv) s fun t => t.supply = 2 ∧ t.field.sagOff = ~~~s.foPins &&& 0xFF_FFFF ∧
        t.rf 0x0B 0x90 0 16 = min 0xFFFF (s.rf 0x0B 0x90 0 16 + 1)) ∧
    (∀ (mv : Nat) (s : State), s.fioFitted = true → s.supply ≠ 3 → mv < 12000 →
      Completes (.fieldLost mv) s fun t => t.supply = 3 ∧ t.field.waitCommit = true ∧ t.foPins = 0 ∧
        t.linkMode = if s.linkMode = 2 then 1 else s.linkMode) ∧
    (∀ (mv : Nat) (s : State), s.fioFitted = true → 2 ≤ s.supply → 16000 < mv →
      Completes (.fieldOk mv) s fun t => t.supply = if mv < 18000 then 1 else 0)

/-- When FOn, with its OL_CFG bit 1, has been ON with too small a current for 10 ms (the row), FO_OPEN_LOAD is raised with P0
= n where its enable and route let it be recorded, and FO_STATn.OPEN_LOAD is set; what the drivers do stays; a frame that
brings 10 mA or more for a channel clears its bit. (R237) -/
def Obligations.OpenLoadIsReported : Prop :=
  (∀ (n : Fin 24) (s : State), s.fioFitted = true → s.rb 0x0B 0x7C n.val = true → s.rb 0x0B 0x60 n.val = true →
      Completes (.foOpenLoad n) s fun t => t.rb 0x0B (foStat n.val) 18 = true ∧ t.rb 0x0B 0x18 4 = true ∧ t.foPins = s.foPins ∧
        (s.rb 0x0B 0x14 4 = true → bit (s.routeWord 100) 6 = true → s.inlet.length < 256 →
          ∃ e ∈ t.inlet, e.code = 100 ∧ e.p0 = w32 n.val)) ∧
    (∀ (f : IsoFrame) (n : Fin 24) (s : State), s.fioFitted = true → s.pageHeld 0x0B = false → s.pins.running = true → f.synced = true →
      f.crcOk = true → 10 ≤ f.currents.getD n.val 0 → Completes (.isoLinkFrame f) s fun t => t.rb 0x0B (foStat n.val) 18 = false)

/-- RUN starts a stopped port whose configuration passes its check, and RUN at 0 stops one; a trained link waits for a frame
start, a training that takes too long is counted, a lost link is down; a packet of another virtual channel is counted, an
embedded line that has its place is taken, another counted; a frame start shows its number and time; an expected line of the
right length is taken, one of another length makes the frame bad; a whole good frame counts; a missing frame start is
reported; the sync generator fires at its next due instant, and its edge goes to a sensor whose link is up; an I2C transaction
starts, and ends with its result. (R144, R255, R256, R257, R258, R259, R260, R293) -/
def Obligations.CameraPorts : Prop :=
  (∀ (c : Fin 8) (i : Init) (v : Word) (s : State), i ≠ .vote → s.Open i (camPage c.val) 0x40 true → s.visRefuses i (rk (camPage c.val) 0x40) = false →
      s.rb (camPage c.val) 0x40 0 = false → bit v 0 = true → s.camState c.val = 0 → s.camUp c.val = true → s.camConfigOk c.val = true →
      Completes (.camRun c i v) s fun t => t.camState c.val = 1 ∧ t.rd (camPage c.val) 0x40 = v &&& 3) ∧
    (∀ (c : Fin 8) (i : Init) (v : Word) (s : State), i ≠ .vote → s.Open i (camPage c.val) 0x40 true → s.visRefuses i (rk (camPage c.val) 0x40) = false →
      s.rb (camPage c.val) 0x40 0 = true → bit v 0 = false → Completes (.camRun c i v) s fun t => t.camState c.val = 0) ∧
    (∀ (c : Fin 8) (s : State), s.camUp c.val = true → s.camState c.val = 1 →
      Completes (.camLinkTrained c) s fun t => t.camState c.val = 2 ∧ t.camLinkUp c.val = true) ∧
    (∀ (c : Fin 8) (s : State), s.camUp c.val = true → s.camState c.val = 1 →
      Completes (.camLinkTrainTimeout c) s fun t => t.rf (camPage c.val) 0xCC 0 16 = min 0xFFFF (s.rf (camPage c.val) 0xCC 0 16 + 1)) ∧
    (∀ (c : Fin 8) (s : State), s.camUp c.val = true → 2 ≤ s.camState c.val →
      Completes (.camLinkLost c) s fun t => t.camLinkUp c.val = false ∧ t.camState c.val ≤ 1) ∧
    (∀ (c : Fin 8) (vc dt : Nat) (crcOk : Bool) (d : List Byte) (s : State), s.camUp c.val = true → 2 ≤ s.camState c.val → vc ≠ s.rf (camPage c.val) 0x44 4 4 →
      Completes (.camPacket c vc dt .clean crcOk d) s fun t => t.rf (camPage c.val) 0xC4 0 16 = min 0xFFFF (s.rf (camPage c.val) 0xC4 0 16 + 1)) ∧
    (∀ (c : Fin 8) (d : List Byte) (s : State), s.cams.length = 8 → s.camUp c.val = true → 2 ≤ s.camState c.val →
      (s.embTakes c.val = true → Completes (.camPacket c (s.rf (camPage c.val) 0x44 4 4) 0x12 .clean true d) s fun t =>
        (t.cam c.val).embBytes = min 4096 ((s.cam c.val).embBytes + d.length)) ∧
      (s.embTakes c.val = false → Completes (.camPacket c (s.rf (camPage c.val) 0x44 4 4) 0x12 .clean true d) s fun t =>
        t.rf (camPage c.val) 0xC4 0 16 = min 0xFFFF (s.rf (camPage c.val) 0xC4 0 16 + 1))) ∧
    (∀ (c : Fin 8) (no : BitVec 16) (s : State), s.cams.length = 8 → s.camUp c.val = true → 2 ≤ s.camState c.val →
      Completes (.camFrameStart c no) s fun t => t.rd (camPage c.val) 0xAC = w32 no.toNat ∧ t.rd (camPage c.val) 0xB0 = s.ns ∧
        (t.cam c.val).opened = true ∧ (t.cam c.val).bad = false ∧ (t.cam c.val).nextLine = 0) ∧
    (∀ (c : Fin 8) (px : List Nat) (back : Nat) (s : State), s.cams.length = 8 → s.camUp c.val = true → s.camState c.val = 3 →
      (s.cam c.val).opened = true → (s.cam c.val).bad = false → ∀ y, y = (s.cam c.val).nextLine → y < s.camHeight c.val →
      (px.length = s.camWidth c.val → Completes (.camLineArrival c y px false back) s fun t =>
        (t.cam c.val).nextLine = y + 1 ∧ (t.cam c.val).bad = false) ∧
      (px.length ≠ s.camWidth c.val → Completes (.camLineArrival c y px false back) s fun t =>
        (t.cam c.val).bad = true ∧ t.rf (camPage c.val) 0xB8 0 16 = min 0xFFFF (s.rf (camPage c.val) 0xB8 0 16 + 1))) ∧
    (∀ (c : Fin 8) (no : BitVec 16) (s : State), s.cams.length = 8 → s.camUp c.val = true → (s.cam c.val).opened = true → (s.cam c.val).bad = false →
      (s.cam c.val).nextLine = s.camHeight c.val →
      Completes (.camFrameEnd c no) s fun t => t.rd (camPage c.val) 0xB4 = s.rd (camPage c.val) 0xB4 + 1 ∧ (t.cam c.val).opened = false) ∧
    (∀ (c : Fin 8) (s : State), s.camUp c.val = true → 2 ≤ s.camState c.val →
      Completes (.camFrameStartMissing c) s fun t => t.rf (camPage c.val) 0xBC 0 16 = 8 ∧ t.rb (camPage c.val) 0x18 1 = true) ∧
    (∀ (c : Fin 8) (s : State), s.cams.length = 8 → s.tb.strobes.length = 15 → s.camGenerators = true →
      Completes (.cameraSyncStrobe c) s fun t =>
        (t.tb.strobes.getD (1 + c.val) {}).due = some (nextInstant (s.camPhase c.val) (s.camPeriod c.val) (s.tb.count * 65536)
          ((s.tb.strobes.getD (1 + c.val) {}).due)) ∧
        (s.camUp c.val = true → s.rb (camPage c.val) 0x40 1 = true → s.camLinkUp c.val = true →
          (t.cam c.val).strobes = (s.cam c.val).strobes + 1)) ∧
    (∀ (c : Fin 8) (i : Init) (v : Word) (s : State), i ≠ .vote → s.Open i (camPage c.val) 0x94 true → s.visRefuses i (rk (camPage c.val) 0x94) = false →
      s.rb (camPage c.val) 0xA4 0 = false →
      Completes (.i2cStart c i v) s fun t => t.rb (camPage c.val) 0xA4 0 = true ∧ t.rd (camPage c.val) 0x94 = v &&& 0x3FFF) ∧
    (∀ (c : Fin 8) (ack answered : Bool) (d : List Byte) (s : State), s.rb (camPage c.val) 0xA4 0 = true →
      Completes (.i2cDone c ack answered d) s fun t => t.rb (camPage c.val) 0xA4 0 = false ∧ t.rb (camPage c.val) 0xA4 1 = true ∧
        t.rb (camPage c.val) 0xA4 2 = (answered && s.camLinkUp c.val && !ack) ∧ t.rb (camPage c.val) 0xA4 3 = !(answered && s.camLinkUp c.val))

/-- PCOMMIT makes the write bank ready; the frame start of a view starts it when its cameras stream and its display runs, and
takes a newer bank; EN trains an accepted display, a trained link runs it, a lost one trains again, or stops where the timing
that waits is not accepted; a display frame start comes at its generator's next due instant, counts and settles whether
fallback is shown; a DCS write waits for blanking and is then done; a line of the display's width is sent; the offset
computation shows its bounds; the reference line's emission shows the latency, and counts as late where its camera line has
not come; a new DOFS below the frame period takes effect, another is refused (by an event whose P1 is the model's choice, log
entry 73). (R144, R266, R272, R274, R278, R279, R280, R281, R299, R302, R305) -/
def Obligations.ViewsAndDisplays : Prop :=
  (∀ (v : Fin 6) (k : Word) (s : State), s.views.length = 6 → s.viewUp v.val = true →
      Completes (.pcommit v k) s fun t => t.rd (viewPage v.val) 0x68 = k ∧ (t.view v.val).readyBank = (s.view v.val).writeBank) ∧
    (∀ (v : Fin 6) (s : State), s.viewUp v.val = true → s.viewPending v.val = false → (s.view v.val).recheck = false → (s.view v.val).through = false →
      (s.viewState v.val = 1 → s.sourcesStream v.val = true → s.dspState v.val = 2 →
        later 32 (s.rd (viewPage v.val) 0x68).toNat (s.rd (viewPage v.val) 0x64).toNat = false →
        Completes (.viewFrameStart v) s fun t => t.viewState v.val = 2) ∧
      (later 32 (s.rd (viewPage v.val) 0x68).toNat (s.rd (viewPage v.val) 0x64).toNat = true →
        (∀ c ∈ (s.view v.val).readyBank, 0x200 ≤ c.1) →
        Completes (.viewFrameStart v) s fun t => t.rd (viewPage v.val) 0x64 = s.rd (viewPage v.val) 0x68)) ∧
    (∀ (d : Fin 6) (s : State), s.dspUp d.val = true → s.dspState d.val = 0 → s.dspModeOk d.val (s.dspNext d.val 0x40) = true →
      (s.applyShadows (dspPage d.val) (fun _ => true)).rb (dspPage d.val) 0x40 0 = true →
      Completes (.dspEnable d) s fun t => t.dspState d.val = 1) ∧
    (∀ (d : Fin 6) (bcUp : Bool) (s : State), s.dspUp d.val = true → s.dspState d.val = 1 →
      Completes (.dspLinkTrained d bcUp) s fun t => t.dspState d.val = (if bcUp then 2 else 1) ∧ t.rb (dspPage d.val) 0x44 4 = true ∧
        t.rb (dspPage d.val) 0x44 5 = bcUp) ∧
    (∀ (d : Fin 6) (s : State), s.dspUp d.val = true → s.dspState d.val = 1 →
      Completes (.dspTrainTimeout d) s fun t => t.rf (dspPage d.val) 0x60 0 16 = min 0xFFFF (s.rf (dspPage d.val) 0x60 0 16 + 1)) ∧
    (∀ (d : Fin 6) (s : State), s.dspUp d.val = true → s.dspState d.val = 2 →
      Completes (.dspLinkLost d) s fun t => t.dspState d.val = (if s.dspModeOk d.val (s.rd (dspPage d.val) 0x40) then 1 else 0) ∧ t.rf (dspPage d.val) 0x60 0 16 = min 0xFFFF (s.rf (dspPage d.val) 0x60 0 16 + 1)) ∧
    (∀ (d : Fin 6) (s : State), s.dsps.length = 6 → s.tb.strobes.length = 15 → s.dspUp d.val = true → s.dspState d.val = 2 →
      s.rb (dspPage d.val) 0x40 0 = true → s.shadows (dspPage d.val) (fun _ => true) = [] →
      Completes (.displayFrameStart d) s fun t => t.rd (dspPage d.val) 0x5C = s.rd (dspPage d.val) 0x5C + 1 ∧ (t.dsp d.val).fsNs = t.ns ∧
        ((s.dsp d.val).turn = none → t.dspDue d.val =
          some (nextInstant (s.dspPhase d.val (s.dofs d.val)) (s.dspPeriod d.val) (s.tb.count * 65536) (s.dspDue d.val))) ∧
        t.srcActive d.val = (s.rb (dspPage d.val) 0x40 1 || decide (s.viewState d.val ≠ 2) || (s.watch d.val).demand)) ∧
    (∀ (d : Fin 6) (i : Init) (v : Word) (s : State), i ≠ .vote → s.dsps.length = 6 → s.Open i (dspPage d.val) 0x64 true →
      s.visRefuses i (rk (dspPage d.val) 0x64) = false →
      Completes (.dcsSend d i v) s fun t =>
        (t.dsp d.val).dcs = some (fld v 0 5, (List.range 4).map (fun j => s.rd (dspPage d.val) (0x68 + 4 * j)))) ∧
    (∀ (d : Fin 6) (s : State), s.dsps.length = 6 → (s.dsp d.val).dcs.isSome = true →
      Completes (.dcsSent d) s fun t => t.rb (dspPage d.val) 0x64 9 = true ∧ (t.dsp d.val).dcs = none) ∧
    (∀ (v : Fin 6) (line : Nat) (ecc : List LineEcc) (s : State), s.dsps.length = 6 → s.dspUp v.val = true → s.dspState v.val = 2 →
      line < s.rf 0x48 (vtD v.val 0) 16 12 →
      Completes (.displayLineEmission v line ecc) s fun t => (t.dsp v.val).line.length = s.rf 0x48 (vtD v.val 0) 0 12) ∧
    (∀ (v : Fin 6) (s : State), s.views.length = 6 → s.viewUp v.val = true → Completes (.offsetComputeDone v) s fun t => (t.view v.val).ofsDone = true ∧
      (bit (s.viewNext v.val 0x40) 0 = true → s.rb (dspPage v.val) 0x40 1 = false →
        t.rd 0x48 (vtV v.val 0x14) = wInt (s.viewBounds v.val).1 ∧ t.rd 0x48 (vtV v.val 0x18) = wInt (s.viewBounds v.val).2)) ∧
    (∀ (v : Fin 6) (at_ : Nat) (s : State), s.viewUp v.val = true → s.viewState v.val = 2 → s.srcActive v.val = false →
      s.rf 0x48 (vtV v.val 0) 0 12 < s.camHeight (s.rf (viewPage v.val) 0x40 8 3) →
      s.rf 0x48 (vtV v.val 0) 16 12 < s.rf 0x48 (vtD v.val 0) 16 12 →
      s.refStamp v.val (s.rf (viewPage v.val) 0x40 8 3) = some (some at_) →
      Completes (.refOutEmission v) s fun t => t.rd 0x48 (vtV v.val 8) = w32 (s.tb.count - at_) ∧
        t.rd 0x48 (vtV v.val 0xC) = w32 (max (s.rd 0x48 (vtV v.val 0xC)).toNat (w32 (s.tb.count - at_)).toNat)) ∧
    (∀ (v : Fin 6) (s : State), s.viewUp v.val = true → s.viewState v.val = 2 → s.srcActive v.val = false →
      s.rf 0x48 (vtV v.val 0) 0 12 < s.camHeight (s.rf (viewPage v.val) 0x40 8 3) →
      s.rf 0x48 (vtV v.val 0) 16 12 < s.rf 0x48 (vtD v.val 0) 16 12 →
      s.refStamp v.val (s.rf (viewPage v.val) 0x40 8 3) = none → s.rd 0x48 (vtV v.val 4) ≠ 0 →
      Completes (.refOutEmission v) s fun t =>
        t.rf 0x48 (vtV v.val 0x10) 0 16 = min 0xFFFF (s.rf 0x48 (vtV v.val 0x10) 0 16 + 1) ∧ t.rd 0x48 (vtV v.val 8) = s.rd 0x48 (vtV v.val 8)) ∧
    (∀ (d : Fin 6) (v : Word) (s : State), pageAbsent s.variant 0x48 = false →
      (v.toNat * 65536 < s.dspPeriod d.val →
        Completes (.dofsChange d v) s fun t => t.rd 0x48 (vtD d.val 0x14) = v ∧ t.shadowOf (rk 0x48 (vtD d.val 0x14)) = none) ∧
      (s.dspPeriod d.val ≤ v.toNat * 65536 →
        Completes (.dofsChange d v) s fun t => t.rd 0x48 (vtD d.val 0x14) = s.rd 0x48 (vtD d.val 0x14) ∧ t.rb (dspPage d.val) 0x18 0 = true))

/-- The metadata line's end shows the sent and the read tile words and keeps the frame number; a report that is not valid is
counted, a valid one is kept; at the judgement point a missing report is counted and one that agrees with the history passes;
a history that cannot be read puts every watch that is not OFF into FAILED and begins again; RELEASE takes a FAILED watch that
waits for it to PROVING. (R312, R313, R314, R315, R316, R320, R325) -/
def Obligations.FrameWatch : Prop :=
  (∀ (d : Fin 6) (syncOk : Bool) (reader : List Word) (frame : BitVec 16) (s : State), s.dsps.length = 6 → s.metaEn d.val = true → s.dspState d.val = 2 →
      Completes (.metadataLineCheck d syncOk reader frame) s fun t => (t.dsp d.val).lastFrame = some frame.toNat ∧
        ∀ j, j < 256 → t.tab 0x49 (0x100 * d.val + j) = (s.dsp d.val).tiles.getD j 0 ∧ t.tab 0x49 (0x800 + 0x100 * d.val + j) = reader.getD j 0) ∧
    (∀ (d : Fin 6) (r : Report) (s : State), s.fwUp = true → r.valid = false →
      Completes (.displayReportReceived d r) s fun t => t.rf 0x49 (fwOff d.val 0x30) 0 16 = min 0xFFFF (s.rf 0x49 (fwOff d.val 0x30) 0 16 + 1)) ∧
    (∀ (d : Fin 6) (r : Report) (s : State), s.dsps.length = 6 → s.fwUp = true → r.valid = true →
      Completes (.displayReportReceived d r) s fun t => (t.dsp d.val).report = some r ∧ (t.dsp d.val).missRun = 0) ∧
    (∀ (d : Fin 6) (n : BitVec 16) (s : State), s.dsps.length = 6 → s.fwUp = true → s.metaEn d.val = true → (s.dsp d.val).report = none →
      Completes (.reportJudgement d n true) s fun t => (t.dsp d.val).missRun = (s.dsp d.val).missRun + 1 ∧
        t.rf 0x49 (fwOff d.val 0x30) 16 16 = min 0xFFFF (s.rf 0x49 (fwOff d.val 0x30) 16 16 + 1)) ∧
    (∀ (d : Fin 6) (n : BitVec 16) (r : Report) (h : List Word) (s : State), s.dsps.length = 6 → s.watches.length = 6 → s.fwUp = true →
      s.metaEn d.val = true → (s.dsp d.val).report = some r → r.rxFrame % 0x1_0000 = n.toNat → alGet (s.dsp d.val).hist n.toNat = some h →
      reportDiff h r = none →
      Completes (.reportJudgement d n true) s fun t => (t.watch d.val).dspFresh = true ∧ (t.watch d.val).tileDsp = true ∧ (t.dsp d.val).report = none) ∧
    (∀ (d v : Fin 6) (n : BitVec 16) (s : State), s.dsps.length = 6 → s.watches.length = 6 → s.fwUp = true → s.watchState v.val ≠ 0 →
      Completes (.reportJudgement d n false) s fun t => t.watchState v.val = 3 ∧ (t.dsp v.val).hist = []) ∧
    (∀ (v : Fin 6) (s : State), s.watches.length = 6 → s.fwUp = true → s.watchState v.val = 3 → s.rb 0x49 (fwOff v.val 0) 10 = true →
      Completes (.fwatchRelease v) s fun t => t.watchState v.val = 1 ∧ (t.watch v.val).demand = false)

/-- A mode written to a channel in OFF is taken, unintegrated, with the bit timing; OFF stops a channel with nothing to send,
and lets another end the frame that it has on the bus or offers to it; 11 recessive bits integrate it; a frame that no filter
takes is counted, one that the first matching filter sends to queue 0 is put last there; POP answers word 1 of the head and
removes it; a completed software object is ready; requests are set and those not on the bus are aborted; a sent event buffer
is done; a bus error sets the counters and the state, RECOVER begins the recovery and its end clears them; a wake pattern
wakes a lower gait. (R327, R329, R330, R332, R333, R334, R335, R336, R337, R472) -/
def Obligations.CanTraffic : Prop :=
  (∀ (n : Fin 6) (i : Init) (v : Word) (s : State), i ≠ .vote → s.cans.length = 6 → s.Open i (canPage n.val) 0x40 true → s.canMode n.val = 0 → fld v 0 2 ≠ 0 →
      Completes (.canModeWrite n i v) s fun t => t.canMode n.val = fld v 0 2 ∧ t.canIntegrated n.val = false ∧
        (t.can n.val).nbt = s.rd (canPage n.val) 0x48 ∧ (t.can n.val).dbt = s.rd (canPage n.val) 0x4C) ∧
    (∀ (n : Fin 6) (i : Init) (v : Word) (s : State), i ≠ .vote → s.Open i (canPage n.val) 0x40 true → s.canMode n.val ≠ 0 → fld v 0 2 = 0 →
      (s.can n.val).onBus = none → s.offered n.val = none → s.shadows (canPage n.val) (fun _ => true) = [] →
      Completes (.canModeWrite n i v) s fun t => t.canMode n.val = 0 ∧ t.canIntegrated n.val = false ∧ t.ttState n.val = 0) ∧
    (∀ (n : Fin 6) (i : Init) (v : Word) (b : Nat) (s : State), i ≠ .vote → s.cans.length = 6 → s.Open i (canPage n.val) 0x40 true →
      s.canMode n.val ≠ 0 → fld v 0 2 = 0 → (s.can n.val).onBus = some b ∨ ((s.can n.val).onBus = none ∧ s.offered n.val = some b) →
      Completes (.canModeWrite n i v) s fun t => t.canMode n.val = 0 ∧ (t.can n.val).onBus = some b ∧ (t.can n.val).stopPend = true) ∧
    (∀ (n : Fin 6) (s : State), s.canDown n.val = false → s.canIntegrated n.val = false → s.shadows (canPage n.val) (fun _ => true) = [] →
      Completes (.canIntegrated n) s fun t => t.canIntegrated n.val = true ∧ (s.canMode n.val = 2 → t.ttState n.val = 1)) ∧
    (∀ (n : Fin 6) (f : CanFrame) (back : Nat) (s : State), s.canDown n.val = false → s.canIntegrated n.val = true → s.canBusOff n.val = false →
      (List.range 128).find? (fun p => s.pairMatches n.val p (frameKey f)) = none →
      Completes (.canFrameReceived n f back) s fun t => t.rd (canPage n.val) 0x58 = s.rd (canPage n.val) 0x58 + 1 ∧
        t.rf (canPage n.val) 0x60 0 16 = min 0xFFFF (s.rf (canPage n.val) 0x60 0 16 + 1)) ∧
    (∀ (n : Fin 6) (f : CanFrame) (back p : Nat) (s : State), s.cans.length = 6 → s.canDown n.val = false → s.canIntegrated n.val = true →
      s.canBusOff n.val = false → (List.range 128).find? (fun q => s.pairMatches n.val q (frameKey f)) = some p →
      fld (s.tab (canPage n.val) (4 * p + 2)) 1 2 = 1 → (s.can n.val).rxq0.length < 32 →
      Completes (.canFrameReceived n f back) s fun t => t.rd (canPage n.val) 0x58 = s.rd (canPage n.val) 0x58 + 1 ∧
        (t.can n.val).rxq0 = (s.can n.val).rxq0 ++ [rxEntry f p (s.can n.val).seq0 (s.tb.count - back)]) ∧
    (∀ (n : Fin 6) (i : Init) (e : List Word) (rest : List (List Word)) (s : State), s.cans.length = 6 → s.Open i (canPage n.val) 0x78 false →
      (s.can n.val).rxq0 = e :: rest →
      Completes (.rxqPop n 0 i) s fun t => t.bus.data = e.getD 1 0 ∧ t.bus.err = false ∧ (t.can n.val).rxq0 = rest) ∧
    (∀ (n : Fin 6) (i : Init) (s : State), s.Open i (canPage n.val) 0x7C false → (s.can n.val).rxq1 = [] →
      Completes (.rxqPop n 1 i) s fun t => t.bus.data = 0xFFFF_FFFF ∧ t.bus.err = false) ∧
    (∀ (n : Fin 6) (o : Fin 64) (i : Init) (s : State), i ≠ .vote → s.Open i (canPage n.val) 0x30 true → s.Open i (canPage n.val) 0x34 true →
      bit (s.tab (canPage n.val) (objBase o.val + 1)) 10 = true →
      Completes (.canObjectUpdate n o i) s fun t => t.objReady n.val o.val = true ∧ t.bus.err = false) ∧
    (∀ (n : Fin 6) (i : Init) (v : Word) (s : State), i ≠ .vote → s.Open i (canPage n.val) 0x80 true →
      Completes (.evbReq n i v) s fun t => t.rd (canPage n.val) 0x80 = s.rd (canPage n.val) 0x80 ||| v) ∧
    (∀ (n : Fin 6) (i : Init) (v : Word) (s : State), i ≠ .vote → s.Open i (canPage n.val) 0x84 true →
      Completes (.evbAbort n i v) s fun t => ∀ b, b < 32 →
        (bit v b = true → (s.can n.val).onBus ≠ some (64 + b) → t.rb (canPage n.val) 0x80 b = false) ∧
        (bit v b = false → t.rb (canPage n.val) 0x80 b = s.rb (canPage n.val) 0x80 b)) ∧
    (∀ (n : Fin 6) (b : Fin 96) (sof : Word) (s : State), s.maySend n.val b.val (s.pairTime sof) = true → (s.can n.val).stopPend = false → 64 ≤ b.val →
      Completes (.canTxDone n b sof) s fun t => t.rd (canPage n.val) 0x5C = s.rd (canPage n.val) 0x5C + 1 ∧
        t.rb (canPage n.val) 0x80 (b.val - 64) = false) ∧
    (∀ (n : Fin 6) (b : Option (Fin 96)) (fl : CanField) (tec rec : Nat) (s : State), s.pageHeld (canPage n.val) = false → s.canBusOff n.val = false →
      s.canIntegrated n.val = true →
      Completes (.canFrameError n false b fl tec rec) s fun t => t.rd (canPage n.val) 0x54 = w32 (min tec 0x1FF + 0x1_0000 * min rec 0x1FF) ∧
        t.canErr n.val = errState tec rec) ∧
    (∀ (n : Fin 6) (i : Init) (s : State), i ≠ .vote → s.Open i (canPage n.val) 0x40 true → s.canBusOff n.val = true →
      Completes (.canRecover n i) s fun t => t.rb (canPage n.val) 0x44 3 = true ∧ t.canMode n.val = s.canMode n.val) ∧
    (∀ (n : Fin 6) (s : State), s.canBusOff n.val = true → s.rb (canPage n.val) 0x44 3 = true →
      Completes (.canBusoffRecovered n) s fun t => t.canErr n.val = 0 ∧ t.rd (canPage n.val) 0x54 = 0) ∧
    (∀ (n : Fin 6) (s : State), s.gaitNow ≠ 0 → s.gaitNow ≤ 3 → s.rb 0x72 0x48 0 = true → s.gait.canWake.testBit n.val = true →
      Completes (.canWakePattern n) s fun t => t.gait.wake = some (min 1 (s.gait.wake.getD 1)))

/-- A reference with Cycle_Count 0 takes a LISTENing channel to OBSERVE; a missing reference of a FOLLOWER is counted; a
master sends its reference, or falls to FOLLOWER when it loses; a backup's reference makes it MASTER; the initial watch makes
a potential master MASTER and an OBSERVER LISTEN; an exclusive window of a synchronised channel on an idle bus sends its
object, and an arbitrating window the fitting request with the lowest identifier. (R339, R341, R342, R344, R346, R347, R348,
R349) -/
def Obligations.CanTimeTriggered : Prop :=
  (∀ (n : Fin 6) (f : CanFrame) (back elapsed : Nat) (s : State), s.canDown n.val = false → s.canIntegrated n.val = true → s.canMode n.val = 2 →
      s.isRefId n.val f = true → 4 ≤ f.dlc → s.ttState n.val = 1 → (f.data.getD 0 0).toNat % 64 = 0 →
      s.shadows (canPage n.val) (fun _ => true) = [] →
      Completes (.canReferenceReceived n f back elapsed) s fun t => t.ttState n.val = 2 ∧ t.cycleCount n.val = 0 ∧
        t.rd (canPage n.val) 0xB8 = w32 (f.id % 2048)) ∧
    (∀ (n : Fin 6) (s : State), s.canDown n.val = false → s.canMode n.val = 2 → s.ttState n.val = 3 → s.rf (canPage n.val) 0xA0 20 2 < 2 →
      s.shadows (canPage n.val) (fun _ => true) = [] →
      Completes (.canReferenceMissing n) s fun t => t.rf (canPage n.val) 0xA0 20 2 = s.rf (canPage n.val) 0xA0 20 2 + 1 ∧
        t.rf (canPage n.val) 0xB4 0 16 = min 0xFFFF (s.rf (canPage n.val) 0xB4 0 16 + 1) ∧ t.ttState n.val = 3) ∧
    (∀ (n : Fin 6) (s : State), s.maySendRef n.val = true → s.ttState n.val = 4 → s.shadows (canPage n.val) (fun _ => true) = [] →
      Completes (.canMasterReferenceSend n none) s fun t => t.rd (canPage n.val) 0x5C = s.rd (canPage n.val) 0x5C + 1 ∧
        t.rd (canPage n.val) 0xB8 = w32 (s.refId n.val) ∧ t.cycleCount n.val = s.nextCount n.val % 64) ∧
    (∀ (n : Fin 6) (x : Nat) (s : State), s.maySendRef n.val = true → s.ttState n.val = 4 →
      Completes (.canMasterReferenceSend n (some x)) s fun t => t.ttState n.val = 3) ∧
    (∀ (n : Fin 6) (s : State), s.maySendRef n.val = true → s.ttState n.val = 3 →
      Completes (.canBackupReferenceSend n none) s fun t => t.ttState n.val = 4 ∧ t.rd (canPage n.val) 0xA4 = 0) ∧
    (∀ (n : Fin 6) (s : State), s.maySendRef n.val = true → s.ttState n.val = 1 →
      Completes (.canInitWatchExpiry n none) s fun t => t.ttState n.val = 4 ∧ t.rd (canPage n.val) 0xA4 = 0) ∧
    (∀ (n : Fin 6) (lost : Option Nat) (s : State), s.canDown n.val = false → s.canMode n.val = 2 → s.ttState n.val = 2 →
      s.shadows (canPage n.val) (fun _ => true) = [] → Completes (.canInitWatchExpiry n lost) s fun t => t.ttState n.val = 1) ∧
    (∀ (n : Fin 6) (w : Fin 32) (s : State), s.cans.length = 6 → s.canDown n.val = false → s.canMode n.val = 2 → fld (s.cell n.val w.val) 0 2 = 1 →
      fld (s.tab (canPage n.val) (0x1400 + w.val)) 16 16 ≠ 0 → 3 ≤ s.ttState n.val → s.canBusOff n.val = false → s.canMuted n.val = false →
      s.rb (canPage n.val) 0xA0 16 = false → (s.can n.val).missSuppress = false →
      Completes (.canExclusiveWindow n w true) s fun t => (t.can n.val).onBus = some (fld (s.cell n.val w.val) 2 6)) ∧
    (∀ (n : Fin 6) (w : Fin 32) (b : Nat) (s : State), s.cans.length = 6 → s.canDown n.val = false → s.canMode n.val = 2 → fld (s.cell n.val w.val) 0 2 = 2 →
      3 ≤ s.ttState n.val → s.canBusOff n.val = false → s.canMuted n.val = false →
      s.lowest n.val (s.fitting n.val (2 * s.ntuNs n.val * fld (s.tab (canPage n.val) (0x1400 + w.val)) 16 16)) = some b →
      Completes (.canArbitratingWindow n w) s fun t => (t.can n.val).onBus = some b ∧ (t.can n.val).frame = s.frameOf n.val b)

/-- A frame that is valid on neither line is reported; a slave frame of the length asked for goes, on every sink port of the
address that was asked, to the port's data; time comes to the start of a basic period, which shows its number, and a standby
administrator with a claim that is not muted becomes MASTER; a missing slave frame is counted; when the silence time has
passed a standby has its claim; when 1,024 ms as MASTER or beside another administrator have passed without a further
collision, their count is 0. (R355, R357, R358, R360, R361, R379) -/
def Obligations.MvbBus : Prop :=
  (∀ s : State, s.mvbUp = true → Completes (.mvbFrameReceived .bad .bad) s fun t => t.rb 0x18 0x18 5 = true) ∧
    (∀ (d : List Byte) (port fc : Nat) (s : State), s.mvbUp = true → s.mvb.asked = some (port, fc) → d.length = 2 * 2 ^ fc →
      Completes (.mvbFrameReceived (.slave d) (.slave d)) s fun t => t.mvb.asked = none ∧
        ∀ p, p < 256 → s.portIs p port fc false = true → ∀ j, j < 8 →
          t.tab 0x18 (0x401 + 16 * p + j) = bytesWord ((d ++ List.replicate (32 - d.length) 0).drop (4 * j))) ∧
    (∀ s : State, s.mvbUp = true → Completes .mvbBasicPeriod s fun t => t.tb.count = nextInstant 0 1_000_000 s.tb.count s.mvb.lastStart ∧ t.rf 0x18 0x44 16 10 = t.tb.count / 1_000_000 % 1024 ∧
      (s.mvbRole = 1 → s.mvb.claim = true → s.mvbMuted = false → t.mvbRole = 2)) ∧
    (∀ (e : Nat) (s : State), s.mvbUp = true → s.mvbRole = 2 → Completes (.mvbPollMiss e) s fun t => t.mvb.asked = none ∧
      t.rf 0x18 0x50 0 16 = min 0xFFFF (s.rf 0x18 0x50 0 16 + 1)) ∧
    (∀ s : State, s.mvbUp = true → s.mvbRole = 1 → Completes .mvbSilenceExpiry s fun t =>
      t = { s.advanceTo (s.mvb.heard + s.mvbSilence) with mvb := { s.mvb with claim := true } }) ∧
    (∀ s : State, s.mvbUp = true → s.mvbRole ≠ 0 → s.mvb.calm = true → s.mvb.coll ≠ 0 → Completes .mvbCollisionReset s fun t =>
      t = { s.advanceTo (s.mvb.collAt + 1_024_000_000) with mvb := { s.mvb with coll := 0 } })

/-- A frame with a bad FCS is counted on its port; a good one teaches the switch its sender's address; a link shows its state;
an address that has aged is forgotten; the next entry of a gate list comes into force, its first after the last one and after
a step of the time base; a committed input dataset shows that its peer's station lives; OUT_SEQ shows its number and is
reported. (R362, R364, R366, R380, R381) -/
def Obligations.EthernetSwitch : Prop :=
  (∀ (port : Fin 5) (f : EthFrame) (delay : Nat) (s : State), s.ethUp = true → s.portOn port.val = true → (port.val = 4 → s.cpuSends f = true) → f.fcsOk = false →
      Completes (.ethFrameReceived port f delay) s fun t =>
        t.tab 0x20 (0x2000 + 16 * port.val + 12) = s.tab 0x20 (0x2000 + 16 * port.val + 12) + 1 ∧ t.net.addrs = s.net.addrs) ∧
    (∀ (port : Fin 5) (f : EthFrame) (delay : Nat) (s : State), s.ethUp = true → s.portOn port.val = true → (port.val = 4 → s.cpuSends f = true) → f.fcsOk = true → 64 ≤ f.len → f.len ≤ 1522 →
      (port.val < 4 → bit (s.portCfg port.val) 9 = false) → f.src / 2 ^ 40 % 2 = 0 → s.net.addrs.length < 4096 →
      Completes (.ethFrameReceived port f delay) s fun t => alGet t.net.addrs f.src = some port.val) ∧
    (∀ (port : Fin 4) (up : Bool) (speed : Nat) (s : State), s.ethUp = true → s.rb 0x20 (0x50 + 4 * port.val) 0 = !up →
      (up = true → bit (s.portCfg port.val) 8 = true) →
      Completes (.ethLink port up speed) s fun t => t.rb 0x20 (0x50 + 4 * port.val) 0 = up ∧ t.rb 0x20 0x18 0 = true) ∧
    (∀ (mac : Nat) (s : State), Completes (.ethAddressAgeing mac) s fun t => alGet t.net.addrs mac = none ∧
      ∀ m, m ≠ mac → alGet t.net.addrs m = alGet s.net.addrs m) ∧
    (∀ (port : Fin 4) (s : State), s.ethUp = true → s.net.gate.length = 4 → ∀ g, g = s.net.gate.getD port.val 0 + 1 →
      Completes (.ethGateChange port false) s fun t =>
        t.net.gate.getD port.val 0 = if s.gateUsed port.val ≤ g ∨ s.net.gateAt.getD port.val 0 < s.tb.lastStep then 0 else g) ∧
    (∀ (i : Init) (v : Word) (s : State), i ≠ .vote → s.Open i 0x20 0x78 true → s.ethUp = true →
      ∀ w p3, w = s.tab 0x20 (0x800 + fld v 0 10) → bit w 11 = false → fld w 0 11 ≠ 0 →
      p3 = s.tab 0x20 (0x1003 + 4 * fld w 16 10) → bit p3 22 = true →
      Completes (.dsCommit i v) s fun t => t.stationLost (fld p3 16 6) = false) ∧
    (∀ (k : Word) (s : State), s.ethUp = true → s.role ≠ 2 → s.inPause = false → Completes (.outSeqWrite k) s fun t => t.rd 0x20 0x7C = k ∧ t.rb 0x20 0x18 2 = true)

/-- TAIL past HEAD makes an IDLE channel run; EN starts a channel and its absence stops it; RESUME takes a HALTED one past its
descriptor; a descriptor without an error advances HEAD and the count, and one from shared SRAM to shared SRAM that sends no
interrupt copies its bytes and changes no byte but those and its own last word; a write from the host to the SRAM window
changes its bytes alone; the link goes up and down, and a read without completion halts its channel. (R371, R372, R374, R375,
R376, R377, R382) -/
def Obligations.DmaAndPcie : Prop :=
  (∀ (c : Fin 8) (i : Init) (v : Word) (s : State), i ≠ .vote → s.Open i 0x22 (dmaOff c.val 0x10) true → s.dmaState c.val = 1 → s.dmaHead c.val ≠ fld v 0 16 →
      Completes (.dmaTailWrite c i v) s fun t => t.dmaTail c.val = fld v 0 16 ∧ t.dmaState c.val = 2) ∧
    (∀ (c : Fin 8) (i : Init) (s : State), i ≠ .vote → s.Open i 0x22 (dmaOff c.val 0x14) true → s.dmaState c.val = 0 →
      Completes (.dmaEnable c i) s fun t => t.dmaState c.val = (if s.dmaHead c.val = s.dmaTail c.val then 1 else 2) ∧ bit (t.dmaWord c.val 0x14) 0 = true) ∧
    (∀ (c : Fin 8) (i : Init) (s : State), i ≠ .vote → s.Open i 0x22 (dmaOff c.val 0x14) true →
      Completes (.dmaDisable c i) s fun t => t.dmaState c.val = 0 ∧ bit (t.dmaWord c.val 0x14) 0 = false) ∧
    (∀ (c : Fin 8) (i : Init) (s : State), i ≠ .vote → s.Open i 0x22 (dmaOff c.val 0x14) true → s.dmaState c.val = 3 → bit (s.dmaWord c.val 0x14) 0 = true →
      Completes (.dmaResume c i) s fun t => t.dmaHead c.val = (s.dmaHead c.val + 1) % 0x1_0000 ∧
        t.dmaState c.val = if t.dmaHead c.val = s.dmaTail c.val then 1 else 2) ∧
    (∀ (c : Fin 8) (host : List Word) (given : List Byte) (met : Nat) (s : State), s.pageUp 0x22 = true → s.dataPlaneUp = true → s.dmaState c.val = 2 →
      ∀ d, d = s.descWords c.val host → s.inPause = false ∨ (s.ringHost c.val = false ∧ usesHost d = false) → s.dmaErr c.val d met = 0 → dSrc d ≠ 2 →
      Completes (.dmaDescriptorDone c host given met) s fun t => t.dmaHead c.val = (s.dmaHead c.val + 1) % 0x1_0000 ∧
        t.dmaWord c.val 0x1C = s.dmaWord c.val 0x1C + 1 ∧
        (dSrc d = 0 → dDst d = 0 → bit (d.getD 5 0) 0 = false → ∀ x, x < s.descMem c.val + 28 ∨ s.descMem c.val + 32 ≤ x →
          t.byte x = if sramMem (dDstAt d) ≤ x ∧ x < sramMem (dDstAt d) + dLen d then s.byte (sramMem (dSrcAt d) + (x - sramMem (dDstAt d))) else s.byte x)) ∧
    (∀ (addr n : Nat) (vs : List Word) (s : State), s.pcieUp = true → s.inPause = false → addr + n ≤ 0x100_0000 → s.rb 0x23 0x40 1 = true → n ≤ (wordsBytes vs).length →
      Completes (.pcieInboundAccess .barSram addr n (some vs)) s fun t => (∀ j, j < n → t.byte (sramMem addr + j) = (wordsBytes vs).getD j 0) ∧
        ∀ x, x < sramMem addr ∨ sramMem addr + n ≤ x → t.byte x = s.byte x) ∧
    (∀ s : State, pageAbsent s.variant 0x23 = false → s.pcieUp = true → Completes .pcieLinkDown s fun t => t.pcieUp = false ∧ t.rb 0x23 0x18 0 = true) ∧
    (∀ (gen width : Nat) (s : State), s.pageUp 0x23 = true → s.dataPlaneUp = true → s.pcieUp = false → s.rb 0x23 0x40 0 = true →
      Completes (.pcieLinkUp gen width) s fun t => t.pcieUp = true ∧ t.rb 0x23 0x18 0 = true) ∧
    (∀ (c : Fin 8) (s : State), s.dmaOnPcie c.val = true → s.ringHost c.val = true ∨ dSrc (s.descWords c.val []) = 1 →
      Completes (.pcieCompletionTimeout c) s fun t => t.dmaState c.val = 3 ∧ t.rf 0x23 0x50 16 16 = min 0xFFFF (s.rf 0x23 0x50 16 16 + 1))

/-- UPD_OPEN that nothing hobbles opens a session of the size asked for; UPD_WRITE stores its bytes at the offset and adds its
length; UPD_VERIFY of a good package leaves it verified in the slot not in use; UPD_ACTIVATE moves the slot pointer, starts a
trial and ends the session; UPD_CONFIRM ends the trial; UPD_ABORT ends a session, leaving the slot invalid, or asks for the
trial's end; UPD_STATUS answers; OWNER_LOCK answers, sets and clears the lock; a session that idles ends; a service pause
starts the trial's time, or returns to the old firmware. (R431, R432, R433, R434, R436, R437, R440, R441, R442) -/
def Obligations.UpdateSessions : Prop :=
  (∀ (inst : Fin 3) (src : Nat) (s : State), s.Holds inst.val 0x40 [8] → src = fld (s.boxArg inst.val 0) 0 2 →
      (inst.val = 1 ∧ (src = 1 ∨ src = 2)) ∨ (inst.val = 2 ∧ src = 3) → s.upd.held = false → s.hobble src = 0 → (s.boxArg inst.val 1).toNat ≤ 20_971_520 →
      Completes (.updOpen inst) s fun t => s.Ended t inst.val 0 2 ∧ t.upd.held = true ∧ t.rd 0x71 0x4C = s.boxArg inst.val 1 ∧ t.updState = 1 ∧
        t.resp inst.val 0 = w32 (t.rf 0x71 0x48 0 16)) ∧
    (∀ (inst : Fin 3) (ofs len buf base : Nat) (s : State), s.Holds inst.val 0x41 [16] → s.upd.held = true →
      fld (s.boxArg inst.val 0) 0 16 = s.rf 0x71 0x48 0 16 → ofs = (s.boxArg inst.val 1).toNat → len = (s.boxArg inst.val 2).toNat →
      buf = (s.boxArg inst.val 3).toNat → 4 ≤ len → len ≤ 65_536 → ofs % 4 = 0 → len % 4 = 0 → ofs + len ≤ (s.rd 0x71 0x4C).toNat →
      buf + len ≤ (if s.rf 0x71 0x44 4 2 = 3 then 0x1_0000 else 0x100_0000) → base = (if s.rf 0x71 0x44 4 2 = 3 then usbMem buf else sramMem buf) →
      Completes (.updWrite inst) s fun t => s.Ended t inst.val 0 0 ∧ t.rd 0x71 0x50 = w32 (min 0x1FF_FFFF ((s.rd 0x71 0x50).toNat + len)) ∧
        (∀ j, j < len → stGet (0 : Byte) t.upd.bytes (ofs + j) = s.byte (base + j)) ∧
        ∀ a, a < ofs ∨ ofs + len ≤ a → stGet (0 : Byte) t.upd.bytes a = stGet (0 : Byte) s.upd.bytes a) ∧
    (∀ (inst : Fin 3) (comps : List Component) (s : State), s.Holds inst.val 0x42 [4] → s.upd.held = true →
      fld (s.boxArg inst.val 0) 0 16 = s.rf 0x71 0x48 0 16 → s.pkgFault comps = none →
      Completes (.updVerify inst comps) s fun t => s.Ended t inst.val 0 0 ∧ t.updState = 2 ∧ t.spareSlot.valid = true ∧
        ∀ c ∈ comps.take s.pkgCount, c ∈ t.spareSlot.comps) ∧
    (∀ (inst : Fin 3) (s : State), s.Holds inst.val 0x43 [4] → s.upd.held = true → fld (s.boxArg inst.val 0) 0 16 = s.rf 0x71 0x48 0 16 →
      s.activateRefusal = 0 → s.mayYield = false →
      Completes (.updActivate inst) s fun t => s.Ended t inst.val 0 0 ∧ t.keep.activeB = (!s.keep.activeB) ∧ t.keep.trial = true ∧
        t.keep.trialBoots = 1 ∧ t.upd.held = false) ∧
    (∀ (inst : Fin 3) (s : State), s.Holds inst.val 0x44 [0] → s.updState = 4 → s.keep.trialBoots ≤ 2 → s.tb.count < s.keep.trialStart + 600_000_000_000 →
      Completes (.updConfirm inst) s fun t => s.Ended t inst.val 0 0 ∧ t.keep.trial = false ∧ t.updState = 0 ∧ s.keep.arb ≤ t.keep.arb) ∧
    (∀ (inst : Fin 3) (s : State), s.Holds inst.val 0x45 [4] → s.updState ≠ 4 → s.upd.held = true → fld (s.boxArg inst.val 0) 0 16 = s.rf 0x71 0x48 0 16 →
      Completes (.updAbort inst) s fun t => s.Ended t inst.val 0 0 ∧ t.upd.held = false ∧ t.spareSlot.valid = false) ∧
    (∀ (inst : Fin 3) (s : State), s.Holds inst.val 0x45 [4] → s.updState = 4 →
      Completes (.updAbort inst) s fun t => s.Ended t inst.val 0 0 ∧ t.keep = { s.keep with trialAbort := true }) ∧
    (∀ (inst : Fin 3) (s : State), s.Holds inst.val 0x46 [0] → Completes (.updStatus inst) s fun t => s.Ended t inst.val 0 6 ∧
      t.resp inst.val 0 = s.updStateWord ∧ t.resp inst.val 2 = s.rd 0x71 0x50 ∧ t.resp inst.val 5 = s.hobbleWord) ∧
    (∀ (inst : Fin 3) (s : State), s.Holds inst.val 0x47 [4] → ownerKind (s.box inst.val).args = 0 →
      Completes (.ownerLockQuery inst) s fun t => s.Ended t inst.val 0 1 ∧ t.resp inst.val 0 = s.ownerWord ∧ t.keep = s.keep) ∧
    (∀ (inst : Fin 3) (s : State), s.Holds inst.val 0x47 [4] → ownerKind (s.box inst.val).args = 1 →
      Completes (.ownerLockSet inst) s fun t => s.Ended t inst.val 0 1 ∧ t.keep = { s.keep with ownerLock := some inst }) ∧
    (∀ (inst p : Fin 3) (s : State), s.Holds inst.val 0x47 [4] → ownerKind (s.box inst.val).args = 2 → s.keep.ownerLock = some p → p = inst ∨ inst.val = 2 →
      Completes (.ownerLockClear inst) s fun t => s.Ended t inst.val 0 1 ∧ t.keep = { s.keep with ownerLock := none }) ∧
    (∀ s : State, s.upd.held = true → Completes .updSessionTimeout s fun t => t.upd.held = false ∧ t.spareSlot.valid = false) ∧
    (∀ (serviceOk : Bool) (ms : Nat) (s : State), s.updState = 3 → s.firmwareFail s.activeSlot = 0 →
      (s.progMode ≠ modeStop ∨ s.bundleDiffers s.activeSlot s.activeSet = false) →
      Completes (.updServicePause true serviceOk ms) s fun t => t.updState = 4 ∧ t.keep.trialStart = s.tb.count) ∧
    (∀ (serviceOk : Bool) (ms : Nat) (s : State), s.updState = 3 →
      Completes (.updServicePause false serviceOk ms) s fun t => t.keep.activeB = (!s.keep.activeB) ∧ t.keep.trial = false ∧ t.updState = 0 ∧
        t.rf 0x71 0x70 0 16 = min 0xFFFF (s.rf 0x71 0x70 0 16 + 1))

/-- Where UPD_VERIFY takes a package, every component of the active slot whose type the package lacks stands in the slot not
in use, and every type of the active slot stands there. (R429) -/
def Obligations.VerifiedSlotIsComplete : Prop :=
  ∀ (inst : Fin 3) (comps : List Component) (s : State), s.Holds inst.val 0x42 [4] → s.upd.held = true →
    fld (s.boxArg inst.val 0) 0 16 = s.rf 0x71 0x48 0 16 → s.pkgFault comps = none →
    Completes (.updVerify inst comps) s fun t =>
      (∀ c ∈ s.activeSlot.comps, (∀ d ∈ comps.take s.pkgCount, d.hdr.type ≠ c.hdr.type) → c ∈ t.spareSlot.comps) ∧
        ∀ c ∈ s.activeSlot.comps, ∃ d ∈ t.spareSlot.comps, d.hdr.type = c.hdr.type

/-- A good response that opens core debug while IN_APPROVED is 1 leaves no volatile key and no KEK, locks the tack room and
burns no epoch; the lock outlasts every reset but a power-on reset, which ends it while an epoch remains. (R421) -/
def Obligations.CoreDebugUnlockInApproved : Prop :=
  (∀ (inst : Fin 3) (s : State), s.Holds inst.val 0x70 [8] → fld (s.boxArg inst.val 0) 0 2 = 2 → bit (s.boxArg inst.val 1) 0 = true → s.inApproved = true →
      s.moving = false → (2 ≤ fld (s.boxArg inst.val 1) 0 2 → s.progMode = modeStop) → s.sec.nonce.isSome = true →
      s.tb.count < s.sec.nonceAt + 60_000_000_000 →
      Completes (.submit inst true) s fun t => s.Ended t inst.val 0 0 ∧ t.sec.volatile = [] ∧ t.sec.kek = false ∧ t.tackLocked = true ∧
        t.sec.lockToPor = true ∧ t.keep.epochs = s.keep.epochs) ∧
    (∀ (cause elapsed : Nat) (aonKept : Bool) (s : State), cause ≠ 1 → s.sec.lockToPor = true →
      (s.wholeReset cause aonKept elapsed).tackLocked = true ∧ (s.wholeReset cause aonKept elapsed).sec.lockToPor = true) ∧
    (∀ (elapsed : Nat) (aonKept : Bool) (s : State), s.keep.epochs < 64 → (s.wholeReset 1 aonKept elapsed).tackLocked = false)

/-- GAIT_SET downwards, where nothing refuses it, is accepted for its gait, and towards GALLOP wakes; GAIT_QUERY answers; an
accepted transition of a module that does not carry the role enters its gait, or first asks a running program to stop; a wake
source below GALLOP is kept as the cause, the lowest code counting; an exit, from whatever gait, comes to GALLOP with its
cause. (R33, R469, R470, R471, R472, R473, R478) -/
def Obligations.PowerLadder : Prop :=
  (∀ (inst : Fin 3) (x : Nat) (s : State), s.Holds inst.val 0x20 [4] → x = fld (s.boxArg inst.val 0) 0 3 → s.gaitBoxOk inst.val = true → s.inTransition = false →
      s.gaitNow < x → x ≤ 4 → s.gaitRefusal x = 0 →
      Completes (.gaitSet inst) s fun t => s.Ended t inst.val 0 0 ∧ t.gait.stage = .accepted ∧ t.gaitTarget = x ∧ t.rb 0x72 0x0C 0 = true) ∧
    (∀ (inst : Fin 3) (s : State), s.Holds inst.val 0x20 [4] → fld (s.boxArg inst.val 0) 0 3 = 0 → s.gaitBoxOk inst.val = true → s.inTransition = false →
      s.gaitNow ≠ 0 → s.dieTemp < 1200 →
      Completes (.gaitSet inst) s fun t => s.Ended t inst.val 0 0 ∧ t.gait.wake = some (min 5 (s.gait.wake.getD 5))) ∧
    (∀ (inst : Fin 3) (s : State), s.Holds inst.val 0x21 [0] → s.gaitBoxOk inst.val = true → Completes (.gaitQuery inst) s fun t => s.Ended t inst.val 0 3 ∧
      t.resp inst.val 0 = s.rd 0x72 0x44 ∧ t.resp inst.val 1 = s.policyWord ∧ t.resp inst.val 2 = s.rd 0x72 0x58) ∧
    (∀ s : State, s.gait.stage = .accepted → s.moving = false → s.role ≠ 1 → (s.gaitTarget < 2 ∨ s.progMode = modeStop) →
      Completes .gaitTransitionStart s fun t => t.gaitNow = s.gaitTarget ∧ t.gait.stage = .none) ∧
    (∀ s : State, s.gait.stage = .accepted → s.moving = false → s.role ≠ 1 → 2 ≤ s.gaitTarget → s.progMode ≠ modeStop →
      Completes .gaitTransitionStart s fun t => t.gait.stage = .stop ∧ t.prog.req = some ⟨modeStop, false, 1, t.tb.count⟩ ∧ t.gaitNow = s.gaitNow ∧ t.progMode = s.progMode) ∧
    (∀ (w : Nat) (x : ExitNow) (s : State), s.gait.wake = some w →
      Completes (.gaitExit x) s fun t => t.gaitNow = 0 ∧ t.gait.wake = none ∧ t.rf 0x72 0x44 8 4 = w % 16) ∧
    (∀ s : State, s.mayWake = true → Completes .wakeNWake s fun t => t.gait.wake = some (min 2 (s.gait.wake.getD 2)) ∧ t.gait.stage = .none) ∧
    (∀ s : State, s.keep.rtcAlarm ≠ 0 → s.rb 0x72 0x48 2 = true → s.mayWake = true →
      Completes .rtcAlarmWake s fun t => t.keep.rtcAlarm = 0 ∧ t.gait.wake = some (min 3 (s.gait.wake.getD 3))) ∧
    (∀ (fi d : Word) (s : State), s.gaitNow = 2 ∨ s.gaitNow = 3 → s.rb 0x72 0x48 3 = true → s.fioFitted = true →
      d = (fi ^^^ s.gait.entryFi) &&& s.rd 0x72 0x4C →
      (d &&& s.gait.lastDiff ≠ 0 → Completes (.fieldInputWakeSample fi) s fun t => t.gait.wake = some (min 4 (s.gait.wake.getD 4))) ∧
      (d &&& s.gait.lastDiff = 0 → Completes (.fieldInputWakeSample fi) s fun t => t = { s with gait := { s.gait with lastDiff := d } }))

/-- A row of the field I/O board leaves everything but registers, the inlet queue and the board's own state as it was, and
every register and table word outside EVR, TB, FIO and ILK but the pending bits of the headers; a row of the time base does so
with the time base's state, the frames that a step cuts (R305), and the pages EVR, TB, LANE (whose PC samples come with time,
R171) and those of the camera ports. Neither stores a byte into a memory. (R128, R136, R225, R171, R226, R228, R237, R248,
R305) -/
def Obligations.FieldAndTimeFrame : Prop :=
  (∀ (c : Instr) (s : State), fieldRow c = true → Leaves c s fun t =>
      t = { s with regs := t.regs, inlet := t.inlet, field := t.field } ∧ SamePages [0x02, 0x05, 0x0B, 0x0C] s t ∧ SameBytes s t) ∧
    (∀ (c : Instr) (s : State), timeRow c = true → Leaves c s fun t =>
      t = { s with regs := t.regs, inlet := t.inlet, tb := t.tb, cams := t.cams, dsps := t.dsps } ∧
        SamePages [0x02, 0x05, 0x06, 0x31, 0x32, 0x33, 0x34, 0x35, 0x36, 0x37, 0x38] s t ∧ SameBytes s t)

/-- A row of a camera port, a view, a display port or the frame watch leaves everything but registers, shadows, time and the
vision units' own state as it was: the lanes, the voter's and the program's state, the networks, the recorder and the keys
among it; a row of the frame watch changes registers of EVR and FWATCH alone, beside the pending bits of the headers. (R254,
R280, R306, R308) -/
def Obligations.VisionFrame : Prop :=
  (∀ (c : Instr) (s : State), visionRow c = true → Leaves c s fun t =>
      t = { s with regs := t.regs, inlet := t.inlet, cams := t.cams, views := t.views, dsps := t.dsps, watches := t.watches,
                   shadow := t.shadow, upsets := t.upsets, tb := t.tb } ∧ SameBytes s t) ∧
    (∀ (c : Instr) (s : State), watchRow c = true → Leaves c s fun t =>
      t = { s with regs := t.regs, inlet := t.inlet, watches := t.watches, dsps := t.dsps } ∧ SamePages [0x02, 0x49] s t)

/-- A row of a CAN channel, of the MVB controller or of the Ethernet switch that delivers no signal leaves everything but
registers, the inlet queue and its own unit's state as it was, with time where the row stands at an instant of it, and the
shadows where a boundary applies them; a frame received on CAN or MVB changes, beside these, the values of the input signals
alone. (R330, R334, R356, R361, R362) -/
def Obligations.NetworkFrame : Prop :=
  (∀ (c : Instr) (s : State), canRow c = true → Leaves c s fun t =>
      t = { s with regs := t.regs, inlet := t.inlet, cans := t.cans, shadow := t.shadow, upsets := t.upsets, freeIx := t.freeIx } ∧
        SameBytes s t) ∧
    (∀ (c : Instr) (s : State), mvbRow c = true → Leaves c s fun t =>
      t = { s with regs := t.regs, inlet := t.inlet, mvb := t.mvb, shadow := t.shadow, upsets := t.upsets, freeIx := t.freeIx, tb := t.tb } ∧
        SameBytes s t) ∧
    (∀ (c : Instr) (s : State), ethRow c = true → Leaves c s fun t =>
      t = { s with regs := t.regs, inlet := t.inlet, net := t.net, tb := t.tb } ∧ SameBytes s t) ∧
    (∀ (n : Fin 6) (f : CanFrame) (dur : Nat) (s : State), Leaves (.canFrameReceived n f dur) s fun t =>
      t = { s with regs := t.regs, inlet := t.inlet, cans := t.cans, freeIx := t.freeIx,
                   prog := { s.prog with sigs := t.prog.sigs } } ∧ SameBytes s t)

/-- A mailbox command that asks for an answer only leaves everything but registers, the inlet queue and the mailbox instances
with their order as it was; a row that the recorder carries out by itself changes registers, the inlet queue, time, the
recorder and what is kept without power; a row of a pin or a supply changes the pins alone, and no register. (R99, R100, R458,
R459) -/
def Obligations.MailboxRecorderAndPinFrame : Prop :=
  (∀ (c : Instr) (s : State), answerRow c = true → Leaves c s fun t =>
      t = { s with regs := t.regs, inlet := t.inlet, boxes := t.boxes, bells := t.bells } ∧ SameBytes s t) ∧
    (∀ (c : Instr) (s : State), recorderRow c = true → Leaves c s fun t =>
      t = { s with regs := t.regs, inlet := t.inlet, recd := t.recd, keep := t.keep, freeIx := t.freeIx, tb := t.tb } ∧
        SamePages [0x02, 0x05, 0x06, 0x70] s t ∧ SameBytes s t) ∧
    (∀ (c : Instr) (s : State), pinRow c = true → Leaves c s fun t => t = { s with pins := t.pins } ∧ SameBytes s t)

/-- The rows listed as storing nothing leave every byte of every memory as it was. A DMA descriptor stores into LEN bytes at
its destination, where that is a memory, into word 7 of the descriptor, and, where it asks for an interrupt, the four bytes of
its channel's message; the link's coming up stores its message alone; a completion timeout and the loss of the link store into
word 7 of the descriptors that they end; a write through BAR2 stores into the bytes it addresses. (R146, R371, R372, R375) -/
def Obligations.MemoryFrame : Prop :=
  (∀ (c : Instr) (s : State), storesNothing c = true → Leaves c s fun t => SameBytes s t) ∧
    (∀ (ch : Fin 8) (host : List Word) (given : List Byte) (met : Nat) (s : State), Leaves (.dmaDescriptorDone ch host given met) s fun t =>
      ∀ a, ¬(s.descMem ch.val + 28 ≤ a ∧ a < s.descMem ch.val + 32) →
        (∀ base, dmaTarget (s.descWords ch.val host) = some base → ¬(base ≤ a ∧ a < base + dLen (s.descWords ch.val host))) →
        (bit ((s.descWords ch.val host).getD 5 0) 0 = true → ¬(hostMem (s.vec ch.val).addr ≤ a ∧ a < hostMem (s.vec ch.val).addr + 4)) →
        t.byte a = s.byte a) ∧
    (∀ (gen width : Nat) (s : State), Leaves (.pcieLinkUp gen width) s fun t =>
      ∀ a, ¬(hostMem (s.vec 8).addr ≤ a ∧ a < hostMem (s.vec 8).addr + 4) → t.byte a = s.byte a) ∧
    (∀ (ch : Fin 8) (s : State), Leaves (.pcieCompletionTimeout ch) s fun t =>
      ∀ a, ¬(s.descMem ch.val + 28 ≤ a ∧ a < s.descMem ch.val + 32) → t.byte a = s.byte a) ∧
    (∀ s : State, Leaves .pcieLinkDown s fun t =>
      ∀ a, (∀ ch : Fin 8, ¬(s.descMem ch.val + 28 ≤ a ∧ a < s.descMem ch.val + 32)) → t.byte a = s.byte a) ∧
    (∀ (addr n : Nat) (ws : List Word) (s : State), s.reintState ∉ [2, 3, 4] → Leaves (.pcieInboundAccess .barSram addr n (some ws)) s fun t =>
      ∀ a, ¬(sramMem addr ≤ a ∧ a < sramMem addr + n) → t.byte a = s.byte a)

/-- Where no reintegration is between BOOT and its end, a plain or masked write of a plain register of BRIDLE, CYC, PRG or SIG
that meets nothing which stops it leaves every other register and table word as it was, and all state but registers and the
bus answer; a semaphore command and the clearing of a pending bank change registers of EVR and BRIDLE alone, beside the
pending bits of the headers and the inlet queue. (R77, R95, R60, R85) -/
def Obligations.RegisterWriteFrame : Prop :=
  (∀ (i : Init) (p off : Nat) (v : Word) (s : State), p ∈ [0x03, 0x08, 0x09, 0x0A] → 0x40 ≤ off → off < 0x80 → off % 4 = 0 →
      plainWord (rk p off) → s.Open i p off true → s.reintState ∉ [2, 3, 4] →
      (Leaves (.generalRegisterWrite i (addrOf p off) 4 [v] false) s fun t =>
        t = { s with regs := t.regs, bus := t.bus } ∧ ∀ k, k ≠ rk p off → t.key k = s.key k) ∧
      (Leaves (.wmRegisterWrite i (addrOf p off) v) s fun t =>
        t = { s with regs := t.regs, bus := t.bus } ∧ ∀ k, k ≠ rk p off → t.key k = s.key k)) ∧
    (∀ (i : Init) (k : Fin 16) (c : Instr) (s : State), c = .semAcquire i k ∨ c = .semRelease i k ∨ c = .semForce i k →
      s.Open i 0x03 (0x80 + 4 * k.val) true → s.reintState ∉ [2, 3, 4] →
      Leaves c s fun t => OnlyRegisters s t ∧ SamePages [0x02, 0x03] s t) ∧
    (∀ (i : Init) (bank : Fin 5) (w : Fin 8) (v : Word) (s : State), s.Open i 0x02 (0x100 + 0x20 * bank.val + 4 * w.val) true →
      s.reintState ∉ [2, 3, 4] →
      Leaves (.evrPendW1c i bank w v) s fun t => OnlyRegisters s t ∧ SamePages [0x02, 0x03] s t)
end

