-- ==== Sys2Proof/Laws/Bits.lean ====
section
/-! SUPPORT. Laws of the bit fields: what a field reads after it, or a field beside it, has been set. -/

namespace Sys2Proof.Machine

theorem fld_lt (w : Word) (lo n : Nat) : fld w lo n < 2 ^ n := Nat.mod_lt _ (Nat.two_pow_pos n)

/-- A field is the bits of its word from `lo` on. -/
theorem testBit_fld (w : Word) (lo n i : Nat) : (fld w lo n).testBit i = (decide (i < n) && w.getLsbD (lo + i)) := by
  simp [fld, Nat.testBit_mod_two_pow, Nat.testBit_div_two_pow, BitVec.getLsbD, Nat.add_comm]

theorem bit_eq_fld (w : Word) (i : Nat) : bit w i = decide (fld w i 1 = 1) := by
  rw [bit, BitVec.getLsbD, Nat.testBit_eq_decide_div_mod_eq, fld, Nat.pow_one]

/-- A word is its bits below a field, the field, and its bits above it. -/
theorem toNat_split (w : Word) (lo n : Nat) :
    w.toNat = w.toNat % 2 ^ lo + 2 ^ lo * (fld w lo n + 2 ^ n * (w.toNat / 2 ^ lo / 2 ^ n)) := by
  have h1 := Nat.mod_add_div w.toNat (2 ^ lo)
  have h2 := Nat.mod_add_div (w.toNat / 2 ^ lo) (2 ^ n)
  rw [fld, h2, h1]

/-- Setting a field of a word changes that field alone. -/
theorem setFld_toNat (w : Word) (lo n x : Nat) (h : lo + n ≤ 32) :
    (setFld w lo n x).toNat = w.toNat % 2 ^ lo + 2 ^ lo * (x % 2 ^ n + 2 ^ n * (w.toNat / 2 ^ lo / 2 ^ n)) := by
  have e := toNat_split w lo n
  have hlt : w.toNat < 2 ^ 32 := w.isLt
  have hx : x % 2 ^ n < 2 ^ n := Nat.mod_lt _ (Nat.two_pow_pos n)
  have hm : w.toNat % 2 ^ lo < 2 ^ lo := Nat.mod_lt _ (Nat.two_pow_pos lo)
  have hq : w.toNat / 2 ^ lo / 2 ^ n < 2 ^ (32 - lo - n) := by
    rw [Nat.div_div_eq_div_mul, ← Nat.pow_add, Nat.div_lt_iff_lt_mul (Nat.two_pow_pos _), ← Nat.pow_add]
    rwa [show 32 - lo - n + (lo + n) = 32 by omega]
  have hr : w.toNat - fld w lo n * 2 ^ lo + x % 2 ^ n * 2 ^ lo
      = w.toNat % 2 ^ lo + 2 ^ lo * (x % 2 ^ n + 2 ^ n * (w.toNat / 2 ^ lo / 2 ^ n)) := by
    generalize w.toNat / 2 ^ lo / 2 ^ n = q at *
    generalize w.toNat % 2 ^ lo = m at *
    generalize x % 2 ^ n = y at *
    rw [e, Nat.mul_add, Nat.mul_add, Nat.mul_comm (fld w lo n), Nat.mul_comm y]
    omega
  have hb : w.toNat % 2 ^ lo + 2 ^ lo * (x % 2 ^ n + 2 ^ n * (w.toNat / 2 ^ lo / 2 ^ n)) < 2 ^ 32 := by
    generalize w.toNat / 2 ^ lo / 2 ^ n = q at *
    have h1 : x % 2 ^ n + 2 ^ n * q < 2 ^ n * (q + 1) := by rw [Nat.mul_add, Nat.mul_one]; omega
    have h2 : 2 ^ n * (q + 1) ≤ 2 ^ n * 2 ^ (32 - lo - n) := Nat.mul_le_mul_left _ hq
    rw [← Nat.pow_add, show n + (32 - lo - n) = 32 - lo by omega] at h2
    have h3 : 2 ^ lo * (x % 2 ^ n + 2 ^ n * q + 1) ≤ 2 ^ lo * 2 ^ (32 - lo) := Nat.mul_le_mul_left _ (by omega)
    rw [← Nat.pow_add, show lo + (32 - lo) = 32 by omega, Nat.mul_add, Nat.mul_one] at h3
    omega
  rw [setFld, w32, BitVec.toNat_ofNat, hr, Nat.mod_eq_of_lt hb]

/-- Bit by bit: inside the field the new value, outside it the old word. -/
theorem getLsbD_setFld (w : Word) (lo n x i : Nat) (h : lo + n ≤ 32) :
    (setFld w lo n x).getLsbD i = if lo ≤ i ∧ i < lo + n then x.testBit (i - lo) else w.getLsbD i := by
  have hm : w.toNat % 2 ^ lo < 2 ^ lo := Nat.mod_lt _ (Nat.two_pow_pos lo)
  have hx : x % 2 ^ n < 2 ^ n := Nat.mod_lt _ (Nat.two_pow_pos n)
  rw [BitVec.getLsbD, setFld_toNat w lo n x h, BitVec.getLsbD, Nat.add_comm (w.toNat % 2 ^ lo), Nat.testBit_two_pow_mul_add _ hm,
    Nat.add_comm (x % 2 ^ n), Nat.testBit_two_pow_mul_add _ hx]
  by_cases h1 : i < lo
  · rw [if_pos h1, if_neg (by omega), Nat.testBit_mod_two_pow, decide_eq_true h1, Bool.true_and]
  · rw [if_neg h1]
    by_cases h2 : i - lo < n
    · rw [if_pos h2, if_pos (by omega)]; simp [Nat.testBit_mod_two_pow, h2]
    · rw [if_neg h2, if_neg (by omega), Nat.testBit_div_two_pow, Nat.testBit_div_two_pow]
      congr 1; omega

/-- A field reads what it was set to. -/
theorem fld_setFld_self (w : Word) (lo n x : Nat) (h : lo + n ≤ 32) : fld (setFld w lo n x) lo n = x % 2 ^ n := by
  apply Nat.eq_of_testBit_eq
  intro i
  rw [testBit_fld, getLsbD_setFld _ _ _ _ _ h, Nat.testBit_mod_two_pow]
  by_cases hi : i < n
  · rw [if_pos (by omega), Nat.add_sub_cancel_left]
  · simp [hi]

/-- A field beside the one set reads as before. -/
theorem fld_setFld_ne (w : Word) (lo n x lo' n' : Nat) (h : lo + n ≤ 32) (hd : lo' + n' ≤ lo ∨ lo + n ≤ lo') :
    fld (setFld w lo n x) lo' n' = fld w lo' n' := by
  apply Nat.eq_of_testBit_eq
  intro i
  rw [testBit_fld, testBit_fld, getLsbD_setFld _ _ _ _ _ h]
  by_cases hi : i < n'
  · rw [if_neg (by omega)]
  · simp [hi]

theorem bit_setFld_ne (w : Word) (lo n x i : Nat) (h : lo + n ≤ 32) (hd : i < lo ∨ lo + n ≤ i) :
    bit (setFld w lo n x) i = bit w i := by
  rw [bit, bit, getLsbD_setFld _ _ _ _ _ h, if_neg (by omega)]

theorem bit_setBit_self (w : Word) (i : Nat) (b : Bool) (h : i < 32) : bit (setBit w i b) i = b := by
  rw [setBit, bit, getLsbD_setFld _ _ _ _ _ (by omega), if_pos (by omega)]
  cases b <;> simp

theorem bit_setBit_ne (w : Word) (i j : Nat) (b : Bool) (h : i < 32) (hd : j ≠ i) : bit (setBit w i b) j = bit w j :=
  bit_setFld_ne _ _ _ _ _ (by omega) (by omega)

theorem fld_setBit_ne (w : Word) (i lo n : Nat) (b : Bool) (h : i < 32) (hd : lo + n ≤ i ∨ i < lo) :
    fld (setBit w i b) lo n = fld w lo n :=
  fld_setFld_ne _ _ _ _ _ _ (by omega) (by omega)

/-- Two words are equal when every bit is. -/
theorem word_ext (v w : Word) (h : ∀ i, i < 32 → bit v i = bit w i) : v = w :=
  BitVec.eq_of_getLsbD_eq h

/-- A merge takes the masked bits of the new word. -/
theorem bit_merge (m o v : Word) (i : Nat) (h : i < 32) : bit (merge m o v) i = if bit m i then bit v i else bit o i := by
  have e : bit (merge m o v) i = (bit o i && !bit m i || bit v i && bit m i) := by
    simp only [bit, merge, BitVec.getLsbD_or, BitVec.getLsbD_and, BitVec.getLsbD_not, h, decide_true, Bool.true_and]
  by_cases hm : bit m i = true
  · rw [e, if_pos hm, hm]; simp
  · rw [e, if_neg hm, Bool.eq_false_of_not_eq_true hm]; simp

end Sys2Proof.Machine
end

