-- ==== Sys2Proof/Laws/State.lean ====
section
/-! SUPPORT. One law per field and update: an update of one store or unit leaves every other field as it was. -/

namespace Sys2Proof.Machine

variable (s : State) (k p o lo n x : Nat) (v : Word) (d : DWord) (b : Bool) (y : Byte) (fL : Lane → Lane) (fC : Cam → Cam)
  (fV : View → View) (fD : Dsp → Dsp) (fW : Watch → Watch) (fN : Can → Can) (fB : Box → Box)

/-! ### `State.setKey` -/

@[simp] theorem setKey_pending : (s.setKey k v).pending = s.pending := rfl
@[simp] theorem setKey_variant : (s.setKey k v).variant = s.variant := rfl
@[simp] theorem setKey_shadow : (s.setKey k v).shadow = s.shadow := rfl
@[simp] theorem setKey_upsets : (s.setKey k v).upsets = s.upsets := rfl
@[simp] theorem setKey_img : (s.setKey k v).img = s.img := rfl
@[simp] theorem setKey_mem : (s.setKey k v).mem = s.mem := rfl
@[simp] theorem setKey_kp : (s.setKey k v).kp = s.kp := rfl
@[simp] theorem setKey_bus : (s.setKey k v).bus = s.bus := rfl
@[simp] theorem setKey_freeIx : (s.setKey k v).freeIx = s.freeIx := rfl
@[simp] theorem setKey_pins : (s.setKey k v).pins = s.pins := rfl
@[simp] theorem setKey_tb : (s.setKey k v).tb = s.tb := rfl
@[simp] theorem setKey_inlet : (s.setKey k v).inlet = s.inlet := rfl
@[simp] theorem setKey_vw : (s.setKey k v).vw = s.vw := rfl
@[simp] theorem setKey_lanes : (s.setKey k v).lanes = s.lanes := rfl
@[simp] theorem setKey_tro : (s.setKey k v).tro = s.tro := rfl
@[simp] theorem setKey_reint : (s.setKey k v).reint = s.reint := rfl
@[simp] theorem setKey_prog : (s.setKey k v).prog = s.prog := rfl
@[simp] theorem setKey_keep : (s.setKey k v).keep = s.keep := rfl
@[simp] theorem setKey_boxes : (s.setKey k v).boxes = s.boxes := rfl
@[simp] theorem setKey_bells : (s.setKey k v).bells = s.bells := rfl
@[simp] theorem setKey_farr : (s.setKey k v).farr = s.farr := rfl
@[simp] theorem setKey_field : (s.setKey k v).field = s.field := rfl
@[simp] theorem setKey_cams : (s.setKey k v).cams = s.cams := rfl
@[simp] theorem setKey_views : (s.setKey k v).views = s.views := rfl
@[simp] theorem setKey_dsps : (s.setKey k v).dsps = s.dsps := rfl
@[simp] theorem setKey_watches : (s.setKey k v).watches = s.watches := rfl
@[simp] theorem setKey_cans : (s.setKey k v).cans = s.cans := rfl
@[simp] theorem setKey_mvb : (s.setKey k v).mvb = s.mvb := rfl
@[simp] theorem setKey_net : (s.setKey k v).net = s.net := rfl
@[simp] theorem setKey_dup : (s.setKey k v).dup = s.dup := rfl
@[simp] theorem setKey_sec : (s.setKey k v).sec = s.sec := rfl
@[simp] theorem setKey_upd : (s.setKey k v).upd = s.upd := rfl
@[simp] theorem setKey_recd : (s.setKey k v).recd = s.recd := rfl
@[simp] theorem setKey_gait : (s.setKey k v).gait = s.gait := rfl

/-! ### `State.wr` -/

@[simp] theorem wr_pending : (s.wr p o v).pending = s.pending := by rw [State.wr, setKey_pending]
@[simp] theorem wr_variant : (s.wr p o v).variant = s.variant := by rw [State.wr, setKey_variant]
@[simp] theorem wr_shadow : (s.wr p o v).shadow = s.shadow := by rw [State.wr, setKey_shadow]
@[simp] theorem wr_upsets : (s.wr p o v).upsets = s.upsets := by rw [State.wr, setKey_upsets]
@[simp] theorem wr_img : (s.wr p o v).img = s.img := by rw [State.wr, setKey_img]
@[simp] theorem wr_mem : (s.wr p o v).mem = s.mem := by rw [State.wr, setKey_mem]
@[simp] theorem wr_kp : (s.wr p o v).kp = s.kp := by rw [State.wr, setKey_kp]
@[simp] theorem wr_bus : (s.wr p o v).bus = s.bus := by rw [State.wr, setKey_bus]
@[simp] theorem wr_freeIx : (s.wr p o v).freeIx = s.freeIx := by rw [State.wr, setKey_freeIx]
@[simp] theorem wr_pins : (s.wr p o v).pins = s.pins := by rw [State.wr, setKey_pins]
@[simp] theorem wr_tb : (s.wr p o v).tb = s.tb := by rw [State.wr, setKey_tb]
@[simp] theorem wr_inlet : (s.wr p o v).inlet = s.inlet := by rw [State.wr, setKey_inlet]
@[simp] theorem wr_vw : (s.wr p o v).vw = s.vw := by rw [State.wr, setKey_vw]
@[simp] theorem wr_lanes : (s.wr p o v).lanes = s.lanes := by rw [State.wr, setKey_lanes]
@[simp] theorem wr_tro : (s.wr p o v).tro = s.tro := by rw [State.wr, setKey_tro]
@[simp] theorem wr_reint : (s.wr p o v).reint = s.reint := by rw [State.wr, setKey_reint]
@[simp] theorem wr_prog : (s.wr p o v).prog = s.prog := by rw [State.wr, setKey_prog]
@[simp] theorem wr_keep : (s.wr p o v).keep = s.keep := by rw [State.wr, setKey_keep]
@[simp] theorem wr_boxes : (s.wr p o v).boxes = s.boxes := by rw [State.wr, setKey_boxes]
@[simp] theorem wr_bells : (s.wr p o v).bells = s.bells := by rw [State.wr, setKey_bells]
@[simp] theorem wr_farr : (s.wr p o v).farr = s.farr := by rw [State.wr, setKey_farr]
@[simp] theorem wr_field : (s.wr p o v).field = s.field := by rw [State.wr, setKey_field]
@[simp] theorem wr_cams : (s.wr p o v).cams = s.cams := by rw [State.wr, setKey_cams]
@[simp] theorem wr_views : (s.wr p o v).views = s.views := by rw [State.wr, setKey_views]
@[simp] theorem wr_dsps : (s.wr p o v).dsps = s.dsps := by rw [State.wr, setKey_dsps]
@[simp] theorem wr_watches : (s.wr p o v).watches = s.watches := by rw [State.wr, setKey_watches]
@[simp] theorem wr_cans : (s.wr p o v).cans = s.cans := by rw [State.wr, setKey_cans]
@[simp] theorem wr_mvb : (s.wr p o v).mvb = s.mvb := by rw [State.wr, setKey_mvb]
@[simp] theorem wr_net : (s.wr p o v).net = s.net := by rw [State.wr, setKey_net]
@[simp] theorem wr_dup : (s.wr p o v).dup = s.dup := by rw [State.wr, setKey_dup]
@[simp] theorem wr_sec : (s.wr p o v).sec = s.sec := by rw [State.wr, setKey_sec]
@[simp] theorem wr_upd : (s.wr p o v).upd = s.upd := by rw [State.wr, setKey_upd]
@[simp] theorem wr_recd : (s.wr p o v).recd = s.recd := by rw [State.wr, setKey_recd]
@[simp] theorem wr_gait : (s.wr p o v).gait = s.gait := by rw [State.wr, setKey_gait]

/-! ### `State.setTab` -/

@[simp] theorem setTab_pending : (s.setTab p o v).pending = s.pending := by rw [State.setTab, setKey_pending]
@[simp] theorem setTab_variant : (s.setTab p o v).variant = s.variant := by rw [State.setTab, setKey_variant]
@[simp] theorem setTab_shadow : (s.setTab p o v).shadow = s.shadow := by rw [State.setTab, setKey_shadow]
@[simp] theorem setTab_upsets : (s.setTab p o v).upsets = s.upsets := by rw [State.setTab, setKey_upsets]
@[simp] theorem setTab_img : (s.setTab p o v).img = s.img := by rw [State.setTab, setKey_img]
@[simp] theorem setTab_mem : (s.setTab p o v).mem = s.mem := by rw [State.setTab, setKey_mem]
@[simp] theorem setTab_kp : (s.setTab p o v).kp = s.kp := by rw [State.setTab, setKey_kp]
@[simp] theorem setTab_bus : (s.setTab p o v).bus = s.bus := by rw [State.setTab, setKey_bus]
@[simp] theorem setTab_freeIx : (s.setTab p o v).freeIx = s.freeIx := by rw [State.setTab, setKey_freeIx]
@[simp] theorem setTab_pins : (s.setTab p o v).pins = s.pins := by rw [State.setTab, setKey_pins]
@[simp] theorem setTab_tb : (s.setTab p o v).tb = s.tb := by rw [State.setTab, setKey_tb]
@[simp] theorem setTab_inlet : (s.setTab p o v).inlet = s.inlet := by rw [State.setTab, setKey_inlet]
@[simp] theorem setTab_vw : (s.setTab p o v).vw = s.vw := by rw [State.setTab, setKey_vw]
@[simp] theorem setTab_lanes : (s.setTab p o v).lanes = s.lanes := by rw [State.setTab, setKey_lanes]
@[simp] theorem setTab_tro : (s.setTab p o v).tro = s.tro := by rw [State.setTab, setKey_tro]
@[simp] theorem setTab_reint : (s.setTab p o v).reint = s.reint := by rw [State.setTab, setKey_reint]
@[simp] theorem setTab_prog : (s.setTab p o v).prog = s.prog := by rw [State.setTab, setKey_prog]
@[simp] theorem setTab_keep : (s.setTab p o v).keep = s.keep := by rw [State.setTab, setKey_keep]
@[simp] theorem setTab_boxes : (s.setTab p o v).boxes = s.boxes := by rw [State.setTab, setKey_boxes]
@[simp] theorem setTab_bells : (s.setTab p o v).bells = s.bells := by rw [State.setTab, setKey_bells]
@[simp] theorem setTab_farr : (s.setTab p o v).farr = s.farr := by rw [State.setTab, setKey_farr]
@[simp] theorem setTab_field : (s.setTab p o v).field = s.field := by rw [State.setTab, setKey_field]
@[simp] theorem setTab_cams : (s.setTab p o v).cams = s.cams := by rw [State.setTab, setKey_cams]
@[simp] theorem setTab_views : (s.setTab p o v).views = s.views := by rw [State.setTab, setKey_views]
@[simp] theorem setTab_dsps : (s.setTab p o v).dsps = s.dsps := by rw [State.setTab, setKey_dsps]
@[simp] theorem setTab_watches : (s.setTab p o v).watches = s.watches := by rw [State.setTab, setKey_watches]
@[simp] theorem setTab_cans : (s.setTab p o v).cans = s.cans := by rw [State.setTab, setKey_cans]
@[simp] theorem setTab_mvb : (s.setTab p o v).mvb = s.mvb := by rw [State.setTab, setKey_mvb]
@[simp] theorem setTab_net : (s.setTab p o v).net = s.net := by rw [State.setTab, setKey_net]
@[simp] theorem setTab_dup : (s.setTab p o v).dup = s.dup := by rw [State.setTab, setKey_dup]
@[simp] theorem setTab_sec : (s.setTab p o v).sec = s.sec := by rw [State.setTab, setKey_sec]
@[simp] theorem setTab_upd : (s.setTab p o v).upd = s.upd := by rw [State.setTab, setKey_upd]
@[simp] theorem setTab_recd : (s.setTab p o v).recd = s.recd := by rw [State.setTab, setKey_recd]
@[simp] theorem setTab_gait : (s.setTab p o v).gait = s.gait := by rw [State.setTab, setKey_gait]

/-! ### `State.wrFld` -/

@[simp] theorem wrFld_pending : (s.wrFld p o lo n x).pending = s.pending := by rw [State.wrFld, wr_pending]
@[simp] theorem wrFld_variant : (s.wrFld p o lo n x).variant = s.variant := by rw [State.wrFld, wr_variant]
@[simp] theorem wrFld_shadow : (s.wrFld p o lo n x).shadow = s.shadow := by rw [State.wrFld, wr_shadow]
@[simp] theorem wrFld_upsets : (s.wrFld p o lo n x).upsets = s.upsets := by rw [State.wrFld, wr_upsets]
@[simp] theorem wrFld_img : (s.wrFld p o lo n x).img = s.img := by rw [State.wrFld, wr_img]
@[simp] theorem wrFld_mem : (s.wrFld p o lo n x).mem = s.mem := by rw [State.wrFld, wr_mem]
@[simp] theorem wrFld_kp : (s.wrFld p o lo n x).kp = s.kp := by rw [State.wrFld, wr_kp]
@[simp] theorem wrFld_bus : (s.wrFld p o lo n x).bus = s.bus := by rw [State.wrFld, wr_bus]
@[simp] theorem wrFld_freeIx : (s.wrFld p o lo n x).freeIx = s.freeIx := by rw [State.wrFld, wr_freeIx]
@[simp] theorem wrFld_pins : (s.wrFld p o lo n x).pins = s.pins := by rw [State.wrFld, wr_pins]
@[simp] theorem wrFld_tb : (s.wrFld p o lo n x).tb = s.tb := by rw [State.wrFld, wr_tb]
@[simp] theorem wrFld_inlet : (s.wrFld p o lo n x).inlet = s.inlet := by rw [State.wrFld, wr_inlet]
@[simp] theorem wrFld_vw : (s.wrFld p o lo n x).vw = s.vw := by rw [State.wrFld, wr_vw]
@[simp] theorem wrFld_lanes : (s.wrFld p o lo n x).lanes = s.lanes := by rw [State.wrFld, wr_lanes]
@[simp] theorem wrFld_tro : (s.wrFld p o lo n x).tro = s.tro := by rw [State.wrFld, wr_tro]
@[simp] theorem wrFld_reint : (s.wrFld p o lo n x).reint = s.reint := by rw [State.wrFld, wr_reint]
@[simp] theorem wrFld_prog : (s.wrFld p o lo n x).prog = s.prog := by rw [State.wrFld, wr_prog]
@[simp] theorem wrFld_keep : (s.wrFld p o lo n x).keep = s.keep := by rw [State.wrFld, wr_keep]
@[simp] theorem wrFld_boxes : (s.wrFld p o lo n x).boxes = s.boxes := by rw [State.wrFld, wr_boxes]
@[simp] theorem wrFld_bells : (s.wrFld p o lo n x).bells = s.bells := by rw [State.wrFld, wr_bells]
@[simp] theorem wrFld_farr : (s.wrFld p o lo n x).farr = s.farr := by rw [State.wrFld, wr_farr]
@[simp] theorem wrFld_field : (s.wrFld p o lo n x).field = s.field := by rw [State.wrFld, wr_field]
@[simp] theorem wrFld_cams : (s.wrFld p o lo n x).cams = s.cams := by rw [State.wrFld, wr_cams]
@[simp] theorem wrFld_views : (s.wrFld p o lo n x).views = s.views := by rw [State.wrFld, wr_views]
@[simp] theorem wrFld_dsps : (s.wrFld p o lo n x).dsps = s.dsps := by rw [State.wrFld, wr_dsps]
@[simp] theorem wrFld_watches : (s.wrFld p o lo n x).watches = s.watches := by rw [State.wrFld, wr_watches]
@[simp] theorem wrFld_cans : (s.wrFld p o lo n x).cans = s.cans := by rw [State.wrFld, wr_cans]
@[simp] theorem wrFld_mvb : (s.wrFld p o lo n x).mvb = s.mvb := by rw [State.wrFld, wr_mvb]
@[simp] theorem wrFld_net : (s.wrFld p o lo n x).net = s.net := by rw [State.wrFld, wr_net]
@[simp] theorem wrFld_dup : (s.wrFld p o lo n x).dup = s.dup := by rw [State.wrFld, wr_dup]
@[simp] theorem wrFld_sec : (s.wrFld p o lo n x).sec = s.sec := by rw [State.wrFld, wr_sec]
@[simp] theorem wrFld_upd : (s.wrFld p o lo n x).upd = s.upd := by rw [State.wrFld, wr_upd]
@[simp] theorem wrFld_recd : (s.wrFld p o lo n x).recd = s.recd := by rw [State.wrFld, wr_recd]
@[simp] theorem wrFld_gait : (s.wrFld p o lo n x).gait = s.gait := by rw [State.wrFld, wr_gait]

/-! ### `State.wrBit` -/

@[simp] theorem wrBit_pending : (s.wrBit p o lo b).pending = s.pending := by rw [State.wrBit, wr_pending]
@[simp] theorem wrBit_variant : (s.wrBit p o lo b).variant = s.variant := by rw [State.wrBit, wr_variant]
@[simp] theorem wrBit_shadow : (s.wrBit p o lo b).shadow = s.shadow := by rw [State.wrBit, wr_shadow]
@[simp] theorem wrBit_upsets : (s.wrBit p o lo b).upsets = s.upsets := by rw [State.wrBit, wr_upsets]
@[simp] theorem wrBit_img : (s.wrBit p o lo b).img = s.img := by rw [State.wrBit, wr_img]
@[simp] theorem wrBit_mem : (s.wrBit p o lo b).mem = s.mem := by rw [State.wrBit, wr_mem]
@[simp] theorem wrBit_kp : (s.wrBit p o lo b).kp = s.kp := by rw [State.wrBit, wr_kp]
@[simp] theorem wrBit_bus : (s.wrBit p o lo b).bus = s.bus := by rw [State.wrBit, wr_bus]
@[simp] theorem wrBit_freeIx : (s.wrBit p o lo b).freeIx = s.freeIx := by rw [State.wrBit, wr_freeIx]
@[simp] theorem wrBit_pins : (s.wrBit p o lo b).pins = s.pins := by rw [State.wrBit, wr_pins]
@[simp] theorem wrBit_tb : (s.wrBit p o lo b).tb = s.tb := by rw [State.wrBit, wr_tb]
@[simp] theorem wrBit_inlet : (s.wrBit p o lo b).inlet = s.inlet := by rw [State.wrBit, wr_inlet]
@[simp] theorem wrBit_vw : (s.wrBit p o lo b).vw = s.vw := by rw [State.wrBit, wr_vw]
@[simp] theorem wrBit_lanes : (s.wrBit p o lo b).lanes = s.lanes := by rw [State.wrBit, wr_lanes]
@[simp] theorem wrBit_tro : (s.wrBit p o lo b).tro = s.tro := by rw [State.wrBit, wr_tro]
@[simp] theorem wrBit_reint : (s.wrBit p o lo b).reint = s.reint := by rw [State.wrBit, wr_reint]
@[simp] theorem wrBit_prog : (s.wrBit p o lo b).prog = s.prog := by rw [State.wrBit, wr_prog]
@[simp] theorem wrBit_keep : (s.wrBit p o lo b).keep = s.keep := by rw [State.wrBit, wr_keep]
@[simp] theorem wrBit_boxes : (s.wrBit p o lo b).boxes = s.boxes := by rw [State.wrBit, wr_boxes]
@[simp] theorem wrBit_bells : (s.wrBit p o lo b).bells = s.bells := by rw [State.wrBit, wr_bells]
@[simp] theorem wrBit_farr : (s.wrBit p o lo b).farr = s.farr := by rw [State.wrBit, wr_farr]
@[simp] theorem wrBit_field : (s.wrBit p o lo b).field = s.field := by rw [State.wrBit, wr_field]
@[simp] theorem wrBit_cams : (s.wrBit p o lo b).cams = s.cams := by rw [State.wrBit, wr_cams]
@[simp] theorem wrBit_views : (s.wrBit p o lo b).views = s.views := by rw [State.wrBit, wr_views]
@[simp] theorem wrBit_dsps : (s.wrBit p o lo b).dsps = s.dsps := by rw [State.wrBit, wr_dsps]
@[simp] theorem wrBit_watches : (s.wrBit p o lo b).watches = s.watches := by rw [State.wrBit, wr_watches]
@[simp] theorem wrBit_cans : (s.wrBit p o lo b).cans = s.cans := by rw [State.wrBit, wr_cans]
@[simp] theorem wrBit_mvb : (s.wrBit p o lo b).mvb = s.mvb := by rw [State.wrBit, wr_mvb]
@[simp] theorem wrBit_net : (s.wrBit p o lo b).net = s.net := by rw [State.wrBit, wr_net]
@[simp] theorem wrBit_dup : (s.wrBit p o lo b).dup = s.dup := by rw [State.wrBit, wr_dup]
@[simp] theorem wrBit_sec : (s.wrBit p o lo b).sec = s.sec := by rw [State.wrBit, wr_sec]
@[simp] theorem wrBit_upd : (s.wrBit p o lo b).upd = s.upd := by rw [State.wrBit, wr_upd]
@[simp] theorem wrBit_recd : (s.wrBit p o lo b).recd = s.recd := by rw [State.wrBit, wr_recd]
@[simp] theorem wrBit_gait : (s.wrBit p o lo b).gait = s.gait := by rw [State.wrBit, wr_gait]

/-! ### `State.sat16` -/

@[simp] theorem sat16_pending : (s.sat16 p o).pending = s.pending := by rw [State.sat16, wrFld_pending]
@[simp] theorem sat16_variant : (s.sat16 p o).variant = s.variant := by rw [State.sat16, wrFld_variant]
@[simp] theorem sat16_shadow : (s.sat16 p o).shadow = s.shadow := by rw [State.sat16, wrFld_shadow]
@[simp] theorem sat16_upsets : (s.sat16 p o).upsets = s.upsets := by rw [State.sat16, wrFld_upsets]
@[simp] theorem sat16_img : (s.sat16 p o).img = s.img := by rw [State.sat16, wrFld_img]
@[simp] theorem sat16_mem : (s.sat16 p o).mem = s.mem := by rw [State.sat16, wrFld_mem]
@[simp] theorem sat16_kp : (s.sat16 p o).kp = s.kp := by rw [State.sat16, wrFld_kp]
@[simp] theorem sat16_bus : (s.sat16 p o).bus = s.bus := by rw [State.sat16, wrFld_bus]
@[simp] theorem sat16_freeIx : (s.sat16 p o).freeIx = s.freeIx := by rw [State.sat16, wrFld_freeIx]
@[simp] theorem sat16_pins : (s.sat16 p o).pins = s.pins := by rw [State.sat16, wrFld_pins]
@[simp] theorem sat16_tb : (s.sat16 p o).tb = s.tb := by rw [State.sat16, wrFld_tb]
@[simp] theorem sat16_inlet : (s.sat16 p o).inlet = s.inlet := by rw [State.sat16, wrFld_inlet]
@[simp] theorem sat16_vw : (s.sat16 p o).vw = s.vw := by rw [State.sat16, wrFld_vw]
@[simp] theorem sat16_lanes : (s.sat16 p o).lanes = s.lanes := by rw [State.sat16, wrFld_lanes]
@[simp] theorem sat16_tro : (s.sat16 p o).tro = s.tro := by rw [State.sat16, wrFld_tro]
@[simp] theorem sat16_reint : (s.sat16 p o).reint = s.reint := by rw [State.sat16, wrFld_reint]
@[simp] theorem sat16_prog : (s.sat16 p o).prog = s.prog := by rw [State.sat16, wrFld_prog]
@[simp] theorem sat16_keep : (s.sat16 p o).keep = s.keep := by rw [State.sat16, wrFld_keep]
@[simp] theorem sat16_boxes : (s.sat16 p o).boxes = s.boxes := by rw [State.sat16, wrFld_boxes]
@[simp] theorem sat16_bells : (s.sat16 p o).bells = s.bells := by rw [State.sat16, wrFld_bells]
@[simp] theorem sat16_farr : (s.sat16 p o).farr = s.farr := by rw [State.sat16, wrFld_farr]
@[simp] theorem sat16_field : (s.sat16 p o).field = s.field := by rw [State.sat16, wrFld_field]
@[simp] theorem sat16_cams : (s.sat16 p o).cams = s.cams := by rw [State.sat16, wrFld_cams]
@[simp] theorem sat16_views : (s.sat16 p o).views = s.views := by rw [State.sat16, wrFld_views]
@[simp] theorem sat16_dsps : (s.sat16 p o).dsps = s.dsps := by rw [State.sat16, wrFld_dsps]
@[simp] theorem sat16_watches : (s.sat16 p o).watches = s.watches := by rw [State.sat16, wrFld_watches]
@[simp] theorem sat16_cans : (s.sat16 p o).cans = s.cans := by rw [State.sat16, wrFld_cans]
@[simp] theorem sat16_mvb : (s.sat16 p o).mvb = s.mvb := by rw [State.sat16, wrFld_mvb]
@[simp] theorem sat16_net : (s.sat16 p o).net = s.net := by rw [State.sat16, wrFld_net]
@[simp] theorem sat16_dup : (s.sat16 p o).dup = s.dup := by rw [State.sat16, wrFld_dup]
@[simp] theorem sat16_sec : (s.sat16 p o).sec = s.sec := by rw [State.sat16, wrFld_sec]
@[simp] theorem sat16_upd : (s.sat16 p o).upd = s.upd := by rw [State.sat16, wrFld_upd]
@[simp] theorem sat16_recd : (s.sat16 p o).recd = s.recd := by rw [State.sat16, wrFld_recd]
@[simp] theorem sat16_gait : (s.sat16 p o).gait = s.gait := by rw [State.sat16, wrFld_gait]

/-! ### `State.sat16hi` -/

@[simp] theorem sat16hi_pending : (s.sat16hi p o).pending = s.pending := by rw [State.sat16hi, wrFld_pending]
@[simp] theorem sat16hi_variant : (s.sat16hi p o).variant = s.variant := by rw [State.sat16hi, wrFld_variant]
@[simp] theorem sat16hi_shadow : (s.sat16hi p o).shadow = s.shadow := by rw [State.sat16hi, wrFld_shadow]
@[simp] theorem sat16hi_upsets : (s.sat16hi p o).upsets = s.upsets := by rw [State.sat16hi, wrFld_upsets]
@[simp] theorem sat16hi_img : (s.sat16hi p o).img = s.img := by rw [State.sat16hi, wrFld_img]
@[simp] theorem sat16hi_mem : (s.sat16hi p o).mem = s.mem := by rw [State.sat16hi, wrFld_mem]
@[simp] theorem sat16hi_kp : (s.sat16hi p o).kp = s.kp := by rw [State.sat16hi, wrFld_kp]
@[simp] theorem sat16hi_bus : (s.sat16hi p o).bus = s.bus := by rw [State.sat16hi, wrFld_bus]
@[simp] theorem sat16hi_freeIx : (s.sat16hi p o).freeIx = s.freeIx := by rw [State.sat16hi, wrFld_freeIx]
@[simp] theorem sat16hi_pins : (s.sat16hi p o).pins = s.pins := by rw [State.sat16hi, wrFld_pins]
@[simp] theorem sat16hi_tb : (s.sat16hi p o).tb = s.tb := by rw [State.sat16hi, wrFld_tb]
@[simp] theorem sat16hi_inlet : (s.sat16hi p o).inlet = s.inlet := by rw [State.sat16hi, wrFld_inlet]
@[simp] theorem sat16hi_vw : (s.sat16hi p o).vw = s.vw := by rw [State.sat16hi, wrFld_vw]
@[simp] theorem sat16hi_lanes : (s.sat16hi p o).lanes = s.lanes := by rw [State.sat16hi, wrFld_lanes]
@[simp] theorem sat16hi_tro : (s.sat16hi p o).tro = s.tro := by rw [State.sat16hi, wrFld_tro]
@[simp] theorem sat16hi_reint : (s.sat16hi p o).reint = s.reint := by rw [State.sat16hi, wrFld_reint]
@[simp] theorem sat16hi_prog : (s.sat16hi p o).prog = s.prog := by rw [State.sat16hi, wrFld_prog]
@[simp] theorem sat16hi_keep : (s.sat16hi p o).keep = s.keep := by rw [State.sat16hi, wrFld_keep]
@[simp] theorem sat16hi_boxes : (s.sat16hi p o).boxes = s.boxes := by rw [State.sat16hi, wrFld_boxes]
@[simp] theorem sat16hi_bells : (s.sat16hi p o).bells = s.bells := by rw [State.sat16hi, wrFld_bells]
@[simp] theorem sat16hi_farr : (s.sat16hi p o).farr = s.farr := by rw [State.sat16hi, wrFld_farr]
@[simp] theorem sat16hi_field : (s.sat16hi p o).field = s.field := by rw [State.sat16hi, wrFld_field]
@[simp] theorem sat16hi_cams : (s.sat16hi p o).cams = s.cams := by rw [State.sat16hi, wrFld_cams]
@[simp] theorem sat16hi_views : (s.sat16hi p o).views = s.views := by rw [State.sat16hi, wrFld_views]
@[simp] theorem sat16hi_dsps : (s.sat16hi p o).dsps = s.dsps := by rw [State.sat16hi, wrFld_dsps]
@[simp] theorem sat16hi_watches : (s.sat16hi p o).watches = s.watches := by rw [State.sat16hi, wrFld_watches]
@[simp] theorem sat16hi_cans : (s.sat16hi p o).cans = s.cans := by rw [State.sat16hi, wrFld_cans]
@[simp] theorem sat16hi_mvb : (s.sat16hi p o).mvb = s.mvb := by rw [State.sat16hi, wrFld_mvb]
@[simp] theorem sat16hi_net : (s.sat16hi p o).net = s.net := by rw [State.sat16hi, wrFld_net]
@[simp] theorem sat16hi_dup : (s.sat16hi p o).dup = s.dup := by rw [State.sat16hi, wrFld_dup]
@[simp] theorem sat16hi_sec : (s.sat16hi p o).sec = s.sec := by rw [State.sat16hi, wrFld_sec]
@[simp] theorem sat16hi_upd : (s.sat16hi p o).upd = s.upd := by rw [State.sat16hi, wrFld_upd]
@[simp] theorem sat16hi_recd : (s.sat16hi p o).recd = s.recd := by rw [State.sat16hi, wrFld_recd]
@[simp] theorem sat16hi_gait : (s.sat16hi p o).gait = s.gait := by rw [State.sat16hi, wrFld_gait]

/-! ### `State.sat16by` -/

@[simp] theorem sat16by_pending : (s.sat16by p o n).pending = s.pending := by rw [State.sat16by, wrFld_pending]
@[simp] theorem sat16by_variant : (s.sat16by p o n).variant = s.variant := by rw [State.sat16by, wrFld_variant]
@[simp] theorem sat16by_shadow : (s.sat16by p o n).shadow = s.shadow := by rw [State.sat16by, wrFld_shadow]
@[simp] theorem sat16by_upsets : (s.sat16by p o n).upsets = s.upsets := by rw [State.sat16by, wrFld_upsets]
@[simp] theorem sat16by_img : (s.sat16by p o n).img = s.img := by rw [State.sat16by, wrFld_img]
@[simp] theorem sat16by_mem : (s.sat16by p o n).mem = s.mem := by rw [State.sat16by, wrFld_mem]
@[simp] theorem sat16by_kp : (s.sat16by p o n).kp = s.kp := by rw [State.sat16by, wrFld_kp]
@[simp] theorem sat16by_bus : (s.sat16by p o n).bus = s.bus := by rw [State.sat16by, wrFld_bus]
@[simp] theorem sat16by_freeIx : (s.sat16by p o n).freeIx = s.freeIx := by rw [State.sat16by, wrFld_freeIx]
@[simp] theorem sat16by_pins : (s.sat16by p o n).pins = s.pins := by rw [State.sat16by, wrFld_pins]
@[simp] theorem sat16by_tb : (s.sat16by p o n).tb = s.tb := by rw [State.sat16by, wrFld_tb]
@[simp] theorem sat16by_inlet : (s.sat16by p o n).inlet = s.inlet := by rw [State.sat16by, wrFld_inlet]
@[simp] theorem sat16by_vw : (s.sat16by p o n).vw = s.vw := by rw [State.sat16by, wrFld_vw]
@[simp] theorem sat16by_lanes : (s.sat16by p o n).lanes = s.lanes := by rw [State.sat16by, wrFld_lanes]
@[simp] theorem sat16by_tro : (s.sat16by p o n).tro = s.tro := by rw [State.sat16by, wrFld_tro]
@[simp] theorem sat16by_reint : (s.sat16by p o n).reint = s.reint := by rw [State.sat16by, wrFld_reint]
@[simp] theorem sat16by_prog : (s.sat16by p o n).prog = s.prog := by rw [State.sat16by, wrFld_prog]
@[simp] theorem sat16by_keep : (s.sat16by p o n).keep = s.keep := by rw [State.sat16by, wrFld_keep]
@[simp] theorem sat16by_boxes : (s.sat16by p o n).boxes = s.boxes := by rw [State.sat16by, wrFld_boxes]
@[simp] theorem sat16by_bells : (s.sat16by p o n).bells = s.bells := by rw [State.sat16by, wrFld_bells]
@[simp] theorem sat16by_farr : (s.sat16by p o n).farr = s.farr := by rw [State.sat16by, wrFld_farr]
@[simp] theorem sat16by_field : (s.sat16by p o n).field = s.field := by rw [State.sat16by, wrFld_field]
@[simp] theorem sat16by_cams : (s.sat16by p o n).cams = s.cams := by rw [State.sat16by, wrFld_cams]
@[simp] theorem sat16by_views : (s.sat16by p o n).views = s.views := by rw [State.sat16by, wrFld_views]
@[simp] theorem sat16by_dsps : (s.sat16by p o n).dsps = s.dsps := by rw [State.sat16by, wrFld_dsps]
@[simp] theorem sat16by_watches : (s.sat16by p o n).watches = s.watches := by rw [State.sat16by, wrFld_watches]
@[simp] theorem sat16by_cans : (s.sat16by p o n).cans = s.cans := by rw [State.sat16by, wrFld_cans]
@[simp] theorem sat16by_mvb : (s.sat16by p o n).mvb = s.mvb := by rw [State.sat16by, wrFld_mvb]
@[simp] theorem sat16by_net : (s.sat16by p o n).net = s.net := by rw [State.sat16by, wrFld_net]
@[simp] theorem sat16by_dup : (s.sat16by p o n).dup = s.dup := by rw [State.sat16by, wrFld_dup]
@[simp] theorem sat16by_sec : (s.sat16by p o n).sec = s.sec := by rw [State.sat16by, wrFld_sec]
@[simp] theorem sat16by_upd : (s.sat16by p o n).upd = s.upd := by rw [State.sat16by, wrFld_upd]
@[simp] theorem sat16by_recd : (s.sat16by p o n).recd = s.recd := by rw [State.sat16by, wrFld_recd]
@[simp] theorem sat16by_gait : (s.sat16by p o n).gait = s.gait := by rw [State.sat16by, wrFld_gait]

/-! ### `State.inc32` -/

@[simp] theorem inc32_pending : (s.inc32 p o).pending = s.pending := by rw [State.inc32, wr_pending]
@[simp] theorem inc32_variant : (s.inc32 p o).variant = s.variant := by rw [State.inc32, wr_variant]
@[simp] theorem inc32_shadow : (s.inc32 p o).shadow = s.shadow := by rw [State.inc32, wr_shadow]
@[simp] theorem inc32_upsets : (s.inc32 p o).upsets = s.upsets := by rw [State.inc32, wr_upsets]
@[simp] theorem inc32_img : (s.inc32 p o).img = s.img := by rw [State.inc32, wr_img]
@[simp] theorem inc32_mem : (s.inc32 p o).mem = s.mem := by rw [State.inc32, wr_mem]
@[simp] theorem inc32_kp : (s.inc32 p o).kp = s.kp := by rw [State.inc32, wr_kp]
@[simp] theorem inc32_bus : (s.inc32 p o).bus = s.bus := by rw [State.inc32, wr_bus]
@[simp] theorem inc32_freeIx : (s.inc32 p o).freeIx = s.freeIx := by rw [State.inc32, wr_freeIx]
@[simp] theorem inc32_pins : (s.inc32 p o).pins = s.pins := by rw [State.inc32, wr_pins]
@[simp] theorem inc32_tb : (s.inc32 p o).tb = s.tb := by rw [State.inc32, wr_tb]
@[simp] theorem inc32_inlet : (s.inc32 p o).inlet = s.inlet := by rw [State.inc32, wr_inlet]
@[simp] theorem inc32_vw : (s.inc32 p o).vw = s.vw := by rw [State.inc32, wr_vw]
@[simp] theorem inc32_lanes : (s.inc32 p o).lanes = s.lanes := by rw [State.inc32, wr_lanes]
@[simp] theorem inc32_tro : (s.inc32 p o).tro = s.tro := by rw [State.inc32, wr_tro]
@[simp] theorem inc32_reint : (s.inc32 p o).reint = s.reint := by rw [State.inc32, wr_reint]
@[simp] theorem inc32_prog : (s.inc32 p o).prog = s.prog := by rw [State.inc32, wr_prog]
@[simp] theorem inc32_keep : (s.inc32 p o).keep = s.keep := by rw [State.inc32, wr_keep]
@[simp] theorem inc32_boxes : (s.inc32 p o).boxes = s.boxes := by rw [State.inc32, wr_boxes]
@[simp] theorem inc32_bells : (s.inc32 p o).bells = s.bells := by rw [State.inc32, wr_bells]
@[simp] theorem inc32_farr : (s.inc32 p o).farr = s.farr := by rw [State.inc32, wr_farr]
@[simp] theorem inc32_field : (s.inc32 p o).field = s.field := by rw [State.inc32, wr_field]
@[simp] theorem inc32_cams : (s.inc32 p o).cams = s.cams := by rw [State.inc32, wr_cams]
@[simp] theorem inc32_views : (s.inc32 p o).views = s.views := by rw [State.inc32, wr_views]
@[simp] theorem inc32_dsps : (s.inc32 p o).dsps = s.dsps := by rw [State.inc32, wr_dsps]
@[simp] theorem inc32_watches : (s.inc32 p o).watches = s.watches := by rw [State.inc32, wr_watches]
@[simp] theorem inc32_cans : (s.inc32 p o).cans = s.cans := by rw [State.inc32, wr_cans]
@[simp] theorem inc32_mvb : (s.inc32 p o).mvb = s.mvb := by rw [State.inc32, wr_mvb]
@[simp] theorem inc32_net : (s.inc32 p o).net = s.net := by rw [State.inc32, wr_net]
@[simp] theorem inc32_dup : (s.inc32 p o).dup = s.dup := by rw [State.inc32, wr_dup]
@[simp] theorem inc32_sec : (s.inc32 p o).sec = s.sec := by rw [State.inc32, wr_sec]
@[simp] theorem inc32_upd : (s.inc32 p o).upd = s.upd := by rw [State.inc32, wr_upd]
@[simp] theorem inc32_recd : (s.inc32 p o).recd = s.recd := by rw [State.inc32, wr_recd]
@[simp] theorem inc32_gait : (s.inc32 p o).gait = s.gait := by rw [State.inc32, wr_gait]

/-! ### `State.setT3` -/

@[simp] theorem setT3_pending : (s.setT3 k v).pending = s.pending := rfl
@[simp] theorem setT3_variant : (s.setT3 k v).variant = s.variant := rfl
@[simp] theorem setT3_shadow : (s.setT3 k v).shadow = s.shadow := rfl
@[simp] theorem setT3_img : (s.setT3 k v).img = s.img := rfl
@[simp] theorem setT3_mem : (s.setT3 k v).mem = s.mem := rfl
@[simp] theorem setT3_kp : (s.setT3 k v).kp = s.kp := rfl
@[simp] theorem setT3_bus : (s.setT3 k v).bus = s.bus := rfl
@[simp] theorem setT3_freeIx : (s.setT3 k v).freeIx = s.freeIx := rfl
@[simp] theorem setT3_pins : (s.setT3 k v).pins = s.pins := rfl
@[simp] theorem setT3_tb : (s.setT3 k v).tb = s.tb := rfl
@[simp] theorem setT3_inlet : (s.setT3 k v).inlet = s.inlet := rfl
@[simp] theorem setT3_vw : (s.setT3 k v).vw = s.vw := rfl
@[simp] theorem setT3_lanes : (s.setT3 k v).lanes = s.lanes := rfl
@[simp] theorem setT3_tro : (s.setT3 k v).tro = s.tro := rfl
@[simp] theorem setT3_reint : (s.setT3 k v).reint = s.reint := rfl
@[simp] theorem setT3_prog : (s.setT3 k v).prog = s.prog := rfl
@[simp] theorem setT3_keep : (s.setT3 k v).keep = s.keep := rfl
@[simp] theorem setT3_boxes : (s.setT3 k v).boxes = s.boxes := rfl
@[simp] theorem setT3_bells : (s.setT3 k v).bells = s.bells := rfl
@[simp] theorem setT3_farr : (s.setT3 k v).farr = s.farr := rfl
@[simp] theorem setT3_field : (s.setT3 k v).field = s.field := rfl
@[simp] theorem setT3_cams : (s.setT3 k v).cams = s.cams := rfl
@[simp] theorem setT3_views : (s.setT3 k v).views = s.views := rfl
@[simp] theorem setT3_dsps : (s.setT3 k v).dsps = s.dsps := rfl
@[simp] theorem setT3_watches : (s.setT3 k v).watches = s.watches := rfl
@[simp] theorem setT3_cans : (s.setT3 k v).cans = s.cans := rfl
@[simp] theorem setT3_mvb : (s.setT3 k v).mvb = s.mvb := rfl
@[simp] theorem setT3_net : (s.setT3 k v).net = s.net := rfl
@[simp] theorem setT3_dup : (s.setT3 k v).dup = s.dup := rfl
@[simp] theorem setT3_sec : (s.setT3 k v).sec = s.sec := rfl
@[simp] theorem setT3_upd : (s.setT3 k v).upd = s.upd := rfl
@[simp] theorem setT3_recd : (s.setT3 k v).recd = s.recd := rfl
@[simp] theorem setT3_gait : (s.setT3 k v).gait = s.gait := rfl

/-! ### `State.setShadow` -/

@[simp] theorem setShadow_pending : (s.setShadow k v).pending = s.pending := by rw [State.setShadow, wrBit_pending]
@[simp] theorem setShadow_variant : (s.setShadow k v).variant = s.variant := by rw [State.setShadow, wrBit_variant]
@[simp] theorem setShadow_upsets : (s.setShadow k v).upsets = s.upsets := by rw [State.setShadow, wrBit_upsets]
@[simp] theorem setShadow_img : (s.setShadow k v).img = s.img := by rw [State.setShadow, wrBit_img]
@[simp] theorem setShadow_mem : (s.setShadow k v).mem = s.mem := by rw [State.setShadow, wrBit_mem]
@[simp] theorem setShadow_kp : (s.setShadow k v).kp = s.kp := by rw [State.setShadow, wrBit_kp]
@[simp] theorem setShadow_bus : (s.setShadow k v).bus = s.bus := by rw [State.setShadow, wrBit_bus]
@[simp] theorem setShadow_freeIx : (s.setShadow k v).freeIx = s.freeIx := by rw [State.setShadow, wrBit_freeIx]
@[simp] theorem setShadow_pins : (s.setShadow k v).pins = s.pins := by rw [State.setShadow, wrBit_pins]
@[simp] theorem setShadow_tb : (s.setShadow k v).tb = s.tb := by rw [State.setShadow, wrBit_tb]
@[simp] theorem setShadow_inlet : (s.setShadow k v).inlet = s.inlet := by rw [State.setShadow, wrBit_inlet]
@[simp] theorem setShadow_vw : (s.setShadow k v).vw = s.vw := by rw [State.setShadow, wrBit_vw]
@[simp] theorem setShadow_lanes : (s.setShadow k v).lanes = s.lanes := by rw [State.setShadow, wrBit_lanes]
@[simp] theorem setShadow_tro : (s.setShadow k v).tro = s.tro := by rw [State.setShadow, wrBit_tro]
@[simp] theorem setShadow_reint : (s.setShadow k v).reint = s.reint := by rw [State.setShadow, wrBit_reint]
@[simp] theorem setShadow_prog : (s.setShadow k v).prog = s.prog := by rw [State.setShadow, wrBit_prog]
@[simp] theorem setShadow_keep : (s.setShadow k v).keep = s.keep := by rw [State.setShadow, wrBit_keep]
@[simp] theorem setShadow_boxes : (s.setShadow k v).boxes = s.boxes := by rw [State.setShadow, wrBit_boxes]
@[simp] theorem setShadow_bells : (s.setShadow k v).bells = s.bells := by rw [State.setShadow, wrBit_bells]
@[simp] theorem setShadow_farr : (s.setShadow k v).farr = s.farr := by rw [State.setShadow, wrBit_farr]
@[simp] theorem setShadow_field : (s.setShadow k v).field = s.field := by rw [State.setShadow, wrBit_field]
@[simp] theorem setShadow_cams : (s.setShadow k v).cams = s.cams := by rw [State.setShadow, wrBit_cams]
@[simp] theorem setShadow_views : (s.setShadow k v).views = s.views := by rw [State.setShadow, wrBit_views]
@[simp] theorem setShadow_dsps : (s.setShadow k v).dsps = s.dsps := by rw [State.setShadow, wrBit_dsps]
@[simp] theorem setShadow_watches : (s.setShadow k v).watches = s.watches := by rw [State.setShadow, wrBit_watches]
@[simp] theorem setShadow_cans : (s.setShadow k v).cans = s.cans := by rw [State.setShadow, wrBit_cans]
@[simp] theorem setShadow_mvb : (s.setShadow k v).mvb = s.mvb := by rw [State.setShadow, wrBit_mvb]
@[simp] theorem setShadow_net : (s.setShadow k v).net = s.net := by rw [State.setShadow, wrBit_net]
@[simp] theorem setShadow_dup : (s.setShadow k v).dup = s.dup := by rw [State.setShadow, wrBit_dup]
@[simp] theorem setShadow_sec : (s.setShadow k v).sec = s.sec := by rw [State.setShadow, wrBit_sec]
@[simp] theorem setShadow_upd : (s.setShadow k v).upd = s.upd := by rw [State.setShadow, wrBit_upd]
@[simp] theorem setShadow_recd : (s.setShadow k v).recd = s.recd := by rw [State.setShadow, wrBit_recd]
@[simp] theorem setShadow_gait : (s.setShadow k v).gait = s.gait := by rw [State.setShadow, wrBit_gait]

/-! ### `State.setImage` -/

@[simp] theorem setImage_pending : (s.setImage p o d).pending = s.pending := rfl
@[simp] theorem setImage_variant : (s.setImage p o d).variant = s.variant := rfl
@[simp] theorem setImage_regs : (s.setImage p o d).regs = s.regs := rfl
@[simp] theorem setImage_shadow : (s.setImage p o d).shadow = s.shadow := rfl
@[simp] theorem setImage_upsets : (s.setImage p o d).upsets = s.upsets := rfl
@[simp] theorem setImage_mem : (s.setImage p o d).mem = s.mem := rfl
@[simp] theorem setImage_kp : (s.setImage p o d).kp = s.kp := rfl
@[simp] theorem setImage_bus : (s.setImage p o d).bus = s.bus := rfl
@[simp] theorem setImage_freeIx : (s.setImage p o d).freeIx = s.freeIx := rfl
@[simp] theorem setImage_pins : (s.setImage p o d).pins = s.pins := rfl
@[simp] theorem setImage_tb : (s.setImage p o d).tb = s.tb := rfl
@[simp] theorem setImage_inlet : (s.setImage p o d).inlet = s.inlet := rfl
@[simp] theorem setImage_vw : (s.setImage p o d).vw = s.vw := rfl
@[simp] theorem setImage_lanes : (s.setImage p o d).lanes = s.lanes := rfl
@[simp] theorem setImage_tro : (s.setImage p o d).tro = s.tro := rfl
@[simp] theorem setImage_reint : (s.setImage p o d).reint = s.reint := rfl
@[simp] theorem setImage_prog : (s.setImage p o d).prog = s.prog := rfl
@[simp] theorem setImage_keep : (s.setImage p o d).keep = s.keep := rfl
@[simp] theorem setImage_boxes : (s.setImage p o d).boxes = s.boxes := rfl
@[simp] theorem setImage_bells : (s.setImage p o d).bells = s.bells := rfl
@[simp] theorem setImage_farr : (s.setImage p o d).farr = s.farr := rfl
@[simp] theorem setImage_field : (s.setImage p o d).field = s.field := rfl
@[simp] theorem setImage_cams : (s.setImage p o d).cams = s.cams := rfl
@[simp] theorem setImage_views : (s.setImage p o d).views = s.views := rfl
@[simp] theorem setImage_dsps : (s.setImage p o d).dsps = s.dsps := rfl
@[simp] theorem setImage_watches : (s.setImage p o d).watches = s.watches := rfl
@[simp] theorem setImage_cans : (s.setImage p o d).cans = s.cans := rfl
@[simp] theorem setImage_mvb : (s.setImage p o d).mvb = s.mvb := rfl
@[simp] theorem setImage_net : (s.setImage p o d).net = s.net := rfl
@[simp] theorem setImage_dup : (s.setImage p o d).dup = s.dup := rfl
@[simp] theorem setImage_sec : (s.setImage p o d).sec = s.sec := rfl
@[simp] theorem setImage_upd : (s.setImage p o d).upd = s.upd := rfl
@[simp] theorem setImage_recd : (s.setImage p o d).recd = s.recd := rfl
@[simp] theorem setImage_gait : (s.setImage p o d).gait = s.gait := rfl

/-! ### `State.clearImage` -/

@[simp] theorem clearImage_pending : (s.clearImage p).pending = s.pending := rfl
@[simp] theorem clearImage_variant : (s.clearImage p).variant = s.variant := rfl
@[simp] theorem clearImage_regs : (s.clearImage p).regs = s.regs := rfl
@[simp] theorem clearImage_shadow : (s.clearImage p).shadow = s.shadow := rfl
@[simp] theorem clearImage_upsets : (s.clearImage p).upsets = s.upsets := rfl
@[simp] theorem clearImage_mem : (s.clearImage p).mem = s.mem := rfl
@[simp] theorem clearImage_kp : (s.clearImage p).kp = s.kp := rfl
@[simp] theorem clearImage_bus : (s.clearImage p).bus = s.bus := rfl
@[simp] theorem clearImage_freeIx : (s.clearImage p).freeIx = s.freeIx := rfl
@[simp] theorem clearImage_pins : (s.clearImage p).pins = s.pins := rfl
@[simp] theorem clearImage_tb : (s.clearImage p).tb = s.tb := rfl
@[simp] theorem clearImage_inlet : (s.clearImage p).inlet = s.inlet := rfl
@[simp] theorem clearImage_vw : (s.clearImage p).vw = s.vw := rfl
@[simp] theorem clearImage_lanes : (s.clearImage p).lanes = s.lanes := rfl
@[simp] theorem clearImage_tro : (s.clearImage p).tro = s.tro := rfl
@[simp] theorem clearImage_reint : (s.clearImage p).reint = s.reint := rfl
@[simp] theorem clearImage_prog : (s.clearImage p).prog = s.prog := rfl
@[simp] theorem clearImage_keep : (s.clearImage p).keep = s.keep := rfl
@[simp] theorem clearImage_boxes : (s.clearImage p).boxes = s.boxes := rfl
@[simp] theorem clearImage_bells : (s.clearImage p).bells = s.bells := rfl
@[simp] theorem clearImage_farr : (s.clearImage p).farr = s.farr := rfl
@[simp] theorem clearImage_field : (s.clearImage p).field = s.field := rfl
@[simp] theorem clearImage_cams : (s.clearImage p).cams = s.cams := rfl
@[simp] theorem clearImage_views : (s.clearImage p).views = s.views := rfl
@[simp] theorem clearImage_dsps : (s.clearImage p).dsps = s.dsps := rfl
@[simp] theorem clearImage_watches : (s.clearImage p).watches = s.watches := rfl
@[simp] theorem clearImage_cans : (s.clearImage p).cans = s.cans := rfl
@[simp] theorem clearImage_mvb : (s.clearImage p).mvb = s.mvb := rfl
@[simp] theorem clearImage_net : (s.clearImage p).net = s.net := rfl
@[simp] theorem clearImage_dup : (s.clearImage p).dup = s.dup := rfl
@[simp] theorem clearImage_sec : (s.clearImage p).sec = s.sec := rfl
@[simp] theorem clearImage_upd : (s.clearImage p).upd = s.upd := rfl
@[simp] theorem clearImage_recd : (s.clearImage p).recd = s.recd := rfl
@[simp] theorem clearImage_gait : (s.clearImage p).gait = s.gait := rfl

/-! ### `State.setByte` -/

@[simp] theorem setByte_pending : (s.setByte k y).pending = s.pending := rfl
@[simp] theorem setByte_variant : (s.setByte k y).variant = s.variant := rfl
@[simp] theorem setByte_regs : (s.setByte k y).regs = s.regs := rfl
@[simp] theorem setByte_shadow : (s.setByte k y).shadow = s.shadow := rfl
@[simp] theorem setByte_upsets : (s.setByte k y).upsets = s.upsets := rfl
@[simp] theorem setByte_img : (s.setByte k y).img = s.img := rfl
@[simp] theorem setByte_kp : (s.setByte k y).kp = s.kp := rfl
@[simp] theorem setByte_bus : (s.setByte k y).bus = s.bus := rfl
@[simp] theorem setByte_freeIx : (s.setByte k y).freeIx = s.freeIx := rfl
@[simp] theorem setByte_pins : (s.setByte k y).pins = s.pins := rfl
@[simp] theorem setByte_tb : (s.setByte k y).tb = s.tb := rfl
@[simp] theorem setByte_inlet : (s.setByte k y).inlet = s.inlet := rfl
@[simp] theorem setByte_vw : (s.setByte k y).vw = s.vw := rfl
@[simp] theorem setByte_lanes : (s.setByte k y).lanes = s.lanes := rfl
@[simp] theorem setByte_tro : (s.setByte k y).tro = s.tro := rfl
@[simp] theorem setByte_reint : (s.setByte k y).reint = s.reint := rfl
@[simp] theorem setByte_prog : (s.setByte k y).prog = s.prog := rfl
@[simp] theorem setByte_keep : (s.setByte k y).keep = s.keep := rfl
@[simp] theorem setByte_boxes : (s.setByte k y).boxes = s.boxes := rfl
@[simp] theorem setByte_bells : (s.setByte k y).bells = s.bells := rfl
@[simp] theorem setByte_farr : (s.setByte k y).farr = s.farr := rfl
@[simp] theorem setByte_field : (s.setByte k y).field = s.field := rfl
@[simp] theorem setByte_cams : (s.setByte k y).cams = s.cams := rfl
@[simp] theorem setByte_views : (s.setByte k y).views = s.views := rfl
@[simp] theorem setByte_dsps : (s.setByte k y).dsps = s.dsps := rfl
@[simp] theorem setByte_watches : (s.setByte k y).watches = s.watches := rfl
@[simp] theorem setByte_cans : (s.setByte k y).cans = s.cans := rfl
@[simp] theorem setByte_mvb : (s.setByte k y).mvb = s.mvb := rfl
@[simp] theorem setByte_net : (s.setByte k y).net = s.net := rfl
@[simp] theorem setByte_dup : (s.setByte k y).dup = s.dup := rfl
@[simp] theorem setByte_sec : (s.setByte k y).sec = s.sec := rfl
@[simp] theorem setByte_upd : (s.setByte k y).upd = s.upd := rfl
@[simp] theorem setByte_recd : (s.setByte k y).recd = s.recd := rfl
@[simp] theorem setByte_gait : (s.setByte k y).gait = s.gait := rfl

/-! ### `State.modLane` -/

@[simp] theorem modLane_pending : (s.modLane k fL).pending = s.pending := rfl
@[simp] theorem modLane_variant : (s.modLane k fL).variant = s.variant := rfl
@[simp] theorem modLane_regs : (s.modLane k fL).regs = s.regs := rfl
@[simp] theorem modLane_shadow : (s.modLane k fL).shadow = s.shadow := rfl
@[simp] theorem modLane_upsets : (s.modLane k fL).upsets = s.upsets := rfl
@[simp] theorem modLane_img : (s.modLane k fL).img = s.img := rfl
@[simp] theorem modLane_mem : (s.modLane k fL).mem = s.mem := rfl
@[simp] theorem modLane_kp : (s.modLane k fL).kp = s.kp := rfl
@[simp] theorem modLane_bus : (s.modLane k fL).bus = s.bus := rfl
@[simp] theorem modLane_freeIx : (s.modLane k fL).freeIx = s.freeIx := rfl
@[simp] theorem modLane_pins : (s.modLane k fL).pins = s.pins := rfl
@[simp] theorem modLane_tb : (s.modLane k fL).tb = s.tb := rfl
@[simp] theorem modLane_inlet : (s.modLane k fL).inlet = s.inlet := rfl
@[simp] theorem modLane_vw : (s.modLane k fL).vw = s.vw := rfl
@[simp] theorem modLane_tro : (s.modLane k fL).tro = s.tro := rfl
@[simp] theorem modLane_reint : (s.modLane k fL).reint = s.reint := rfl
@[simp] theorem modLane_prog : (s.modLane k fL).prog = s.prog := rfl
@[simp] theorem modLane_keep : (s.modLane k fL).keep = s.keep := rfl
@[simp] theorem modLane_boxes : (s.modLane k fL).boxes = s.boxes := rfl
@[simp] theorem modLane_bells : (s.modLane k fL).bells = s.bells := rfl
@[simp] theorem modLane_farr : (s.modLane k fL).farr = s.farr := rfl
@[simp] theorem modLane_field : (s.modLane k fL).field = s.field := rfl
@[simp] theorem modLane_cams : (s.modLane k fL).cams = s.cams := rfl
@[simp] theorem modLane_views : (s.modLane k fL).views = s.views := rfl
@[simp] theorem modLane_dsps : (s.modLane k fL).dsps = s.dsps := rfl
@[simp] theorem modLane_watches : (s.modLane k fL).watches = s.watches := rfl
@[simp] theorem modLane_cans : (s.modLane k fL).cans = s.cans := rfl
@[simp] theorem modLane_mvb : (s.modLane k fL).mvb = s.mvb := rfl
@[simp] theorem modLane_net : (s.modLane k fL).net = s.net := rfl
@[simp] theorem modLane_dup : (s.modLane k fL).dup = s.dup := rfl
@[simp] theorem modLane_sec : (s.modLane k fL).sec = s.sec := rfl
@[simp] theorem modLane_upd : (s.modLane k fL).upd = s.upd := rfl
@[simp] theorem modLane_recd : (s.modLane k fL).recd = s.recd := rfl
@[simp] theorem modLane_gait : (s.modLane k fL).gait = s.gait := rfl

/-! ### `State.modCam` -/

@[simp] theorem modCam_pending : (s.modCam k fC).pending = s.pending := rfl
@[simp] theorem modCam_variant : (s.modCam k fC).variant = s.variant := rfl
@[simp] theorem modCam_regs : (s.modCam k fC).regs = s.regs := rfl
@[simp] theorem modCam_shadow : (s.modCam k fC).shadow = s.shadow := rfl
@[simp] theorem modCam_upsets : (s.modCam k fC).upsets = s.upsets := rfl
@[simp] theorem modCam_img : (s.modCam k fC).img = s.img := rfl
@[simp] theorem modCam_mem : (s.modCam k fC).mem = s.mem := rfl
@[simp] theorem modCam_kp : (s.modCam k fC).kp = s.kp := rfl
@[simp] theorem modCam_bus : (s.modCam k fC).bus = s.bus := rfl
@[simp] theorem modCam_freeIx : (s.modCam k fC).freeIx = s.freeIx := rfl
@[simp] theorem modCam_pins : (s.modCam k fC).pins = s.pins := rfl
@[simp] theorem modCam_tb : (s.modCam k fC).tb = s.tb := rfl
@[simp] theorem modCam_inlet : (s.modCam k fC).inlet = s.inlet := rfl
@[simp] theorem modCam_vw : (s.modCam k fC).vw = s.vw := rfl
@[simp] theorem modCam_lanes : (s.modCam k fC).lanes = s.lanes := rfl
@[simp] theorem modCam_tro : (s.modCam k fC).tro = s.tro := rfl
@[simp] theorem modCam_reint : (s.modCam k fC).reint = s.reint := rfl
@[simp] theorem modCam_prog : (s.modCam k fC).prog = s.prog := rfl
@[simp] theorem modCam_keep : (s.modCam k fC).keep = s.keep := rfl
@[simp] theorem modCam_boxes : (s.modCam k fC).boxes = s.boxes := rfl
@[simp] theorem modCam_bells : (s.modCam k fC).bells = s.bells := rfl
@[simp] theorem modCam_farr : (s.modCam k fC).farr = s.farr := rfl
@[simp] theorem modCam_field : (s.modCam k fC).field = s.field := rfl
@[simp] theorem modCam_views : (s.modCam k fC).views = s.views := rfl
@[simp] theorem modCam_dsps : (s.modCam k fC).dsps = s.dsps := rfl
@[simp] theorem modCam_watches : (s.modCam k fC).watches = s.watches := rfl
@[simp] theorem modCam_cans : (s.modCam k fC).cans = s.cans := rfl
@[simp] theorem modCam_mvb : (s.modCam k fC).mvb = s.mvb := rfl
@[simp] theorem modCam_net : (s.modCam k fC).net = s.net := rfl
@[simp] theorem modCam_dup : (s.modCam k fC).dup = s.dup := rfl
@[simp] theorem modCam_sec : (s.modCam k fC).sec = s.sec := rfl
@[simp] theorem modCam_upd : (s.modCam k fC).upd = s.upd := rfl
@[simp] theorem modCam_recd : (s.modCam k fC).recd = s.recd := rfl
@[simp] theorem modCam_gait : (s.modCam k fC).gait = s.gait := rfl

/-! ### `State.modView` -/

@[simp] theorem modView_pending : (s.modView k fV).pending = s.pending := rfl
@[simp] theorem modView_variant : (s.modView k fV).variant = s.variant := rfl
@[simp] theorem modView_regs : (s.modView k fV).regs = s.regs := rfl
@[simp] theorem modView_shadow : (s.modView k fV).shadow = s.shadow := rfl
@[simp] theorem modView_upsets : (s.modView k fV).upsets = s.upsets := rfl
@[simp] theorem modView_img : (s.modView k fV).img = s.img := rfl
@[simp] theorem modView_mem : (s.modView k fV).mem = s.mem := rfl
@[simp] theorem modView_kp : (s.modView k fV).kp = s.kp := rfl
@[simp] theorem modView_bus : (s.modView k fV).bus = s.bus := rfl
@[simp] theorem modView_freeIx : (s.modView k fV).freeIx = s.freeIx := rfl
@[simp] theorem modView_pins : (s.modView k fV).pins = s.pins := rfl
@[simp] theorem modView_tb : (s.modView k fV).tb = s.tb := rfl
@[simp] theorem modView_inlet : (s.modView k fV).inlet = s.inlet := rfl
@[simp] theorem modView_vw : (s.modView k fV).vw = s.vw := rfl
@[simp] theorem modView_lanes : (s.modView k fV).lanes = s.lanes := rfl
@[simp] theorem modView_tro : (s.modView k fV).tro = s.tro := rfl
@[simp] theorem modView_reint : (s.modView k fV).reint = s.reint := rfl
@[simp] theorem modView_prog : (s.modView k fV).prog = s.prog := rfl
@[simp] theorem modView_keep : (s.modView k fV).keep = s.keep := rfl
@[simp] theorem modView_boxes : (s.modView k fV).boxes = s.boxes := rfl
@[simp] theorem modView_bells : (s.modView k fV).bells = s.bells := rfl
@[simp] theorem modView_farr : (s.modView k fV).farr = s.farr := rfl
@[simp] theorem modView_field : (s.modView k fV).field = s.field := rfl
@[simp] theorem modView_cams : (s.modView k fV).cams = s.cams := rfl
@[simp] theorem modView_dsps : (s.modView k fV).dsps = s.dsps := rfl
@[simp] theorem modView_watches : (s.modView k fV).watches = s.watches := rfl
@[simp] theorem modView_cans : (s.modView k fV).cans = s.cans := rfl
@[simp] theorem modView_mvb : (s.modView k fV).mvb = s.mvb := rfl
@[simp] theorem modView_net : (s.modView k fV).net = s.net := rfl
@[simp] theorem modView_dup : (s.modView k fV).dup = s.dup := rfl
@[simp] theorem modView_sec : (s.modView k fV).sec = s.sec := rfl
@[simp] theorem modView_upd : (s.modView k fV).upd = s.upd := rfl
@[simp] theorem modView_recd : (s.modView k fV).recd = s.recd := rfl
@[simp] theorem modView_gait : (s.modView k fV).gait = s.gait := rfl

/-! ### `State.modDsp` -/

@[simp] theorem modDsp_pending : (s.modDsp k fD).pending = s.pending := rfl
@[simp] theorem modDsp_variant : (s.modDsp k fD).variant = s.variant := rfl
@[simp] theorem modDsp_regs : (s.modDsp k fD).regs = s.regs := rfl
@[simp] theorem modDsp_shadow : (s.modDsp k fD).shadow = s.shadow := rfl
@[simp] theorem modDsp_upsets : (s.modDsp k fD).upsets = s.upsets := rfl
@[simp] theorem modDsp_img : (s.modDsp k fD).img = s.img := rfl
@[simp] theorem modDsp_mem : (s.modDsp k fD).mem = s.mem := rfl
@[simp] theorem modDsp_kp : (s.modDsp k fD).kp = s.kp := rfl
@[simp] theorem modDsp_bus : (s.modDsp k fD).bus = s.bus := rfl
@[simp] theorem modDsp_freeIx : (s.modDsp k fD).freeIx = s.freeIx := rfl
@[simp] theorem modDsp_pins : (s.modDsp k fD).pins = s.pins := rfl
@[simp] theorem modDsp_tb : (s.modDsp k fD).tb = s.tb := rfl
@[simp] theorem modDsp_inlet : (s.modDsp k fD).inlet = s.inlet := rfl
@[simp] theorem modDsp_vw : (s.modDsp k fD).vw = s.vw := rfl
@[simp] theorem modDsp_lanes : (s.modDsp k fD).lanes = s.lanes := rfl
@[simp] theorem modDsp_tro : (s.modDsp k fD).tro = s.tro := rfl
@[simp] theorem modDsp_reint : (s.modDsp k fD).reint = s.reint := rfl
@[simp] theorem modDsp_prog : (s.modDsp k fD).prog = s.prog := rfl
@[simp] theorem modDsp_keep : (s.modDsp k fD).keep = s.keep := rfl
@[simp] theorem modDsp_boxes : (s.modDsp k fD).boxes = s.boxes := rfl
@[simp] theorem modDsp_bells : (s.modDsp k fD).bells = s.bells := rfl
@[simp] theorem modDsp_farr : (s.modDsp k fD).farr = s.farr := rfl
@[simp] theorem modDsp_field : (s.modDsp k fD).field = s.field := rfl
@[simp] theorem modDsp_cams : (s.modDsp k fD).cams = s.cams := rfl
@[simp] theorem modDsp_views : (s.modDsp k fD).views = s.views := rfl
@[simp] theorem modDsp_watches : (s.modDsp k fD).watches = s.watches := rfl
@[simp] theorem modDsp_cans : (s.modDsp k fD).cans = s.cans := rfl
@[simp] theorem modDsp_mvb : (s.modDsp k fD).mvb = s.mvb := rfl
@[simp] theorem modDsp_net : (s.modDsp k fD).net = s.net := rfl
@[simp] theorem modDsp_dup : (s.modDsp k fD).dup = s.dup := rfl
@[simp] theorem modDsp_sec : (s.modDsp k fD).sec = s.sec := rfl
@[simp] theorem modDsp_upd : (s.modDsp k fD).upd = s.upd := rfl
@[simp] theorem modDsp_recd : (s.modDsp k fD).recd = s.recd := rfl
@[simp] theorem modDsp_gait : (s.modDsp k fD).gait = s.gait := rfl

/-! ### `State.modWatch` -/

@[simp] theorem modWatch_pending : (s.modWatch k fW).pending = s.pending := rfl
@[simp] theorem modWatch_variant : (s.modWatch k fW).variant = s.variant := rfl
@[simp] theorem modWatch_regs : (s.modWatch k fW).regs = s.regs := rfl
@[simp] theorem modWatch_shadow : (s.modWatch k fW).shadow = s.shadow := rfl
@[simp] theorem modWatch_upsets : (s.modWatch k fW).upsets = s.upsets := rfl
@[simp] theorem modWatch_img : (s.modWatch k fW).img = s.img := rfl
@[simp] theorem modWatch_mem : (s.modWatch k fW).mem = s.mem := rfl
@[simp] theorem modWatch_kp : (s.modWatch k fW).kp = s.kp := rfl
@[simp] theorem modWatch_bus : (s.modWatch k fW).bus = s.bus := rfl
@[simp] theorem modWatch_freeIx : (s.modWatch k fW).freeIx = s.freeIx := rfl
@[simp] theorem modWatch_pins : (s.modWatch k fW).pins = s.pins := rfl
@[simp] theorem modWatch_tb : (s.modWatch k fW).tb = s.tb := rfl
@[simp] theorem modWatch_inlet : (s.modWatch k fW).inlet = s.inlet := rfl
@[simp] theorem modWatch_vw : (s.modWatch k fW).vw = s.vw := rfl
@[simp] theorem modWatch_lanes : (s.modWatch k fW).lanes = s.lanes := rfl
@[simp] theorem modWatch_tro : (s.modWatch k fW).tro = s.tro := rfl
@[simp] theorem modWatch_reint : (s.modWatch k fW).reint = s.reint := rfl
@[simp] theorem modWatch_prog : (s.modWatch k fW).prog = s.prog := rfl
@[simp] theorem modWatch_keep : (s.modWatch k fW).keep = s.keep := rfl
@[simp] theorem modWatch_boxes : (s.modWatch k fW).boxes = s.boxes := rfl
@[simp] theorem modWatch_bells : (s.modWatch k fW).bells = s.bells := rfl
@[simp] theorem modWatch_farr : (s.modWatch k fW).farr = s.farr := rfl
@[simp] theorem modWatch_field : (s.modWatch k fW).field = s.field := rfl
@[simp] theorem modWatch_cams : (s.modWatch k fW).cams = s.cams := rfl
@[simp] theorem modWatch_views : (s.modWatch k fW).views = s.views := rfl
@[simp] theorem modWatch_dsps : (s.modWatch k fW).dsps = s.dsps := rfl
@[simp] theorem modWatch_cans : (s.modWatch k fW).cans = s.cans := rfl
@[simp] theorem modWatch_mvb : (s.modWatch k fW).mvb = s.mvb := rfl
@[simp] theorem modWatch_net : (s.modWatch k fW).net = s.net := rfl
@[simp] theorem modWatch_dup : (s.modWatch k fW).dup = s.dup := rfl
@[simp] theorem modWatch_sec : (s.modWatch k fW).sec = s.sec := rfl
@[simp] theorem modWatch_upd : (s.modWatch k fW).upd = s.upd := rfl
@[simp] theorem modWatch_recd : (s.modWatch k fW).recd = s.recd := rfl
@[simp] theorem modWatch_gait : (s.modWatch k fW).gait = s.gait := rfl

/-! ### `State.modCan` -/

@[simp] theorem modCan_pending : (s.modCan k fN).pending = s.pending := rfl
@[simp] theorem modCan_variant : (s.modCan k fN).variant = s.variant := rfl
@[simp] theorem modCan_regs : (s.modCan k fN).regs = s.regs := rfl
@[simp] theorem modCan_shadow : (s.modCan k fN).shadow = s.shadow := rfl
@[simp] theorem modCan_upsets : (s.modCan k fN).upsets = s.upsets := rfl
@[simp] theorem modCan_img : (s.modCan k fN).img = s.img := rfl
@[simp] theorem modCan_mem : (s.modCan k fN).mem = s.mem := rfl
@[simp] theorem modCan_kp : (s.modCan k fN).kp = s.kp := rfl
@[simp] theorem modCan_bus : (s.modCan k fN).bus = s.bus := rfl
@[simp] theorem modCan_freeIx : (s.modCan k fN).freeIx = s.freeIx := rfl
@[simp] theorem modCan_pins : (s.modCan k fN).pins = s.pins := rfl
@[simp] theorem modCan_tb : (s.modCan k fN).tb = s.tb := rfl
@[simp] theorem modCan_inlet : (s.modCan k fN).inlet = s.inlet := rfl
@[simp] theorem modCan_vw : (s.modCan k fN).vw = s.vw := rfl
@[simp] theorem modCan_lanes : (s.modCan k fN).lanes = s.lanes := rfl
@[simp] theorem modCan_tro : (s.modCan k fN).tro = s.tro := rfl
@[simp] theorem modCan_reint : (s.modCan k fN).reint = s.reint := rfl
@[simp] theorem modCan_prog : (s.modCan k fN).prog = s.prog := rfl
@[simp] theorem modCan_keep : (s.modCan k fN).keep = s.keep := rfl
@[simp] theorem modCan_boxes : (s.modCan k fN).boxes = s.boxes := rfl
@[simp] theorem modCan_bells : (s.modCan k fN).bells = s.bells := rfl
@[simp] theorem modCan_farr : (s.modCan k fN).farr = s.farr := rfl
@[simp] theorem modCan_field : (s.modCan k fN).field = s.field := rfl
@[simp] theorem modCan_cams : (s.modCan k fN).cams = s.cams := rfl
@[simp] theorem modCan_views : (s.modCan k fN).views = s.views := rfl
@[simp] theorem modCan_dsps : (s.modCan k fN).dsps = s.dsps := rfl
@[simp] theorem modCan_watches : (s.modCan k fN).watches = s.watches := rfl
@[simp] theorem modCan_mvb : (s.modCan k fN).mvb = s.mvb := rfl
@[simp] theorem modCan_net : (s.modCan k fN).net = s.net := rfl
@[simp] theorem modCan_dup : (s.modCan k fN).dup = s.dup := rfl
@[simp] theorem modCan_sec : (s.modCan k fN).sec = s.sec := rfl
@[simp] theorem modCan_upd : (s.modCan k fN).upd = s.upd := rfl
@[simp] theorem modCan_recd : (s.modCan k fN).recd = s.recd := rfl
@[simp] theorem modCan_gait : (s.modCan k fN).gait = s.gait := rfl

/-! ### `State.modBox` -/

@[simp] theorem modBox_pending : (s.modBox k fB).pending = s.pending := rfl
@[simp] theorem modBox_variant : (s.modBox k fB).variant = s.variant := rfl
@[simp] theorem modBox_regs : (s.modBox k fB).regs = s.regs := rfl
@[simp] theorem modBox_shadow : (s.modBox k fB).shadow = s.shadow := rfl
@[simp] theorem modBox_upsets : (s.modBox k fB).upsets = s.upsets := rfl
@[simp] theorem modBox_img : (s.modBox k fB).img = s.img := rfl
@[simp] theorem modBox_mem : (s.modBox k fB).mem = s.mem := rfl
@[simp] theorem modBox_kp : (s.modBox k fB).kp = s.kp := rfl
@[simp] theorem modBox_bus : (s.modBox k fB).bus = s.bus := rfl
@[simp] theorem modBox_freeIx : (s.modBox k fB).freeIx = s.freeIx := rfl
@[simp] theorem modBox_pins : (s.modBox k fB).pins = s.pins := rfl
@[simp] theorem modBox_tb : (s.modBox k fB).tb = s.tb := rfl
@[simp] theorem modBox_inlet : (s.modBox k fB).inlet = s.inlet := rfl
@[simp] theorem modBox_vw : (s.modBox k fB).vw = s.vw := rfl
@[simp] theorem modBox_lanes : (s.modBox k fB).lanes = s.lanes := rfl
@[simp] theorem modBox_tro : (s.modBox k fB).tro = s.tro := rfl
@[simp] theorem modBox_reint : (s.modBox k fB).reint = s.reint := rfl
@[simp] theorem modBox_prog : (s.modBox k fB).prog = s.prog := rfl
@[simp] theorem modBox_keep : (s.modBox k fB).keep = s.keep := rfl
@[simp] theorem modBox_bells : (s.modBox k fB).bells = s.bells := rfl
@[simp] theorem modBox_farr : (s.modBox k fB).farr = s.farr := rfl
@[simp] theorem modBox_field : (s.modBox k fB).field = s.field := rfl
@[simp] theorem modBox_cams : (s.modBox k fB).cams = s.cams := rfl
@[simp] theorem modBox_views : (s.modBox k fB).views = s.views := rfl
@[simp] theorem modBox_dsps : (s.modBox k fB).dsps = s.dsps := rfl
@[simp] theorem modBox_watches : (s.modBox k fB).watches = s.watches := rfl
@[simp] theorem modBox_cans : (s.modBox k fB).cans = s.cans := rfl
@[simp] theorem modBox_mvb : (s.modBox k fB).mvb = s.mvb := rfl
@[simp] theorem modBox_net : (s.modBox k fB).net = s.net := rfl
@[simp] theorem modBox_dup : (s.modBox k fB).dup = s.dup := rfl
@[simp] theorem modBox_sec : (s.modBox k fB).sec = s.sec := rfl
@[simp] theorem modBox_upd : (s.modBox k fB).upd = s.upd := rfl
@[simp] theorem modBox_recd : (s.modBox k fB).recd = s.recd := rfl
@[simp] theorem modBox_gait : (s.modBox k fB).gait = s.gait := rfl

/-! ### `State.draw` -/

@[simp] theorem draw_pending : s.draw.pending = s.pending := rfl
@[simp] theorem draw_variant : s.draw.variant = s.variant := rfl
@[simp] theorem draw_regs : s.draw.regs = s.regs := rfl
@[simp] theorem draw_shadow : s.draw.shadow = s.shadow := rfl
@[simp] theorem draw_upsets : s.draw.upsets = s.upsets := rfl
@[simp] theorem draw_img : s.draw.img = s.img := rfl
@[simp] theorem draw_mem : s.draw.mem = s.mem := rfl
@[simp] theorem draw_kp : s.draw.kp = s.kp := rfl
@[simp] theorem draw_bus : s.draw.bus = s.bus := rfl
@[simp] theorem draw_pins : s.draw.pins = s.pins := rfl
@[simp] theorem draw_tb : s.draw.tb = s.tb := rfl
@[simp] theorem draw_inlet : s.draw.inlet = s.inlet := rfl
@[simp] theorem draw_vw : s.draw.vw = s.vw := rfl
@[simp] theorem draw_lanes : s.draw.lanes = s.lanes := rfl
@[simp] theorem draw_tro : s.draw.tro = s.tro := rfl
@[simp] theorem draw_reint : s.draw.reint = s.reint := rfl
@[simp] theorem draw_prog : s.draw.prog = s.prog := rfl
@[simp] theorem draw_keep : s.draw.keep = s.keep := rfl
@[simp] theorem draw_boxes : s.draw.boxes = s.boxes := rfl
@[simp] theorem draw_bells : s.draw.bells = s.bells := rfl
@[simp] theorem draw_farr : s.draw.farr = s.farr := rfl
@[simp] theorem draw_field : s.draw.field = s.field := rfl
@[simp] theorem draw_cams : s.draw.cams = s.cams := rfl
@[simp] theorem draw_views : s.draw.views = s.views := rfl
@[simp] theorem draw_dsps : s.draw.dsps = s.dsps := rfl
@[simp] theorem draw_watches : s.draw.watches = s.watches := rfl
@[simp] theorem draw_cans : s.draw.cans = s.cans := rfl
@[simp] theorem draw_mvb : s.draw.mvb = s.mvb := rfl
@[simp] theorem draw_net : s.draw.net = s.net := rfl
@[simp] theorem draw_dup : s.draw.dup = s.dup := rfl
@[simp] theorem draw_sec : s.draw.sec = s.sec := rfl
@[simp] theorem draw_upd : s.draw.upd = s.upd := rfl
@[simp] theorem draw_recd : s.draw.recd = s.recd := rfl
@[simp] theorem draw_gait : s.draw.gait = s.gait := rfl

/-! ### `State.busError` -/

@[simp] theorem busError_pending : s.busError.pending = s.pending := rfl
@[simp] theorem busError_variant : s.busError.variant = s.variant := rfl
@[simp] theorem busError_regs : s.busError.regs = s.regs := rfl
@[simp] theorem busError_shadow : s.busError.shadow = s.shadow := rfl
@[simp] theorem busError_upsets : s.busError.upsets = s.upsets := rfl
@[simp] theorem busError_img : s.busError.img = s.img := rfl
@[simp] theorem busError_mem : s.busError.mem = s.mem := rfl
@[simp] theorem busError_kp : s.busError.kp = s.kp := rfl
@[simp] theorem busError_freeIx : s.busError.freeIx = s.freeIx := rfl
@[simp] theorem busError_pins : s.busError.pins = s.pins := rfl
@[simp] theorem busError_tb : s.busError.tb = s.tb := rfl
@[simp] theorem busError_inlet : s.busError.inlet = s.inlet := rfl
@[simp] theorem busError_vw : s.busError.vw = s.vw := rfl
@[simp] theorem busError_lanes : s.busError.lanes = s.lanes := rfl
@[simp] theorem busError_tro : s.busError.tro = s.tro := rfl
@[simp] theorem busError_reint : s.busError.reint = s.reint := rfl
@[simp] theorem busError_prog : s.busError.prog = s.prog := rfl
@[simp] theorem busError_keep : s.busError.keep = s.keep := rfl
@[simp] theorem busError_boxes : s.busError.boxes = s.boxes := rfl
@[simp] theorem busError_bells : s.busError.bells = s.bells := rfl
@[simp] theorem busError_farr : s.busError.farr = s.farr := rfl
@[simp] theorem busError_field : s.busError.field = s.field := rfl
@[simp] theorem busError_cams : s.busError.cams = s.cams := rfl
@[simp] theorem busError_views : s.busError.views = s.views := rfl
@[simp] theorem busError_dsps : s.busError.dsps = s.dsps := rfl
@[simp] theorem busError_watches : s.busError.watches = s.watches := rfl
@[simp] theorem busError_cans : s.busError.cans = s.cans := rfl
@[simp] theorem busError_mvb : s.busError.mvb = s.mvb := rfl
@[simp] theorem busError_net : s.busError.net = s.net := rfl
@[simp] theorem busError_dup : s.busError.dup = s.dup := rfl
@[simp] theorem busError_sec : s.busError.sec = s.sec := rfl
@[simp] theorem busError_upd : s.busError.upd = s.upd := rfl
@[simp] theorem busError_recd : s.busError.recd = s.recd := rfl
@[simp] theorem busError_gait : s.busError.gait = s.gait := rfl

/-! ### `State.busData` -/

@[simp] theorem busData_pending : (s.busData v).pending = s.pending := rfl
@[simp] theorem busData_variant : (s.busData v).variant = s.variant := rfl
@[simp] theorem busData_regs : (s.busData v).regs = s.regs := rfl
@[simp] theorem busData_shadow : (s.busData v).shadow = s.shadow := rfl
@[simp] theorem busData_upsets : (s.busData v).upsets = s.upsets := rfl
@[simp] theorem busData_img : (s.busData v).img = s.img := rfl
@[simp] theorem busData_mem : (s.busData v).mem = s.mem := rfl
@[simp] theorem busData_kp : (s.busData v).kp = s.kp := rfl
@[simp] theorem busData_freeIx : (s.busData v).freeIx = s.freeIx := rfl
@[simp] theorem busData_pins : (s.busData v).pins = s.pins := rfl
@[simp] theorem busData_tb : (s.busData v).tb = s.tb := rfl
@[simp] theorem busData_inlet : (s.busData v).inlet = s.inlet := rfl
@[simp] theorem busData_vw : (s.busData v).vw = s.vw := rfl
@[simp] theorem busData_lanes : (s.busData v).lanes = s.lanes := rfl
@[simp] theorem busData_tro : (s.busData v).tro = s.tro := rfl
@[simp] theorem busData_reint : (s.busData v).reint = s.reint := rfl
@[simp] theorem busData_prog : (s.busData v).prog = s.prog := rfl
@[simp] theorem busData_keep : (s.busData v).keep = s.keep := rfl
@[simp] theorem busData_boxes : (s.busData v).boxes = s.boxes := rfl
@[simp] theorem busData_bells : (s.busData v).bells = s.bells := rfl
@[simp] theorem busData_farr : (s.busData v).farr = s.farr := rfl
@[simp] theorem busData_field : (s.busData v).field = s.field := rfl
@[simp] theorem busData_cams : (s.busData v).cams = s.cams := rfl
@[simp] theorem busData_views : (s.busData v).views = s.views := rfl
@[simp] theorem busData_dsps : (s.busData v).dsps = s.dsps := rfl
@[simp] theorem busData_watches : (s.busData v).watches = s.watches := rfl
@[simp] theorem busData_cans : (s.busData v).cans = s.cans := rfl
@[simp] theorem busData_mvb : (s.busData v).mvb = s.mvb := rfl
@[simp] theorem busData_net : (s.busData v).net = s.net := rfl
@[simp] theorem busData_dup : (s.busData v).dup = s.dup := rfl
@[simp] theorem busData_sec : (s.busData v).sec = s.sec := rfl
@[simp] theorem busData_upd : (s.busData v).upd = s.upd := rfl
@[simp] theorem busData_recd : (s.busData v).recd = s.recd := rfl
@[simp] theorem busData_gait : (s.busData v).gait = s.gait := rfl

/-! ### `State.kpDrop` -/

@[simp] theorem kpDrop_pending : (s.kpDrop p).pending = s.pending := rfl
@[simp] theorem kpDrop_variant : (s.kpDrop p).variant = s.variant := rfl
@[simp] theorem kpDrop_regs : (s.kpDrop p).regs = s.regs := rfl
@[simp] theorem kpDrop_shadow : (s.kpDrop p).shadow = s.shadow := rfl
@[simp] theorem kpDrop_upsets : (s.kpDrop p).upsets = s.upsets := rfl
@[simp] theorem kpDrop_img : (s.kpDrop p).img = s.img := rfl
@[simp] theorem kpDrop_mem : (s.kpDrop p).mem = s.mem := rfl
@[simp] theorem kpDrop_bus : (s.kpDrop p).bus = s.bus := rfl
@[simp] theorem kpDrop_freeIx : (s.kpDrop p).freeIx = s.freeIx := rfl
@[simp] theorem kpDrop_pins : (s.kpDrop p).pins = s.pins := rfl
@[simp] theorem kpDrop_tb : (s.kpDrop p).tb = s.tb := rfl
@[simp] theorem kpDrop_inlet : (s.kpDrop p).inlet = s.inlet := rfl
@[simp] theorem kpDrop_vw : (s.kpDrop p).vw = s.vw := rfl
@[simp] theorem kpDrop_lanes : (s.kpDrop p).lanes = s.lanes := rfl
@[simp] theorem kpDrop_tro : (s.kpDrop p).tro = s.tro := rfl
@[simp] theorem kpDrop_reint : (s.kpDrop p).reint = s.reint := rfl
@[simp] theorem kpDrop_prog : (s.kpDrop p).prog = s.prog := rfl
@[simp] theorem kpDrop_keep : (s.kpDrop p).keep = s.keep := rfl
@[simp] theorem kpDrop_boxes : (s.kpDrop p).boxes = s.boxes := rfl
@[simp] theorem kpDrop_bells : (s.kpDrop p).bells = s.bells := rfl
@[simp] theorem kpDrop_farr : (s.kpDrop p).farr = s.farr := rfl
@[simp] theorem kpDrop_field : (s.kpDrop p).field = s.field := rfl
@[simp] theorem kpDrop_cams : (s.kpDrop p).cams = s.cams := rfl
@[simp] theorem kpDrop_views : (s.kpDrop p).views = s.views := rfl
@[simp] theorem kpDrop_dsps : (s.kpDrop p).dsps = s.dsps := rfl
@[simp] theorem kpDrop_watches : (s.kpDrop p).watches = s.watches := rfl
@[simp] theorem kpDrop_cans : (s.kpDrop p).cans = s.cans := rfl
@[simp] theorem kpDrop_mvb : (s.kpDrop p).mvb = s.mvb := rfl
@[simp] theorem kpDrop_net : (s.kpDrop p).net = s.net := rfl
@[simp] theorem kpDrop_dup : (s.kpDrop p).dup = s.dup := rfl
@[simp] theorem kpDrop_sec : (s.kpDrop p).sec = s.sec := rfl
@[simp] theorem kpDrop_upd : (s.kpDrop p).upd = s.upd := rfl
@[simp] theorem kpDrop_recd : (s.kpDrop p).recd = s.recd := rfl
@[simp] theorem kpDrop_gait : (s.kpDrop p).gait = s.gait := rfl

end Sys2Proof.Machine
end

