-- ==== Sys2Proof/Laws/Store.lean ====
section
/-! SUPPORT. Laws of the sparse stores: a read after a write, and the canonical form that every write keeps. -/

namespace Sys2Proof.Machine

theorem alGet_alSet {α : Type} (l : List (Nat × α)) (k j : Nat) (v : α) :
    alGet (alSet l k v) j = if k = j then some v else alGet l j := by
  induction l with
  | nil => rfl
  | cons c r ih =>
    obtain ⟨a, x⟩ := c
    simp only [alSet]
    split
    · simp only [alGet]
    · split
      · subst_vars; simp only [alGet]; split <;> rfl
      · simp only [alGet, ih]
        by_cases h : a = j
        · rw [if_pos h, if_neg (by omega), if_pos h]
        · rw [if_neg h, if_neg h]

theorem alGet_filter {α : Type} (l : List (Nat × α)) (p : Nat → Bool) (j : Nat) :
    alGet (l.filter (fun c => p c.1)) j = if p j then alGet l j else none := by
  induction l with
  | nil => simp [alGet]
  | cons c r ih =>
    obtain ⟨a, x⟩ := c
    by_cases h : p a = true
    · rw [List.filter_cons_of_pos (p := fun c : Nat × α => p c.1) (a := (a, x)) h, alGet, alGet, ih]
      by_cases e : a = j
      · subst e; simp [h]
      · simp [e]
    · rw [List.filter_cons_of_neg (p := fun c : Nat × α => p c.1) (a := (a, x)) h, ih, alGet]
      by_cases e : a = j
      · subst e; simp [h]
      · simp [e]

theorem alGet_alDel {α : Type} (l : List (Nat × α)) (k j : Nat) : alGet (alDel l k) j = if k = j then none else alGet l j := by
  have h := alGet_filter l (fun a => decide (a ≠ k)) j
  rw [alDel, h]
  by_cases e : k = j
  · subst e; simp
  · simp [e, Ne.symm e]

/-- Read after write: the key written holds the value, every other key what it held. -/
theorem stGet_stSet {α : Type} [DecidableEq α] (d d' : α) (l : List (Nat × α)) (k j : Nat) (v : α) (h : k = j → d' = d) :
    stGet d' (stSet d l k v) j = if k = j then v else stGet d' l j := by
  unfold stSet stGet
  split
  · rename_i hv
    rw [alGet_alDel]
    by_cases e : k = j
    · simp [e, h e, hv]
    · simp [e]
  · rw [alGet_alSet]
    by_cases e : k = j <;> simp [e]

/-- The canonical form in terms of the list: strictly rising keys, no entry equal to what its key reads as. -/
theorem stWf_iff {α : Type} [DecidableEq α] (d : Nat → α) (l : List (Nat × α)) :
    stWf d l = true ↔ l.Pairwise (fun a b => a.1 < b.1) ∧ ∀ c ∈ l, c.2 ≠ d c.1 := by
  induction l with
  | nil => simp [stWf]
  | cons c r ih =>
    obtain ⟨k, v⟩ := c
    cases r with
    | nil => simp [stWf]
    | cons c' r =>
      obtain ⟨k', v'⟩ := c'
      simp only [stWf, Bool.and_eq_true, decide_eq_true_eq, ih, List.pairwise_cons, List.mem_cons, forall_eq_or_imp]
      constructor
      · rintro ⟨⟨h1, h2⟩, ⟨h3, h4⟩, h5, h6⟩
        exact ⟨⟨⟨h2, fun b hb => Nat.lt_trans h2 (h3 b hb)⟩, h3, h4⟩, h1, h5, h6⟩
      · rintro ⟨⟨⟨h2, _⟩, h3, h4⟩, h1, h5, h6⟩
        exact ⟨⟨h1, h2⟩, ⟨h3, h4⟩, h5, h6⟩

theorem mem_alSet {α : Type} (l : List (Nat × α)) (k : Nat) (v : α) (c : Nat × α) (h : c ∈ alSet l k v) : c = (k, v) ∨ c ∈ l := by
  induction l with
  | nil => simpa [alSet] using h
  | cons a r ih =>
    obtain ⟨a, x⟩ := a
    simp only [alSet] at h
    split at h
    · simpa using h
    · split at h
      · rcases List.mem_cons.1 h with h | h
        · exact .inl h
        · exact .inr (List.mem_cons_of_mem _ h)
      · rcases List.mem_cons.1 h with h | h
        · exact .inr (h ▸ List.mem_cons_self)
        · rcases ih h with h | h
          · exact .inl h
          · exact .inr (List.mem_cons_of_mem _ h)

theorem pairwise_alSet {α : Type} (l : List (Nat × α)) (k : Nat) (v : α) (h : l.Pairwise (fun a b => a.1 < b.1)) :
    (alSet l k v).Pairwise (fun a b => a.1 < b.1) := by
  induction l with
  | nil => simp [alSet]
  | cons c r ih =>
    obtain ⟨a, x⟩ := c
    have hc := List.pairwise_cons.1 h
    simp only [alSet]
    split
    · rename_i hk
      exact List.pairwise_cons.2 ⟨fun b hb => (List.mem_cons.1 hb).elim (fun e => e ▸ hk) (fun e => Nat.lt_trans hk (hc.1 b e)), h⟩
    · split
      · rename_i e; subst e; exact List.pairwise_cons.2 hc
      · refine List.pairwise_cons.2 ⟨fun b hb => ?_, ih hc.2⟩
        rcases mem_alSet _ _ _ _ hb with e | e
        · subst e; show a < k; omega
        · exact hc.1 b e

/-- A filter keeps the canonical form. -/
theorem stWf_filter {α : Type} [DecidableEq α] (d : Nat → α) (l : List (Nat × α)) (p : Nat × α → Bool) (h : stWf d l = true) :
    stWf d (l.filter p) = true := by
  rw [stWf_iff] at h ⊢
  exact ⟨h.1.filter p, fun c hc => h.2 c (List.mem_filter.1 hc).1⟩

/-- A write keeps the canonical form. -/
theorem stWf_stSet {α : Type} [DecidableEq α] (d : Nat → α) (l : List (Nat × α)) (k : Nat) (v : α) (h : stWf d l = true) :
    stWf d (stSet (d k) l k v) = true := by
  unfold stSet
  split
  · exact stWf_filter d l _ h
  · rename_i hv
    rw [stWf_iff] at h ⊢
    refine ⟨pairwise_alSet l k v h.1, fun c hc => ?_⟩
    rcases mem_alSet _ _ _ _ hc with e | e
    · subst e; exact hv
    · exact h.2 c e

/-- Equal reads make equal canonical stores. -/
theorem stWf_ext {α : Type} [DecidableEq α] (d : Nat → α) (l m : List (Nat × α)) (hl : stWf d l = true) (hm : stWf d m = true)
    (h : ∀ k, stGet (d k) l k = stGet (d k) m k) : l = m := by
  rw [stWf_iff] at hl hm
  have none_of {l : List (Nat × α)} {k : Nat} (hh : ∀ c ∈ l, k < c.1) : alGet l k = none := by
    induction l with
    | nil => rfl
    | cons c r ih =>
      obtain ⟨a, x⟩ := c
      have : k < a := hh _ List.mem_cons_self
      rw [alGet, if_neg (by omega)]
      exact ih (fun c hc => hh c (List.mem_cons_of_mem _ hc))
  induction l generalizing m with
  | nil =>
    cases m with
    | nil => rfl
    | cons c r =>
      have := h c.1
      obtain ⟨a, x⟩ := c
      simp [stGet, alGet] at this
      exact absurd this.symm (hm.2 _ List.mem_cons_self)
  | cons c r ih =>
    obtain ⟨a, x⟩ := c
    have hp := List.pairwise_cons.1 hl.1
    cases m with
    | nil =>
      have := h a
      simp [stGet, alGet] at this
      exact absurd this (hl.2 _ List.mem_cons_self)
    | cons c' r' =>
      obtain ⟨b, y⟩ := c'
      have hq := List.pairwise_cons.1 hm.1
      have ab : a = b := by
        rcases Nat.lt_trichotomy a b with hlt | e | hlt
        · have := h a
          rw [stGet, stGet, none_of (l := (b, y) :: r') (fun c hc => (List.mem_cons.1 hc).elim (fun e => e ▸ hlt)
            (fun e => Nat.lt_trans hlt (hq.1 c e)))] at this
          simp [alGet] at this
          exact absurd this (hl.2 _ List.mem_cons_self)
        · exact e
        · have := h b
          rw [stGet, stGet, none_of (l := (a, x) :: r) (fun c hc => (List.mem_cons.1 hc).elim (fun e => e ▸ hlt)
            (fun e => Nat.lt_trans hlt (hp.1 c e)))] at this
          simp [alGet] at this
          exact absurd this.symm (hm.2 _ List.mem_cons_self)
      subst ab
      have xy : x = y := by have := h a; simpa [stGet, alGet] using this
      subst xy
      congr 1
      refine ih r' ⟨hp.2, fun c hc => hl.2 c (List.mem_cons_of_mem _ hc)⟩ ⟨hq.2, fun c hc => hm.2 c (List.mem_cons_of_mem _ hc)⟩ ?_
      intro k
      by_cases e : a = k
      · subst e; rw [stGet, stGet, none_of hp.1, none_of hq.1]
      · have := h k; simpa [stGet, alGet, e] using this

end Sys2Proof.Machine
end

