-- ==== Sys2Proof/Laws/Regs.lean ====
section
/-! SUPPORT. Laws of registers, table words, images and memories: a read after a write, and the canonical form of the stores. -/

namespace Sys2Proof.Machine

variable (s t : State) (p o p' o' k j lo n x : Nat) (v : Word) (d : DWord) (b : Bool) (y : Byte)

/-! ### Registers and table words -/

/-- States with equal registers read alike. -/
theorem key_congr {s t : State} (h : t.regs = s.regs) (k : Nat) : t.key k = s.key k := by rw [State.key, State.key, h]
theorem rd_congr {s t : State} (h : t.regs = s.regs) (p o : Nat) : t.rd p o = s.rd p o := key_congr h _
theorem tab_congr {s t : State} (h : t.regs = s.regs) (p o : Nat) : t.tab p o = s.tab p o := key_congr h _

theorem key_setKey : (s.setKey k v).key j = if k = j then v else s.key j :=
  stGet_stSet (resetWord k) (resetWord j) s.regs k j v (fun h => h ▸ rfl)
theorem rd_wr : (s.wr p o v).rd p' o' = if rk p o = rk p' o' then v else s.rd p' o' := by
  rw [State.wr, State.rd, key_setKey, State.rd]
theorem rd_wr_self : (s.wr p o v).rd p o = v := by rw [rd_wr, if_pos rfl]
theorem rd_wr_ne (h : rk p o ≠ rk p' o') : (s.wr p o v).rd p' o' = s.rd p' o' := by rw [rd_wr, if_neg h]
theorem rd_setTab : (s.setTab p o v).rd p' o' = if tk p o = rk p' o' then v else s.rd p' o' := by
  rw [State.setTab, State.rd, key_setKey, State.rd]
theorem tab_wr : (s.wr p o v).tab p' o' = if rk p o = tk p' o' then v else s.tab p' o' := by
  rw [State.wr, State.tab, key_setKey, State.tab]
theorem tab_setTab : (s.setTab p o v).tab p' o' = if tk p o = tk p' o' then v else s.tab p' o' := by
  rw [State.setTab, State.tab, key_setKey, State.tab]
theorem key_wr : (s.wr p o v).key j = if rk p o = j then v else s.key j := by rw [State.wr, key_setKey]
theorem key_setTab : (s.setTab p o v).key j = if tk p o = j then v else s.key j := by rw [State.setTab, key_setKey]
theorem key_wrFld : (s.wrFld p o lo n x).key j = if rk p o = j then setFld (s.rd p o) lo n x else s.key j := by
  rw [State.wrFld, key_wr]
theorem key_wrBit : (s.wrBit p o lo b).key j = if rk p o = j then setBit (s.rd p o) lo b else s.key j := by
  rw [State.wrBit, key_wr]
theorem rd_wrFld_self : (s.wrFld p o lo n x).rd p o = setFld (s.rd p o) lo n x := by rw [State.wrFld, rd_wr_self]
theorem rd_wrFld_ne (h : rk p o ≠ rk p' o') : (s.wrFld p o lo n x).rd p' o' = s.rd p' o' := by rw [State.wrFld, rd_wr_ne _ _ _ _ _ _ h]
theorem rd_wrBit_self : (s.wrBit p o lo b).rd p o = setBit (s.rd p o) lo b := by rw [State.wrBit, rd_wr_self]
theorem rd_wrBit_ne (h : rk p o ≠ rk p' o') : (s.wrBit p o lo b).rd p' o' = s.rd p' o' := by rw [State.wrBit, rd_wr_ne _ _ _ _ _ _ h]
theorem rf_wrFld_self (h : lo + n ≤ 32) : (s.wrFld p o lo n x).rf p o lo n = x % 2 ^ n := by
  rw [State.rf, rd_wrFld_self, fld_setFld_self _ _ _ _ h]
theorem rb_wrBit_self (h : lo < 32) : (s.wrBit p o lo b).rb p o lo = b := by
  rw [State.rb, rd_wrBit_self, bit_setBit_self _ _ _ h]

/-- A key of another page is another key. -/
theorem rk_page (ho : o < 0x20000) : keyPage (rk p o) = p := by unfold keyPage rk; omega
theorem tk_page (ho : o < 0x10000) : keyPage (tk p o) = p := by unfold keyPage tk; omega

/-! ### Images and memories -/

theorem image_setImage (i w i' w' : Nat) (hw : w < 0x10000) (hw' : w' < 0x10000) :
    (s.setImage i w d).image i' w' = if i = i' ∧ w = w' then d else s.image i' w' := by
  rw [State.setImage, State.image, State.image]
  rw [stGet_stSet _ _ _ _ _ _ (fun _ => rfl)]
  by_cases h : i = i' ∧ w = w'
  · rw [if_pos (by omega), if_pos h]
  · rw [if_neg (by omega), if_neg h]
theorem byte_setByte (a c : Nat) : (s.setByte a y).byte c = if a = c then y else s.byte c :=
  stGet_stSet _ _ _ _ _ _ (fun _ => rfl)

/-- Consecutive bytes written leave every other byte as it was. -/
theorem byte_setBytes_ne (l : List Byte) (a c : Nat) (h : c < a ∨ a + l.length ≤ c) : (s.setBytes a l).byte c = s.byte c := by
  induction l generalizing s a with
  | nil => rfl
  | cons y r ih =>
    simp only [List.length_cons] at h
    rw [State.setBytes, ih _ _ (by omega), byte_setByte, if_neg (by omega)]

/-- Consecutive bytes written read back. -/
theorem byte_setBytes (l : List Byte) (a i : Nat) (h : i < l.length) : (s.setBytes a l).byte (a + i) = l[i] := by
  induction l generalizing s a i with
  | nil => simp at h
  | cons y r ih =>
    rw [State.setBytes]
    cases i with
    | zero => rw [byte_setBytes_ne _ _ _ _ (by omega), Nat.add_zero, byte_setByte, if_pos rfl]; rfl
    | succ i =>
      rw [show a + (i + 1) = a + 1 + i by omega, ih _ _ _ (by simpa using h)]; rfl

/-! ### Canonical form -/

/-- The canonical form of the three stores. -/
def canon (s : State) : Bool := Memory.wf s.mem && stWf resetWord s.regs && stWf (fun _ => (0 : DWord)) s.img

theorem canon_iff : canon s = true ↔ Memory.wf s.mem = true ∧ stWf resetWord s.regs = true ∧ stWf (fun _ => (0 : DWord)) s.img = true := by
  simp [canon, and_assoc]

/-- States with equal stores are canonical together. -/
theorem canon_congr {s t : State} (h1 : t.mem = s.mem) (h2 : t.regs = s.regs) (h3 : t.img = s.img) : canon t = canon s := by
  rw [canon, canon, h1, h2, h3]

theorem canon_setKey (h : canon s = true) : canon (s.setKey k v) = true := by
  rw [canon_iff] at h ⊢
  exact ⟨h.1, stWf_stSet resetWord _ _ _ h.2.1, h.2.2⟩
theorem canon_wr (h : canon s = true) : canon (s.wr p o v) = true := by rw [State.wr]; exact canon_setKey _ _ _ h
theorem canon_setTab (h : canon s = true) : canon (s.setTab p o v) = true := by rw [State.setTab]; exact canon_setKey _ _ _ h
theorem canon_wrFld (h : canon s = true) : canon (s.wrFld p o lo n x) = true := by rw [State.wrFld]; exact canon_wr _ _ _ _ h
theorem canon_wrBit (h : canon s = true) : canon (s.wrBit p o lo b) = true := by rw [State.wrBit]; exact canon_wr _ _ _ _ h
theorem canon_setByte (a : Nat) (h : canon s = true) : canon (s.setByte a y) = true := by
  rw [canon_iff] at h ⊢
  exact ⟨stWf_stSet (fun _ => (0 : Byte)) _ _ _ h.1, h.2.1, h.2.2⟩
theorem canon_setBytes (l : List Byte) (a : Nat) (h : canon s = true) : canon (s.setBytes a l) = true := by
  induction l generalizing s a with
  | nil => exact h
  | cons y r ih => rw [State.setBytes]; exact ih _ _ (canon_setByte _ _ _ h)
theorem canon_setImage (i w : Nat) (h : canon s = true) : canon (s.setImage i w d) = true := by
  rw [canon_iff] at h ⊢
  exact ⟨h.1, h.2.1, stWf_stSet (fun _ => (0 : DWord)) _ _ _ h.2.2⟩
theorem canon_clearImage (i : Nat) (h : canon s = true) : canon (s.clearImage i) = true := by
  rw [canon_iff] at h ⊢
  exact ⟨h.1, h.2.1, stWf_filter _ _ _ h.2.2⟩
theorem canon_putImage (i : Nat) (l : List (Nat × DWord)) (h : canon s = true) : canon (s.putImage i l) = true := by
  unfold State.putImage
  induction l generalizing s with
  | nil => exact h
  | cons c r ih => exact ih _ (canon_setImage _ _ _ _ h)
theorem canon_copyImage (i i' : Nat) (h : canon s = true) : canon (s.copyImage i i') = true := by
  rw [State.copyImage]; exact canon_putImage _ _ _ (canon_clearImage _ _ h)
theorem canon_clearTs (sel : Nat → Bool) (h : canon s = true) : canon (s.clearTs sel) = true := by
  rw [canon_iff] at h ⊢
  exact ⟨h.1, stWf_filter _ _ _ h.2.1, h.2.2⟩

end Sys2Proof.Machine
end

