-- ==== Sys2Proof/Laws/Events.lean ====
section
/-! SUPPORT. What raising an event can do (R58 to R64): the registers of its unit's header and of the event router, and the
inlet queue of the recorder; nothing else. -/

namespace Sys2Proof.Machine

variable (s : State) (n page bk e : Nat) (p0 p1 p2 : Word) (on : Bool)

/-- `t` differs from `s` in registers and the inlet queue at most. -/
def OnlyRegsInlet (s t : State) : Prop := t = { s with regs := t.regs, inlet := t.inlet }

theorem OnlyRegsInlet.rfl' (s : State) : OnlyRegsInlet s s := rfl
theorem OnlyRegsInlet.trans' {s t u : State} (h : OnlyRegsInlet s t) (g : OnlyRegsInlet t u) : OnlyRegsInlet s u := by
  unfold OnlyRegsInlet at *; rw [g, h]
theorem onlyRegsInlet_setKey (s : State) (k : Nat) (v : Word) : OnlyRegsInlet s (s.setKey k v) := by
  unfold OnlyRegsInlet State.setKey; rfl
theorem onlyRegsInlet_wr (s : State) (p o : Nat) (v : Word) : OnlyRegsInlet s (s.wr p o v) := onlyRegsInlet_setKey s _ v
theorem onlyRegsInlet_wrBit (s : State) (p o i : Nat) (b : Bool) : OnlyRegsInlet s (s.wrBit p o i b) := onlyRegsInlet_wr s p o _
theorem onlyRegsInlet_wrFld (s : State) (p o lo w x : Nat) : OnlyRegsInlet s (s.wrFld p o lo w x) := onlyRegsInlet_wr s p o _
theorem onlyRegsInlet_pendBank : OnlyRegsInlet s (s.pendBank n bk on) := by
  unfold State.pendBank; split
  · exact onlyRegsInlet_wrBit ..
  · rfl
theorem onlyRegsInlet_countEvent : OnlyRegsInlet s (s.countEvent n) := by
  unfold State.countEvent
  refine OnlyRegsInlet.trans' ?_ (onlyRegsInlet_setKey _ _ _)
  split
  · rfl
  · exact onlyRegsInlet_setKey ..
theorem onlyRegsInlet_enterInlet (i : Inlet) : OnlyRegsInlet s (s.enterInlet i) := by
  unfold State.enterInlet; split
  · rfl
  · exact onlyRegsInlet_wrFld ..

/-- The router stage in its steps: the count, the banks, the recorder's bank and its inlet. -/
theorem route_steps : ∃ b0 b1 b2 b3 b4 b5 : Bool, ∃ i : Inlet, ∃ r : Bool,
    s.route n p0 p1 p2 =
      (fun u : State => if r then u.enterInlet i else u)
        ((fun u : State => if b5 then u.wrBit 0x02 (0x60 + 4 * (n / 32)) (n % 32) true else u)
          ((((((s.countEvent n).pendBank n 0 b0).pendBank n 1 b1).pendBank n 2 b2).pendBank n 3 b3).pendBank n 4 b4)) := by
  refine ⟨bit (s.routeWord n) 1, bit (s.routeWord n) 2, bit (s.routeWord n) 3, bit (s.routeWord n) 4, bit (s.routeWord n) 5,
    bit (s.routeWord n) 0, ⟨n, fld (s.routeWord n) 8 3, _, _, p0, p1, p2, _, _⟩, bit (s.routeWord n) 6, rfl⟩

theorem onlyRegsInlet_route : OnlyRegsInlet s (s.route n p0 p1 p2) := by
  obtain ⟨b0, b1, b2, b3, b4, b5, i, r, h⟩ := route_steps s n p0 p1 p2
  rw [h]
  have h0 : OnlyRegsInlet s ((((((s.countEvent n).pendBank n 0 b0).pendBank n 1 b1).pendBank n 2 b2).pendBank n 3 b3).pendBank n 4 b4) :=
    (onlyRegsInlet_countEvent s n).trans' ((onlyRegsInlet_pendBank _ n 0 b0).trans' ((onlyRegsInlet_pendBank _ n 1 b1).trans'
      ((onlyRegsInlet_pendBank _ n 2 b2).trans' ((onlyRegsInlet_pendBank _ n 3 b3).trans' (onlyRegsInlet_pendBank _ n 4 b4)))))
  refine h0.trans' ?_
  generalize ((((((s.countEvent n).pendBank n 0 b0).pendBank n 1 b1).pendBank n 2 b2).pendBank n 3 b3).pendBank n 4 b4) = u
  cases b5 <;> cases r
  · rfl
  · exact onlyRegsInlet_enterInlet u i
  · exact onlyRegsInlet_wrBit ..
  · exact (onlyRegsInlet_wrBit u _ _ _ _).trans' (onlyRegsInlet_enterInlet _ i)

theorem onlyRegsInlet_raiseAt : OnlyRegsInlet s (s.raiseAt page bk n p0 p1 p2) := by
  unfold State.raiseAt; split
  · rfl
  · split
    · exact (onlyRegsInlet_wrBit s _ _ _ _).trans' (onlyRegsInlet_route _ _ _ _ _)
    · exact onlyRegsInlet_wrBit ..

theorem onlyRegsInlet_occur : OnlyRegsInlet s (s.occur n p0 p1 p2) := by
  unfold State.occur; split
  · exact OnlyRegsInlet.rfl' s
  · split
    · exact onlyRegsInlet_route ..
    · exact onlyRegsInlet_raiseAt ..

/-- Raising an event changes registers and the inlet queue at most. -/
theorem onlyRegsInlet_raise : OnlyRegsInlet s (s.raise n p0 p1 p2) := onlyRegsInlet_occur s n _ _ _

theorem onlyRegsInlet_error (p off ini cause ev : Nat) : OnlyRegsInlet s (s.error p off ini cause ev p0) :=
  (onlyRegsInlet_wr s p 0x38 _).trans' (onlyRegsInlet_raise _ _ _ _ _)

theorem onlyRegsInlet_accessFault (i : Init) (a : Word) (cause : Nat) : OnlyRegsInlet s (s.accessFault i a cause) :=
  onlyRegsInlet_error ..

theorem onlyRegsInlet_kpFail (p ini : Nat) : OnlyRegsInlet s (s.kpFail p ini p0) := onlyRegsInlet_error ..

theorem OnlyRegsInlet.pending_eq {s t : State} (h : OnlyRegsInlet s t) : t.pending = s.pending := by unfold OnlyRegsInlet at h; rw [h]
theorem OnlyRegsInlet.variant_eq {s t : State} (h : OnlyRegsInlet s t) : t.variant = s.variant := by unfold OnlyRegsInlet at h; rw [h]
theorem OnlyRegsInlet.shadow_eq {s t : State} (h : OnlyRegsInlet s t) : t.shadow = s.shadow := by unfold OnlyRegsInlet at h; rw [h]
theorem OnlyRegsInlet.upsets_eq {s t : State} (h : OnlyRegsInlet s t) : t.upsets = s.upsets := by unfold OnlyRegsInlet at h; rw [h]
theorem OnlyRegsInlet.img_eq {s t : State} (h : OnlyRegsInlet s t) : t.img = s.img := by unfold OnlyRegsInlet at h; rw [h]
theorem OnlyRegsInlet.mem_eq {s t : State} (h : OnlyRegsInlet s t) : t.mem = s.mem := by unfold OnlyRegsInlet at h; rw [h]
theorem OnlyRegsInlet.kp_eq {s t : State} (h : OnlyRegsInlet s t) : t.kp = s.kp := by unfold OnlyRegsInlet at h; rw [h]
theorem OnlyRegsInlet.bus_eq {s t : State} (h : OnlyRegsInlet s t) : t.bus = s.bus := by unfold OnlyRegsInlet at h; rw [h]
theorem OnlyRegsInlet.freeIx_eq {s t : State} (h : OnlyRegsInlet s t) : t.freeIx = s.freeIx := by unfold OnlyRegsInlet at h; rw [h]
theorem OnlyRegsInlet.pins_eq {s t : State} (h : OnlyRegsInlet s t) : t.pins = s.pins := by unfold OnlyRegsInlet at h; rw [h]
theorem OnlyRegsInlet.tb_eq {s t : State} (h : OnlyRegsInlet s t) : t.tb = s.tb := by unfold OnlyRegsInlet at h; rw [h]
theorem OnlyRegsInlet.vw_eq {s t : State} (h : OnlyRegsInlet s t) : t.vw = s.vw := by unfold OnlyRegsInlet at h; rw [h]
theorem OnlyRegsInlet.lanes_eq {s t : State} (h : OnlyRegsInlet s t) : t.lanes = s.lanes := by unfold OnlyRegsInlet at h; rw [h]
theorem OnlyRegsInlet.tro_eq {s t : State} (h : OnlyRegsInlet s t) : t.tro = s.tro := by unfold OnlyRegsInlet at h; rw [h]
theorem OnlyRegsInlet.reint_eq {s t : State} (h : OnlyRegsInlet s t) : t.reint = s.reint := by unfold OnlyRegsInlet at h; rw [h]
theorem OnlyRegsInlet.prog_eq {s t : State} (h : OnlyRegsInlet s t) : t.prog = s.prog := by unfold OnlyRegsInlet at h; rw [h]
theorem OnlyRegsInlet.keep_eq {s t : State} (h : OnlyRegsInlet s t) : t.keep = s.keep := by unfold OnlyRegsInlet at h; rw [h]
theorem OnlyRegsInlet.boxes_eq {s t : State} (h : OnlyRegsInlet s t) : t.boxes = s.boxes := by unfold OnlyRegsInlet at h; rw [h]
theorem OnlyRegsInlet.farr_eq {s t : State} (h : OnlyRegsInlet s t) : t.farr = s.farr := by unfold OnlyRegsInlet at h; rw [h]
theorem OnlyRegsInlet.field_eq {s t : State} (h : OnlyRegsInlet s t) : t.field = s.field := by unfold OnlyRegsInlet at h; rw [h]
theorem OnlyRegsInlet.cams_eq {s t : State} (h : OnlyRegsInlet s t) : t.cams = s.cams := by unfold OnlyRegsInlet at h; rw [h]
theorem OnlyRegsInlet.views_eq {s t : State} (h : OnlyRegsInlet s t) : t.views = s.views := by unfold OnlyRegsInlet at h; rw [h]
theorem OnlyRegsInlet.dsps_eq {s t : State} (h : OnlyRegsInlet s t) : t.dsps = s.dsps := by unfold OnlyRegsInlet at h; rw [h]
theorem OnlyRegsInlet.watches_eq {s t : State} (h : OnlyRegsInlet s t) : t.watches = s.watches := by unfold OnlyRegsInlet at h; rw [h]
theorem OnlyRegsInlet.cans_eq {s t : State} (h : OnlyRegsInlet s t) : t.cans = s.cans := by unfold OnlyRegsInlet at h; rw [h]
theorem OnlyRegsInlet.mvb_eq {s t : State} (h : OnlyRegsInlet s t) : t.mvb = s.mvb := by unfold OnlyRegsInlet at h; rw [h]
theorem OnlyRegsInlet.net_eq {s t : State} (h : OnlyRegsInlet s t) : t.net = s.net := by unfold OnlyRegsInlet at h; rw [h]
theorem OnlyRegsInlet.dup_eq {s t : State} (h : OnlyRegsInlet s t) : t.dup = s.dup := by unfold OnlyRegsInlet at h; rw [h]
theorem OnlyRegsInlet.sec_eq {s t : State} (h : OnlyRegsInlet s t) : t.sec = s.sec := by unfold OnlyRegsInlet at h; rw [h]
theorem OnlyRegsInlet.upd_eq {s t : State} (h : OnlyRegsInlet s t) : t.upd = s.upd := by unfold OnlyRegsInlet at h; rw [h]
theorem OnlyRegsInlet.recd_eq {s t : State} (h : OnlyRegsInlet s t) : t.recd = s.recd := by unfold OnlyRegsInlet at h; rw [h]
theorem OnlyRegsInlet.gait_eq {s t : State} (h : OnlyRegsInlet s t) : t.gait = s.gait := by unfold OnlyRegsInlet at h; rw [h]

@[simp] theorem raise_pending : (s.raise n p0 p1 p2).pending = s.pending := (onlyRegsInlet_raise s n p0 p1 p2).pending_eq
@[simp] theorem raise_variant : (s.raise n p0 p1 p2).variant = s.variant := (onlyRegsInlet_raise s n p0 p1 p2).variant_eq
@[simp] theorem raise_shadow : (s.raise n p0 p1 p2).shadow = s.shadow := (onlyRegsInlet_raise s n p0 p1 p2).shadow_eq
@[simp] theorem raise_upsets : (s.raise n p0 p1 p2).upsets = s.upsets := (onlyRegsInlet_raise s n p0 p1 p2).upsets_eq
@[simp] theorem raise_img : (s.raise n p0 p1 p2).img = s.img := (onlyRegsInlet_raise s n p0 p1 p2).img_eq
@[simp] theorem raise_mem : (s.raise n p0 p1 p2).mem = s.mem := (onlyRegsInlet_raise s n p0 p1 p2).mem_eq
@[simp] theorem raise_kp : (s.raise n p0 p1 p2).kp = s.kp := (onlyRegsInlet_raise s n p0 p1 p2).kp_eq
@[simp] theorem raise_bus : (s.raise n p0 p1 p2).bus = s.bus := (onlyRegsInlet_raise s n p0 p1 p2).bus_eq
@[simp] theorem raise_freeIx : (s.raise n p0 p1 p2).freeIx = s.freeIx := (onlyRegsInlet_raise s n p0 p1 p2).freeIx_eq
@[simp] theorem raise_pins : (s.raise n p0 p1 p2).pins = s.pins := (onlyRegsInlet_raise s n p0 p1 p2).pins_eq
@[simp] theorem raise_tb : (s.raise n p0 p1 p2).tb = s.tb := (onlyRegsInlet_raise s n p0 p1 p2).tb_eq
@[simp] theorem raise_vw : (s.raise n p0 p1 p2).vw = s.vw := (onlyRegsInlet_raise s n p0 p1 p2).vw_eq
@[simp] theorem raise_lanes : (s.raise n p0 p1 p2).lanes = s.lanes := (onlyRegsInlet_raise s n p0 p1 p2).lanes_eq
@[simp] theorem raise_tro : (s.raise n p0 p1 p2).tro = s.tro := (onlyRegsInlet_raise s n p0 p1 p2).tro_eq
@[simp] theorem raise_reint : (s.raise n p0 p1 p2).reint = s.reint := (onlyRegsInlet_raise s n p0 p1 p2).reint_eq
@[simp] theorem raise_prog : (s.raise n p0 p1 p2).prog = s.prog := (onlyRegsInlet_raise s n p0 p1 p2).prog_eq
@[simp] theorem raise_keep : (s.raise n p0 p1 p2).keep = s.keep := (onlyRegsInlet_raise s n p0 p1 p2).keep_eq
@[simp] theorem raise_boxes : (s.raise n p0 p1 p2).boxes = s.boxes := (onlyRegsInlet_raise s n p0 p1 p2).boxes_eq
@[simp] theorem raise_farr : (s.raise n p0 p1 p2).farr = s.farr := (onlyRegsInlet_raise s n p0 p1 p2).farr_eq
@[simp] theorem raise_field : (s.raise n p0 p1 p2).field = s.field := (onlyRegsInlet_raise s n p0 p1 p2).field_eq
@[simp] theorem raise_cams : (s.raise n p0 p1 p2).cams = s.cams := (onlyRegsInlet_raise s n p0 p1 p2).cams_eq
@[simp] theorem raise_views : (s.raise n p0 p1 p2).views = s.views := (onlyRegsInlet_raise s n p0 p1 p2).views_eq
@[simp] theorem raise_dsps : (s.raise n p0 p1 p2).dsps = s.dsps := (onlyRegsInlet_raise s n p0 p1 p2).dsps_eq
@[simp] theorem raise_watches : (s.raise n p0 p1 p2).watches = s.watches := (onlyRegsInlet_raise s n p0 p1 p2).watches_eq
@[simp] theorem raise_cans : (s.raise n p0 p1 p2).cans = s.cans := (onlyRegsInlet_raise s n p0 p1 p2).cans_eq
@[simp] theorem raise_mvb : (s.raise n p0 p1 p2).mvb = s.mvb := (onlyRegsInlet_raise s n p0 p1 p2).mvb_eq
@[simp] theorem raise_net : (s.raise n p0 p1 p2).net = s.net := (onlyRegsInlet_raise s n p0 p1 p2).net_eq
@[simp] theorem raise_dup : (s.raise n p0 p1 p2).dup = s.dup := (onlyRegsInlet_raise s n p0 p1 p2).dup_eq
@[simp] theorem raise_sec : (s.raise n p0 p1 p2).sec = s.sec := (onlyRegsInlet_raise s n p0 p1 p2).sec_eq
@[simp] theorem raise_upd : (s.raise n p0 p1 p2).upd = s.upd := (onlyRegsInlet_raise s n p0 p1 p2).upd_eq
@[simp] theorem raise_recd : (s.raise n p0 p1 p2).recd = s.recd := (onlyRegsInlet_raise s n p0 p1 p2).recd_eq
@[simp] theorem raise_gait : (s.raise n p0 p1 p2).gait = s.gait := (onlyRegsInlet_raise s n p0 p1 p2).gait_eq

@[simp] theorem error_pending (p off ini cause ev : Nat) : (s.error p off ini cause ev p0).pending = s.pending :=
  (onlyRegsInlet_error s p0 p off ini cause ev).pending_eq
@[simp] theorem error_variant (p off ini cause ev : Nat) : (s.error p off ini cause ev p0).variant = s.variant :=
  (onlyRegsInlet_error s p0 p off ini cause ev).variant_eq
@[simp] theorem error_shadow (p off ini cause ev : Nat) : (s.error p off ini cause ev p0).shadow = s.shadow :=
  (onlyRegsInlet_error s p0 p off ini cause ev).shadow_eq
@[simp] theorem error_upsets (p off ini cause ev : Nat) : (s.error p off ini cause ev p0).upsets = s.upsets :=
  (onlyRegsInlet_error s p0 p off ini cause ev).upsets_eq
@[simp] theorem error_img (p off ini cause ev : Nat) : (s.error p off ini cause ev p0).img = s.img :=
  (onlyRegsInlet_error s p0 p off ini cause ev).img_eq
@[simp] theorem error_mem (p off ini cause ev : Nat) : (s.error p off ini cause ev p0).mem = s.mem :=
  (onlyRegsInlet_error s p0 p off ini cause ev).mem_eq
@[simp] theorem error_kp (p off ini cause ev : Nat) : (s.error p off ini cause ev p0).kp = s.kp :=
  (onlyRegsInlet_error s p0 p off ini cause ev).kp_eq
@[simp] theorem error_bus (p off ini cause ev : Nat) : (s.error p off ini cause ev p0).bus = s.bus :=
  (onlyRegsInlet_error s p0 p off ini cause ev).bus_eq
@[simp] theorem error_freeIx (p off ini cause ev : Nat) : (s.error p off ini cause ev p0).freeIx = s.freeIx :=
  (onlyRegsInlet_error s p0 p off ini cause ev).freeIx_eq
@[simp] theorem error_pins (p off ini cause ev : Nat) : (s.error p off ini cause ev p0).pins = s.pins :=
  (onlyRegsInlet_error s p0 p off ini cause ev).pins_eq
@[simp] theorem error_tb (p off ini cause ev : Nat) : (s.error p off ini cause ev p0).tb = s.tb :=
  (onlyRegsInlet_error s p0 p off ini cause ev).tb_eq
@[simp] theorem error_vw (p off ini cause ev : Nat) : (s.error p off ini cause ev p0).vw = s.vw :=
  (onlyRegsInlet_error s p0 p off ini cause ev).vw_eq
@[simp] theorem error_lanes (p off ini cause ev : Nat) : (s.error p off ini cause ev p0).lanes = s.lanes :=
  (onlyRegsInlet_error s p0 p off ini cause ev).lanes_eq
@[simp] theorem error_tro (p off ini cause ev : Nat) : (s.error p off ini cause ev p0).tro = s.tro :=
  (onlyRegsInlet_error s p0 p off ini cause ev).tro_eq
@[simp] theorem error_reint (p off ini cause ev : Nat) : (s.error p off ini cause ev p0).reint = s.reint :=
  (onlyRegsInlet_error s p0 p off ini cause ev).reint_eq
@[simp] theorem error_prog (p off ini cause ev : Nat) : (s.error p off ini cause ev p0).prog = s.prog :=
  (onlyRegsInlet_error s p0 p off ini cause ev).prog_eq
@[simp] theorem error_keep (p off ini cause ev : Nat) : (s.error p off ini cause ev p0).keep = s.keep :=
  (onlyRegsInlet_error s p0 p off ini cause ev).keep_eq
@[simp] theorem error_boxes (p off ini cause ev : Nat) : (s.error p off ini cause ev p0).boxes = s.boxes :=
  (onlyRegsInlet_error s p0 p off ini cause ev).boxes_eq
@[simp] theorem error_farr (p off ini cause ev : Nat) : (s.error p off ini cause ev p0).farr = s.farr :=
  (onlyRegsInlet_error s p0 p off ini cause ev).farr_eq
@[simp] theorem error_field (p off ini cause ev : Nat) : (s.error p off ini cause ev p0).field = s.field :=
  (onlyRegsInlet_error s p0 p off ini cause ev).field_eq
@[simp] theorem error_cams (p off ini cause ev : Nat) : (s.error p off ini cause ev p0).cams = s.cams :=
  (onlyRegsInlet_error s p0 p off ini cause ev).cams_eq
@[simp] theorem error_views (p off ini cause ev : Nat) : (s.error p off ini cause ev p0).views = s.views :=
  (onlyRegsInlet_error s p0 p off ini cause ev).views_eq
@[simp] theorem error_dsps (p off ini cause ev : Nat) : (s.error p off ini cause ev p0).dsps = s.dsps :=
  (onlyRegsInlet_error s p0 p off ini cause ev).dsps_eq
@[simp] theorem error_watches (p off ini cause ev : Nat) : (s.error p off ini cause ev p0).watches = s.watches :=
  (onlyRegsInlet_error s p0 p off ini cause ev).watches_eq
@[simp] theorem error_cans (p off ini cause ev : Nat) : (s.error p off ini cause ev p0).cans = s.cans :=
  (onlyRegsInlet_error s p0 p off ini cause ev).cans_eq
@[simp] theorem error_mvb (p off ini cause ev : Nat) : (s.error p off ini cause ev p0).mvb = s.mvb :=
  (onlyRegsInlet_error s p0 p off ini cause ev).mvb_eq
@[simp] theorem error_net (p off ini cause ev : Nat) : (s.error p off ini cause ev p0).net = s.net :=
  (onlyRegsInlet_error s p0 p off ini cause ev).net_eq
@[simp] theorem error_dup (p off ini cause ev : Nat) : (s.error p off ini cause ev p0).dup = s.dup :=
  (onlyRegsInlet_error s p0 p off ini cause ev).dup_eq
@[simp] theorem error_sec (p off ini cause ev : Nat) : (s.error p off ini cause ev p0).sec = s.sec :=
  (onlyRegsInlet_error s p0 p off ini cause ev).sec_eq
@[simp] theorem error_upd (p off ini cause ev : Nat) : (s.error p off ini cause ev p0).upd = s.upd :=
  (onlyRegsInlet_error s p0 p off ini cause ev).upd_eq
@[simp] theorem error_recd (p off ini cause ev : Nat) : (s.error p off ini cause ev p0).recd = s.recd :=
  (onlyRegsInlet_error s p0 p off ini cause ev).recd_eq
@[simp] theorem error_gait (p off ini cause ev : Nat) : (s.error p off ini cause ev p0).gait = s.gait :=
  (onlyRegsInlet_error s p0 p off ini cause ev).gait_eq

@[simp] theorem accessFault_pending (i : Init) (a : Word) (cause : Nat) : (s.accessFault i a cause).pending = s.pending :=
  (onlyRegsInlet_accessFault s i a cause).pending_eq
@[simp] theorem accessFault_variant (i : Init) (a : Word) (cause : Nat) : (s.accessFault i a cause).variant = s.variant :=
  (onlyRegsInlet_accessFault s i a cause).variant_eq
@[simp] theorem accessFault_shadow (i : Init) (a : Word) (cause : Nat) : (s.accessFault i a cause).shadow = s.shadow :=
  (onlyRegsInlet_accessFault s i a cause).shadow_eq
@[simp] theorem accessFault_upsets (i : Init) (a : Word) (cause : Nat) : (s.accessFault i a cause).upsets = s.upsets :=
  (onlyRegsInlet_accessFault s i a cause).upsets_eq
@[simp] theorem accessFault_img (i : Init) (a : Word) (cause : Nat) : (s.accessFault i a cause).img = s.img :=
  (onlyRegsInlet_accessFault s i a cause).img_eq
@[simp] theorem accessFault_mem (i : Init) (a : Word) (cause : Nat) : (s.accessFault i a cause).mem = s.mem :=
  (onlyRegsInlet_accessFault s i a cause).mem_eq
@[simp] theorem accessFault_kp (i : Init) (a : Word) (cause : Nat) : (s.accessFault i a cause).kp = s.kp :=
  (onlyRegsInlet_accessFault s i a cause).kp_eq
@[simp] theorem accessFault_bus (i : Init) (a : Word) (cause : Nat) : (s.accessFault i a cause).bus = s.bus :=
  (onlyRegsInlet_accessFault s i a cause).bus_eq
@[simp] theorem accessFault_freeIx (i : Init) (a : Word) (cause : Nat) : (s.accessFault i a cause).freeIx = s.freeIx :=
  (onlyRegsInlet_accessFault s i a cause).freeIx_eq
@[simp] theorem accessFault_pins (i : Init) (a : Word) (cause : Nat) : (s.accessFault i a cause).pins = s.pins :=
  (onlyRegsInlet_accessFault s i a cause).pins_eq
@[simp] theorem accessFault_tb (i : Init) (a : Word) (cause : Nat) : (s.accessFault i a cause).tb = s.tb :=
  (onlyRegsInlet_accessFault s i a cause).tb_eq
@[simp] theorem accessFault_vw (i : Init) (a : Word) (cause : Nat) : (s.accessFault i a cause).vw = s.vw :=
  (onlyRegsInlet_accessFault s i a cause).vw_eq
@[simp] theorem accessFault_lanes (i : Init) (a : Word) (cause : Nat) : (s.accessFault i a cause).lanes = s.lanes :=
  (onlyRegsInlet_accessFault s i a cause).lanes_eq
@[simp] theorem accessFault_tro (i : Init) (a : Word) (cause : Nat) : (s.accessFault i a cause).tro = s.tro :=
  (onlyRegsInlet_accessFault s i a cause).tro_eq
@[simp] theorem accessFault_reint (i : Init) (a : Word) (cause : Nat) : (s.accessFault i a cause).reint = s.reint :=
  (onlyRegsInlet_accessFault s i a cause).reint_eq
@[simp] theorem accessFault_prog (i : Init) (a : Word) (cause : Nat) : (s.accessFault i a cause).prog = s.prog :=
  (onlyRegsInlet_accessFault s i a cause).prog_eq
@[simp] theorem accessFault_keep (i : Init) (a : Word) (cause : Nat) : (s.accessFault i a cause).keep = s.keep :=
  (onlyRegsInlet_accessFault s i a cause).keep_eq
@[simp] theorem accessFault_boxes (i : Init) (a : Word) (cause : Nat) : (s.accessFault i a cause).boxes = s.boxes :=
  (onlyRegsInlet_accessFault s i a cause).boxes_eq
@[simp] theorem accessFault_farr (i : Init) (a : Word) (cause : Nat) : (s.accessFault i a cause).farr = s.farr :=
  (onlyRegsInlet_accessFault s i a cause).farr_eq
@[simp] theorem accessFault_field (i : Init) (a : Word) (cause : Nat) : (s.accessFault i a cause).field = s.field :=
  (onlyRegsInlet_accessFault s i a cause).field_eq
@[simp] theorem accessFault_cams (i : Init) (a : Word) (cause : Nat) : (s.accessFault i a cause).cams = s.cams :=
  (onlyRegsInlet_accessFault s i a cause).cams_eq
@[simp] theorem accessFault_views (i : Init) (a : Word) (cause : Nat) : (s.accessFault i a cause).views = s.views :=
  (onlyRegsInlet_accessFault s i a cause).views_eq
@[simp] theorem accessFault_dsps (i : Init) (a : Word) (cause : Nat) : (s.accessFault i a cause).dsps = s.dsps :=
  (onlyRegsInlet_accessFault s i a cause).dsps_eq
@[simp] theorem accessFault_watches (i : Init) (a : Word) (cause : Nat) : (s.accessFault i a cause).watches = s.watches :=
  (onlyRegsInlet_accessFault s i a cause).watches_eq
@[simp] theorem accessFault_cans (i : Init) (a : Word) (cause : Nat) : (s.accessFault i a cause).cans = s.cans :=
  (onlyRegsInlet_accessFault s i a cause).cans_eq
@[simp] theorem accessFault_mvb (i : Init) (a : Word) (cause : Nat) : (s.accessFault i a cause).mvb = s.mvb :=
  (onlyRegsInlet_accessFault s i a cause).mvb_eq
@[simp] theorem accessFault_net (i : Init) (a : Word) (cause : Nat) : (s.accessFault i a cause).net = s.net :=
  (onlyRegsInlet_accessFault s i a cause).net_eq
@[simp] theorem accessFault_dup (i : Init) (a : Word) (cause : Nat) : (s.accessFault i a cause).dup = s.dup :=
  (onlyRegsInlet_accessFault s i a cause).dup_eq
@[simp] theorem accessFault_sec (i : Init) (a : Word) (cause : Nat) : (s.accessFault i a cause).sec = s.sec :=
  (onlyRegsInlet_accessFault s i a cause).sec_eq
@[simp] theorem accessFault_upd (i : Init) (a : Word) (cause : Nat) : (s.accessFault i a cause).upd = s.upd :=
  (onlyRegsInlet_accessFault s i a cause).upd_eq
@[simp] theorem accessFault_recd (i : Init) (a : Word) (cause : Nat) : (s.accessFault i a cause).recd = s.recd :=
  (onlyRegsInlet_accessFault s i a cause).recd_eq
@[simp] theorem accessFault_gait (i : Init) (a : Word) (cause : Nat) : (s.accessFault i a cause).gait = s.gait :=
  (onlyRegsInlet_accessFault s i a cause).gait_eq

/-! ### Registers that an event leaves as they were -/

theorem key_pendBank (k : Nat) (h : keyPage k ≠ 0x02) (hn : n < 256) (hb : bk < 5) : (s.pendBank n bk on).key k = s.key k := by
  unfold State.pendBank; split
  · rw [key_wrBit, if_neg]
    intro e; apply h; rw [← e]; exact rk_page _ _ (by omega)
  · rfl

theorem key_countEvent (k : Nat) (h : keyPage k ≠ 0x02) (hn : n < 256) : (s.countEvent n).key k = s.key k := by
  have h1 : tk 0x02 (0x200 + n) ≠ k := fun e => h (by rw [← e]; exact tk_page _ _ (by omega))
  have h2 : tk 0x02 (0x100 + n) ≠ k := fun e => h (by rw [← e]; exact tk_page _ _ (by omega))
  rw [State.countEvent, key_setTab, if_neg h1]; split
  · rfl
  · rw [key_setTab, if_neg h2]

theorem key_enterInlet (i : Inlet) (k : Nat) (h : keyPage k ≠ 0x02) : (s.enterInlet i).key k = s.key k := by
  unfold State.enterInlet; split
  · rfl
  · rw [State.sat16, key_wrFld, if_neg]
    intro e; apply h; rw [← e]; exact rk_page _ _ (by omega)

/-- The router changes registers of its own page only. -/
theorem key_route (k : Nat) (h : keyPage k ≠ 0x02) (hn : n < 256) : (s.route n p0 p1 p2).key k = s.key k := by
  obtain ⟨b0, b1, b2, b3, b4, b5, i, r, e⟩ := route_steps s n p0 p1 p2
  rw [e]
  have h0 : ((((((s.countEvent n).pendBank n 0 b0).pendBank n 1 b1).pendBank n 2 b2).pendBank n 3 b3).pendBank n 4 b4).key k = s.key k := by
    rw [key_pendBank _ _ _ _ _ h hn (by omega), key_pendBank _ _ _ _ _ h hn (by omega), key_pendBank _ _ _ _ _ h hn (by omega),
      key_pendBank _ _ _ _ _ h hn (by omega), key_pendBank _ _ _ _ _ h hn (by omega), key_countEvent _ _ _ h hn]
  rw [← h0]
  generalize ((((((s.countEvent n).pendBank n 0 b0).pendBank n 1 b1).pendBank n 2 b2).pendBank n 3 b3).pendBank n 4 b4) = u
  have hw : ∀ u : State, (u.wrBit 0x02 (0x60 + 4 * (n / 32)) (n % 32) true).key k = u.key k := by
    intro u; rw [key_wrBit, if_neg]
    intro e; apply h; rw [← e]; exact rk_page _ _ (by omega)
  cases b5 <;> cases r
  · rfl
  · exact key_enterInlet u i k h
  · exact hw u
  · exact (key_enterInlet _ i k h).trans (hw u)

/-- Raising an event changes no register but its bit in its unit's EVT_PEND and the router's own page. -/
theorem key_occur (k : Nat) (h : keyPage k ≠ 0x02) (hk : ∀ p, k ≠ rk p 0x18) : (s.occur n p0 p1 p2).key k = s.key k := by
  unfold State.occur; split
  · rfl
  · rename_i hr
    have hn : n < 256 := by
      simp only [evReserved, Bool.or_eq_true, decide_eq_true_eq, not_or] at hr; omega
    split
    · exact key_route s n p0 p1 p2 k h hn
    · rename_i pg b _
      have hb : ∀ u : State, (u.wrBit pg 0x18 b true).key k = u.key k := by
        intro u; rw [key_wrBit, if_neg (fun e => hk pg e.symm)]
      unfold State.raiseAt; split
      · rfl
      · split
        · rw [key_route _ _ _ _ _ _ h hn, hb]
        · exact hb s
theorem key_raise (k : Nat) (h : keyPage k ≠ 0x02) (hk : ∀ p, k ≠ rk p 0x18) : (s.raise n p0 p1 p2).key k = s.key k := key_occur s n _ _ _ k h hk

theorem rd_raise (p o : Nat) (hp : p ≠ 0x02) (ho : o ≠ 0x18) (hl : o < 0x20000) : (s.raise n p0 p1 p2).rd p o = s.rd p o := by
  rw [State.rd, key_raise _ _ _ _ _ _ (by rw [rk_page _ _ hl]; exact hp) (fun q e => by unfold rk at e; omega), State.rd]
theorem tab_raise (p i : Nat) (hp : p ≠ 0x02) (hl : i < 0x10000) : (s.raise n p0 p1 p2).tab p i = s.tab p i := by
  rw [State.tab, key_raise _ _ _ _ _ _ (by rw [tk_page _ _ hl]; exact hp) (fun q e => by unfold tk rk at e; omega), State.tab]
theorem rf_raise (p o lo w : Nat) (hp : p ≠ 0x02) (ho : o ≠ 0x18) (hl : o < 0x20000) :
    (s.raise n p0 p1 p2).rf p o lo w = s.rf p o lo w := by rw [State.rf, rd_raise _ _ _ _ _ _ _ hp ho hl, State.rf]
theorem rb_raise (p o i : Nat) (hp : p ≠ 0x02) (ho : o ≠ 0x18) (hl : o < 0x20000) :
    (s.raise n p0 p1 p2).rb p o i = s.rb p o i := by rw [State.rb, rd_raise _ _ _ _ _ _ _ hp ho hl, State.rb]

/-- An error changes, beside what its event changes, ERRINFO of its page. -/
theorem rd_error (p off ini cause ev q o : Nat) (hq : q ≠ 0x02) (ho : o ≠ 0x18) (hl : o < 0x20000) :
    (s.error p off ini cause ev p0).rd q o =
      if rk p 0x38 = rk q o then errWord off ini cause (s.rf p 0x38 24 8 + 1) else s.rd q o := by
  rw [State.error]
  rw [rd_raise _ _ _ _ _ _ _ hq ho hl, rd_wr]

/-! ### The canonical form -/

theorem canon_of_regs {s t : State} (h : OnlyRegsInlet s t) (hs : canon s = true) (hr : stWf resetWord t.regs = true) : canon t = true := by
  rw [canon_iff] at hs ⊢
  exact ⟨h.mem_eq ▸ hs.1, hr, h.img_eq ▸ hs.2.2⟩

theorem canon_pendBank (h : canon s = true) : canon (s.pendBank n bk on) = true := by
  unfold State.pendBank; split
  · exact canon_wrBit _ _ _ _ _ h
  · exact h
theorem canon_enterInlet (i : Inlet) (h : canon s = true) : canon (s.enterInlet i) = true := by
  unfold State.enterInlet; split
  · exact h
  · exact canon_wrFld _ _ _ _ _ _ h
theorem canon_countEvent (h : canon s = true) : canon (s.countEvent n) = true := by
  unfold State.countEvent; refine canon_setTab _ _ _ _ ?_; split
  · exact h
  · exact canon_setTab _ _ _ _ h
theorem canon_route (h : canon s = true) : canon (s.route n p0 p1 p2) = true := by
  obtain ⟨b0, b1, b2, b3, b4, b5, i, r, e⟩ := route_steps s n p0 p1 p2
  rw [e]
  have h0 := canon_pendBank _ n 4 b4 (canon_pendBank _ n 3 b3 (canon_pendBank _ n 2 b2 (canon_pendBank _ n 1 b1
    (canon_pendBank _ n 0 b0 (canon_countEvent s n h)))))
  generalize ((((((s.countEvent n).pendBank n 0 b0).pendBank n 1 b1).pendBank n 2 b2).pendBank n 3 b3).pendBank n 4 b4) = u at h0
  cases b5 <;> cases r
  · exact h0
  · exact canon_enterInlet u i h0
  · exact canon_wrBit _ _ _ _ _ h0
  · exact canon_enterInlet _ i (canon_wrBit _ _ _ _ _ h0)
theorem canon_occur (h : canon s = true) : canon (s.occur n p0 p1 p2) = true := by
  unfold State.occur; split
  · exact h
  · split
    · exact canon_route _ _ _ _ _ h
    · unfold State.raiseAt; split
      · exact h
      · split
        · exact canon_route _ _ _ _ _ (canon_wrBit _ _ _ _ _ h)
        · exact canon_wrBit _ _ _ _ _ h
theorem canon_raise (h : canon s = true) : canon (s.raise n p0 p1 p2) = true := canon_occur s n _ _ _ h
theorem canon_error (p off ini cause ev : Nat) (h : canon s = true) : canon (s.error p off ini cause ev p0) = true := by
  rw [State.error]; exact canon_raise _ _ _ _ _ (canon_wr _ _ _ _ h)
theorem canon_accessFault (i : Init) (a : Word) (cause : Nat) (h : canon s = true) : canon (s.accessFault i a cause) = true := by
  rw [State.accessFault]; exact canon_error _ _ _ _ _ _ _ h

/-! ### The inlet queue -/

theorem inlet_wr (p o : Nat) (v : Word) : (s.wr p o v).inlet = s.inlet := wr_inlet s p o v
theorem inlet_enterInlet (i : Inlet) : (s.enterInlet i).inlet = if s.inlet.length < 256 then s.inlet ++ [i] else s.inlet := by
  unfold State.enterInlet; split <;> simp
theorem inlet_pendBank : (s.pendBank n bk on).inlet = s.inlet := by unfold State.pendBank; split <;> simp
theorem inlet_countEvent : (s.countEvent n).inlet = s.inlet := by unfold State.countEvent; split <;> simp

/-- The inlet queue after the router: one entry more where the route word has REC and there is room. -/
theorem inlet_route : (s.route n p0 p1 p2).inlet = if bit (s.routeWord n) 6 then
    (if s.inlet.length < 256 then s.inlet ++ [⟨n, fld (s.routeWord n) 8 3, s.ns, s.epoch, p0, p1, p2, s.rb 0x05 0x7C 0, s.wallSeconds s.tb.count⟩] else s.inlet) else s.inlet := by
  rw [State.route]
  split
  · rw [inlet_enterInlet]
    have hf : ∀ u : State, (if bit (s.routeWord n) 0 = true then u.wrBit 0x02 (0x60 + 4 * (n / 32)) (n % 32) true else u).inlet = u.inlet := by
      intro u; split <;> simp
    simp only [hf, inlet_pendBank, inlet_countEvent]
  · split
    · rw [wrBit_inlet]; simp only [inlet_pendBank, inlet_countEvent]
    · simp only [inlet_pendBank, inlet_countEvent]

/-- The inlet queue never passes 256 entries (R61). -/
theorem inlet_occur_bounded (h : s.inlet.length ≤ 256) : (s.occur n p0 p1 p2).inlet.length ≤ 256 := by
  have hr : ∀ u : State, u.inlet.length ≤ 256 → (u.route n p0 p1 p2).inlet.length ≤ 256 := by
    intro u hu; rw [inlet_route]
    split
    · split
      · rename_i h; simp only [List.length_append, List.length_cons, List.length_nil]; omega
      · exact hu
    · exact hu
  unfold State.occur; split
  · exact h
  · split
    · exact hr s h
    · unfold State.raiseAt; split
      · exact h
      · split
        · exact hr _ (by rw [wrBit_inlet]; exact h)
        · rw [wrBit_inlet]; exact h
theorem inlet_raise_bounded (h : s.inlet.length ≤ 256) : (s.raise n p0 p1 p2).inlet.length ≤ 256 := inlet_occur_bounded s n _ _ _ h

end Sys2Proof.Machine
end

