-- ==== Sys2Proof/Laws/Bus.lean ====
section
/-! SUPPORT. Laws of register accesses (R71 to R76): where an address lies, and what an access that passes does. -/

namespace Sys2Proof.Machine

variable (s : State) (i : Init) (p off : Nat) (a v : Word)

theorem addrOf_toNat (hp : p < 0x80) (ho : off < 0x1000) : (addrOf p off).toNat = 0x4000_0000 + 0x1000 * p + off := by
  unfold addrOf w32
  rw [if_neg (by omega), BitVec.toNat_ofNat]; omega

theorem isRegSpace_addrOf (hp : p < 0x80) (ho : off < 0x1000) : isRegSpace (addrOf p off) = true := by
  unfold isRegSpace; rw [addrOf_toNat p off hp ho]; simp; omega

theorem offOf_addrOf (hp : p < 0x80) (ho : off < 0x1000) : offOf (addrOf p off) = off := by
  unfold offOf; rw [addrOf_toNat p off hp ho]; omega

theorem pageOf_eq (q : Nat) (h : (a.toNat - 0x4000_0000) / 0x1000 = q) : pageOf i a = if q = 0x01 then mboxPage i else q := by
  subst h; rfl

theorem rawPage_addrOf (hp : p < 0x80) (ho : off < 0x1000) : ((addrOf p off).toNat - 0x4000_0000) / 0x1000 = p := by
  have e := addrOf_toNat p off hp ho
  generalize (addrOf p off).toNat = n at *
  omega

theorem pageOf_addrOf (hp : p < 0x80) (ho : off < 0x1000) : pageOf i (addrOf p off) = if p = 0x01 then mboxPage i else p :=
  pageOf_eq i _ p (rawPage_addrOf p off hp ho)

/-! ### What an access meets hangs on registers, pins, what is kept without power and the variant alone -/

theorem pageHeld_congr {s t : State} (h : t.keep = s.keep) (p : Nat) : t.pageHeld p = s.pageHeld p := by
  have e : t.blockBad = s.blockBad := by
    funext b; simp only [State.blockBad, h]
  unfold State.pageHeld; rw [e]
theorem gaitNow_congr {s t : State} (h : t.regs = s.regs) : t.gaitNow = s.gaitNow := by
  simp only [State.gaitNow, State.rf, rd_congr h]
theorem laneState_congr {s t : State} (h : t.regs = s.regs) (l : Nat) : t.laneState l = s.laneState l := by
  simp only [State.laneState, State.rf, rd_congr h]
theorem granted_congr {s t : State} (h : t.regs = s.regs) (i : Init) (p : Nat) (w : Bool) : t.granted i p w = s.granted i p w := by
  simp only [State.granted, tab_congr h]
theorem planeStopped_congr {s t : State} (h : t.regs = s.regs) (hp : t.pins = s.pins) (p : Nat) : t.planeStopped p = s.planeStopped p := by
  simp only [State.planeStopped, State.dataPlaneUp, gaitNow_congr h, hp]
theorem laneReaches_congr {s t : State} (h : t.regs = s.regs) (l p o : Nat) : t.laneReaches l p o = s.laneReaches l p o := by
  simp only [State.laneReaches, laneState_congr h]

theorem gate_congr {s t : State} (h : t.regs = s.regs) (hp : t.pins = s.pins) (hv : t.variant = s.variant) (hk : t.keep = s.keep)
    (i : Init) (a : Word) (n : Nat) (w at_ : Bool) : t.gate i a n w at_ = s.gate i a n w at_ := by
  simp only [State.gate, hv, pageHeld_congr hk, granted_congr h, planeStopped_congr h hp, laneReaches_congr h]

theorem gate_bus (b : BusAnswer) (n : Nat) (w at_ : Bool) : ({ s with bus := b }).gate i a n w at_ = s.gate i a n w at_ :=
  gate_congr (s := s) (t := { s with bus := b }) rfl rfl rfl rfl i a n w at_

/-- A word write of an initiator that is no lane, where nothing stops it and no bus error comes back. -/
theorem initWrite_pass (hi : isLane i = false) (ha : isRegSpace a = true) (hg : s.gate i a 4 true false = .pass)
    (t : State) (ht : ({ s with bus := {} }).writeWord i (pageOf i a) (offOf a / 4 * 4) a v = t) (hb : t.bus.err = false) :
    s.initWrite i a 4 [v] false = ({ t with bus := {} }).reintFollow := by
  have hw : ({ s with bus := {} } : State).writePart i a 4 v false = t := by
    unfold State.writePart
    rw [gate_bus, hg]
    simp only [State.windowWord, Nat.le_refl, if_true, ht, hb, Bool.false_and]
    rfl
  have e : s.initWrite i a 4 [v] false = (s.busWrite i a 4 [v] false).reintFollow := by
    cases i <;> first | rfl | cases hi
  rw [e]
  congr 1
  unfold State.busWrite
  have hs : accessSize 4 = true := by decide
  have hq : wideUnaligned a 4 = false := by simp [wideUnaligned]
  simp only [ha, hs, hq, accessParts, Bool.not_true, Bool.or_false, Bool.false_eq_true, if_false, Nat.le_refl, if_true,
    List.zipIdx_cons, List.zipIdx_nil, List.foldl_cons, List.foldl_nil, List.getD_cons_zero, hw, hb]

/-- A word read of an initiator that is no lane, where nothing stops it. -/
theorem initRead_pass (hi : isLane i = false) (ha : isRegSpace a = true) (hg : s.gate i a 4 false false = .pass) :
    s.initRead i a 4 =
      { (({ s with bus := {} }).readWord i (pageOf i a) (offOf a / 4 * 4)).1 with
        bus := { data := (({ s with bus := {} }).readWord i (pageOf i a) (offOf a / 4 * 4)).2, err := false } } := by
  have hr : ({ s with bus := {} } : State).readPart i a 4 false =
      (({ s with bus := {} } : State).readWord i (pageOf i a) (offOf a / 4 * 4)).1.busData
        (({ s with bus := {} } : State).readWord i (pageOf i a) (offOf a / 4 * 4)).2 := by
    unfold State.readPart
    rw [gate_bus, hg]
    rfl
  have e : s.initRead i a 4 = s.busRead i a 4 false := by
    unfold State.initRead State.laneLoadFault
    rw [hi]; simp only [Bool.false_and, Bool.false_eq_true, if_false]
    cases i <;> first | rfl | cases hi
  rw [e]
  unfold State.busRead
  have hs : accessSize 4 = true := by decide
  have hq : wideUnaligned a 4 = false := by simp [wideUnaligned]
  simp only [ha, hs, hq, accessParts, Bool.not_true, Bool.or_false, Bool.false_eq_true, if_false, Nat.le_refl, if_true,
    List.foldl_cons, List.foldl_nil, hr, State.busData, List.nil_append, List.headD_cons, List.tail_cons]

end Sys2Proof.Machine
end

