-- ==== Sys2Proof/Laws/Lanes.lean ====
section
/-! SUPPORT. Laws of lane states: the failure of a lane that does not vote, and what the reintegration follows. -/

namespace Sys2Proof.Machine

variable (s : State) (l : Nat)

theorem rk_ne (p o p' o' : Nat) (ho : o < 0x20000) (ho' : o' < 0x20000) (h : ¬(p = p' ∧ o = o')) : rk p o ≠ rk p' o' := by
  unfold rk; omega

theorem laneState_wr (p o : Nat) (v : Word) (h : rk p o ≠ rk 0x06 (laneOff l 4)) : (s.wr p o v).laneState l = s.laneState l := by
  simp only [State.laneState, State.rf, rd_wr_ne _ _ _ _ _ _ h]

theorem laneState_wrFld_self (lo n x : Nat) (h : 3 ≤ lo) (h2 : lo + n ≤ 32) :
    (s.wrFld 0x06 (laneOff l 4) lo n x).laneState l = s.laneState l := by
  rw [State.laneState, State.rf, rd_wrFld_self, fld_setFld_ne _ _ _ _ _ _ h2 (by omega)]; rfl

/-- What a lane holds once it has failed with a cause. -/
def failedLane (c : Nat) (x : Lane) : Lane :=
  { x with closed := [], splitPend := false, winCyc := 0, autoDue := (c = 1 || c = 3 || c = 8) && !x.hashBan }

/-- A lane that does not vote fails: only its register set, its events and what it holds change. -/
theorem failLane_idle (c : Nat) (hl : l < 4) (hv : s.voting l = false) :
    ∃ u : State, OnlyRegsInlet (s.modLane l (failedLane c)) (s.failLane l c) ∧
      (s.failLane l c) = (u.wrFld 0x06 (laneOff l 4) 0 3 6).raise (laneEv l 5) (w32 c) 0 0 ∧
      ∀ k, keyPage k ≠ 0x06 → u.key k = s.key k := by
  let u1 := s.wrFld 0x06 (laneOff l 4) 16 4 c
  let u2 := u1.wr 0x06 (laneOff l 0x20) (u1.rd 0x06 (laneOff l 0x0C))
  let u3 := u2.sat16 0x06 (laneOff l 0x24)
  let u4 := u3.modLane l (failedLane c)
  let u5 := u4.wrBit 0x06 (laneOff l 0) 0 false
  have ne : ∀ o, o ≠ 4 → rk 0x06 (laneOff l o) ≠ rk 0x06 (laneOff l 4) := by intro o ho; unfold rk laneOff; omega
  have h5 : u5.laneState l = s.laneState l := by
    show (u4.wrBit 0x06 (laneOff l 0) 0 false).laneState l = _
    rw [State.wrBit, laneState_wr _ _ _ _ _ (ne 0 (by omega))]
    show (u3.modLane l (failedLane c)).laneState l = _
    rw [laneState_congr (modLane_regs u3 l (failedLane c))]
    show (u2.sat16 0x06 (laneOff l 0x24)).laneState l = _
    rw [State.sat16, State.wrFld, laneState_wr _ _ _ _ _ (ne 0x24 (by omega))]
    show (u1.wr 0x06 (laneOff l 0x20) _).laneState l = _
    rw [laneState_wr _ _ _ _ _ (ne 0x20 (by omega))]
    exact laneState_wrFld_self s l 16 4 c (by omega) (by omega)
  have hv5 : u5.voting l = false := by rw [State.voting, h5]; exact hv
  have hset : u5.setLane l 6 = u5.wrFld 0x06 (laneOff l 4) 0 3 6 := by
    unfold State.setLane; simp only [hv5, Bool.false_and, Bool.false_eq_true, if_false, Nat.reduceEqDiff]
  have e : s.failLane l c = (u5.setLane l 6).raise (laneEv l 5) (w32 c) 0 0 := rfl
  refine ⟨u5, ?_, ?_, ?_⟩
  · rw [e, hset]
    have a : OnlyRegsInlet s u3 := (onlyRegsInlet_wrFld s _ _ _ _ _).trans' ((onlyRegsInlet_wr u1 _ _ _).trans' (onlyRegsInlet_wrFld u2 _ _ _ _ _))
    have b : OnlyRegsInlet (s.modLane l (failedLane c)) u4 := by
      have a3 := a.lanes_eq
      unfold OnlyRegsInlet at a ⊢
      show u3.modLane l (failedLane c) = _
      rw [a]; rfl
    exact b.trans' ((onlyRegsInlet_wrBit u4 _ _ _ _).trans' ((onlyRegsInlet_wrFld u5 _ _ _ _ _).trans' (onlyRegsInlet_raise _ _ _ _ _)))
  · rw [e, hset]
  · intro k hk
    have w : ∀ (x : State) (o : Nat) (v : Word), laneOff l o < 0x20000 → (x.wr 0x06 (laneOff l o) v).key k = x.key k := by
      intro x o v ho; rw [key_wr, if_neg]; intro e; apply hk; rw [← e]; exact rk_page _ _ ho
    have lt : ∀ o, o ≤ 0x28 → laneOff l o < 0x20000 := by intro o ho; unfold laneOff; omega
    show (u4.wrBit 0x06 (laneOff l 0) 0 false).key k = _
    rw [State.wrBit, w _ _ _ (lt _ (by omega))]
    show (u3.modLane l (failedLane c)).key k = _
    rw [key_congr (modLane_regs u3 l (failedLane c))]
    show (u2.sat16 0x06 (laneOff l 0x24)).key k = _
    rw [State.sat16, State.wrFld, w _ _ _ (lt _ (by omega))]
    show (u1.wr 0x06 (laneOff l 0x20) _).key k = _
    rw [w _ _ _ (lt _ (by omega))]
    show (s.wrFld 0x06 (laneOff l 4) 16 4 c).key k = _
    rw [State.wrFld, w _ _ _ (lt _ (by omega))]

/-- The registers of every page but LANE and the router's outlive the failure of a lane that does not vote. -/
theorem key_failLane_idle (c : Nat) (hl : l < 4) (hv : s.voting l = false) (k : Nat) (h2 : keyPage k ≠ 0x02) (h6 : keyPage k ≠ 0x06)
    (hk : ∀ p, k ≠ rk p 0x18) : (s.failLane l c).key k = s.key k := by
  obtain ⟨u, _, e, hu⟩ := failLane_idle s l c hl hv
  rw [e, key_raise _ _ _ _ _ _ h2 hk, key_wrFld, if_neg, hu k h6]
  intro e; apply h6; rw [← e]; exact rk_page _ _ (by unfold laneOff; omega)

theorem State.reint_with_regs (s : State) (x : Reint) : ({ s with reint := x } : State).regs = s.regs := rfl

theorem reintTarget_lt : s.reintTarget < 4 := fld_lt _ _ _

/-- What follows a change of lane states changes registers of the LANE and VOTE pages and of the router, events, the lanes
and the reintegration at most. -/
theorem key_reintFollow (k : Nat) (h2 : keyPage k ≠ 0x02) (h6 : keyPage k ≠ 0x06) (h7 : keyPage k ≠ 0x07)
    (hk : ∀ p, k ≠ rk p 0x18) : s.reintFollow.key k = s.key k := by
  have w : ∀ (x : State) (lo n v : Nat), (x.wrFld 0x07 0x60 lo n v).key k = x.key k := by
    intro x lo n v; rw [key_wrFld, if_neg]; intro e; apply h7; rw [← e]; exact rk_page _ _ (by omega)
  have f : ∀ (x : State) (r : Nat), (x.reintFail r).key k = x.key k := by
    intro x r; unfold State.reintFail; rw [w, w]
  unfold State.reintFollow
  simp only
  split
  · exact f _ _
  · split
    · split
      · exact f _ _
      · rename_i h3
        split
        · rfl
        · split
          · rw [key_congr (State.reint_with_regs _ _), w, w]
          · have : s.voting s.reintTarget = false := by
              simp only [State.voting, decide_eq_false_iff_not]
              intro e; exact h3 (by rw [e]; decide)
            rw [f, key_failLane_idle _ _ _ (reintTarget_lt s) this k h2 h6 hk]
    · rfl

/-- Beside lanes, registers, events and the reintegration, everything is as it was. -/
theorem reintFollow_rest : ∃ r q ls x, s.reintFollow = { s with regs := r, inlet := q, lanes := ls, reint := x } := by
  have fl : ∀ (u : State) (r : Nat), ∃ rg, u.reintFail r = { u with regs := rg } := fun u r => ⟨_, rfl⟩
  unfold State.reintFollow
  simp only
  split
  · exact ⟨_, _, _, _, rfl⟩
  · split
    · split
      · exact ⟨_, _, _, _, rfl⟩
      · rename_i h3
        split
        · exact ⟨_, _, _, _, rfl⟩
        · split
          · exact ⟨_, _, _, _, rfl⟩
          · have hv : s.voting s.reintTarget = false := by
              simp only [State.voting, decide_eq_false_iff_not]
              intro e; exact h3 (by rw [e]; decide)
            obtain ⟨u, ho, _, _⟩ := failLane_idle s s.reintTarget 7 (reintTarget_lt s) hv
            unfold OnlyRegsInlet at ho
            obtain ⟨rg, e⟩ := fl (s.failLane s.reintTarget 7) 7
            rw [e, ho]
            exact ⟨_, _, _, _, rfl⟩
    · exact ⟨_, _, _, _, rfl⟩

end Sys2Proof.Machine
end

