-- ==== Sys2Proof/Tests/Slice0.lean ====
section
/-! SUPPORT. Tests: commands that WellFormed refuses, the manual's worked examples, and for every statement with hypotheses a
state and operands that meet them. -/

namespace Sys2Proof.Tests
open Sys2Proof Sys2Proof.Machine

/-- `s` with registers set: page, offset, value. -/
def put (l : List (Nat × Nat × Nat)) (s : State) : State := l.foldl (fun t x => t.wr x.1 x.2.1 (w32 x.2.2)) s
/-- `s` with table words set: page, index, value. -/
def tput (l : List (Nat × Nat × Nat)) (s : State) : State := l.foldl (fun t x => t.setTab x.1 x.2.1 (w32 x.2.2)) s
/-- A module that has booted and stands still, in GALLOP and STOP. -/
def live : State := put [(0x00, 0x50, 0xF)] { State.reset with pins := { State.reset.pins with running := true, holdup := true, moving := false } }
/-- Mailbox instance `n` holds a command, the next in doorbell order. -/
def asked (n code len : Nat) (args : List Nat) (s : State) : State :=
  put [(boxPage n, 0x80, 1)]
    ({ s with bells := [n] }.modBox n (fun b => { b with cmd := w32 (code + 0x1_0000 * len), args := args.map w32 }))
/-- The three lanes VOTING. -/
def voters (s : State) : State := put [(0x06, 0x84, 3), (0x06, 0xC4, 3), (0x06, 0x104, 3)] s

/-- The state that a command answers. -/
def after (c : Instr) (s : State) : State := match exec c s with | .next t => t | _ => s

/-! ### WellFormed refuses: one term or more for each check -/

def canBad (id : Nat) (ide : Bool) (dlc : Nat) (d : List Byte) : CanFrame := ⟨id, ide, false, false, false, false, dlc, d⟩
def ethBad (src dst ty : Nat) (pcp : Option Nat) (len : Nat) : EthFrame := ⟨src, dst, ty, pcp, len, [], .none, .l2, 2, 0, 0, 0, true⟩
def xBad (n : Nat) : XFrame := ⟨List.replicate n 0⟩
def repBad (n : Nat) : Report := ⟨List.replicate n 0⟩
def isoBad (bytes currents : Nat) : IsoFrame := ⟨true, List.replicate bytes 0, 0, 0, 0, 24_000, List.replicate currents 0⟩
def retBad (wb : WbKind) (reg : Nat) (op : BusOp) (csr : Option CsrOp) (fflags : Nat) : Retire :=
  ⟨0, 0, 0, .base, wb, reg, 0, op, csr, fflags, none, false, .clean, .clean, 0, false⟩

/-- Addresses outside register space or not aligned, sizes, words and pages that no access has. -/
theorem test_illformed_accesses : ∀ c ∈ [Instr.generalRegisterWrite .mgmt 0x4100_0000 4 [0] false,
    .generalRegisterWrite .mgmt 0x3FFF_FFFC 4 [0] false, .generalRegisterWrite .mgmt 0x4000_0040 3 [0] false,
    .generalRegisterWrite .mgmt 0x4000_0040 8 [0] false, .kpValueWrite .mgmt 0x4000_0041 0, .abWrite .mgmt 0x4000_0042 0,
    .wmRegisterWrite .mgmt 0 0, .votedWriteArrival 0 0 0, .bridleRetry .mgmt 0 none, .bridleTimeout .mgmt 0 true, .keypairExpiry 0x82,
    .t3ScrubVisit 0x10_4000_0 ⟨0, 0, 0, false, false, false⟩, .boundaryApply 0x82 0, .boundaryApply 0 8,
    .mboxCommandComplete 0 0 (List.replicate 15 0), .pcieInboundAccess .barSram 0 5 none,
    .pcieInboundAccess .barSram 0 32 (some (List.replicate 9 0))],
    c.wellFormed = false := by decide

/-- Operands of the time base, the lanes, boot and the vision path out of their bounds. -/
theorem test_illformed_units : ∀ c ∈ [Instr.bootPhaseOverrun 0, .bootPhaseOverrun 8, .tbMeasurement 0 0 0, .refSourceTimeout ⟨0, none⟩,
    .reintCopyPassDone [0x400], .reintCopyPassDone [1, 1], .laneInstruction 0 (retBad .x 32 .none none 0),
    .laneInstruction 0 (retBad .none 0 .none (some ⟨0x1000, .write, none, 0⟩) 0),
    .laneInstruction 0 (retBad .none 0 .none (some ⟨0, .write, none, 32⟩) 0), .laneInstruction 0 (retBad .none 0 .none none 32),
    .laneInstruction 0 (retBad .none 0 (.load 0 3 false) none 0), .laneInstruction 0 (retBad .none 0 (.store 0 8 0) none 0),
    .laneSramScrub 0 0x10_0000 .clean, .isoLinkFrame (isoBad 15 24), .isoLinkFrame (isoBad 16 23),
    .camPacket 0 4 0 .clean true [], .camPacket 0 0 64 .clean true [], .camLineArrival 0 0x1000 [] true 0, .camLineArrival 0 0 [0x1000] true 0,
    .i2cDone 0 true true [0, 0, 0, 0, 0]], c.wellFormed = false := by decide

/-- Frames, reports and links out of their bounds. -/
theorem test_illformed_frames : ∀ c ∈ [Instr.displayReportReceived 0 (repBad 63), .displayReportReceived 0 (repBad 65),
    .canFrameReceived 0 (canBad 0x800 false 0 []) 0, .canFrameReceived 0 (canBad (2 ^ 29) true 0 []) 0, .canFrameReceived 0 (canBad 0 false 16 []) 0,
    .canReferenceReceived 0 (canBad 0 false 0 (List.replicate 9 0)) 0 0, .mvbFrameReceived (.master 0x1000 0 false) .bad,
    .mvbFrameReceived .bad (.master 0 16 false), .mvbFrameReceived (.slave (List.replicate 33 0)) .bad, .mvbPollMiss 0x400,
    .ethFrameReceived 0 (ethBad (2 ^ 48) 0 0 none 64) 0, .ethFrameReceived 0 (ethBad 0 (2 ^ 48) 0 none 64) 0,
    .ethFrameReceived 0 (ethBad 0 0 0x1_0000 none 64) 0, .ethFrameReceived 0 (ethBad 0 0 0 (some 8) 64) 0,
    .ethFrameReceived 0 { ethBad 0 0 0 none 0 with payload := [1] } 0, .ethLink 0 true 4, .ethAddressAgeing (2 ^ 48),
    .dmaDescriptorDone 0 [] [] 0, .dmaDescriptorDone 0 (List.replicate 8 0) [] 16, .pcieLinkUp 0 1, .pcieLinkUp 5 1, .pcieLinkUp 1 3,
    .xlinkFrameReceived (xBad 35), .ethHeartbeatReceived (xBad 35)], c.wellFormed = false := by decide

/-- A Selcy frame with one byte more than an image of 8,192 words. -/
theorem test_illformed_image : (Instr.xlinkFrameReceived (xBad (37 + 8 * 8192))).wellFormed = false := by
  simp only [Instr.wellFormed, XFrame.wellFormed, xBad, List.length_replicate]; decide

/-- The same rows with operands in their bounds. -/
theorem test_wellformed : ∀ c ∈ [Instr.generalRegisterWrite .mgmt 0x40FF_FFFC 4 [0] false, .kpValueWrite .mgmt 0x4000_0040 0,
    .keypairExpiry 0x81, .boundaryApply 0x81 7, .mboxCommandComplete 0 0 (List.replicate 14 0), .bootPhaseOverrun 7, .tbMeasurement 4 0 0,
    .reintCopyPassDone [0x3FF, 0], .laneInstruction 0 (retBad .f 31 (.store 0 4 0) (some ⟨0xFFF, .write, none, 31⟩) 31), .laneSramScrub 2 0xF_FFFF .clean,
    .camPacket 7 3 63 .clean true [],
    .isoLinkFrame (isoBad 16 24), .displayReportReceived 5 (repBad 64), .refSourceTimeout ⟨4, none⟩, .canFrameReceived 0 (canBad 0x7FF false 15 (List.replicate 8 0)) 0, .mvbPollMiss 0x3FF,
    .ethFrameReceived 0 (ethBad (2 ^ 48 - 1) 0 0xFFFF (some 7) 64) 0, .pcieLinkUp 4 8, .xlinkFrameReceived (xBad 36)],
    c.wellFormed = true := by decide

/-! ### The block's decoder: no row of the table gives bits -/

theorem test_decode_nothing : decodeTableWord 8 0 = none ∧ decodeTableWord 32 0x1234 = none := by decide
theorem test_fetch_nothing : (live.withFetchWord 32 5).pending = [] := by decide

/-! ### Worked examples of the manual -/

/-- "Example: comparing two 16-bit frame numbers": 3 is later than 65,530; the repeat is not. -/
theorem test_later : later 16 3 65_530 = true ∧ later 16 65_530 3 = false ∧ later 16 3 3 = false := by decide

/-- "Example: writing one interlock entry word": the value waits, KEY reads it and IND_ADDR stays. -/
def ilkHeld : State := after (.indDataWrite .mgmt 0x0C 0xC3) (put [(0x0C, 0x30, 0x12)] live)
theorem test_ilk_value_waits : (ilkHeld.kpPend 0x0C).map (fun k => k.val) = some 0xC3 ∧ ilkHeld.rd 0x0C 0x30 = 0x12 ∧
    ilkHeld.tab 0x0C 0x12 = 0 := by decide
/-- The complement 0xFFFF_FF3C lets it take effect, at the page's next boundary since the table is AB, and IND_ADDR advances
only then. -/
def ilkDone : State := after (.keyNWrite .mgmt 0x0C 0xFFFF_FF3C) ilkHeld
theorem test_ilk_complement : ilkDone.kpPend 0x0C = none ∧ ilkDone.rd 0x0C 0x30 = 0x13 ∧
    (after (.boundaryApply 0x0C 0) ilkDone).tab 0x0C 0x12 = 0xC3 := by decide
/-- Without it the value is dropped and IND_ADDR stays. -/
theorem test_ilk_expiry : (after (.keypairExpiry 0x0C) ilkHeld).tab 0x0C 0x12 = 0 ∧
    (after (.keypairExpiry 0x0C) ilkHeld).rd 0x0C 0x30 = 0x12 := by decide

/-- "Example: a PPS reference pulling in a fast TCXO": the first edge makes F −6,013 and TB_RATE −12,026 units. -/
def ppsFirst : State :=
  after (.tbMeasurement 3 1_000_000_000 (-350)) (put [(0x05, 0x0C, 0x32), (0x05, 0x50, 0x0BB8_0003), (0x05, 0x54, 0x64_0A00), (0x05, 0x5C, 8)]
    { live with tb := { live.tb with first := false, consec := [0, 0, 9, 0] } })
theorem test_pps_first_edge : ppsFirst.rd 0x05 0x4C = wInt (-6013) ∧ ppsFirst.rd 0x05 0x48 = wInt (-12_026) := by decide
/-- At the second edge θ is 0: F stays −6,013, P is 0 and TB_RATE is −6,013 units. -/
theorem test_pps_second_edge : (after (.tbMeasurement 3 2_000_000_000 0) ppsFirst).rd 0x05 0x4C = wInt (-6013) ∧
    (after (.tbMeasurement 3 2_000_000_000 0) ppsFirst).rd 0x05 0x48 = wInt (-6013) := by decide

/-- "Example: a door-lock solenoid": 0.5 A that decay in 15.6 ms are estimated at 187 mJ, beyond the default DEMAG_WARN. -/
theorem test_solenoid : (after (.outputSwitchOff 6 500 15_625) live).rf 0x0B (foStat 6) 24 8 = 187 ∧
    (after (.outputSwitchOff 6 500 15_625) live).rb 0x0B 0x18 13 = true := by decide
/-- At 24 V the decay takes 10.4 ms and the estimate stays at 125 mJ, below it. -/
theorem test_solenoid_at_24_volts : (after (.outputSwitchOff 6 500 10_417) live).rf 0x0B (foStat 6) 24 8 = 125 ∧
    (after (.outputSwitchOff 6 500 10_417) live).rb 0x0B 0x18 13 = false := by decide

/-- "Example: door release blocked at departure": the bouncing input's filter at its limit of 20, and where it reaches 0. -/
theorem test_bouncing_input : filterStep 20 20 true false = (19, true) ∧ filterStep 20 19 true true = (20, true) ∧
    filterStep 20 1 true false = (0, false) := by decide
/-- Entry 9 of the table, NOT FI3, blocks FO4 and FO5 once FI3 is OFF. -/
theorem test_literal_not_fi3 : fld (0xC3 : Word) 0 6 = 3 ∧ bit (0xC3 : Word) 6 = true ∧ bit (0xC3 : Word) 7 = true := by decide

/-- "Example: a voted write with a slow third lane": write k of lanes A and C match and execute, and VW_SEQ becomes 0x7FFF. -/
def votedTwice : State :=
  let s := put [(0x07, 0x58, 0x7FFE)] (voters live)
  after (.votedWriteArrival 2 0x4000_8048 0x3E8) (after (.votedWriteArrival 0 0x4000_8048 0x3E8) s)
theorem test_voted_write : (after .votedWriteExecute votedTwice).rf 0x07 0x58 0 16 = 0x7FFF ∧
    (after .votedWriteExecute votedTwice).rd 0x08 0x48 = 0x3E8 ∧ votedTwice.rd 0x08 0x48 ≠ 0x3E8 := by decide
/-- Lane B's write k is absorbed. -/
theorem test_voted_write_absorbed :
    (after (.votedWriteArrival 1 0x4000_8048 0x3E8) (after .votedWriteExecute votedTwice)).vw.slots = [] ∧
    (after (.votedWriteArrival 1 0x4000_8048 0x3E8) (after .votedWriteExecute votedTwice)).rf 0x07 0x58 0 16 = 0x7FFF := by decide

/-- "Example: a chattering door contact": the bucket of 4,000 after four accepted records 10 ms apart reads 150. -/
def chatter (s : State) : State :=
  after (.recordAccept none) { s with inlet := [⟨0x60, 3, 0, 0, 0, 0, 0, false, 0⟩] }
def refilled (n : Nat) (s : State) : State := (List.range n).foldl (fun t _ => after .martingaleRefill t) s
def chattered : State := chatter (refilled 10 (chatter (refilled 10 (chatter (refilled 10
  (chatter { live with recd := { live.recd with buckets := [⟨0x60, 5, 4, 4000⟩] } }))))))
theorem test_chatter_bucket : chattered.recd.buckets = [⟨0x60, 5, 4, 150⟩] ∧ chattered.keep.nextSeq = 4 := by decide +kernel

/-- "Example: three modes", mode 1: VMIN_OFS 99,420 and VMAX_OFS 188,148 at output line 0. -/
def mode1 : State := put [(0x31, 0x4C, 0x0438_0780), (0x31, 0x50, 1125), (0x31, 0x54, 0x0008_0000), (0x48, 0x50, 40_000),
  (0x48, 0x140, 0x0001_0780), (0x48, 0x14C, 0x0005_0465), (0x39, 0x44, 0x0438_0780)] live
theorem test_mode1_offsets : mode1.viewBounds 0 = (99_420, 188_148) := by decide

/-- The masked write of R77: the low half of the value goes where its high half selects. -/
theorem test_masked_write : wmMerge 0x00F0 0x000F_FFF5 = 0x00F5 := by decide

/-- A power-on reset begins the boot with cause 1 (R105). -/
theorem test_power_on : (after (.powerOnReset ⟨false, 0, false, false, false, false, false, true⟩ 0) State.reset).rf 0x00 0x40 0 8 = 1 := by decide +kernel

/-! ### Every statement with hypotheses has a state and operands that meet them, one for each of its clauses -/

theorem witness_EmptyQueueIsOneClockCycle :
    ∃ (s : State), s.pending = [] ∧ s.gaitNow < 3 ∧ s.pins.running = true ∧ 0 ≤ (4 * 2 ^ 32 + (s.tbF + s.tb.p) : Int) :=
  ⟨live, by decide⟩

theorem witness_EveryStepKeepsInvariant :
    ∃ (s : State) (t : State), s.Inv ∧ step s = .next t :=
  ⟨State.reset, _, by decide, rfl⟩

theorem witness_PlainRegisterWrite :
    (∃ (i : Init) (p : Nat) (off : Nat) (s : State), p ∈ [0x03, 0x08, 0x09, 0x0A] ∧ 0x40 ≤ off ∧ off < 0x80 ∧ off % 4 = 0 ∧
      plainWord (rk p off) ∧ s.Open i p off true ∧ ((i = .vote → vwWord p off = true))) ∧
    (∃ (i : Init) (p : Nat) (off : Nat) (s : State), p ∈ [0x03, 0x08, 0x09, 0x0A] ∧ 0x40 ≤ off ∧ off < 0x80 ∧ off % 4 = 0 ∧
      plainWord (rk p off) ∧ s.Open i p off true ∧ ((i = .vote → vwWord p off = true))) :=
  ⟨⟨.mgmt, 0x03, 0x50, live, by decide⟩,
    ⟨.mgmt, 0x08, 0x50, live, by decide⟩⟩

theorem witness_IndirectData :
    (∃ (i : Init) (page : Fin 128) (s : State), page.val ≠ 0x01 ∧ hasTable page.val = true ∧ vwPage page.val = false ∧
      s.Sound (tk page.val (s.indAddr page.val)) ∧ s.Open i page.val 0x34 false) ∧
    (∃ (i : Init) (s : State), i ≠ .vote ∧ 0x100 ≤ s.indAddr 0x02 ∧ s.indAddr 0x02 < 0x200 ∧ s.Open i 0x02 0x34 true) ∧
    (∃ (i : Init) (s : State), i ≠ .vote ∧ 0x100 ≤ s.indAddr 0x02 ∧ s.indAddr 0x02 < 0x200 ∧ s.Open i 0x02 0x34 true) ∧
    (∃ (i : Init) (page : Fin 128) (s : State), (page.val = 0x0A ∨ page.val = 0x18) ∧ i ≠ .vote ∧ s.indAddr page.val < (if
      page.val = 0x0A then 0x4000 else 0x400) ∧ s.Open i page.val 0x34 true) :=
  ⟨⟨.mgmt, 0x0A, live, by decide⟩,
    ⟨.mgmt, put [(0x02, 0x30, 0x1FF)] live, by decide⟩,
    ⟨.mgmt, { put [(0x02, 0x30, 0x100)] live with variant := .n }, by decide⟩,
    ⟨.mgmt, 0x0A, put [(0x0A, 0x30, 0x3FFF)] live, by decide⟩⟩

theorem witness_KeyPairs :
    (∃ (i : Init) (p : Nat) (off : Nat) (s : State), p ∈ [0x08, 0x09, 0x0A] ∧ 0x40 ≤ off ∧ off < 0x80 ∧ off % 4 = 0 ∧ (accOf
      (rk p off)).kp ≠ 0 ∧ mixedWord (rk p off) = false ∧ s.Open i p off true ∧ ((i = .vote → vwWord p off = true))) ∧
    (∃ (i : Init) (k : KpPend) (s : State) (page : Fin 128), k.key ∈ [rk 0x0A 0x58, rk 0x03 0xC0, rk 0x03 0xDC] ∧ k.page =
      keyPage k.key ∧ s.kpPend k.page = some k ∧ s.Open i k.page 0x2C true ∧ page.val = k.page) ∧
    (∃ (i : Init) (k : KpPend) (v : Word) (s : State) (page : Fin 128), k.key ∈ [rk 0x0A 0x58, rk 0x03 0xC0, rk 0x03 0xDC] ∧
      k.page = keyPage k.key ∧ s.kpPend k.page = some k ∧ v ≠ ~~~k.val ∧ s.Open i k.page 0x2C true ∧ page.val = k.page) ∧
    (∃ (i : Init) (page : Fin 128) (s : State), page.val ∈ [0x03, 0x07, 0x08, 0x09, 0x0A, 0x0B, 0x0C] ∧ s.Open i page.val
      0x28 true) ∧
    (∃ (page : Nat) (k : KpPend) (s : State), s.kpPend page = some k ∧ page ≠ 0x02) :=
  ⟨⟨.mgmt, 0x0A, 0x58, live, by decide⟩,
    ⟨.mgmt, ⟨0x0A, rk 0x0A 0x58, 0x4000_A058, 5, 1⟩, { live with kp := [⟨0x0A, rk 0x0A 0x58, 0x4000_A058, 5, 1⟩] }, 0x0A,
      by decide⟩,
    ⟨.mgmt, ⟨0x0A, rk 0x0A 0x58, 0x4000_A058, 5, 1⟩, 0, { live with kp := [⟨0x0A, rk 0x0A 0x58, 0x4000_A058, 5, 1⟩] }, 0x0A,
      by decide⟩,
    ⟨.mgmt, 0x0C, live, by decide⟩,
    ⟨0x0A, ⟨0x0A, rk 0x0A 0x58, 0x4000_A058, 5, 1⟩, { live with kp := [⟨0x0A, rk 0x0A 0x58, 0x4000_A058, 5, 1⟩] }, by decide⟩⟩

theorem witness_RouteAndForceWords :
    (∃ (i : Init) (n : Fin 256) (s : State), i ≠ .vote ∧ s.rb 0x02 0x08 8 = false ∧ s.kpPend 0x02 = none ∧ s.shadowOf (tk
      0x02 n.val) = none ∧ s.Open i 0x02 0x30 true ∧ s.Open i 0x02 0x34 true ∧ s.Open i 0x02 0x2C true) ∧
    (∃ (i : Init) (s : State), i ≠ .vote ∧ s.rb 0x02 0x08 8 = true ∧ s.kpPend 0x02 = none ∧ s.Open i 0x02 0x30 true ∧ s.Open
      i 0x02 0x34 true ∧ s.Open i 0x02 0x2C true) ∧
    (∃ (i : Init) (sig : Fin 4096) (s : State), i ≠ .vote ∧ s.forceable sig.val = true ∧ s.kpPend 0x0A = none ∧ s.Open i
      0x0A 0x30 true ∧ s.Open i 0x0A 0x34 true ∧ s.Open i 0x0A 0x2C true) :=
  ⟨⟨.mgmt, 255, live, by decide⟩,
    ⟨.svc 0, put [(0x02, 0x08, 0x100)] (tput [(0x03, 4, 0xFFFF_FFFF)] live), by decide⟩,
    ⟨.mgmt, 4095, tput [(0x0A, 0x3FFC, 0x0000_0412)] live, by decide⟩⟩

theorem witness_BufferedWriteAndApply :
    (∃ (i : Init) (off : Nat) (s : State), 0x40 ≤ off ∧ off < 0x2C0 ∧ off % 4 = 0 ∧ (accOf (rk 0x48 off)).ab = true ∧ s.Open
      i 0x48 off true ∧ s.visRefuses i (rk 0x48 off) = false ∧ i ≠ .vote) ∧
    (∃ (d : Fin 6) (k : Nat) (v : Word) (s : State), s.pageUp (0x40 + d.val) = true ∧ k ≠ rk (0x40 + d.val) 0x24 ∧ s.shadow
      = [(k, v)] ∧ keyPage k = 0x40 + d.val) ∧
    (∃ (i : Init) (k : Nat) (w : Word) (v : Word) (s : State), bit v 0 = true ∧ i ≠ .vote ∧ s.progMode = modeStop ∧ s.shadow
      = [(k, w)] ∧ keyPage k = 0x0A ∧ k ≠ rk 0x0A 0x24 ∧ (s.without 0x08).mapOk = true ∧ s.Open i 0x0A 0x20 true) ∧
    (∃ (i : Init) (v : Word) (s : State), bit v 0 = true ∧ i ≠ .vote ∧ s.progMode ≠ modeStop ∧ s.Open i 0x0A 0x20 true) :=
  ⟨⟨.mgmt, 0x40, live, by decide⟩,
    ⟨5, rk 0x45 0x40, 1, { live with shadow := [(rk 0x45 0x40, 1)] }, by decide⟩,
    ⟨.mgmt, tk 0x0A 0, 0, 1, { live with shadow := [(tk 0x0A 0, 0)] }, by decide⟩,
    ⟨.mgmt, 1, put [(0x09, 0x44, 1)] live, by decide⟩⟩

theorem witness_ScrubRepairsOneUpsetCopy :
    (∃ (k : Nat) (s : State), (accOf k).t3 = true ∧ s.pageUp (keyPage k) = true ∧ s.Sound k) ∧
    (∃ (k : Nat) (d : Word) (u : Upset) (s : State), (accOf k).t3 = true ∧ s.pageUp (keyPage k) = true ∧ s.Sound k ∧ parity
      d = true ∧ u ∈ ([⟨d, 0, 0, false, false, false⟩, ⟨0, d, 0, false, false, false⟩, ⟨0, 0, d, false, false, false⟩] : List
      Upset)) ∧
    (∃ (k : Nat) (d : Word) (e : Word) (s : State), (accOf k).t3 = true ∧ keyPage k = 0x0A ∧ s.pageUp 0x0A = true ∧ s.Sound
      k ∧ parity d = true ∧ parity e = true) ∧
    (∃ (k : Nat), (accOf k).t3 = false) :=
  ⟨⟨rk 0x08 0x40, live, by decide⟩,
    ⟨rk 0x08 0x40, 1, ⟨0, 0, 1, false, false, false⟩, live, by decide⟩,
    ⟨rk 0x0A 0x58, 1, 2, live, by decide⟩,
    ⟨rk 0x08 0x54, by decide⟩⟩

theorem witness_EventsAndTheirBanks :
    (∃ (n : Fin 256), n.val ∈ [20, 21, 22, 23, 26, 27, 28, 29]) ∧
    (∃ (bank : Fin 5) (w : Fin 8) (v : Word) (s : State) (i : Init), v ≠ 0 ∧ (if h : bank.val < 4 then i = .svc ⟨bank.val,
      h⟩ else i = .mgmt) ∧ s.Open i 0x02 (0x100 + 0x20 * bank.val + 4 * w.val) true) ∧
    (∃ (w : Fin 8) (n : Fin 4) (s : State), s.Open (.svc n) 0x02 (0x180 + 4 * w.val) true) :=
  ⟨⟨29, by decide⟩,
    ⟨4, 7, 1, live, .mgmt, by decide⟩,
    ⟨7, 3, live, by decide⟩⟩

theorem witness_SemaphoreCommands :
    (∃ (i : Init) (k : Fin 16) (s : State), s.Open i 0x03 (0x80 + 4 * k.val) true) ∧
    (∃ (i : Init) (k : Fin 16) (s : State), s.Open i 0x03 (0x80 + 4 * k.val) true ∧ s.rf 0x03 (0x80 + 4 * k.val) 0 4 =
      initCode i) ∧
    (∃ (k : Fin 16) (s : State), s.Open .mgmt 0x03 (0x80 + 4 * k.val) true) ∧
    (∃ (i : Init) (k : Fin 16) (s : State), s.Open i 0x03 (0x80 + 4 * k.val) true ∧ s.rf 0x03 (0x80 + 4 * k.val) 0 4 ≠
      initCode i) :=
  ⟨⟨.mgmt, 15, live, by decide⟩,
    ⟨.mgmt, 15, put [(0x03, 0xBC, initCode .mgmt)] live, by decide⟩,
    ⟨0, live, by decide⟩,
    ⟨.mgmt, 0, live, by decide⟩⟩

theorem witness_BridleAndWriteVote :
    (∃ (l : Fin 3) (k : Fin 16) (s : State), s.voting l.val = true ∧ 2 ≤ s.votingCount ∧ s.vw.slots = [] ∧ s.vw.issued.getD
      l.val 0 = s.vw.base ∧ l.val < s.vw.issued.length ∧ s.gate (.lane l) (addrOf 0x03 (0x80 + 4 * k.val)) 4 true false =
      .pass) ∧
    (∃ (k : Fin 16) (x : VwSlot) (s : State), s.vw.slots = [x] ∧ x.num = s.vw.base ∧ x.dropped = false ∧ x.matched = some
      (addrOf 0x03 (0x80 + 4 * k.val), 0x100) ∧ s.gate .vote (addrOf 0x03 (0x80 + 4 * k.val)) 4 true false = .pass ∧ s.rf 0x03
      (0x80 + 4 * k.val) 0 4 = 0xF) ∧
    (∃ (x : VwSlot) (l : Nat) (off : Nat) (v : Word) (s : State), s.vw.slots = [x] ∧ x.dropped = false ∧ x.matched = none ∧
      x.got = [(l, addrOf 0x08 off, v)] ∧ off < 0x1000 ∧ x.num = s.vw.base) ∧
    (∃ (i : Init) (k : Fin 16) (s : State), bridled i 0x03 = true ∧ s.Open i 0x03 (0x80 + 4 * k.val) true ∧ s.rf 0x03 (0x80
      + 4 * k.val) 0 4 = 0xF) ∧
    (∃ (i : Init) (page : Fin 128) (off : Nat) (s : State), off < 0x1000 ∧ page.val ≠ 0x01 ∧ assigned page.val = true ∧
      pageAbsent s.variant page.val = false ∧ bridled i page.val = true) :=
  ⟨⟨2, 15, voters live, by decide⟩,
    ⟨15, ⟨0, [], some (addrOf 0x03 0xBC, 0x100), false, false, false⟩,
      { live with vw := { slots := [⟨0, [], some (addrOf 0x03 0xBC, 0x100), false, false, false⟩] } }, by decide⟩,
    ⟨⟨0, [(0, addrOf 0x08 0x40, 1)], none, false, false, false⟩, 0, 0x40, 1,
      { live with vw := { slots := [⟨0, [(0, addrOf 0x08 0x40, 1)], none, false, false, false⟩] } }, by decide⟩,
    ⟨.mgmt, 0, live, by decide⟩,
    ⟨.mgmt, 0x0A, 0x40, live, by decide⟩⟩

theorem witness_MailboxDoorbell :
    (∃ (i : Init) (s : State) (n : _), s.Open i 0x01 0x7C true ∧ n < s.boxes.length ∧ boxPage n = mboxPage i) ∧
    (∃ (i : Init) (s : State) (n : _), s.Open i 0x01 0x7C true ∧ n < s.boxes.length ∧ boxPage n = mboxPage i) ∧
    (∃ (i : Init) (s : State) (n : _), s.Open i 0x01 0x7C true ∧ n < s.boxes.length ∧ boxPage n = mboxPage i) ∧
    (∃ (inst : Fin 3) (resp : List Word) (ls : List Nat) (s : State), s.boxNext inst.val = true ∧ cmdLens (fld (s.box
      inst.val).cmd 0 8) (s.box inst.val).args = some ls ∧ planeOk (fld (s.box inst.val).cmd 0 8) inst.val = true ∧ fld (s.box
      inst.val).cmd 16 16 ∈ ls ∧ ((fld (s.box inst.val).cmd 0 8 = 0x52 → (s.box inst.val).kpDone = true)) ∧ resp.length ≤ 14) ∧
    (∃ (inst : Fin 3) (s : State), s.boxNext inst.val = true ∧ cmdLens (fld (s.box inst.val).cmd 0 8) (s.box inst.val).args
      = none) ∧
    (∃ (inst : Fin 3) (ls : List Nat) (s : State), s.boxNext inst.val = true ∧ cmdLens (fld (s.box inst.val).cmd 0 8) (s.box
      inst.val).args = some ls ∧ ((planeOk (fld (s.box inst.val).cmd 0 8) inst.val = false ∨ fld (s.box inst.val).cmd 16 16 ∉
      ls ∨ fld (s.box inst.val).cmd 0 8 = 0x52 ∧ (s.box inst.val).kpDone = false))) ∧
    (∃ (inst : Fin 3) (ls : List Nat) (s : State), s.boxNext inst.val = true ∧ cmdLens (fld (s.box inst.val).cmd 0 8) (s.box
      inst.val).args = some ls ∧ ((planeOk (fld (s.box inst.val).cmd 0 8) inst.val = false ∨ fld (s.box inst.val).cmd 16 16 ∉
      ls ∨ fld (s.box inst.val).cmd 0 8 = 0x52 ∧ (s.box inst.val).kpDone = false))) ∧
    (∃ (inst : Fin 3) (ls : List Nat) (s : State), s.boxNext inst.val = true ∧ cmdLens (fld (s.box inst.val).cmd 0 8) (s.box
      inst.val).args = some ls ∧ ((planeOk (fld (s.box inst.val).cmd 0 8) inst.val = false ∨ fld (s.box inst.val).cmd 16 16 ∉
      ls ∨ fld (s.box inst.val).cmd 0 8 = 0x52 ∧ (s.box inst.val).kpDone = false))) :=
  ⟨⟨.svc 0, live, 1, by decide⟩,
    ⟨.svc 0, live, 1, by decide⟩,
    ⟨.svc 0, asked 1 1 0 [] (live), 1, by decide⟩,
    ⟨2, [1, 2], List.range 57, asked 2 1 8 [1, 2] (live), by decide +kernel⟩,
    ⟨2, asked 2 0xFF 8 [1, 2] (live), by decide⟩,
    ⟨2, List.range 57, asked 2 1 57 [1, 2] (live), by decide⟩,
    ⟨2, [0], asked 2 0x52 0 [] (live), by decide⟩,
    ⟨1, [0], asked 1 0x52 0 [] (live), by decide⟩⟩

theorem witness_TimeBaseMeasurement :
    (∃ (src : Fin 5) (t : Nat) (s : State) (n : _), src.val ≠ 0 ∧ s.tbPrios.contains src.val = true ∧ s.tb.lastStep ≤ t ∧
      s.tb.consec.length = 4 ∧ (n = (if s.tb.consec.getD (src.val - 1) 0 = 0 ∨ t < s.tb.lastT.getD (src.val - 1) 0 +
      s.tbTimeout then s.tb.consec.getD (src.val - 1) 0 + 1 else 1))) ∧
    (∃ (src : Fin 5) (s : State), s.tbPrios.contains src.val = false) ∧
    (∃ (x : RefLoss), x.src.val ≠ 0) :=
  ⟨⟨4, 0, put [(0x05, 0x50, 0x4)] live, 1, by decide⟩,
    ⟨2, put [(0x05, 0x50, 0x4)] live, by decide⟩,
    ⟨⟨4, some (3, 5, 0)⟩, by decide⟩⟩

theorem witness_TimeMarksAndCaptures :
    (∃ (i : Init) (s : State), s.Open i 0x05 0x40 false ∧ s.tb.latches.length = 7 ∧ 4 ≤ initCode i ∧ initCode i ≤ 0xA) ∧
    (∃ (src : Fin 63) (k : Fin 4) (s : State), s.rb 0x05 (0xA0 + 0x10 * k.val) 8 = true ∧ s.rf 0x05 (0xA0 + 0x10 * k.val) 0
      7 = src.val) ∧
    (∃ (k : Fin 4) (s : State), s.rb 0x05 (0xA0 + 0x10 * k.val) 8 = true ∧ s.rf 0x05 (0xA0 + 0x10 * k.val) 0 7 = 60) ∧
    (∃ (i : Init) (s : State), s.Open i 0x05 0x70 true ∧ tbWriter i 0x70 = true ∧ s.tbPrios.contains 1 = true ∧
      s.tb.lastStep ≤ (s.rd 0x05 0x64).toNat + 2 ^ 32 * (s.rd 0x05 0x68).toNat ∧ s.tb.lastT.length = 4) :=
  ⟨⟨.mgmt, live, by decide⟩,
    ⟨62, 3, put [(0x05, 0xD0, 0x100 + 62)] live, by decide⟩,
    ⟨3, put [(0x05, 0xD0, 0x100 + 60)] live, by decide⟩,
    ⟨.mgmt, put [(0x05, 0x50, 1)] live, by decide⟩⟩

theorem witness_LaneInstructionRetires :
    (∃ (l : Fin 3) (r : Retire) (s : State), s.LaneRuns l.val r ∧ r.bus = .none ∧ s.laneExc l.val r = none) ∧
    (∃ (l : Fin 3) (r : Retire) (s : State), s.LaneRuns l.val r ∧ r.bus = .none ∧ s.laneExc l.val r = none) ∧
    (∃ (l : Fin 3) (r : Retire) (s : State), s.LaneRuns l.val r ∧ r.bus = .none ∧ s.laneExc l.val r = none) ∧
    (∃ (l : Fin 3) (r : Retire) (c : Nat) (s : State), s.LaneRuns l.val r ∧ s.laneExc l.val r = some c) :=
  ⟨⟨2, ⟨0, 0x100, 0x104, .base, .x, 31, 9, .none, none, 0, none, false, .clean, .clean, 0, false⟩, voters live, by decide⟩,
    ⟨2,
      ⟨0, 0x100, 0x104, .zicsr, .none, 0, 9, .none, some ⟨0x340, .write, some 7, 5⟩, 0, none, false, .clean, .clean, 0, false⟩,
      voters live, by decide⟩,
    ⟨2, ⟨0, 0x100, 0x104, .base, .none, 0, 9, .none, none, 0, none, true, .clean, .clean, 0, false⟩, voters live, by decide⟩,
    ⟨2, ⟨0, 0x100, 0x104, .absent, .x, 31, 9, .none, none, 0, none, false, .clean, .clean, 0, false⟩, 2, voters live, by decide⟩⟩

theorem witness_LaneStoreTouchesItsBytesOnly :
    (∃ (l : Fin 3) (r : Retire) (a : Word) (n : Nat) (d : Word) (p : Nat) (s : State), s.LaneRuns l.val r ∧ r.bus = .store a
      n d ∧ 1 ≤ n ∧ n ≤ 4 ∧ laneTarget a.toNat n = .sram p ∧ s.laneExc l.val r = none) ∧
    (∃ (l : Fin 3) (r : Retire) (a : Word) (n : Nat) (sg : Bool) (p : Nat) (s : State), s.LaneRuns l.val r ∧ r.bus = .load a
      n sg ∧ 1 ≤ n ∧ n ≤ 4 ∧ laneTarget a.toNat n = .sram p ∧ s.laneExc l.val r = none ∧ r.mret = false ∧ r.opt ≠ .wfi ∧ r.csr
      = none ∧ r.wb = .x ∧ r.wbReg % 32 ≠ 0) :=
  ⟨⟨2, ⟨0, 0x100, 0x104, .base, .none, 0, 9, .store 0x3F_FFFC 4 7, none, 0, none, false, .clean, .clean, 0, false⟩,
      0x3F_FFFC, 4, 7, 0x3F_FFFC, voters live, by decide⟩,
    ⟨2, ⟨0, 0x100, 0x104, .base, .x, 31, 9, .load 0x3F_FFFF 1 true, none, 0, none, false, .clean, .clean, 0, false⟩,
      0x3F_FFFF, 1, true, 0x3F_FFFF, (voters live).setBytes (laneMem 2 0x3F_FFFF) [0x80], by decide⟩⟩

theorem witness_LaneWindows :
    (∃ (l : Fin 3) (s : State), l.val < s.lanes.length ∧ s.laneIdle l.val = false ∧ s.laneAlone l.val = false ∧ (s.lane
      l.val).winCyc < 2 ^ (s.lane l.val).winLog2) ∧
    (∃ (l : Fin 3) (c : Closed) (rest : List Closed) (s : State), l.val < s.lanes.length ∧ (s.lane l.val).closed = c :: rest
      ∧ 1 ≤ s.laneState l.val ∧ s.laneState l.val ≤ 3 ∧ c.sigMain = c.sigShadow ∧ c.entry = none ∧ (s.lane l.val).splitPend =
      false ∧ (s.rd 0x06 (laneOff l.val 0xC) + 1) &&& 0xFF ≠ 0xFF ∧ s.reintBusy = false) ∧
    (∃ (l : Fin 3) (c : Closed) (rest : List Closed) (s : State), l.val < s.lanes.length ∧ (s.lane l.val).closed = c :: rest
      ∧ 1 ≤ s.laneState l.val ∧ s.laneState l.val ≤ 3 ∧ c.sigMain ≠ c.sigShadow) :=
  ⟨⟨2, voters live, by decide⟩,
    ⟨2, ⟨5, 5, none⟩, [], (voters live).modLane 2 (fun x => { x with closed := [⟨5, 5, none⟩] }), by decide⟩,
    ⟨2, ⟨5, 6, none⟩, [], (voters live).modLane 2 (fun x => { x with closed := [⟨5, 6, none⟩] }), by decide⟩⟩

theorem witness_LaneWordsAndVote :
    (∃ (l : Fin 3) (s : State), 1 ≤ s.laneState l.val ∧ s.laneState l.val ≤ 3) ∧
    (∃ (l : Fin 3) (k : Word) (s : State), l.val < s.lanes.length ∧ s.tro.collecting = true ∧ s.voting l.val = true ∧ k =
      s.tro.collectK ∧ (s.lane l.val).doneAt = none) :=
  ⟨⟨2, voters live, by decide⟩,
    ⟨2, 7, { voters live with tro := { live.tro with collecting := true, collectK := 7 } }, by decide⟩⟩

theorem witness_TicksAndCollectDeadline :
    (∃ (s : State), s.tickRuns = true ∧ s.booted = true ∧ s.progMode = modeStop ∧ s.starting = false ∧ s.prog.req = none ∧
      s.prog.forced = none ∧ s.tro.collecting = false ∧ s.tro.vote = .none ∧ s.shadow = [] ∧ s.reintState ∈ [0, 1, 5, 6, 7] ∧
      s.ocState ≠ 3 ∧ s.role = 0 ∧ s.duplexEn = false ∧ s.dup.yieldSent = false ∧ s.dup.tryUntil = none ∧ s.gait.stage = .none
      ∧ s.periodNs ≠ 0) ∧
    (∃ (s : State), s.tro.collecting = true ∧ s.progMode = modeRun ∧ s.tro.vote = .none ∧ s.votingLanes ≠ [] ∧ ((∀ l, l < 3
      → s.voting l = true → (s.lane l).doneAt = none)) ∧ s.tro.extended = false) :=
  ⟨⟨(put [(0x50, 0x58, 0), (0x0B, 0x40, 0)] live), by decide⟩,
    ⟨put [(0x09, 0x44, 1)] { voters live with tro := { live.tro with collecting := true, collectK := 7 } }, by decide⟩⟩

theorem witness_Reintegration :
    (∃ (i : Init) (v : Word) (d : Nat) (s : State), ((i = .mgmt ∨ isSvc i = true)) ∧ s.rb 0x07 0x5C 8 = false ∧ s.Open i
      0x07 0x5C true ∧ s.Open i 0x07 0x2C true ∧ fld v 0 2 < 3 ∧ s.laneState (fld v 0 2) ∈ [4, 5, 6] ∧ s.laneUnusable (fld v 0
      2) = false ∧ s.reintBusy = false ∧ d < 3 ∧ s.pickDonor (fld v 0 2) (fld v 4 2) = some d ∧ s.progMode ≠ modeStop) ∧
    (∃ (l : Fin 3) (d : Nat) (s : State), l.val < s.lanes.length ∧ s.rb 0x07 0x48 16 = true ∧ (s.lane l.val).autoDue = true
      ∧ (s.lane l.val).autoUsed < 3 ∧ (s.lane l.val).hashBan = false ∧ s.laneState l.val ∈ [4, 5, 6] ∧ s.laneUnusable l.val =
      false ∧ s.reintBusy = false ∧ d < 3 ∧ s.pickDonor l.val 3 = some d ∧ s.progMode ≠ modeStop) ∧
    (∃ (s : State), s.reintState = 1 ∧ s.reint.reload = false) ∧
    (∃ (i : Init) (s : State), ((i = .mgmt ∨ isSvc i = true)) ∧ s.Open i 0x07 0x5C true ∧ s.reintBusy = true) ∧
    (∃ (l : Fin 3) (s : State), l.val < s.lanes.length ∧ s.laneState l.val = 1 ∧ (s.lane l.val).bootReady = false ∧
      s.reintState ≠ 2) ∧
    (∃ (l : Fin 3) (s : State), s.laneState l.val = 1 ∧ (s.lane l.val).bootReady = false ∧ s.reintState = 2 ∧ s.reintTarget
      = l.val ∧ s.prog.needReload.testBit l.val = false) ∧
    (∃ (l : Fin 3) (s : State), s.laneState l.val = 1 ∧ (s.lane l.val).bootReady = false) ∧
    (∃ (s : State), s.reintState = 3) ∧
    (∃ (s : State), s.reintState ∈ [3, 4] ∧ 16 ≤ s.rf 0x07 0x60 16 8) :=
  ⟨⟨.mgmt, 0x132, 0, put [(0x06, 0x84, 3), (0x06, 0xC4, 3), (0x06, 0x104, 6), (0x09, 0x44, 1)] live, by decide⟩,
    ⟨2, 0,
      (put [(0x07, 0x48, 0x1_0000)] (put [(0x06, 0x84, 3), (0x06, 0xC4, 3), (0x06, 0x104, 6), (0x09, 0x44, 1)] live)).modLane 2 (fun x => { x with autoDue := true }),
      by decide⟩,
    ⟨put [(0x07, 0x60, 1)] live, by decide⟩,
    ⟨.mgmt, put [(0x07, 0x60, 1)] live, by decide⟩,
    ⟨2, put [(0x06, 0x104, 1)] live, by decide⟩,
    ⟨2, put [(0x06, 0x104, 1), (0x07, 0x60, 34)] live, by decide⟩,
    ⟨2, put [(0x06, 0x104, 1)] live, by decide⟩,
    ⟨put [(0x07, 0x60, 3)] live, by decide⟩,
    ⟨put [(0x07, 0x60, 1048579)] live, by decide⟩⟩

theorem witness_LaneFaultsAndRequests :
    (∃ (i : Init) (l : Fin 3) (s : State), i ≠ .vote ∧ l.val < s.lanes.length ∧ s.Open i 0x06 (laneOff l.val 0) true ∧
      s.Open i 0x06 0x2C true ∧ s.maySplit l.val = true) ∧
    (∃ (i : Init) (l : Fin 3) (s : State), i ≠ .vote ∧ s.Open i 0x06 (laneOff l.val 0) true ∧ s.Open i 0x06 0x2C true ∧
      s.laneState l.val ∈ [2, 3] ∧ s.reintBusy = false) ∧
    (∃ (l : Fin 3) (s : State), s.laneState l.val ≠ 0) ∧
    (∃ (l : Fin 3) (ppm : Int) (stopped : Bool) (s : State), (stopped = true ∨ 500 < ppm.natAbs) ∧ 1 ≤ s.laneState l.val ∧
      s.laneState l.val ≤ 3) ∧
    (∃ (l : Fin 3) (s : State), s.rb 0x60 0x5C 0 = true ∧ s.laneState l.val ∈ [1, 2, 3, 4] ∧ ((s.laneState l.val = 3 →
      s.moving = false ∧ s.votingCount = 3))) :=
  ⟨⟨.mgmt, 2, voters live, by decide⟩,
    ⟨.mgmt, 2, voters live, by decide⟩,
    ⟨2, voters live, by decide⟩,
    ⟨2, 501, false, voters live, by decide⟩,
    ⟨2, put [(0x60, 0x5C, 1)] (voters live), by decide⟩⟩

theorem witness_ModeRequestsAndHoldLimit :
    (∃ (c : (Init → Instr) × Nat × Bool) (i : Init) (why : Nat) (s : State), c ∈ [((Instr.modeReqRun · false), modeRun,
      false), ((Instr.modeReqRun · true), modeRun, true), (Instr.modeReqStop, modeStop, false), (Instr.modeReqHold, modeHold,
      false)] ∧ modeReason i = some why ∧ s.Open i 0x09 0x40 true ∧ s.Open i 0x09 0x2C true ∧ s.modeJudge c.2.1 (why = 3) = 0
      ∧ ((∀ r, s.prog.req = some r → r.at_ ≠ s.tb.count ∨ r.reason ≠ 3 ∨ why = 3))) ∧
    (∃ (c : (Init → Instr) × Nat × Bool) (i : Init) (why : Nat) (s : State) (r : _), c ∈ [((Instr.modeReqRun · false),
      modeRun, false), ((Instr.modeReqRun · true), modeRun, true), (Instr.modeReqStop, modeStop, false), (Instr.modeReqHold,
      modeHold, false)] ∧ modeReason i = some why ∧ s.Open i 0x09 0x40 true ∧ s.Open i 0x09 0x2C true ∧ s.modeJudge c.2.1 (why
      = 3) = 0 ∧ s.prog.req = some r ∧ r.at_ = s.tb.count ∧ r.reason = 3 ∧ why ≠ 3) ∧
    (∃ (c : (Init → Instr) × Nat × Bool) (i : Init) (why : Nat) (s : State), c ∈ [((Instr.modeReqRun · false), modeRun,
      false), ((Instr.modeReqRun · true), modeRun, true), (Instr.modeReqStop, modeStop, false), (Instr.modeReqHold, modeHold,
      false)] ∧ modeReason i = some why ∧ s.Open i 0x09 0x40 true ∧ s.Open i 0x09 0x2C true ∧ s.modeJudge c.2.1 (why = 3) ≠ 0) ∧
    (∃ (s : State), s.progMode = modeHold) :=
  ⟨⟨(((Instr.modeReqRun · false), modeRun, false) : (Init → Instr) × Nat × Bool), .mgmt, 1,
      put [(0x00, 0x48, 256), (0x09, 0x44, 2)] live, by simp, by decide⟩,
    ⟨((Instr.modeReqStop, modeStop, false) : (Init → Instr) × Nat × Bool), .mgmt, 1,
      put [(0x09, 0x44, 1)] { live with prog := { live.prog with req := some ⟨modeHold, false, 3, 1⟩ }, tb := { live.tb with count := 1 } },
      (⟨modeHold, false, 3, 1⟩ : ModeReq), by simp, by decide⟩,
    ⟨((Instr.modeReqStop, modeStop, false) : (Init → Instr) × Nat × Bool), .mgmt, 1, live, by simp, by decide⟩,
    ⟨put [(0x09, 0x44, 2)] live, by decide⟩⟩

theorem witness_OnlineChange :
    (∃ (i : Init) (s : State), i ≠ .vote ∧ s.Open i 0x09 0x68 true ∧ s.Open i 0x09 0x2C true ∧ s.ocState ∉ [1, 2, 3] ∧
      s.compat = true ∧ s.progMode = modeRun) ∧
    (∃ (i : Init) (off : Fin 512) (s : State) (a : _), i ≠ .vote ∧ s.Open i 0x09 (0x800 + 4 * off.val) true ∧ s.ocState = 1
      ∧ a = s.rf 0x09 0x70 0 21 + 4 * off.val ∧ a + 4 ≤ 0x20_0000) ∧
    (∃ (i : Init) (s : State), i ≠ .vote ∧ s.Open i 0x09 0x68 true ∧ s.Open i 0x09 0x2C true ∧ s.ocState = 1) ∧
    (∃ (listBytes : Nat) (s : State), s.ocState = 2 ∧ listBytes ≤ 0x4_0000) ∧
    (∃ (i : Init) (s : State), i ≠ .vote ∧ s.Open i 0x09 0x68 true ∧ s.ocState ∈ [1, 2, 3]) :=
  ⟨⟨.mgmt, put [(0x09, 0x44, 17)] live, by decide⟩,
    ⟨.mgmt, 511, put [(0x09, 0x6C, 1)] live, 2044, by decide⟩,
    ⟨.mgmt, put [(0x09, 0x6C, 1)] live, by decide⟩,
    ⟨0x4_0000, put [(0x09, 0x6C, 2)] live, by decide⟩,
    ⟨.mgmt, put [(0x09, 0x6C, 3)] live, by decide⟩⟩

theorem witness_TackRoomOperations :
    (∃ (c : _) (i : Init) (v : Word) (s : State), (c ∈ ([(Instr.tackOpAesGcmEncrypt, 0x01), (Instr.tackOpAesGcmDecrypt,
      0x02), (Instr.tackOpAesCtr, 0x03), (Instr.tackOpAesCmac, 0x04), (Instr.tackOpSha256, 0x10), (Instr.tackOpSha384, 0x11),
      (Instr.tackOpHmacSha256, 0x12), (Instr.tackOpHmacSha384, 0x13), (Instr.tackOpEcdsaSignP256, 0x20),
      (Instr.tackOpEcdsaSignP384, 0x21), (Instr.tackOpEcdsaVerifyP256, 0x22), (Instr.tackOpEcdsaVerifyP384, 0x23),
      (Instr.tackOpEcdhP256, 0x30), (Instr.tackOpEcdhP384, 0x31), (Instr.tackOpHkdf, 0x40), (Instr.tackOpDrbgGenerate, 0x50),
      (Instr.tackOpGenerateKey, 0x60), (Instr.tackOpImportWrapped, 0x61), (Instr.tackOpExportWrapped, 0x62),
      (Instr.tackOpDelete, 0x63), (Instr.tackOpImportPlaintext, 0x64)] : List ((Init → Word → Instr) × Nat))) ∧ i ≠ .vote ∧
      s.Open i 0x60 0x44 true ∧ s.rb 0x60 0x4C 0 = false ∧ s.opError c.2 (fld v 8 6) (fld v 16 6) = 0) ∧
    (∃ (c : _) (i : Init) (s : State), (c ∈ ([(Instr.tackOpAesGcmEncrypt, 0x01), (Instr.tackOpAesGcmDecrypt, 0x02),
      (Instr.tackOpAesCtr, 0x03), (Instr.tackOpAesCmac, 0x04), (Instr.tackOpSha256, 0x10), (Instr.tackOpSha384, 0x11),
      (Instr.tackOpHmacSha256, 0x12), (Instr.tackOpHmacSha384, 0x13), (Instr.tackOpEcdsaSignP256, 0x20),
      (Instr.tackOpEcdsaSignP384, 0x21), (Instr.tackOpEcdsaVerifyP256, 0x22), (Instr.tackOpEcdsaVerifyP384, 0x23),
      (Instr.tackOpEcdhP256, 0x30), (Instr.tackOpEcdhP384, 0x31), (Instr.tackOpHkdf, 0x40), (Instr.tackOpDrbgGenerate, 0x50),
      (Instr.tackOpGenerateKey, 0x60), (Instr.tackOpImportWrapped, 0x61), (Instr.tackOpExportWrapped, 0x62),
      (Instr.tackOpDelete, 0x63), (Instr.tackOpImportPlaintext, 0x64)] : List ((Init → Word → Instr) × Nat))) ∧ i ≠ .vote ∧
      s.Open i 0x60 0x44 true ∧ s.rb 0x60 0x4C 0 = true) ∧
    (∃ (o : TackOp) (s : State), s.sec.op = some o) ∧
    (∃ (o : TackOp) (s : State), s.sec.op = some o) :=
  ⟨⟨((Instr.tackOpSha256, 0x10) : (Init → Word → Instr) × Nat), .mgmt, 0, live, by simp, by decide⟩,
    ⟨((Instr.tackOpDelete, 0x63) : (Init → Word → Instr) × Nat), .mgmt, put [(0x60, 0x4C, 1)] live, by simp, by decide⟩,
    ⟨⟨0x10, 0, 0, true, 0⟩, { live with sec := { live.sec with op := some ⟨0x10, 0, 0, true, 0⟩ } }, by decide⟩,
    ⟨⟨0x10, 0, 0, true, 0⟩, { live with sec := { live.sec with op := some ⟨0x10, 0, 0, true, 0⟩ } }, by decide⟩⟩

theorem witness_SpookAlarm :
    ∃ (s : State), s.Open .mgmt 0x61 0x4C true :=
  ⟨live, by decide⟩

theorem witness_DebugUnlockAndZeroize :
    (∃ (inst : Fin 3) (s : State), s.Holds inst.val 0x70 [4] ∧ fld (s.boxArg inst.val 0) 0 2 = 1) ∧
    (∃ (inst : Fin 3) (s : State), s.Holds inst.val 0x70 [8] ∧ fld (s.boxArg inst.val 0) 0 2 = 2 ∧ s.moving = false ∧ ((2 ≤
      fld (s.boxArg inst.val 1) 0 2 → s.progMode = modeStop)) ∧ s.sec.nonce.isSome = true ∧ s.tb.count < s.sec.nonceAt +
      60_000_000_000) ∧
    (∃ (inst : Fin 3) (s : State), s.Holds inst.val 0x70 [8] ∧ fld (s.boxArg inst.val 0) 0 2 = 2 ∧ s.moving = false ∧ ((2 ≤
      fld (s.boxArg inst.val 1) 0 2 → s.progMode = modeStop)) ∧ s.sec.nonce.isSome = true ∧ s.tb.count < s.sec.nonceAt +
      60_000_000_000 ∧ s.keep.dbgFail < 2) ∧
    (∃ (inst : Fin 3) (s : State), s.Holds inst.val 0x71 [4] ∧ s.boxArg inst.val 0 = 0x5A45_524F) :=
  ⟨⟨2, asked 2 112 4 [1] (live), by decide⟩,
    ⟨2, { asked 2 0x70 8 [2, 3] (live) with sec := { live.sec with nonce := some [] } }, by decide⟩,
    ⟨1, { asked 1 0x70 8 [2, 3] (live) with sec := { live.sec with nonce := some [] } }, by decide⟩,
    ⟨2, asked 2 113 4 [1514492495] (live), by decide⟩⟩

theorem witness_RecordsAndMartingale :
    (∃ (e : Inlet) (rest : List Inlet) (s : State), s.mgmtRuns = true ∧ s.inlet = e :: rest ∧ e.sev = 7 ∧
      s.recd.staged.length < 2048 ∧ s.recd.gapOwed = 0 ∧ s.pfOver = false) ∧
    (∃ (i : Init) (v : Word) (s : State), i ≠ .vote ∧ s.Open i 0x70 0x6C true ∧ 0x8000 ≤ fld v 0 16 ∧ fld v 24 3 = 7 ∧
      s.recd.staged.length < 2048 ∧ s.recd.gapOwed = 0 ∧ s.pfOver = false) ∧
    (∃ (s : State), s.recTimed = true) ∧
    (∃ (s : State), s.recTimed = true) ∧
    (∃ (s : State), s.recTimed = true ∧ s.recd.flushDue = none) ∧
    (∃ (trig : Nat) (r : Rec) (s : State), s.recd.flushDue = some trig ∧ s.recd.staged = [r] ∧ s.recd.gapOwed = 0 ∧ s.pfOver
      = false ∧ s.keep.ring.length < 491_520) :=
  ⟨⟨⟨9, 7, 1, 2, 3, 4, 5, true, 6⟩, [], { live with inlet := [⟨9, 7, 1, 2, 3, 4, 5, true, 6⟩] }, by decide⟩,
    ⟨.mgmt, 0x700_8000, live, by decide⟩,
    ⟨live, by decide⟩,
    ⟨live, by decide⟩,
    ⟨live, by decide⟩,
    ⟨0, ⟨9, 1, 7, false, false, false, false, 1, 2, 3, 4, 5, 6, 7⟩,
      { live with recd := { live.recd with staged := [⟨9, 1, 7, false, false, false, false, 1, 2, 3, 4, 5, 6, 7⟩], flushDue := some 0 } },
      by decide⟩⟩

theorem witness_RecorderCommandsAndExport :
    (∃ (inst : Fin 3) (s : State), s.Holds inst.val 0x50 [12] ∧ fld (s.boxArg inst.val 0) 0 2 < 2 ∧ (s.boxArg inst.val
      2).toNat ∈ List.range' 1 64) ∧
    (∃ (inst : Fin 3) (s : State), s.Holds inst.val 0x51 [12] ∧ fld (s.boxArg inst.val 0) 0 2 = 0 ∧ s.recd.exp = none ∧
      s.boxArg inst.val 2 = 0 ∧ s.areaFrom 0 (s.boxArg inst.val 1) ≠ []) ∧
    (∃ (inst : Fin 3) (s : State), s.Holds inst.val 0x52 [0] ∧ (s.box inst.val).kpDone = true ∧ s.moving = false ∧
      s.recd.exp = none) ∧
    (∃ (inst : Fin 3) (s : State), s.Holds inst.val 0x53 [8] ∧ fld (s.boxArg inst.val 1) 0 10 ∈ List.range' 1 1000 ∧
      s.recd.buckets.length < 1024 ∧ (∀ b ∈ s.recd.buckets, b.code ≠ fld (s.boxArg inst.val 0) 0 16)) ∧
    (∃ (i : Init) (w : Word) (rest : List Word) (e : Export) (s : State), s.Open i 0x70 0x60 false ∧ s.recd.exp = some e ∧
      e.words = w :: rest) ∧
    (∃ (i : Init) (s : State), s.Open i 0x70 0x60 false ∧ s.recd.exp = none) ∧
    (∃ (s : State), s.gaitNow = 0) :=
  ⟨⟨1,
      asked 1 80 12 [0, 0, 64] ({ live with keep := { live.keep with ring := [⟨9, 1, 7, false, false, false, false, 1, 2, 3, 4, 5, 6, 7⟩] } }),
      by decide⟩,
    ⟨1,
      asked 1 0x51 12 [0, 0, 0] ({ live with keep := { live.keep with ring := [⟨9, 1, 7, false, false, false, false, 1, 2, 3, 4, 5, 6, 7⟩] } }),
      by decide⟩,
    ⟨2, ((asked 2 82 0 [] (live)).modBox 2 (fun b => { b with kpDone := true })), by decide⟩,
    ⟨1, asked 1 83 8 [65535, 4129768] (live), by decide +kernel⟩,
    ⟨.mgmt, 7, [], { area := 0, words := [7], recs := [] },
      { live with recd := { live.recd with exp := some { area := 0, words := [7], recs := [] } } }, by decide⟩,
    ⟨.mgmt, live, by decide⟩,
    ⟨live, by decide⟩⟩

theorem witness_DuplexLink :
    (∃ (s : State), s.xlinkUp = true ∧ s.dup.frameDue = true ∧ s.gaitNow < 2) ∧
    (∃ (f : XFrame) (s : State), s.xlinkUp = true ∧ s.rb 0x50 0x5C 0 = true ∧ f.crcOk = false) ∧
    (∃ (f : XFrame) (s : State), s.xlinkUp = true ∧ s.rb 0x50 0x5C 0 = true ∧ f.crcOk = true ∧ f.slot ≠ s.rb 0x00 0x44 4) ∧
    (∃ (f : XFrame) (s : State), s.xlinkUp = true ∧ s.ethUp = true ∧ f.crcOk = true ∧ f.slot ≠ s.rb 0x00 0x44 4) ∧
    (∃ (s : State), s.xlinkUp = true ∧ s.rb 0x50 0x5C 0 = false ∧ s.xlinkTested = false) ∧
    (∃ (s : State), s.rb 0x50 0x5C 0 = true) :=
  ⟨⟨{ put [(0x50, 0x5C, 1)] live with dup := { live.dup with frameDue := true } }, by decide⟩,
    ⟨⟨[]⟩, put [(0x50, 0x5C, 1)] live, by decide⟩,
    ⟨⟨[1, 0, 0x0D, 0] ++ List.replicate 28 0 ++ [0x2E, 0x21, 0x45, 0x1D]⟩, put [(0x50, 0x5C, 1)] live, by decide +kernel⟩,
    ⟨⟨[1, 0, 0x0D, 0] ++ List.replicate 28 0 ++ [0x2E, 0x21, 0x45, 0x1D]⟩, live, by decide +kernel⟩,
    ⟨live, by decide⟩,
    ⟨put [(0x50, 0x5C, 1)] live, by decide⟩⟩

theorem witness_DuplexRoles :
    (∃ (s : State), s.roleOut = true) ∧
    (∃ (s : State), s.roleOut = true ∧ s.role = 1) ∧
    (∃ (s : State), s.dup.tryUntil = none) ∧
    (∃ (inst : Fin 3) (s : State), s.Holds inst.val 0x80 [4] ∧ roleSub (s.box inst.val).args = 0) ∧
    (∃ (inst : Fin 3) (s : State), s.Holds inst.val 0x80 [4] ∧ roleSub (s.box inst.val).args = 1 ∧ s.duplexEn = true) ∧
    (∃ (inst : Fin 3) (s : State), s.Holds inst.val 0x80 [4] ∧ roleSub (s.box inst.val).args = 2 ∧ s.duplexEn = true) ∧
    (∃ (inst : Fin 3) (s : State), s.Holds inst.val 0x81 [0] ∧ s.mayYield = true) ∧
    (∃ (inst : Fin 3) (s : State), s.Holds inst.val 0x81 [0] ∧ s.mayYield = false) :=
  ⟨⟨put [(0x50, 0x58, 17)] live, by decide⟩,
    ⟨put [(0x50, 0x58, 17)] live, by decide⟩,
    ⟨live, by decide⟩,
    ⟨2, asked 2 128 4 [0] (live), by decide⟩,
    ⟨2, asked 2 128 4 [1] (put [(0x50, 0x40, 1)] live), by decide⟩,
    ⟨0, asked 0 128 4 [2] (put [(0x50, 0x40, 1)] live), by decide⟩,
    ⟨2, asked 2 129 0 [] (put [(0x50, 0x58, 1), (0x50, 0x5C, 1), (0x50, 0x6C, 8192)] live), by decide⟩,
    ⟨2, asked 2 129 0 [] (live), by decide⟩⟩

theorem witness_StartUpCommands :
    (∃ (inst : Fin 3) (s : State) (n : _), s.Holds inst.val 0x01 (List.range 57) ∧ n = (fld (s.box inst.val).cmd 16 16 + 3)
      / 4) ∧
    (∃ (inst : Fin 3) (s : State), s.Holds inst.val 0x02 [0]) ∧
    (∃ (inst : Fin 3) (s : State), s.Holds inst.val 0x10 [4] ∧ profKind (s.box inst.val).args = 0 ∧ s.booted = true ∧
      s.boxArg inst.val 0 &&& 0xFFFF_FEEC = 0 ∧ s.storeRefusal (s.tackSet (fld (s.boxArg inst.val 0) 0 2)) = 0) ∧
    (∃ (inst : Fin 3) (s : State), s.Holds inst.val 0x10 [4] ∧ profKind (s.box inst.val).args = 1 ∧ s.booted = true ∧
      s.boxArg inst.val 0 &&& 0xFFFF_FEEC = 0 ∧ s.progMode = modeStop ∧ s.starting = false ∧ s.moving = false ∧ s.setRefusal
      (s.tackSet (fld (s.boxArg inst.val 0) 0 2)) = 0) ∧
    (∃ (inst : Fin 3) (s : State), s.Holds inst.val 0x10 [4] ∧ profKind (s.box inst.val).args = 2 ∧ s.booted = true ∧
      s.boxArg inst.val 0 &&& 0xFFFF_FEEC = 0) ∧
    (∃ (inst : Fin 3) (s : State), s.Holds inst.val 0x11 [0]) ∧
    (∃ (inst : Fin 3) (s : State) (bs : _), s.Holds inst.val 0x30 [8] ∧ s.farr.run = .idle ∧ bs = (List.range 64).filter
      (fun b => bit (s.boxArg inst.val (b / 32)) (b % 32)) ∧ bs ≠ [] ∧ (∀ b ∈ bs, blockAbsent s.variant b = false ∧ s.mayTest
      b = true)) ∧
    (∃ (inst : Fin 3) (s : State), s.Holds inst.val 0x31 [0]) ∧
    (∃ (inst : Fin 3) (at_ : Nat) (wall : Nat) (s : State), s.Holds inst.val 0x60 [16] ∧ (s.boxArg inst.val 1).toNat ≤
      999_999_999 ∧ at_ = (s.boxArg inst.val 2).toNat + 2 ^ 32 * (s.boxArg inst.val 3).toNat ∧ at_ ≤ s.tb.count ∧ wall =
      (s.boxArg inst.val 0).toNat * 1_000_000_000 + (s.boxArg inst.val 1).toNat) :=
  ⟨⟨1, asked 1 1 56 [7] (live), 14, by decide +kernel⟩,
    ⟨0, asked 0 2 0 [] (live), by decide +kernel⟩,
    ⟨0, asked 0 16 4 [0] ({ live with keep := { live.keep with tackSets := [{ empty := false }, {}, {}, {}] } }),
      by decide +kernel⟩,
    ⟨0, asked 0 16 4 [16] ({ live with keep := { live.keep with tackSets := [{ empty := false }, {}, {}, {}] } }),
      by decide +kernel⟩,
    ⟨2, asked 2 16 4 [256] (live), by decide +kernel⟩,
    ⟨1, asked 1 17 0 [] (live), by decide⟩,
    ⟨1, asked 1 48 8 [8] (live), [3], by decide⟩,
    ⟨1, asked 1 49 0 [] (live), by decide⟩,
    ⟨2, 0, 2_000_000_003, asked 2 96 16 [2, 3, 0, 0] (live), by decide⟩⟩

theorem witness_ResetsOfTheModule :
    (∃ (x : ColdStart) (s : State), s.Holds x.inst.val 0x90 [4] ∧ bit (s.boxArg x.inst.val 0) 0 = true ∧ s.moving = false) ∧
    (∃ (inst : Fin 3) (s : State), s.Holds inst.val 0x90 [4] ∧ bit (s.boxArg inst.val 0) 0 = false ∧ s.moving = false ∧
      s.awaitsDone = false) ∧
    (∃ (inst : Fin 3) (s : State), s.Holds inst.val 0x90 [4] ∧ bit (s.boxArg inst.val 0) 0 = false ∧ s.moving = false ∧
      s.awaitsDone = true) ∧
    (∃ (s : State), s.pins.running = true ∧ s.pins.recovery = false ∧ (s.keep.wdTimes.filter (fun t => s.tb.count < t +
      10_000_000_000)).length < 2) ∧
    (∃ (phase : Fin 9) (s : State), ((s.farr.run = .boot ∧ 1 ≤ phase.val ∧ phase.val ≤ 4) ∨ (s.bootPhase = 8 ∧
      s.tro.bootOver = false ∧ 1 ≤ phase.val ∧ (s.rf 0x00 0x40 0 8 ∉ [2, 4] ∨ phase.val ∉ [3, 4])))) ∧
    (∃ (phase : Fin 9) (s : State), ((s.farr.run = .boot ∧ 1 ≤ phase.val ∧ phase.val ≤ 4) ∨ (s.bootPhase = 8 ∧
      s.tro.bootOver = false ∧ 1 ≤ phase.val ∧ (s.rf 0x00 0x40 0 8 ∉ [2, 4] ∨ phase.val ∉ [3, 4])))) ∧
    (∃ (h : ImageHdr) (s : State), s.pins.recovery = true ∧ s.pins.usb = true ∧ h.evopelOk = true ∧ h.digestOk = true ∧
      s.keep.epochs < 64 ∧ s.keep.otpOk = true ∧ fld (s.rd 0x61 0x48) 0 12 = 0) :=
  ⟨⟨⟨2, 3⟩, asked 2 0x90 4 [1] (live), by decide⟩,
    ⟨2, asked 2 0x90 4 [0] (live), by decide⟩,
    ⟨2, asked 2 0x90 4 [0] (put [(0x09, 0x44, 1)] { voters live with tro := { live.tro with collecting := true } }), by decide⟩,
    ⟨live, by decide⟩,
    ⟨4, { live with farr := { live.farr with run := .boot } }, by decide⟩,
    ⟨8, put [(0x00, 0x50, 8)] { live with tro := { live.tro with bootOver := false } }, by decide⟩,
    ⟨⟨1, 0, true, true, true, 0⟩, { live with pins := { live.pins with recovery := true, usb := true } }, by decide⟩⟩

theorem witness_SuppliesAndPins :
    (∃ (mv : Nat) (s : State), s.pins.running = true ∧ mv < 16_800) ∧
    (∃ (s : State), s.pins.running = true ∧ s.pins.interrupted = false ∧ s.pins.pfActive = false ∧ s.pins.holdup = true ∧
      s.booted = true) ∧
    (∃ (s : State), s.pins.running = true ∧ s.pins.interrupted = false ∧ s.pins.pfActive = false ∧ s.pins.holdup = false) ∧
    (∃ (s : State), s.pins.interrupted = true ∧ s.pins.pfActive = false) ∧
    (∃ (s : State), s.pins.running = true ∧ s.pins.interrupted = true ∧ s.pins.pfActive = false ∧ s.gaitNow < 4) ∧
    (∃ (s : State), s.pins.pfActive = true ∧ s.pins.pfReturned = false) ∧
    (∃ (s : State), s.pins.running = true ∧ s.pins.interrupted = false) ∧
    (∃ (x : SafeLine), (x.low = true ∨ x.railsOk = false)) ∧
    (∃ (x : SafeLine), (x.low = true ∨ x.railsOk = false)) ∧
    (∃ (x : SafeLine), x.low = false ∧ x.railsOk = true) ∧
    (∃ (temp : Int) (s : State), s.mgmtRuns = true ∧ temp < 1300) :=
  ⟨⟨16_799, live, by decide⟩,
    ⟨live, by decide⟩,
    ⟨{ live with pins := { live.pins with holdup := false } }, by decide⟩,
    ⟨{ live with pins := { live.pins with interrupted := true } }, by decide⟩,
    ⟨{ live with pins := { live.pins with interrupted := true } }, by decide⟩,
    ⟨{ live with pins := { live.pins with pfActive := true } }, by decide⟩,
    ⟨live, by decide⟩,
    ⟨⟨true, true⟩, by decide⟩,
    ⟨⟨false, false⟩, by decide⟩,
    ⟨⟨false, true⟩, by decide⟩,
    ⟨1299, live, by decide⟩⟩

theorem witness_FarrierRuns :
    (∃ (s : State), s.farr.run ≠ .idle ∧ s.farr.checked = false) ∧
    (∃ (supplyOk : Bool) (clockOk : Bool) (tempOk : Bool) (s : State), s.farr.run = .boot ∧ s.farr.checked = false ∧
      (supplyOk && clockOk && tempOk) = false) ∧
    (∃ (b : Nat) (c : Nat) (rest : List Nat) (s : State), s.farr.run ≠ .idle ∧ s.farr.left = b :: c :: rest ∧ b < 64 ∧
      s.blockRes b ≠ 2) ∧
    (∃ (supplyOk : Bool) (clockOk : Bool) (tempOk : Bool) (inst : Fin 3) (s : State), s.farr.run = .runtime inst ∧ (supplyOk
      && clockOk && tempOk) = false) ∧
    (∃ (s : State), s.rb 0x50 0x40 2 = true ∧ s.role = 2 ∧ s.votingCount = 3 ∧ s.farr.run = .idle ∧ s.dup.rotating = none ∧
      s.reintBusy = false) :=
  ⟨⟨{ live with farr := { live.farr with run := .boot } }, by decide⟩,
    ⟨true, false, true, { live with farr := { live.farr with run := .boot } }, by decide⟩,
    ⟨63, 0, [], { live with farr := { live.farr with run := .boot, left := [63, 0] } }, by decide⟩,
    ⟨false, true, true, 2, { live with farr := { live.farr with run := .runtime 2 } }, by decide⟩,
    ⟨put [(0x50, 0x40, 4), (0x50, 0x58, 2)] (voters live), by decide⟩⟩

theorem witness_ProgramStartAndRecords :
    (∃ (c : Component) (s : State), s.starting = true ∧ s.prog.starting = false ∧ s.slotImage = some c ∧ s.authFail c.hdr =
      0 ∧ layoutOk c.image = true) ∧
    (∃ (l : Nat) (ls : List Nat) (c : Word × DWord) (why : RetainTrig) (s : State), s.votingLanes = l :: ls ∧ (s.lane
      l).lastDone = some c ∧ s.prog.retainTrig = some why ∧ ((why ≠ .restart ∨ s.pins.pfActive = true)) ∧ s.gait.stage ≠
      .retain) ∧
    (∃ (st : Fin 64) (s : State), s.stationEn st.val = true ∧ s.stationLost st.val = false ∧ s.pageHeld 0x0A = false) :=
  ⟨⟨{ hdr := { type := 2 } },
      put [(0x09, 0x44, 0x20)] { live with keep := { live.keep with slotA := { valid := true, comps := [{ hdr := { type := 2 } }] } } },
      by decide⟩,
    ⟨0, [1, 2], (7, 8), .stop,
      { (voters live).modLane 0 (fun x => { x with lastDone := some (7, 8) }) with prog := { live.prog with retainTrig := some .stop } },
      by decide⟩,
    ⟨63, tput [(0x0A, 0x803F, 0x1_0000)] live, by decide⟩⟩

theorem witness_FieldLinkAndInputs :
    (∃ (f : IsoFrame) (s : State), s.fioFitted = true ∧ s.pageHeld 0x0B = false ∧ s.pins.running = true ∧ f.synced = true ∧
      f.crcOk = false) ∧
    (∃ (f : IsoFrame) (s : State), s.fioFitted = true ∧ s.pageHeld 0x0B = false ∧ s.pins.running = true ∧ f.synced = true ∧
      f.crcOk = true) ∧
    (∃ (s : State), s.fioFitted = true) ∧
    (∃ (s : State), s.fioFitted = true ∧ s.linkMode = 1 ∧ s.field.cplChecked = false) ∧
    (∃ (s : State), s.fioFitted = true ∧ s.linkMode = 1 ∧ s.supply ≠ 3 ∧ s.fioWaits = false) ∧
    (∃ (s : State), s.fioFitted = true ∧ s.pageHeld 0x0B = false ∧ (s.linkMode = 1 ∨ s.linkMode = 2)) ∧
    (∃ (c : Fin 8) (s : State) (cfg : _), s.fioFitted = true ∧ s.linkMode = 2 ∧ cfg = s.rf 0x0B 0x58 (2 * c.val) 2) ∧
    (∃ (c : Fin 8) (s : State) (cfg : _), s.fioFitted = true ∧ s.linkMode = 2 ∧ cfg = s.rf 0x0B 0x58 (2 * c.val) 2) ∧
    (∃ (s : State), pageAbsent s.variant 0x0C = false) :=
  ⟨⟨⟨true, List.replicate 16 0, 0, 0, 0, 24_000, List.replicate 24 0⟩,
      { put [(0x0B, 0x40, 2)] live with field := { live.field with crcRun := 15 } }, by decide +kernel⟩,
    ⟨⟨true, List.replicate 14 0 ++ [0xA9, 0x6A], 0, 0, 0, 24_000, List.replicate 23 0 ++ [0x1000]⟩, live, by decide +kernel⟩,
    ⟨live, by decide⟩,
    ⟨put [(0x0B, 0x40, 1)] live, by decide⟩,
    ⟨put [(0x0B, 0x40, 1)] live, by decide⟩,
    ⟨put [(0x0B, 0x40, 2)] live, by decide⟩,
    ⟨7, put [(0x0B, 0x40, 2), (0x0B, 0x58, 32768)] live, 2, by decide⟩,
    ⟨7, put [(0x0B, 0x40, 2), (0x0B, 0x58, 0xC000), (0x0B, 0x88, 0x80)] live, 3, by decide⟩,
    ⟨live, by decide⟩⟩

theorem witness_FieldOutputsAndSupply :
    (∃ (s : State), s.fioFitted = true) ∧
    (∃ (s : State), s.fioFitted = true) ∧
    (∃ (n : Fin 24) (s : State), s.fioFitted = true ∧ s.rbMismatch n.val = true ∧ s.supply ≤ 1) ∧
    (∃ (s : State), s.fioFitted = true) ∧
    (∃ (s : State), s.fioFitted = true) ∧
    (∃ (mv : Nat) (s : State), s.fioFitted = true ∧ s.supply = 0 ∧ mv < 18000) ∧
    (∃ (mv : Nat) (s : State), s.fioFitted = true ∧ s.supply = 1 ∧ 18500 ≤ mv) ∧
    (∃ (mv : Nat) (s : State), s.fioFitted = true ∧ s.supply ≤ 1 ∧ mv < 15000) ∧
    (∃ (mv : Nat) (s : State), s.fioFitted = true ∧ s.supply ≠ 3 ∧ mv < 12000) ∧
    (∃ (mv : Nat) (s : State), s.fioFitted = true ∧ 2 ≤ s.supply ∧ 16000 < mv) :=
  ⟨⟨live, by decide⟩,
    ⟨live, by decide⟩,
    ⟨23, put [(0x0B, 0x68, 8388608), (0x50, 0x58, 16)] ((put [(0x50, 0x58, 0), (0x0B, 0x40, 0)] live)), by decide⟩,
    ⟨live, by decide⟩,
    ⟨live, by decide⟩,
    ⟨17_999, (put [(0x50, 0x58, 0), (0x0B, 0x40, 0)] live), by decide⟩,
    ⟨18_500, put [(0x0B, 0x40, 16)] live, by decide⟩,
    ⟨14_999, (put [(0x50, 0x58, 0), (0x0B, 0x40, 0)] live), by decide⟩,
    ⟨11_999, (put [(0x50, 0x58, 0), (0x0B, 0x40, 0)] live), by decide⟩,
    ⟨16_001, put [(0x0B, 0x40, 32)] live, by decide⟩⟩

theorem witness_OpenLoadIsReported :
    (∃ (n : Fin 24) (s : State), s.fioFitted = true ∧ s.rb 0x0B 0x7C n.val = true ∧ s.rb 0x0B 0x60 n.val = true) ∧
    (∃ (f : IsoFrame) (n : Fin 24) (s : State), s.fioFitted = true ∧ s.pageHeld 0x0B = false ∧ s.pins.running = true ∧
      f.synced = true ∧ f.crcOk = true ∧ 10 ≤ f.currents.getD n.val 0) :=
  ⟨⟨23, put [(0x0B, 0x7C, 8388608), (0x0B, 0x60, 8388608)] live, by decide⟩,
    ⟨⟨true, List.replicate 14 0 ++ [0xA9, 0x6A], 0, 0, 0, 24_000, List.replicate 23 0 ++ [10]⟩, 23, live, by decide +kernel⟩⟩

theorem witness_CameraPorts :
    (∃ (c : Fin 8) (i : Init) (v : Word) (s : State), i ≠ .vote ∧ s.Open i (camPage c.val) 0x40 true ∧ s.visRefuses i (rk
      (camPage c.val) 0x40) = false ∧ s.rb (camPage c.val) 0x40 0 = false ∧ bit v 0 = true ∧ s.camState c.val = 0 ∧ s.camUp
      c.val = true ∧ s.camConfigOk c.val = true) ∧
    (∃ (c : Fin 8) (i : Init) (v : Word) (s : State), i ≠ .vote ∧ s.Open i (camPage c.val) 0x40 true ∧ s.visRefuses i (rk
      (camPage c.val) 0x40) = false ∧ s.rb (camPage c.val) 0x40 0 = true ∧ bit v 0 = false) ∧
    (∃ (c : Fin 8) (s : State), s.camUp c.val = true ∧ s.camState c.val = 1) ∧
    (∃ (c : Fin 8) (s : State), s.camUp c.val = true ∧ s.camState c.val = 1) ∧
    (∃ (c : Fin 8) (s : State), s.camUp c.val = true ∧ 2 ≤ s.camState c.val) ∧
    (∃ (c : Fin 8) (vc : Nat) (s : State), s.camUp c.val = true ∧ 2 ≤ s.camState c.val ∧ vc ≠ s.rf (camPage c.val) 0x44 4 4) ∧
    (∃ (c : Fin 8) (s : State), s.cams.length = 8 ∧ s.camUp c.val = true ∧ 2 ≤ s.camState c.val ∧ s.embTakes c.val = true) ∧
    (∃ (c : Fin 8) (s : State), s.cams.length = 8 ∧ s.camUp c.val = true ∧ 2 ≤ s.camState c.val ∧ s.embTakes c.val = false) ∧
    (∃ (c : Fin 8) (s : State), s.cams.length = 8 ∧ s.camUp c.val = true ∧ 2 ≤ s.camState c.val) ∧
    (∃ (c : Fin 8) (px : List Nat) (s : State) (y : _), s.cams.length = 8 ∧ s.camUp c.val = true ∧ s.camState c.val = 3 ∧
      (s.cam c.val).opened = true ∧ (s.cam c.val).bad = false ∧ y = (s.cam c.val).nextLine ∧ y < s.camHeight c.val ∧ px.length
      = s.camWidth c.val) ∧
    (∃ (c : Fin 8) (px : List Nat) (s : State) (y : _), s.cams.length = 8 ∧ s.camUp c.val = true ∧ s.camState c.val = 3 ∧
      (s.cam c.val).opened = true ∧ (s.cam c.val).bad = false ∧ y = (s.cam c.val).nextLine ∧ y < s.camHeight c.val ∧ px.length
      ≠ s.camWidth c.val) ∧
    (∃ (c : Fin 8) (s : State), s.cams.length = 8 ∧ s.camUp c.val = true ∧ (s.cam c.val).opened = true ∧ (s.cam c.val).bad =
      false ∧ (s.cam c.val).nextLine = s.camHeight c.val) ∧
    (∃ (c : Fin 8) (s : State), s.camUp c.val = true ∧ 2 ≤ s.camState c.val) ∧
    (∃ (s : State), s.cams.length = 8 ∧ s.tb.strobes.length = 15 ∧ s.camGenerators = true) ∧
    (∃ (c : Fin 8) (i : Init) (s : State), i ≠ .vote ∧ s.Open i (camPage c.val) 0x94 true ∧ s.visRefuses i (rk (camPage
      c.val) 0x94) = false ∧ s.rb (camPage c.val) 0xA4 0 = false) ∧
    (∃ (c : Fin 8) (s : State), s.rb (camPage c.val) 0xA4 0 = true) :=
  ⟨⟨7, .mgmt, 1, live, by decide⟩,
    ⟨7, .mgmt, 0, put [(0x38, 0x40, 1)] live, by decide⟩,
    ⟨7, put [(0x38, 0xA8, 1)] live, by decide⟩,
    ⟨7, put [(0x38, 0xA8, 1)] live, by decide⟩,
    ⟨7, put [(0x38, 0xA8, 258)] live, by decide⟩,
    ⟨7, 9, put [(0x38, 0xA8, 2)] live, by decide⟩,
    ⟨7, { (put [(0x38, 0xA8, 2), (0x38, 0x48, 4096)] live) with cams := live.cams.set 7 { opened := true } }, by decide⟩,
    ⟨7, put [(0x38, 0xA8, 2)] live, by decide⟩,
    ⟨7, put [(0x38, 0xA8, 3)] live, by decide⟩,
    ⟨7, [], { (put [(0x38, 0xA8, 3), (0x38, 0x4C, 131072)] live) with cams := live.cams.set 7 { opened := true } }, 0,
      by decide⟩,
    ⟨7, [1], { (put [(0x38, 0xA8, 3), (0x38, 0x4C, 131072)] live) with cams := live.cams.set 7 { opened := true } }, 0,
      by decide⟩,
    ⟨7, { (put [(0x38, 0xA8, 3), (0x38, 0x4C, 0)] live) with cams := live.cams.set 7 { opened := true } }, by decide⟩,
    ⟨7, put [(0x38, 0xA8, 2)] live, by decide⟩,
    ⟨put [(0x38, 0xA8, 258), (0x38, 0x40, 3)] live, by decide⟩,
    ⟨7, .mgmt, live, by decide⟩,
    ⟨7, put [(0x38, 0xA8, 258), (0x38, 0xA4, 1)] live, by decide⟩⟩

theorem witness_ViewsAndDisplays :
    (∃ (v : Fin 6) (s : State), s.views.length = 6 ∧ s.viewUp v.val = true) ∧
    (∃ (v : Fin 6) (s : State), s.viewUp v.val = true ∧ s.viewPending v.val = false ∧ (s.view v.val).recheck = false ∧
      (s.view v.val).through = false ∧ s.viewState v.val = 1 ∧ s.sourcesStream v.val = true ∧ s.dspState v.val = 2 ∧ later 32
      (s.rd (viewPage v.val) 0x68).toNat (s.rd (viewPage v.val) 0x64).toNat = false) ∧
    (∃ (v : Fin 6) (s : State), s.viewUp v.val = true ∧ s.viewPending v.val = false ∧ (s.view v.val).recheck = false ∧
      (s.view v.val).through = false ∧ later 32 (s.rd (viewPage v.val) 0x68).toNat (s.rd (viewPage v.val) 0x64).toNat = true ∧
      (∀ c ∈ (s.view v.val).readyBank, 0x200 ≤ c.1)) ∧
    (∃ (d : Fin 6) (s : State), s.dspUp d.val = true ∧ s.dspState d.val = 0 ∧ s.dspModeOk d.val (s.dspNext d.val 0x40) =
      true ∧ (s.applyShadows (dspPage d.val) (fun _ => true)).rb (dspPage d.val) 0x40 0 = true) ∧
    (∃ (d : Fin 6) (s : State), s.dspUp d.val = true ∧ s.dspState d.val = 1) ∧
    (∃ (d : Fin 6) (s : State), s.dspUp d.val = true ∧ s.dspState d.val = 1) ∧
    (∃ (d : Fin 6) (s : State), s.dspUp d.val = true ∧ s.dspState d.val = 2) ∧
    (∃ (d : Fin 6) (s : State), s.dsps.length = 6 ∧ s.tb.strobes.length = 15 ∧ s.dspUp d.val = true ∧ s.dspState d.val = 2 ∧
      s.rb (dspPage d.val) 0x40 0 = true ∧ s.shadows (dspPage d.val) (fun _ => true) = []) ∧
    (∃ (d : Fin 6) (i : Init) (s : State), i ≠ .vote ∧ s.dsps.length = 6 ∧ s.Open i (dspPage d.val) 0x64 true ∧ s.visRefuses
      i (rk (dspPage d.val) 0x64) = false) ∧
    (∃ (d : Fin 6) (s : State), s.dsps.length = 6 ∧ (s.dsp d.val).dcs.isSome = true) ∧
    (∃ (v : Fin 6) (line : Nat) (s : State), s.dsps.length = 6 ∧ s.dspUp v.val = true ∧ s.dspState v.val = 2 ∧ line < s.rf
      0x48 (vtD v.val 0) 16 12) ∧
    (∃ (v : Fin 6) (s : State), s.views.length = 6 ∧ s.viewUp v.val = true) ∧
    (∃ (v : Fin 6) (at_ : Nat) (s : State), s.viewUp v.val = true ∧ s.viewState v.val = 2 ∧ s.srcActive v.val = false ∧ s.rf
      0x48 (vtV v.val 0) 0 12 < s.camHeight (s.rf (viewPage v.val) 0x40 8 3) ∧ s.rf 0x48 (vtV v.val 0) 16 12 < s.rf 0x48 (vtD
      v.val 0) 16 12 ∧ s.refStamp v.val (s.rf (viewPage v.val) 0x40 8 3) = some (some at_)) ∧
    (∃ (v : Fin 6) (s : State), s.viewUp v.val = true ∧ s.viewState v.val = 2 ∧ s.srcActive v.val = false ∧ s.rf 0x48 (vtV
      v.val 0) 0 12 < s.camHeight (s.rf (viewPage v.val) 0x40 8 3) ∧ s.rf 0x48 (vtV v.val 0) 16 12 < s.rf 0x48 (vtD v.val 0)
      16 12 ∧ s.refStamp v.val (s.rf (viewPage v.val) 0x40 8 3) = none ∧ s.rd 0x48 (vtV v.val 4) ≠ 0) ∧
    (∃ (d : Fin 6) (v : Word) (s : State), pageAbsent s.variant 0x48 = false ∧ v.toNat * 65536 < s.dspPeriod d.val) ∧
    (∃ (d : Fin 6) (v : Word) (s : State), pageAbsent s.variant 0x48 = false ∧ s.dspPeriod d.val ≤ v.toNat * 65536) :=
  ⟨⟨5, live, by decide⟩,
    ⟨5,
      { (put [(0x3E, 0x60, 1), (0x3E, 0x40, 1792), (0x38, 0xA8, 3), (0x45, 0x44, 2)] live) with views := live.views.set 5 { recheck := false } },
      by decide⟩,
    ⟨5, { (put [(0x3E, 0x68, 1)] live) with views := live.views.set 5 { recheck := false } }, by decide⟩,
    ⟨5,
      { (put [(0x48, 0x40, 0x502b0000), (0x48, 0x44, 0xfe), (0x48, 0x1E0, 0x190_0320), (0x48, 0x1E4, 1000), (0x48, 0x1EC, 500)] live) with shadow := [(rk 0x45 0x40, 0x11)] },
      by decide⟩,
    ⟨5, put [(0x45, 0x44, 1)] live, by decide⟩,
    ⟨5, put [(0x45, 0x44, 1)] live, by decide⟩,
    ⟨5, put [(0x45, 0x44, 2)] live, by decide⟩,
    ⟨5, put [(0x45, 0x44, 2), (0x45, 0x40, 1)] live, by decide⟩,
    ⟨5, .mgmt, live, by decide⟩,
    ⟨5, { live with dsps := live.dsps.set 5 { dcs := some (3, []) } }, by decide⟩,
    ⟨5, 0, put [(0x45, 0x44, 2), (0x48, 0x1E0, 65538)] live, by decide⟩,
    ⟨5, live, by decide⟩,
    ⟨5, 0,
      { (put [(0x45, 0x44, 0), (0x3E, 0x60, 2), (0x3E, 0x40, 1792), (0x38, 0x4C, 196608), (0x48, 0x1E0, 131072), (0x48, 0x2A0, 65537)] live) with cams := live.cams.set 7 { refIn := [(5, 0, some 0)] } },
      by decide⟩,
    ⟨5,
      put [(0x45, 0x44, 0), (0x3E, 0x60, 2), (0x3E, 0x40, 1792), (0x38, 0x4C, 196608), (0x48, 0x1E0, 131072), (0x48, 0x2A0, 65537), (0x48, 0x2A4, 7)] live,
      by decide⟩,
    ⟨5, 7, put [(0x48, 0x40, 0x502b0000), (0x48, 0x44, 0xfe)] live, by decide⟩,
    ⟨5, 0xFFFF_FFFF, live, by decide⟩⟩

theorem witness_FrameWatch :
    (∃ (d : Fin 6) (s : State), s.dsps.length = 6 ∧ s.metaEn d.val = true ∧ s.dspState d.val = 2) ∧
    (∃ (r : Report) (s : State), s.fwUp = true ∧ r.valid = false) ∧
    (∃ (r : Report) (s : State), s.dsps.length = 6 ∧ s.fwUp = true ∧ r.valid = true) ∧
    (∃ (d : Fin 6) (s : State), s.dsps.length = 6 ∧ s.fwUp = true ∧ s.metaEn d.val = true ∧ (s.dsp d.val).report = none) ∧
    (∃ (d : Fin 6) (n : BitVec 16) (r : Report) (h : List Word) (s : State), s.dsps.length = 6 ∧ s.watches.length = 6 ∧
      s.fwUp = true ∧ s.metaEn d.val = true ∧ (s.dsp d.val).report = some r ∧ r.rxFrame % 0x1_0000 = n.toNat ∧ alGet (s.dsp
      d.val).hist n.toNat = some h ∧ reportDiff h r = none) ∧
    (∃ (v : Fin 6) (s : State), s.dsps.length = 6 ∧ s.watches.length = 6 ∧ s.fwUp = true ∧ s.watchState v.val ≠ 0) ∧
    (∃ (v : Fin 6) (s : State), s.watches.length = 6 ∧ s.fwUp = true ∧ s.watchState v.val = 3 ∧ s.rb 0x49 (fwOff v.val 0) 10
      = true) :=
  ⟨⟨5, put [(0x45, 0x40, 65536), (0x45, 0x44, 2)] live, by decide⟩,
    ⟨⟨List.replicate 64 0⟩, live, by decide⟩,
    ⟨⟨[0xE7, 1, 9, 0, 9, 0] ++ List.replicate 54 0 ++ [0x72, 0xBA, 0x70, 0x77]⟩, live, by decide +kernel⟩,
    ⟨5, { (put [(0x45, 0x40, 65536)] live) with dsps := live.dsps.set 5 { missRun := 1 } }, by decide⟩,
    ⟨5, 9, ⟨[0xE7, 1, 9, 0, 9, 2] ++ List.replicate 54 0 ++ [0x52, 0xDC, 0x77, 0x33]⟩, List.replicate 256 0,
      { (put [(0x45, 0x40, 0x1_0000)] live) with dsps := live.dsps.set 5 { report := some ⟨[0xE7, 1, 9, 0, 9, 2] ++ List.replicate 54 0 ++ [0x52, 0xDC, 0x77, 0x33]⟩, hist := [(9, List.replicate 256 0)] } },
      by decide +kernel⟩,
    ⟨5, put [(0x49, 0x18C, 1)] live, by decide⟩,
    ⟨5, put [(0x49, 0x18C, 3), (0x49, 0x180, 1024)] live, by decide⟩⟩

theorem witness_CanTraffic :
    (∃ (n : Fin 6) (i : Init) (v : Word) (s : State), i ≠ .vote ∧ s.cans.length = 6 ∧ s.Open i (canPage n.val) 0x40 true ∧
      s.canMode n.val = 0 ∧ fld v 0 2 ≠ 0) ∧
    (∃ (n : Fin 6) (i : Init) (v : Word) (s : State), i ≠ .vote ∧ s.Open i (canPage n.val) 0x40 true ∧ s.canMode n.val ≠ 0 ∧
      fld v 0 2 = 0 ∧ (s.can n.val).onBus = none ∧ s.offered n.val = none ∧ s.shadows (canPage n.val) (fun _ => true) = []) ∧
    (∃ (n : Fin 6) (i : Init) (v : Word) (b : Nat) (s : State), i ≠ .vote ∧ s.cans.length = 6 ∧ s.Open i (canPage n.val)
      0x40 true ∧ s.canMode n.val ≠ 0 ∧ fld v 0 2 = 0 ∧ ((s.can n.val).onBus = some b ∨ ((s.can n.val).onBus = none ∧
      s.offered n.val = some b))) ∧
    (∃ (n : Fin 6) (i : Init) (v : Word) (b : Nat) (s : State), i ≠ .vote ∧ s.cans.length = 6 ∧ s.Open i (canPage n.val)
      0x40 true ∧ s.canMode n.val ≠ 0 ∧ fld v 0 2 = 0 ∧ ((s.can n.val).onBus = some b ∨ ((s.can n.val).onBus = none ∧
      s.offered n.val = some b))) ∧
    (∃ (n : Fin 6) (s : State), s.canDown n.val = false ∧ s.canIntegrated n.val = false ∧ s.shadows (canPage n.val) (fun _
      => true) = []) ∧
    (∃ (n : Fin 6) (f : CanFrame) (s : State), s.canDown n.val = false ∧ s.canIntegrated n.val = true ∧ s.canBusOff n.val =
      false ∧ (List.range 128).find? (fun p => s.pairMatches n.val p (frameKey f)) = none) ∧
    (∃ (n : Fin 6) (f : CanFrame) (p : Nat) (s : State), s.cans.length = 6 ∧ s.canDown n.val = false ∧ s.canIntegrated n.val
      = true ∧ s.canBusOff n.val = false ∧ (List.range 128).find? (fun q => s.pairMatches n.val q (frameKey f)) = some p ∧ fld
      (s.tab (canPage n.val) (4 * p + 2)) 1 2 = 1 ∧ (s.can n.val).rxq0.length < 32) ∧
    (∃ (n : Fin 6) (i : Init) (e : List Word) (rest : List (List Word)) (s : State), s.cans.length = 6 ∧ s.Open i (canPage
      n.val) 0x78 false ∧ (s.can n.val).rxq0 = e :: rest) ∧
    (∃ (n : Fin 6) (i : Init) (s : State), s.Open i (canPage n.val) 0x7C false ∧ (s.can n.val).rxq1 = []) ∧
    (∃ (n : Fin 6) (o : Fin 64) (i : Init) (s : State), i ≠ .vote ∧ s.Open i (canPage n.val) 0x30 true ∧ s.Open i (canPage
      n.val) 0x34 true ∧ bit (s.tab (canPage n.val) (objBase o.val + 1)) 10 = true) ∧
    (∃ (n : Fin 6) (i : Init) (s : State), i ≠ .vote ∧ s.Open i (canPage n.val) 0x80 true) ∧
    (∃ (n : Fin 6) (i : Init) (s : State), i ≠ .vote ∧ s.Open i (canPage n.val) 0x84 true) ∧
    (∃ (n : Fin 6) (b : Fin 96) (sof : Word) (s : State), s.maySend n.val b.val (s.pairTime sof) = true ∧ (s.can
      n.val).stopPend = false ∧ 64 ≤ b.val) ∧
    (∃ (n : Fin 6) (s : State), s.pageHeld (canPage n.val) = false ∧ s.canBusOff n.val = false ∧ s.canIntegrated n.val =
      true) ∧
    (∃ (n : Fin 6) (i : Init) (s : State), i ≠ .vote ∧ s.Open i (canPage n.val) 0x40 true ∧ s.canBusOff n.val = true) ∧
    (∃ (n : Fin 6) (s : State), s.canBusOff n.val = true ∧ s.rb (canPage n.val) 0x44 3 = true) ∧
    (∃ (n : Fin 6) (s : State), s.gaitNow ≠ 0 ∧ s.gaitNow ≤ 3 ∧ s.rb 0x72 0x48 0 = true ∧ s.gait.canWake.testBit n.val =
      true) :=
  ⟨⟨5, .mgmt, 3, live, by decide⟩,
    ⟨5, .mgmt, 0, put [(0x15, 0x40, 2)] live, by decide⟩,
    ⟨5, .mgmt, 0, 64, { (put [(0x15, 0x40, 1)] live) with cans := live.cans.set 5 { onBus := some 64 } }, by decide⟩,
    ⟨5, .mgmt, 0, 95, put [(0x15, 0x40, 1), (0x15, 0x44, 4), (0x15, 0x80, 2147483648)] live, by decide⟩,
    ⟨5, put [(0x15, 0x40, 2)] live, by decide⟩,
    ⟨5, ⟨5, false, false, false, false, false, 4, [0, 0, 0, 0]⟩, put [(0x15, 0x40, 1), (0x15, 0x44, 4)] live, by decide⟩,
    ⟨5, ⟨5, false, false, false, false, false, 4, [0, 0, 0, 0]⟩, 127,
      tput [(0x15, 0x1FC, 0x14_0000), (0x15, 0x1FD, 0x7FFF_FFFF), (0x15, 0x1FE, 0x3)] (put [(0x15, 0x40, 1), (0x15, 0x44, 4)] live),
      by decide⟩,
    ⟨5, .mgmt, [1, 2], [], { (live) with cans := live.cans.set 5 { rxq0 := [[1, 2]] } }, by decide⟩,
    ⟨5, .mgmt, live, by decide⟩,
    ⟨5, 63, .mgmt, tput [(0x15, objBase 63 + 1, 0x400)] live, by decide⟩,
    ⟨5, .mgmt, live, by decide⟩,
    ⟨5, .mgmt, put [(0x15, 0x80, 7)] live, by decide⟩,
    ⟨5, 95, 7, put [(0x15, 0x40, 1), (0x15, 0x44, 4), (0x15, 0x80, 2147483648)] live, by decide⟩,
    ⟨5, put [(0x15, 0x40, 1), (0x15, 0x44, 4)] live, by decide⟩,
    ⟨5, .mgmt, put [(0x15, 0x44, 2)] live, by decide⟩,
    ⟨5, put [(0x15, 0x44, 10)] live, by decide⟩,
    ⟨5, { put [(0x72, 0x44, 3), (0x72, 0x48, 1)] live with gait := { live.gait with canWake := 0x20 } }, by decide⟩⟩

theorem witness_CanTimeTriggered :
    (∃ (n : Fin 6) (f : CanFrame) (s : State), s.canDown n.val = false ∧ s.canIntegrated n.val = true ∧ s.canMode n.val = 2
      ∧ s.isRefId n.val f = true ∧ 4 ≤ f.dlc ∧ s.ttState n.val = 1 ∧ (f.data.getD 0 0).toNat % 64 = 0 ∧ s.shadows (canPage
      n.val) (fun _ => true) = []) ∧
    (∃ (n : Fin 6) (s : State), s.canDown n.val = false ∧ s.canMode n.val = 2 ∧ s.ttState n.val = 3 ∧ s.rf (canPage n.val)
      0xA0 20 2 < 2 ∧ s.shadows (canPage n.val) (fun _ => true) = []) ∧
    (∃ (n : Fin 6) (s : State), s.maySendRef n.val = true ∧ s.ttState n.val = 4 ∧ s.shadows (canPage n.val) (fun _ => true)
      = []) ∧
    (∃ (n : Fin 6) (s : State), s.maySendRef n.val = true ∧ s.ttState n.val = 4) ∧
    (∃ (n : Fin 6) (s : State), s.maySendRef n.val = true ∧ s.ttState n.val = 3) ∧
    (∃ (n : Fin 6) (s : State), s.maySendRef n.val = true ∧ s.ttState n.val = 1) ∧
    (∃ (n : Fin 6) (s : State), s.canDown n.val = false ∧ s.canMode n.val = 2 ∧ s.ttState n.val = 2 ∧ s.shadows (canPage
      n.val) (fun _ => true) = []) ∧
    (∃ (n : Fin 6) (w : Fin 32) (s : State), s.cans.length = 6 ∧ s.canDown n.val = false ∧ s.canMode n.val = 2 ∧ fld (s.cell
      n.val w.val) 0 2 = 1 ∧ fld (s.tab (canPage n.val) (0x1400 + w.val)) 16 16 ≠ 0 ∧ 3 ≤ s.ttState n.val ∧ s.canBusOff n.val
      = false ∧ s.canMuted n.val = false ∧ s.rb (canPage n.val) 0xA0 16 = false ∧ (s.can n.val).missSuppress = false) ∧
    (∃ (n : Fin 6) (w : Fin 32) (b : Nat) (s : State), s.cans.length = 6 ∧ s.canDown n.val = false ∧ s.canMode n.val = 2 ∧
      fld (s.cell n.val w.val) 0 2 = 2 ∧ 3 ≤ s.ttState n.val ∧ s.canBusOff n.val = false ∧ s.canMuted n.val = false ∧ s.lowest
      n.val (s.fitting n.val (2 * s.ntuNs n.val * fld (s.tab (canPage n.val) (0x1400 + w.val)) 16 16)) = some b) :=
  ⟨⟨5, ⟨5, false, false, false, false, false, 4, [0, 0, 0, 0]⟩,
      put [(0x15, 0x40, 2), (0x15, 0x44, 4), (0x15, 0xA0, 1)] live, by decide⟩,
    ⟨5, put [(0x15, 0x40, 2), (0x15, 0x44, 4), (0x15, 0xA0, 1048579)] live, by decide⟩,
    ⟨5, put [(0x15, 0x40, 2), (0x15, 0x44, 4), (0x15, 0xA0, 4), (0x15, 0x90, 65536)] live, by decide⟩,
    ⟨5, put [(0x15, 0x40, 2), (0x15, 0x44, 4), (0x15, 0xA0, 4), (0x15, 0x90, 65536)] live, by decide⟩,
    ⟨5, put [(0x15, 0x40, 2), (0x15, 0x44, 4), (0x15, 0xA0, 3), (0x15, 0x90, 65536)] live, by decide⟩,
    ⟨5, put [(0x15, 0x40, 2), (0x15, 0x44, 4), (0x15, 0xA0, 1), (0x15, 0x90, 65536)] live, by decide⟩,
    ⟨5, put [(0x15, 0x40, 2), (0x15, 0x44, 4), (0x15, 0xA0, 2)] live, by decide⟩,
    ⟨5, 31,
      tput [(0x15, 0x201F, 0x1), (0x15, 0x141F, 0x10_0000)] (put [(0x15, 0x40, 2), (0x15, 0x44, 4), (0x15, 0xA0, 3)] live),
      by decide⟩,
    ⟨5, 31, 95,
      tput [(0x15, 0x201F, 0x2), (0x15, 0x141F, 0xFFFF_0000)] (put [(0x15, 0x40, 2), (0x15, 0x44, 4), (0x15, 0xA0, 3), (0x15, 0x80, 0x8000_0000), (0x15, 0x90, 1000)] live),
      by decide⟩⟩

theorem witness_MvbBus :
    (∃ (s : State), s.mvbUp = true) ∧
    (∃ (d : List Byte) (port : Nat) (fc : Nat) (s : State), s.mvbUp = true ∧ s.mvb.asked = some (port, fc) ∧ d.length = 2 *
      2 ^ fc) ∧
    (∃ (s : State), s.mvbUp = true) ∧
    (∃ (s : State), s.mvbUp = true ∧ s.mvbRole = 2) ∧
    (∃ (s : State), s.mvbUp = true ∧ s.mvbRole = 1) ∧
    (∃ (s : State), s.mvbUp = true ∧ s.mvbRole ≠ 0 ∧ s.mvb.calm = true ∧ s.mvb.coll ≠ 0) :=
  ⟨⟨live, by decide⟩,
    ⟨[1, 2], 7, 0, { live with mvb := { live.mvb with asked := some (7, 0) } }, by decide⟩,
    ⟨put [(0x18, 0x44, 1)] ({ live with mvb := { live.mvb with claim := true } }), by decide⟩,
    ⟨put [(0x18, 0x44, 2)] live, by decide⟩,
    ⟨put [(0x18, 0x44, 1)] live, by decide⟩,
    ⟨put [(0x18, 0x44, 1)] ({ live with mvb := { live.mvb with coll := 3, calm := true } }), by decide⟩⟩

theorem witness_EthernetSwitch :
    (∃ (port : Fin 5) (f : EthFrame) (s : State), s.ethUp = true ∧ s.portOn port.val = true ∧ ((port.val = 4 → s.cpuSends f
      = true)) ∧ f.fcsOk = false) ∧
    (∃ (port : Fin 5) (f : EthFrame) (s : State), s.ethUp = true ∧ s.portOn port.val = true ∧ ((port.val = 4 → s.cpuSends f
      = true)) ∧ f.fcsOk = false) ∧
    (∃ (port : Fin 5) (f : EthFrame) (s : State), s.ethUp = true ∧ s.portOn port.val = true ∧ ((port.val = 4 → s.cpuSends f
      = true)) ∧ f.fcsOk = true ∧ 64 ≤ f.len ∧ f.len ≤ 1522 ∧ ((port.val < 4 → bit (s.portCfg port.val) 9 = false)) ∧ f.src /
      2 ^ 40 % 2 = 0 ∧ s.net.addrs.length < 4096) ∧
    (∃ (port : Fin 4) (up : Bool) (s : State), s.ethUp = true ∧ s.rb 0x20 (0x50 + 4 * port.val) 0 = !up ∧ ((up = true → bit
      (s.portCfg port.val) 8 = true))) ∧
    (∃ (port : Fin 4) (s : State) (g : _), s.ethUp = true ∧ s.net.gate.length = 4 ∧ g = s.net.gate.getD port.val 0 + 1) ∧
    (∃ (port : Fin 4) (s : State) (g : _), s.ethUp = true ∧ s.net.gate.length = 4 ∧ g = s.net.gate.getD port.val 0 + 1) ∧
    (∃ (i : Init) (v : Word) (s : State) (w : _) (p3 : _), i ≠ .vote ∧ s.Open i 0x20 0x78 true ∧ s.ethUp = true ∧ w = s.tab
      0x20 (0x800 + fld v 0 10) ∧ bit w 11 = false ∧ fld w 0 11 ≠ 0 ∧ p3 = s.tab 0x20 (0x1003 + 4 * fld w 16 10) ∧ bit p3 22 =
      true) ∧
    (∃ (s : State), s.ethUp = true ∧ s.role ≠ 2 ∧ s.inPause = false) :=
  ⟨⟨4, ⟨5, 6, 0x800, none, 64, [], .none, .l2, 2, 0, 0, 0, false⟩,
      { live with net := { live.net with txQ := live.net.txQ.set 7 [frameBytes ⟨5, 6, 0x800, none, 64, [], .none, .l2, 2, 0, 0, 0, false⟩] } },
      by decide⟩,
    ⟨3, ⟨5, 6, 0x800, none, 64, [], .none, .l2, 2, 0, 0, 0, false⟩, put [(0x20, 0x4C, 256), (0x20, 0x5C, 1)] live, by decide⟩,
    ⟨3, ⟨5, 6, 0x800, none, 1522, [], .none, .l2, 2, 0, 0, 0, true⟩, put [(0x20, 0x4C, 256), (0x20, 0x5C, 1)] live, by decide⟩,
    ⟨3, true, put [(0x20, 0x4C, 256)] live, by decide⟩,
    ⟨3, tput [(0x20, 0x40F, 1)] live, 1, by decide⟩,
    ⟨3, tput [(0x20, 0x40F, 3)] live, 1, by decide⟩,
    ⟨.mgmt, 1023, tput [(0x20, 0xBFF, 1), (0x20, 0x1003, 0x40_0000)] live, 1, 0x40_0000, by decide⟩,
    ⟨live, by decide⟩⟩

theorem witness_DmaAndPcie :
    (∃ (c : Fin 8) (i : Init) (v : Word) (s : State), i ≠ .vote ∧ s.Open i 0x22 (dmaOff c.val 0x10) true ∧ s.dmaState c.val
      = 1 ∧ s.dmaHead c.val ≠ fld v 0 16) ∧
    (∃ (c : Fin 8) (i : Init) (s : State), i ≠ .vote ∧ s.Open i 0x22 (dmaOff c.val 0x14) true ∧ s.dmaState c.val = 0) ∧
    (∃ (c : Fin 8) (i : Init) (s : State), i ≠ .vote ∧ s.Open i 0x22 (dmaOff c.val 0x14) true) ∧
    (∃ (c : Fin 8) (i : Init) (s : State), i ≠ .vote ∧ s.Open i 0x22 (dmaOff c.val 0x14) true ∧ s.dmaState c.val = 3 ∧ bit
      (s.dmaWord c.val 0x14) 0 = true) ∧
    (∃ (c : Fin 8) (host : List Word) (met : Nat) (s : State) (d : _), s.pageUp 0x22 = true ∧ s.dataPlaneUp = true ∧
      s.dmaState c.val = 2 ∧ d = s.descWords c.val host ∧ (s.inPause = false ∨ (s.ringHost c.val = false ∧ usesHost d =
      false)) ∧ s.dmaErr c.val d met = 0 ∧ dSrc d ≠ 2) ∧
    (∃ (addr : Nat) (n : Nat) (vs : List Word) (s : State), s.pcieUp = true ∧ s.inPause = false ∧ addr + n ≤ 0x100_0000 ∧
      s.rb 0x23 0x40 1 = true ∧ n ≤ (wordsBytes vs).length) ∧
    (∃ (s : State), pageAbsent s.variant 0x23 = false ∧ s.pcieUp = true) ∧
    (∃ (s : State), s.pageUp 0x23 = true ∧ s.dataPlaneUp = true ∧ s.pcieUp = false ∧ s.rb 0x23 0x40 0 = true) ∧
    (∃ (c : Fin 8) (s : State), s.dmaOnPcie c.val = true ∧ (s.ringHost c.val = true ∨ dSrc (s.descWords c.val []) = 1)) :=
  ⟨⟨7, .mgmt, 1, put [(0x22, 0x138, 1)] live, by decide⟩,
    ⟨7, .mgmt, live, by decide⟩,
    ⟨7, .mgmt, put [(0x22, 0x134, 1), (0x22, 0x138, 1)] live, by decide⟩,
    ⟨7, .mgmt, put [(0x22, 0x134, 1), (0x22, 0x138, 3)] live, by decide⟩,
    ⟨7, [], 0,
      { (put [(0x22, 0x138, 2), (0x22, 0x120, 4096)] live).setBytes (sramMem 0x1000) [0x10, 0, 0, 0] with freeIx := 0 },
      ([0x10, 0, 0, 0, 0, 0, 0, 0] : List Word), by decide⟩,
    ⟨0xFF_FFFC, 4, [7], put [(0x23, 0x44, 1), (0x23, 0x40, 2)] live, by decide⟩,
    ⟨put [(0x23, 0x44, 1)] live, by decide⟩,
    ⟨put [(0x23, 0x40, 65)] live, by decide⟩,
    ⟨7, put [(0x22, 0x138, 2), (0x22, 0x120, 1)] live, by decide⟩⟩

theorem witness_UpdateSessions :
    (∃ (inst : Fin 3) (src : Nat) (s : State), s.Holds inst.val 0x40 [8] ∧ src = fld (s.boxArg inst.val 0) 0 2 ∧ ((inst.val
      = 1 ∧ (src = 1 ∨ src = 2)) ∨ (inst.val = 2 ∧ src = 3)) ∧ s.upd.held = false ∧ s.hobble src = 0 ∧ (s.boxArg inst.val
      1).toNat ≤ 20_971_520) ∧
    (∃ (inst : Fin 3) (ofs : Nat) (len : Nat) (buf : Nat) (base : Nat) (s : State), s.Holds inst.val 0x41 [16] ∧ s.upd.held
      = true ∧ fld (s.boxArg inst.val 0) 0 16 = s.rf 0x71 0x48 0 16 ∧ ofs = (s.boxArg inst.val 1).toNat ∧ len = (s.boxArg
      inst.val 2).toNat ∧ buf = (s.boxArg inst.val 3).toNat ∧ 4 ≤ len ∧ len ≤ 65_536 ∧ ofs % 4 = 0 ∧ len % 4 = 0 ∧ ofs + len ≤
      (s.rd 0x71 0x4C).toNat ∧ buf + len ≤ (if s.rf 0x71 0x44 4 2 = 3 then 0x1_0000 else 0x100_0000) ∧ base = (if s.rf 0x71
      0x44 4 2 = 3 then usbMem buf else sramMem buf)) ∧
    (∃ (inst : Fin 3) (comps : List Component) (s : State), s.Holds inst.val 0x42 [4] ∧ s.upd.held = true ∧ fld (s.boxArg
      inst.val 0) 0 16 = s.rf 0x71 0x48 0 16 ∧ s.pkgFault comps = none) ∧
    (∃ (inst : Fin 3) (s : State), s.Holds inst.val 0x43 [4] ∧ s.upd.held = true ∧ fld (s.boxArg inst.val 0) 0 16 = s.rf
      0x71 0x48 0 16 ∧ s.activateRefusal = 0 ∧ s.mayYield = false) ∧
    (∃ (inst : Fin 3) (s : State), s.Holds inst.val 0x44 [0] ∧ s.updState = 4 ∧ s.keep.trialBoots ≤ 2 ∧ s.tb.count <
      s.keep.trialStart + 600_000_000_000) ∧
    (∃ (inst : Fin 3) (s : State), s.Holds inst.val 0x45 [4] ∧ s.updState ≠ 4 ∧ s.upd.held = true ∧ fld (s.boxArg inst.val
      0) 0 16 = s.rf 0x71 0x48 0 16) ∧
    (∃ (inst : Fin 3) (s : State), s.Holds inst.val 0x45 [4] ∧ s.updState = 4) ∧
    (∃ (inst : Fin 3) (s : State), s.Holds inst.val 0x46 [0]) ∧
    (∃ (inst : Fin 3) (s : State), s.Holds inst.val 0x47 [4] ∧ ownerKind (s.box inst.val).args = 0) ∧
    (∃ (inst : Fin 3) (s : State), s.Holds inst.val 0x47 [4] ∧ ownerKind (s.box inst.val).args = 1) ∧
    (∃ (inst : Fin 3) (p : Fin 3) (s : State), s.Holds inst.val 0x47 [4] ∧ ownerKind (s.box inst.val).args = 2 ∧
      s.keep.ownerLock = some p ∧ (p = inst ∨ inst.val = 2)) ∧
    (∃ (s : State), s.upd.held = true) ∧
    (∃ (s : State), s.updState = 3 ∧ s.firmwareFail s.activeSlot = 0 ∧ ((s.progMode ≠ modeStop ∨ s.bundleDiffers
      s.activeSlot s.activeSet = false))) ∧
    (∃ (s : State), s.updState = 3) :=
  ⟨⟨2, 3, asked 2 64 8 [3, 20971520] (put [(0x00, 0x5C, 24000), (0x71, 0x40, 4)] live), by decide⟩,
    ⟨2, 60, 4, 0xFFFC, usbMem 0xFFFC,
      asked 2 65 16 [7, 60, 4, 65532] ({ (put [(0x71, 0x48, 7), (0x71, 0x4C, 64), (0x71, 0x44, 49)] live) with upd := { live.upd with held := true } }),
      by decide⟩,
    ⟨1, [{ hdr := { type := 1 } }],
      asked 1 66 4 [7] ({ (put [(0x71, 0x48, 7), (0x71, 0x4C, 32), (0x71, 0x44, 1)] live) with upd := { held := true, bytes := [(0, 76), (1, 57), (2, 51), (3, 54), (4, 1), (5, 1), (6, 7), (8, 32), (16, 1)], lastCmd := 0 } }),
      by decide⟩,
    ⟨1,
      asked 1 67 4 [7] ({ (put [(0x71, 0x48, 7), (0x00, 0x5C, 24000), (0x71, 0x40, 7), (0x71, 0x44, 18)] live) with upd := { live.upd with held := true } }),
      by decide⟩,
    ⟨2, asked 2 68 0 [] (put [(0x71, 0x44, 4)] live), by decide⟩,
    ⟨1,
      asked 1 69 4 [7] ({ (put [(0x71, 0x48, 7), (0x00, 0x5C, 24000), (0x71, 0x40, 7), (0x71, 0x44, 1)] live) with upd := { live.upd with held := true } }),
      by decide⟩,
    ⟨1, asked 1 69 4 [7] (put [(0x71, 0x44, 4)] live), by decide⟩,
    ⟨1, asked 1 70 0 [] (live), by decide⟩,
    ⟨0, asked 0 71 4 [0] (live), by decide⟩,
    ⟨0, asked 0 71 4 [1] (live), by decide⟩,
    ⟨2, 1, asked 2 71 4 [2] ({ live with keep := { live.keep with ownerLock := some 1 } }), by decide⟩,
    ⟨{ (put [(0x71, 0x48, 7), (0x00, 0x5C, 24000), (0x71, 0x40, 7), (0x71, 0x44, 1)] live) with upd := { live.upd with held := true } },
      by decide⟩,
    ⟨put [(0x71, 0x44, 3)] live, by decide⟩,
    ⟨put [(0x71, 0x44, 3)] live, by decide⟩⟩

theorem witness_VerifiedSlotIsComplete :
    ∃ (inst : Fin 3) (comps : List Component) (s : State), s.Holds inst.val 0x42 [4] ∧ s.upd.held = true ∧ fld (s.boxArg
      inst.val 0) 0 16 = s.rf 0x71 0x48 0 16 ∧ s.pkgFault comps = none :=
  ⟨1, [{ hdr := { type := 1 } }],
      asked 1 66 4 [7] ({ (put [(0x71, 0x48, 7), (0x71, 0x4C, 32), (0x71, 0x44, 1)] live) with upd := { held := true, bytes := [(0, 76), (1, 57), (2, 51), (3, 54), (4, 1), (5, 1), (6, 7), (8, 32), (16, 1)], lastCmd := 0 } }),
      by decide⟩

theorem witness_CoreDebugUnlockInApproved :
    (∃ (inst : Fin 3) (s : State), s.Holds inst.val 0x70 [8] ∧ fld (s.boxArg inst.val 0) 0 2 = 2 ∧ bit (s.boxArg inst.val 1)
      0 = true ∧ s.inApproved = true ∧ s.moving = false ∧ ((2 ≤ fld (s.boxArg inst.val 1) 0 2 → s.progMode = modeStop)) ∧
      s.sec.nonce.isSome = true ∧ s.tb.count < s.sec.nonceAt + 60_000_000_000) ∧
    (∃ (cause : Nat) (s : State), cause ≠ 1 ∧ s.sec.lockToPor = true) ∧
    (∃ (s : State), s.keep.epochs < 64) :=
  ⟨⟨2,
      { asked 2 0x70 8 [2, 1] (put [(0x60, 0x40, 1), (0x61, 0x40, 0x1000_0000), (0x61, 0x44, 0x101)] live) with sec := { live.sec with nonce := some [] } },
      by decide⟩,
    ⟨4, { live with sec := { live.sec with lockToPor := true } }, by decide⟩,
    ⟨live, by decide⟩⟩

theorem witness_PowerLadder :
    (∃ (inst : Fin 3) (x : Nat) (s : State), s.Holds inst.val 0x20 [4] ∧ x = fld (s.boxArg inst.val 0) 0 3 ∧ s.gaitBoxOk
      inst.val = true ∧ s.inTransition = false ∧ s.gaitNow < x ∧ x ≤ 4 ∧ s.gaitRefusal x = 0) ∧
    (∃ (inst : Fin 3) (s : State), s.Holds inst.val 0x20 [4] ∧ fld (s.boxArg inst.val 0) 0 3 = 0 ∧ s.gaitBoxOk inst.val =
      true ∧ s.inTransition = false ∧ s.gaitNow ≠ 0 ∧ s.dieTemp < 1200) ∧
    (∃ (s : State), s.gait.stage = .accepted ∧ s.moving = false ∧ s.role ≠ 1 ∧ ((s.gaitTarget < 2 ∨ s.progMode = modeStop))) ∧
    (∃ (s : State), s.gait.stage = .accepted ∧ s.moving = false ∧ s.role ≠ 1 ∧ 2 ≤ s.gaitTarget ∧ s.progMode ≠ modeStop) ∧
    (∃ (w : Nat) (s : State), s.gait.wake = some w) ∧
    (∃ (s : State), s.mayWake = true) ∧
    (∃ (s : State), s.keep.rtcAlarm ≠ 0 ∧ s.rb 0x72 0x48 2 = true ∧ s.mayWake = true) ∧
    (∃ (fi : Word) (d : Word) (s : State), (s.gaitNow = 2 ∨ s.gaitNow = 3) ∧ s.rb 0x72 0x48 3 = true ∧ s.fioFitted = true ∧
      d = (fi ^^^ s.gait.entryFi) &&& s.rd 0x72 0x4C ∧ d &&& s.gait.lastDiff ≠ 0) ∧
    (∃ (fi : Word) (d : Word) (s : State), (s.gaitNow = 2 ∨ s.gaitNow = 3) ∧ s.rb 0x72 0x48 3 = true ∧ s.fioFitted = true ∧
      d = (fi ^^^ s.gait.entryFi) &&& s.rd 0x72 0x4C ∧ d &&& s.gait.lastDiff = 0) :=
  ⟨⟨1, 1, asked 1 32 4 [1] (put [(0x72, 0x40, 20), (0x50, 0x58, 0)] live), by decide⟩,
    ⟨2, asked 2 32 4 [0] (put [(0x72, 0x44, 4)] live), by decide⟩,
    ⟨{ (put [(0x72, 0x44, 64), (0x09, 0x44, 0), (0x50, 0x58, 0)] live) with gait := { live.gait with stage := .accepted } },
      by decide⟩,
    ⟨{ (put [(0x72, 0x44, 32), (0x09, 0x44, 1), (0x50, 0x58, 0)] live) with gait := { live.gait with stage := .accepted } },
      by decide⟩,
    ⟨15, { (put [(0x72, 0x44, 2)] live) with gait := { live.gait with wake := some 15 } }, by decide⟩,
    ⟨put [(0x72, 0x44, 1)] live, by decide⟩,
    ⟨{ (put [(0x72, 0x44, 1), (0x72, 0x48, 4)] live) with keep := { live.keep with rtcAlarm := 9 } }, by decide⟩,
    ⟨1, 1, { (put [(0x72, 0x44, 3), (0x72, 0x48, 8), (0x72, 0x4C, 1)] live) with gait := { live.gait with lastDiff := 1 } },
      by decide⟩,
    ⟨1, 1, { (put [(0x72, 0x44, 3), (0x72, 0x48, 8), (0x72, 0x4C, 1)] live) with gait := { live.gait with lastDiff := 0 } },
      by decide⟩⟩

theorem witness_FieldAndTimeFrame :
    (∃ (c : Instr), fieldRow c = true) ∧
    (∃ (c : Instr), timeRow c = true) :=
  ⟨⟨.foShort 23, by decide⟩,
    ⟨.tbWrap, by decide⟩⟩

theorem witness_VisionFrame :
    (∃ (c : Instr), visionRow c = true) ∧
    (∃ (c : Instr), watchRow c = true) :=
  ⟨⟨.pcommit 5 9, by decide⟩,
    ⟨.fwatchRelease 5, by decide⟩⟩

theorem witness_NetworkFrame :
    (∃ (c : Instr), canRow c = true) ∧
    (∃ (c : Instr), mvbRow c = true) ∧
    (∃ (c : Instr), ethRow c = true) :=
  ⟨⟨.canBusoffRecovered 5, by decide⟩,
    ⟨.mvbPollMiss 0, by decide⟩,
    ⟨.outSeqWrite 7, by decide⟩⟩

theorem witness_MailboxRecorderAndPinFrame :
    (∃ (c : Instr), answerRow c = true) ∧
    (∃ (c : Instr), recorderRow c = true) ∧
    (∃ (c : Instr), pinRow c = true) :=
  ⟨⟨.gaitQuery 2, by decide⟩,
    ⟨.martingaleRefill, by decide⟩,
    ⟨.holdupCharged, by decide⟩⟩

theorem witness_MemoryFrame :
    (∃ (c : Instr), storesNothing c = true) ∧
    (∃ (s : State), s.reintState ∉ [2, 3, 4]) :=
  ⟨⟨.foShort 23, by decide⟩,
    ⟨put [(0x23, 0x44, 1), (0x23, 0x40, 2)] live, by decide⟩⟩

theorem witness_RegisterWriteFrame :
    (∃ (i : Init) (p : Nat) (off : Nat) (s : State), p ∈ [0x03, 0x08, 0x09, 0x0A] ∧ 0x40 ≤ off ∧ off < 0x80 ∧ off % 4 = 0 ∧
      plainWord (rk p off) ∧ s.Open i p off true ∧ s.reintState ∉ [2, 3, 4]) ∧
    (∃ (i : Init) (k : Fin 16) (c : Instr) (s : State), (c = .semAcquire i k ∨ c = .semRelease i k ∨ c = .semForce i k) ∧
      s.Open i 0x03 (0x80 + 4 * k.val) true ∧ s.reintState ∉ [2, 3, 4]) ∧
    (∃ (i : Init) (bank : Fin 5) (w : Fin 8) (s : State), s.Open i 0x02 (0x100 + 0x20 * bank.val + 4 * w.val) true ∧
      s.reintState ∉ [2, 3, 4]) :=
  ⟨⟨.mgmt, 0x09, 0x70, live, by decide⟩,
    ⟨.mgmt, 15, .semForce .mgmt 15, live, by decide⟩,
    ⟨.mgmt, 4, 7, live, by decide⟩⟩

end Sys2Proof.Tests
end

section
/-! SUPPORT. What every command and every clock cycle keeps: the invariant of the module. One lemma for each function of the
model that answers a state, in the order of the model, and one for each arm of the dispatch. A
proof names the operations in the order in which the model composes them: `h.wr.raise` for a write and the event after it. -/

namespace Sys2Proof.Machine

section
variable {s : State}

/-! ### The invariant as a predicate of its own -/

/-- What `State.Inv` says, as a structure: two states are then compared as they stand, and never field by field. -/
structure State.Wf (s : State) : Prop where
  canonical : canon s = true
  fitted : s.Fitted
  inlet_le : s.inlet.length ≤ 256

theorem State.wf_iff_inv : s.Wf ↔ s.Inv :=
  ⟨fun h => ⟨(canon_iff s).1 h.canonical, h.fitted, h.inlet_le⟩, fun h => ⟨(canon_iff s).2 h.1, h.2.1, h.2.2⟩⟩

theorem State.Wf.mem_wf (h : s.Wf) : Memory.wf s.mem = true := ((canon_iff s).1 h.canonical).1

theorem State.Wf.regs_wf (h : s.Wf) : stWf resetWord s.regs = true := ((canon_iff s).1 h.canonical).2.1

theorem State.Wf.img_wf (h : s.Wf) : stWf (fun _ => (0 : DWord)) s.img = true := ((canon_iff s).1 h.canonical).2.2

/-! ### A new value for a field that the invariant does not speak of -/

theorem State.Wf.pending {x} (h : s.Wf) : ({ s with pending := x } : State).Wf := ⟨h.1, h.2, h.3⟩

theorem State.Wf.variant {x} (h : s.Wf) : ({ s with variant := x } : State).Wf := ⟨h.1, h.2, h.3⟩

theorem State.Wf.shadow {x} (h : s.Wf) : ({ s with shadow := x } : State).Wf := ⟨h.1, h.2, h.3⟩

theorem State.Wf.upsets {x} (h : s.Wf) : ({ s with upsets := x } : State).Wf := ⟨h.1, h.2, h.3⟩

theorem State.Wf.kp {x} (h : s.Wf) : ({ s with kp := x } : State).Wf := ⟨h.1, h.2, h.3⟩

theorem State.Wf.bus {x} (h : s.Wf) : ({ s with bus := x } : State).Wf := ⟨h.1, h.2, h.3⟩

theorem State.Wf.freeIx {x} (h : s.Wf) : ({ s with freeIx := x } : State).Wf := ⟨h.1, h.2, h.3⟩

theorem State.Wf.pins {x} (h : s.Wf) : ({ s with pins := x } : State).Wf := ⟨h.1, h.2, h.3⟩

theorem State.Wf.tb {x} (h : s.Wf) : ({ s with tb := x } : State).Wf := ⟨h.1, h.2, h.3⟩

theorem State.Wf.vw {x} (h : s.Wf) : ({ s with vw := x } : State).Wf := ⟨h.1, h.2, h.3⟩

theorem State.Wf.tro {x} (h : s.Wf) : ({ s with tro := x } : State).Wf := ⟨h.1, h.2, h.3⟩

theorem State.Wf.reint {x} (h : s.Wf) : ({ s with reint := x } : State).Wf := ⟨h.1, h.2, h.3⟩

theorem State.Wf.prog {x} (h : s.Wf) : ({ s with prog := x } : State).Wf := ⟨h.1, h.2, h.3⟩

theorem State.Wf.keep {x} (h : s.Wf) : ({ s with keep := x } : State).Wf := ⟨h.1, h.2, h.3⟩

theorem State.Wf.bells {x} (h : s.Wf) : ({ s with bells := x } : State).Wf := ⟨h.1, h.2, h.3⟩

theorem State.Wf.farr {x} (h : s.Wf) : ({ s with farr := x } : State).Wf := ⟨h.1, h.2, h.3⟩

theorem State.Wf.field {x} (h : s.Wf) : ({ s with field := x } : State).Wf := ⟨h.1, h.2, h.3⟩

theorem State.Wf.mvb {x} (h : s.Wf) : ({ s with mvb := x } : State).Wf := ⟨h.1, h.2, h.3⟩

theorem State.Wf.net {x} (h : s.Wf) : ({ s with net := x } : State).Wf := ⟨h.1, h.2, h.3⟩

theorem State.Wf.dup {x} (h : s.Wf) : ({ s with dup := x } : State).Wf := ⟨h.1, h.2, h.3⟩

theorem State.Wf.sec {x} (h : s.Wf) : ({ s with sec := x } : State).Wf := ⟨h.1, h.2, h.3⟩

theorem State.Wf.upd {x} (h : s.Wf) : ({ s with upd := x } : State).Wf := ⟨h.1, h.2, h.3⟩

theorem State.Wf.recd {x} (h : s.Wf) : ({ s with recd := x } : State).Wf := ⟨h.1, h.2, h.3⟩

theorem State.Wf.gait {x} (h : s.Wf) : ({ s with gait := x } : State).Wf := ⟨h.1, h.2, h.3⟩

/-- A state that agrees with a well-formed one in every field that the invariant speaks of. -/
theorem State.Wf.frame {t : State} (h : s.Wf) (mem : t.mem = s.mem := by rfl) (regs : t.regs = s.regs := by rfl)
    (img : t.img = s.img := by rfl) (inlet : t.inlet = s.inlet := by rfl) (lanes : t.lanes = s.lanes := by rfl)
    (cams : t.cams = s.cams := by rfl) (views : t.views = s.views := by rfl) (dsps : t.dsps = s.dsps := by rfl)
    (watches : t.watches = s.watches := by rfl) (cans : t.cans = s.cans := by rfl)
    (boxes : t.boxes = s.boxes := by rfl) :
    t.Wf where
  canonical := (canon_congr mem regs img).trans h.canonical
  fitted := by simpa only [State.Fitted, lanes, cams, views, dsps, watches, cans, boxes] using h.fitted
  inlet_le := inlet ▸ h.inlet_le

/-! ### A new value for a field that the invariant bounds -/

theorem State.Wf.mem {x} (h : s.Wf) (hx : Memory.wf x = true) : ({ s with mem := x } : State).Wf :=
  ⟨(canon_iff _).2 ⟨hx, h.regs_wf, h.img_wf⟩, h.fitted, h.inlet_le⟩

theorem State.Wf.regs {x} (h : s.Wf) (hx : stWf resetWord x = true) : ({ s with regs := x } : State).Wf :=
  ⟨(canon_iff _).2 ⟨h.mem_wf, hx, h.img_wf⟩, h.fitted, h.inlet_le⟩

theorem State.Wf.img {x} (h : s.Wf) (hx : stWf (fun _ => (0 : DWord)) x = true) : ({ s with img := x } : State).Wf :=
  ⟨(canon_iff _).2 ⟨h.mem_wf, h.regs_wf, hx⟩, h.fitted, h.inlet_le⟩

theorem State.Wf.inlet {x} (h : s.Wf) (hx : x.length ≤ 256) : ({ s with inlet := x } : State).Wf :=
  ⟨h.canonical, h.fitted, hx⟩

theorem State.Wf.lanes {x} (h : s.Wf) (hx : x.length = s.lanes.length) : ({ s with lanes := x } : State).Wf :=
  have ⟨hlanes, hcams, hviews, hdsps, hwatches, hcans, hboxes⟩ := h.fitted
  ⟨h.canonical, ⟨hx.trans hlanes, hcams, hviews, hdsps, hwatches, hcans, hboxes⟩, h.inlet_le⟩

theorem State.Wf.cams {x} (h : s.Wf) (hx : x.length = s.cams.length) : ({ s with cams := x } : State).Wf :=
  have ⟨hlanes, hcams, hviews, hdsps, hwatches, hcans, hboxes⟩ := h.fitted
  ⟨h.canonical, ⟨hlanes, hx.trans hcams, hviews, hdsps, hwatches, hcans, hboxes⟩, h.inlet_le⟩

theorem State.Wf.views {x} (h : s.Wf) (hx : x.length = s.views.length) : ({ s with views := x } : State).Wf :=
  have ⟨hlanes, hcams, hviews, hdsps, hwatches, hcans, hboxes⟩ := h.fitted
  ⟨h.canonical, ⟨hlanes, hcams, hx.trans hviews, hdsps, hwatches, hcans, hboxes⟩, h.inlet_le⟩

theorem State.Wf.dsps {x} (h : s.Wf) (hx : x.length = s.dsps.length) : ({ s with dsps := x } : State).Wf :=
  have ⟨hlanes, hcams, hviews, hdsps, hwatches, hcans, hboxes⟩ := h.fitted
  ⟨h.canonical, ⟨hlanes, hcams, hviews, hx.trans hdsps, hwatches, hcans, hboxes⟩, h.inlet_le⟩

theorem State.Wf.watches {x} (h : s.Wf) (hx : x.length = s.watches.length) : ({ s with watches := x } : State).Wf :=
  have ⟨hlanes, hcams, hviews, hdsps, hwatches, hcans, hboxes⟩ := h.fitted
  ⟨h.canonical, ⟨hlanes, hcams, hviews, hdsps, hx.trans hwatches, hcans, hboxes⟩, h.inlet_le⟩

theorem State.Wf.cans {x} (h : s.Wf) (hx : x.length = s.cans.length) : ({ s with cans := x } : State).Wf :=
  have ⟨hlanes, hcams, hviews, hdsps, hwatches, hcans, hboxes⟩ := h.fitted
  ⟨h.canonical, ⟨hlanes, hcams, hviews, hdsps, hwatches, hx.trans hcans, hboxes⟩, h.inlet_le⟩

theorem State.Wf.boxes {x} (h : s.Wf) (hx : x.length = s.boxes.length) : ({ s with boxes := x } : State).Wf :=
  have ⟨hlanes, hcams, hviews, hdsps, hwatches, hcans, hboxes⟩ := h.fitted
  ⟨h.canonical, ⟨hlanes, hcams, hviews, hdsps, hwatches, hcans, hx.trans hboxes⟩, h.inlet_le⟩

/-- A filter of a memory keeps the invariant. -/
theorem State.Wf.filterMem {p} (h : s.Wf) : ({ s with mem := s.mem.filter p } : State).Wf :=
  h.mem (stWf_filter _ _ _ h.mem_wf)

/-- A filter of the registers keeps the invariant. -/
theorem State.Wf.filterRegs {p} (h : s.Wf) : ({ s with regs := s.regs.filter p } : State).Wf :=
  h.regs (stWf_filter _ _ _ h.regs_wf)

/-! ### Branches and folds -/

theorem State.Wf.ite {c : Prop} {_ : Decidable c} {a b : State} (ha : a.Wf) (hb : b.Wf) :
    (if c then a else b).Wf := by
  split
  · exact ha
  · exact hb

/-- The same for a function that answers a state and a value besides. -/
theorem State.Wf.iteFst {α : Type} {c : Prop} {_ : Decidable c} {a b : State × α} (ha : a.1.Wf) (hb : b.1.Wf) :
    (if c then a else b).1.Wf := by
  split
  · exact ha
  · exact hb

theorem State.Wf.foldl {α : Type} {f : State → α → State} {l : List α} (h : s.Wf) (hf : ∀ x t, t.Wf → (f t x).Wf) :
    (l.foldl f s).Wf := by
  induction l generalizing s with
  | nil => exact h
  | cons x l ih => exact ih (hf x s h)

/-! ### The named operations over the state -/

theorem State.Wf.setKey {k v} (h : s.Wf) : (s.setKey k v).Wf := ⟨canon_setKey _ _ _ h.canonical, h.fitted, h.inlet_le⟩

theorem State.Wf.wr {p off v} (h : s.Wf) : (s.wr p off v).Wf := h.setKey

theorem State.Wf.setTab {p ix v} (h : s.Wf) : (s.setTab p ix v).Wf := h.setKey

theorem State.Wf.setImage {id w v} (h : s.Wf) : (s.setImage id w v).Wf :=
  ⟨canon_setImage _ _ _ _ h.canonical, h.fitted, h.inlet_le⟩

theorem State.Wf.clearImage {id} (h : s.Wf) : (s.clearImage id).Wf :=
  ⟨canon_clearImage _ _ h.canonical, h.fitted, h.inlet_le⟩

theorem State.Wf.putImage {id cells} (h : s.Wf) : (s.putImage id cells).Wf := .foldl h fun _ _ h' => h'.setImage

theorem State.Wf.copyImage {src dst} (h : s.Wf) : (s.copyImage src dst).Wf := h.clearImage.putImage

theorem State.Wf.setByte {a v} (h : s.Wf) :
    (s.setByte a v).Wf := ⟨canon_setByte _ _ _ h.canonical, h.fitted, h.inlet_le⟩

theorem State.Wf.setBytes {a bs} (h : s.Wf) : (s.setBytes a bs).Wf := by
  induction bs generalizing s a with
  | nil => exact h
  | cons b bs ih => exact ih h.setByte

theorem State.Wf.wrFld {p off lo n x} (h : s.Wf) : (s.wrFld p off lo n x).Wf := h.wr

theorem State.Wf.wrBit {p off i b} (h : s.Wf) : (s.wrBit p off i b).Wf := h.wr

theorem State.Wf.sat16 {p off} (h : s.Wf) : (s.sat16 p off).Wf := h.wrFld

theorem State.Wf.sat16hi {p off} (h : s.Wf) : (s.sat16hi p off).Wf := h.wrFld

theorem State.Wf.sat16by {p off n} (h : s.Wf) : (s.sat16by p off n).Wf := h.wrFld

theorem State.Wf.inc32 {p off} (h : s.Wf) : (s.inc32 p off).Wf := h.wr

theorem State.Wf.modLane {l f} (h : s.Wf) : (s.modLane l f).Wf := h.lanes (List.length_modify ..)

theorem State.Wf.modCam {c f} (h : s.Wf) : (s.modCam c f).Wf := h.cams (List.length_modify ..)

theorem State.Wf.modView {v f} (h : s.Wf) : (s.modView v f).Wf := h.views (List.length_modify ..)

theorem State.Wf.modDsp {d f} (h : s.Wf) : (s.modDsp d f).Wf := h.dsps (List.length_modify ..)

theorem State.Wf.modWatch {v f} (h : s.Wf) : (s.modWatch v f).Wf := h.watches (List.length_modify ..)

theorem State.Wf.modCan {n f} (h : s.Wf) : (s.modCan n f).Wf := h.cans (List.length_modify ..)

theorem State.Wf.modBox {n f} (h : s.Wf) : (s.modBox n f).Wf := h.boxes (List.length_modify ..)

theorem State.Wf.when {c f} (h : s.Wf) (hf : ∀ t, t.Wf → (f t).Wf) : (s.when c f).Wf := .ite (hf s h) h

theorem State.Wf.draw (h : s.Wf) : s.draw.Wf := h.freeIx

theorem State.Wf.countEvent {n} (h : s.Wf) : (s.countEvent n).Wf := .setTab (.ite h h.setTab)

theorem State.Wf.pendBank {n b on} (h : s.Wf) : (s.pendBank n b on).Wf := .ite h.wrBit h

theorem State.Wf.clearNet (h : s.Wf) : s.clearNet.Wf := h.filterMem.frame

/-- An entry joins the inlet queue only where it holds fewer than 256 (R61). -/
theorem State.Wf.enterInlet {e} (h : s.Wf) : (s.enterInlet e).Wf := by
  unfold State.enterInlet
  split
  · next room => exact h.inlet (by rw [List.length_append]; exact room)
  · exact h.sat16

theorem State.Wf.oneCycle {f} (hf : ∀ t, t.Wf → (f t).Wf) (h : s.Wf) : (s.oneCycle f).Wf :=
  have cycle : (f { s with inlet := [] }).Wf := hf _ (h.inlet (Nat.zero_le _))
  .foldl (cycle.inlet h.inlet_le) fun _ _ h' => h'.enterInlet

theorem State.Wf.route {n p0 p1 p2} (h : s.Wf) : (s.route n p0 p1 p2).Wf := by
  unfold State.route
  extract_lets _ _ s₁ s₂ s₃ s₄
  have h₁ : s₁.Wf := h.countEvent
  have h₂ : s₂.Wf := h₁.pendBank.pendBank.pendBank.pendBank
  have h₃ : s₃.Wf := h₂.pendBank
  have h₄ : s₄.Wf := .ite h₃.wrBit h₃
  exact .ite h₄.enterInlet h₄

theorem State.Wf.raiseAt {page b n p0 p1 p2} (h : s.Wf) : (s.raiseAt page b n p0 p1 p2).Wf :=
  .ite h (.ite h.wrBit.route h.wrBit)

theorem State.Wf.occur {n p0 p1 p2} (h : s.Wf) : (s.occur n p0 p1 p2).Wf := by
  unfold State.occur
  split
  · exact h
  · split
    · exact h.route
    · exact h.raiseAt

theorem State.Wf.raise {n p0 p1 p2} (h : s.Wf) : (s.raise n p0 p1 p2).Wf := h.occur

theorem State.Wf.error {p off ini cause ev p0} (h : s.Wf) : (s.error p off ini cause ev p0).Wf := h.wr.raise

theorem State.Wf.accessFault {i addr cause} (h : s.Wf) : (s.accessFault i addr cause).Wf := h.error

theorem State.Wf.busError (h : s.Wf) : s.busError.Wf := h.bus

theorem State.Wf.busData {v} (h : s.Wf) : (s.busData v).Wf := h.bus

theorem State.Wf.kpDrop {p} (h : s.Wf) : (s.kpDrop p).Wf := h.kp

theorem State.Wf.kpFail {p ini p0} (h : s.Wf) : (s.kpFail p ini p0).Wf := h.error

theorem State.Wf.kpStart {k} (h : s.Wf) : (s.kpStart k).Wf := .kp (.kpDrop (.ite h.kpFail h))

theorem State.Wf.setT3 {k v} (h : s.Wf) : (s.setT3 k v).Wf := h.setKey.upsets

theorem State.Wf.setShadow {k v} (h : s.Wf) : (s.setShadow k v).Wf := h.shadow.wrBit

theorem State.Wf.takeShadows {p sel} (h : s.Wf) : (s.takeShadows p sel).Wf :=
  .wrBit (.shadow (.foldl h fun _ _ h' => h'.setT3))

theorem State.Wf.applyShadows {p sel} (h : s.Wf) : (s.applyShadows p sel).Wf := .ite h h.takeShadows.wrFld.wrBit

theorem State.Wf.dropShadows {p sel} (h : s.Wf) : (s.dropShadows p sel).Wf := h.shadow.wrBit

theorem State.Wf.clearTs {sel} (h : s.Wf) :
    (s.clearTs sel).Wf := ⟨canon_clearTs _ _ h.canonical, h.fitted, h.inlet_le⟩

/-! ### The conditions that many rules share -/

theorem State.Wf.setImgBits {id pos n x} (h : s.Wf) : (s.setImgBits id pos n x).Wf := h.setImage

/-! ### Interlock table, command register, lanes that leave -/

theorem State.Wf.evalIlk (h : s.Wf) : s.evalIlk.Wf := by
  unfold State.evalIlk
  extract_lets _ _ _ _ masks s₁ s₂ s₃
  have h₁ : s₁.Wf := h.wr.wr
  have h₂ : s₂.Wf := h₁.wr
  have h₃ : s₃.Wf := .foldl h₂ fun _ _ h' => h'.setTab.setTab.wr
  clear_value masks
  split
  · exact h₃
  · exact h₃.raise

theorem State.Wf.refresh (h : s.Wf) : s.refresh.Wf := .ite h h.evalIlk.wr.wr.field

theorem State.Wf.substitute {src} (h : s.Wf) : (s.substitute src).Wf := h.clearImage.putImage.putImage.setImage

theorem State.Wf.limpEnd {was} (h : s.Wf) : (s.limpEnd was).Wf := .ite h.substitute.refresh h

theorem State.Wf.safeCause {c} (h : s.Wf) : (s.safeCause c).Wf := by
  unfold State.safeCause
  exact .ite h.wrBit.limpEnd (.refresh (.when h.wrBit.wr.sat16.raise.copyImage.substitute fun _ h' => h'.dup))

theorem State.Wf.lineCauses (h : s.Wf) : s.lineCauses.Wf := by
  unfold State.lineCauses
  extract_lets s₁ s₂ s₃ s₄
  have h₁ : s₁.Wf := .when h fun _ h' => h'.tro
  have h₂ : s₂.Wf := .when h₁ fun _ h' => h'.safeCause
  have h₃ : s₃.Wf := .when h₂ fun _ h' => h'.safeCause
  have h₄ : s₄.Wf := .when h₃ fun _ h' => h'.safeCause
  exact .when h₄ fun _ h' => h'.safeCause

theorem State.Wf.mgmtSafe (h : s.Wf) : s.mgmtSafe.Wf := h.tro.lineCauses

theorem State.Wf.freeSems {code} (h : s.Wf) : (s.freeSems code).Wf := .foldl h fun _ _ h' => .ite h'.wr h'

theorem State.Wf.retireSlot {num} (h : s.Wf) : (s.retireSlot num).Wf := h.wr.vw

theorem State.Wf.vwError {cause ev addr} (h : s.Wf) : (s.vwError cause ev addr).Wf := h.error

theorem State.Wf.vwDrop {k} (h : s.Wf) : (s.vwDrop k).Wf := by
  unfold State.vwDrop
  extract_lets _ s₁
  have h₁ : s₁.Wf := h.vw
  split
  · exact h₁
  · exact h₁.vwError

theorem State.Wf.vwSettleN {n} (h : s.Wf) : (State.vwSettleN n s).Wf := by
  induction n generalizing s with
  | zero => exact h
  | succ n ih => exact .ite (ih h.retireSlot) h

theorem State.Wf.vwSettle (h : s.Wf) : s.vwSettle.Wf := h.vwSettleN.vw

theorem State.Wf.vwLaneLeft {l} (h : s.Wf) : (s.vwLaneLeft l).Wf :=
  .ite (.vwSettle (.freeSems (.foldl h.vw fun _ _ h' => h'.vwDrop))) h.vw

theorem State.Wf.voterUpdate (h : s.Wf) : s.voterUpdate.Wf := .when h.wrFld.wrFld fun _ h' => h'.raise

theorem State.Wf.ocEnd {result} (h : s.Wf) : (s.ocEnd result).Wf := .ite h.wrFld.wrFld h

theorem State.Wf.setLane {l code} (h : s.Wf) : (s.setLane l code).Wf := by
  unfold State.setLane
  extract_lets _ _ s₁ s₂ s₃
  have h₁ : s₁.Wf := h.wrFld
  have h₂ : s₂.Wf := h₁.vwLaneLeft
  have h₃ : s₃.Wf := h₂.voterUpdate
  exact .ite (.limpEnd (.when h₃ fun _ h' => h'.safeCause.ocEnd)) (.ite h₁.limpEnd h₁)

theorem State.Wf.failLane {l cause} (h : s.Wf) : (s.failLane l cause).Wf :=
  h.wrFld.wr.sat16.modLane.wrBit.setLane.raise

/-! ### The time base -/

theorem State.Wf.setRate {f p} (h : s.Wf) : (s.setRate f p).Wf := h.wr.tb.wr

theorem State.Wf.holdSeconds (h : s.Wf) : s.holdSeconds.Wf := .when h fun _ h' => h'.wr

theorem State.Wf.samplePcs (h : s.Wf) : s.samplePcs.Wf := .foldl h fun _ _ h' => .ite h' h'.wr

theorem State.Wf.setCount {c fr} (h : s.Wf) : (s.setCount c fr).Wf :=
  .when (.when h.tb.holdSeconds fun _ h' => h'.samplePcs) fun _ h' => h'.raise

theorem State.Wf.advanceTo {c} (h : s.Wf) : (s.advanceTo c).Wf := .ite h.setCount h

theorem State.Wf.strobeFor {g due} (h : s.Wf) : (s.strobeFor g due).Wf := h.tb

theorem State.Wf.fire {g phi p} (h : s.Wf) : (s.fire g phi p).Wf := h.advanceTo.strobeFor

theorem State.Wf.tbCycle (h : s.Wf) : s.tbCycle.Wf := .ite h h.setCount

theorem State.Wf.tbSelect (h : s.Wf) : s.tbSelect.Wf := by
  unfold State.tbSelect
  extract_lets _ _ s₁ _ s₂ s₃ _ s₄
  have h₁ : s₁.Wf := h.wrFld.raise
  have h₂ : s₂.Wf := h₁.tb
  have h₃ : s₃.Wf := h₂.setRate
  have h₄ : s₄.Wf := h₃.tb
  exact .ite h (.ite h₄.wrFld.wr.raise (.ite h₂.wrFld h₂))

theorem State.Wf.tbJudge {theta} (h : s.Wf) : (s.tbJudge theta).Wf := .ite h.tb.wrFld (.ite h.tb.wrFld.tb h.tb)

theorem State.Wf.camErr {c code} (h : s.Wf) : (s.camErr c code).Wf := h.wr.raise

theorem State.Wf.camBad {c code} (h : s.Wf) : (s.camBad c code).Wf := .ite h h.sat16.modCam.camErr

theorem State.Wf.cutFrames (h : s.Wf) : s.cutFrames.Wf :=
  have bad := h.foldl (f := fun t c => t.camBad c 4) (l := List.range 8) fun _ _ h' => h'.camBad
  bad.dsps (List.length_map _)

theorem State.Wf.tbStep {theta} (h : s.Wf) : (s.tbStep theta).Wf := h.setCount.wr.tb.cutFrames.raise

theorem State.Wf.tbServo {t theta} (h : s.Wf) : (s.tbServo t theta).Wf := by
  unfold State.tbServo
  extract_lets s₁ _ _ _ _ _ _ _ _ _ s₂ s₃
  have h₁ : s₁.Wf := h.wr
  have h₂ : s₂.Wf := h₁.setRate
  have h₃ : s₃.Wf := .when h₂ fun _ h' => h'.raise
  exact .ite h₁.tbJudge.tb (.ite h₁.setRate.tbJudge.tb (.ite h₁.setRate.tbStep.tb h₃.tbJudge.tb))

theorem State.Wf.tbMeasure {src t theta} (h : s.Wf) : (s.tbMeasure src t theta).Wf :=
  .ite h (.ite h.tb.wrBit.tbSelect.tbServo h.tb.wrBit.tbSelect)

theorem State.Wf.tbLose {src also} (h : s.Wf) : (s.tbLose src also).Wf := by
  unfold State.tbLose
  extract_lets _ s₁
  have h₁ : s₁.Wf := .ite h h.tb.wrBit
  refine .tbSelect ?_
  split
  · exact h₁
  · exact .ite h₁ h₁.tbMeasure

theorem State.Wf.capture {src c} (h : s.Wf) : (s.capture src c).Wf := by
  unfold State.capture
  extract_lets ks s₁
  have h₁ : s₁.Wf := .foldl h fun _ _ h' => h'.wr.wr.wrBit
  clear_value ks
  split
  · exact h₁
  · exact h₁.raise

theorem State.Wf.secondMarkNow (h : s.Wf) : s.secondMarkNow.Wf := .when h.advanceTo.tb fun _ h' => h'.pins.capture

theorem State.Wf.ppsEdge {back} (h : s.Wf) : (s.ppsEdge back).Wf := h.capture.raise.tbMeasure

theorem State.Wf.tbReset {aonKept elapsed} (h : s.Wf) : (s.tbReset aonKept elapsed).Wf := h.tb.setRate

/-! ### The cores of a lane -/

theorem State.Wf.modCore {l sh f} (h : s.Wf) : (s.modCore l sh f).Wf := h.modLane

theorem State.Wf.coreTrap {l sh c pc} (h : s.Wf) : (s.coreTrap l sh c pc).Wf :=
  .ite h.modCore.draw h.modCore.draw.wr.wr.raise

theorem State.Wf.laneTrap {l c pc} (h : s.Wf) : (s.laneTrap l c pc).Wf := h.coreTrap

/-! ### Inside a lane -/

theorem State.Wf.storeImage {id a bs} (h : s.Wf) : (s.storeImage id a bs).Wf := .foldl h fun _ _ h' => h'.setImgBits

theorem State.Wf.laneEcc {l a e} (h : s.Wf) : (s.laneEcc l a e).Wf := by
  unfold State.laneEcc
  split
  · exact h
  · exact h.sat16.wr.raise
  · extract_lets s₁
    have h₁ : s₁.Wf := h.wr.raise
    exact .ite h₁.failLane h₁

theorem State.Wf.fetchEcc {l r} (h : s.Wf) : (s.fetchEcc l r).Wf := by
  unfold State.fetchEcc
  split
  · exact h.laneEcc
  · exact h

theorem State.Wf.markDirty {l a} (h : s.Wf) : (s.markDirty l a).Wf := .ite (.ite h h.reint) h

theorem State.Wf.laneBus {l r} (h : s.Wf) : (s.laneBus l r).Wf := by
  unfold State.laneBus
  split
  · exact h
  · split
    · exact h.laneEcc
    · exact h
  · split
    · exact h.setBytes.markDirty
    · exact .ite h h.storeImage
    · exact h

theorem State.Wf.laneStep {l r} (h : s.Wf) : (s.laneStep l r).Wf := by
  unfold State.laneStep
  split
  · exact h
  · extract_lets _ _ _ s₁ s₂ s₃ _ _ _ s₄ s₅
    have h₁ : s₁.Wf := .ite h h.modLane
    have h₂ : s₂.Wf := h₁.fetchEcc
    have h₃ : s₃.Wf := .ite h₂.modCore h₂.modLane
    have h₄ : s₄.Wf := h₂.modLane
    have h₅ : s₅.Wf := .when h₄ fun _ h' => h'.sat16
    split
    · exact h₂
    · split
      · exact h₃.coreTrap
      · exact h₅.laneBus

theorem State.Wf.refuseSplit {l} (h : s.Wf) : (s.refuseSplit l).Wf := h.wrBit.wrBit.modLane

theorem State.Wf.endSplit {l} (h : s.Wf) : (s.endSplit l).Wf := .ite h.refuseSplit h

theorem State.Wf.splitRequest {l} (h : s.Wf) : (s.splitRequest l).Wf := .ite h.wrBit.wrBit.modLane h.wrBit.refuseSplit

theorem State.Wf.enterSplit {l} (h : s.Wf) : (s.enterSplit l).Wf := h.wrBit.modLane.setLane.raise

theorem State.Wf.failRequest {l} (h : s.Wf) : (s.failRequest l).Wf := .ite h.failLane h

theorem State.Wf.debugLane {l} (h : s.Wf) : (s.debugLane l).Wf :=
  .ite h (.ite h h.endSplit.modLane.setLane.wrBit.keep.raise)

theorem State.Wf.resetLane {l} (h : s.Wf) : (s.resetLane l).Wf := by
  unfold State.resetLane
  extract_lets _ s₁ s₂ s₃ s₄
  have h₁ : s₁.Wf := h.endSplit.wrBit
  have h₂ : s₂.Wf := .ite h₁.setT3 h₁
  have h₃ : s₃.Wf := h₂.setLane
  have h₄ : s₄.Wf := h₃.modLane
  exact .when h₄ fun _ h' => h'.raise

theorem State.Wf.offLane {l} (h : s.Wf) : (s.offLane l).Wf := h.endSplit.wrBit.setLane.modLane

theorem State.Wf.reintFail {result} (h : s.Wf) : (s.reintFail result).Wf := h.wrFld.wrFld

theorem State.Wf.reintFollow (h : s.Wf) : s.reintFollow.Wf := by
  unfold State.reintFollow
  extract_lets _
  split
  · exact h.reintFail
  · split
    · split
      · exact h.reintFail
      · split
        · exact h
        · split
          · extract_lets s₁ _
            have h₁ : s₁.Wf := h.wrFld.wrFld
            exact h₁.reint
          · exact h.failLane.reintFail
    · exact h

/-! ### The field domain -/

theorem State.Wf.setLink {m} (h : s.Wf) : (s.setLink m).Wf := .ite h h.wrFld.raise.field.refresh

theorem State.Wf.tryParallel (h : s.Wf) : s.tryParallel.Wf := .ite h.setLink h

theorem State.Wf.latchMask {m} (h : s.Wf) : (s.latchMask m).Wf := h.field.wr

theorem State.Wf.couplerFault {ch} (h : s.Wf) : (s.couplerFault ch).Wf :=
  .ite h.wrBit (.ite h.wrBit h.wrBit.latchMask)

theorem State.Wf.compareCoupler {ch differs} (h : s.Wf) : (s.compareCoupler ch differs).Wf :=
  .ite h (.ite h.field (.ite h.field h.field.couplerFault.raise))

theorem State.Wf.compareFrame {f} (h : s.Wf) : (s.compareFrame f).Wf := by
  unfold State.compareFrame
  extract_lets s₁ s₂
  have h₁ : s₁.Wf := .foldl h fun _ _ h' => h'.compareCoupler
  have h₂ : s₂.Wf := .foldl h₁ fun _ _ h' => h'.compareCoupler
  exact .foldl h₂ fun _ _ h' => h'.compareCoupler

theorem State.Wf.markMismatch {n} (h : s.Wf) : (s.markMismatch n).Wf := .when h.wrBit fun _ h' => h'.wrBit

theorem State.Wf.refreshStat {f n} (h : s.Wf) : (s.refreshStat f n).Wf :=
  .markMismatch (.when (.when h.wrFld fun _ h' => h'.wrBit) fun _ h' => h'.wrBit.wrBit)

theorem State.Wf.frameDiag {f} (h : s.Wf) : (s.frameDiag f).Wf := .foldl h.wr.refresh.wr fun _ _ h' => h'.refreshStat

theorem State.Wf.isoFrame {f} (h : s.Wf) : (s.isoFrame f).Wf := by
  unfold State.isoFrame
  exact .ite h (.ite (.ite h.field.sat16.raise.setLink h.field.sat16.raise) (.frameDiag
      (.ite h.field.compareFrame h.field)))

theorem State.Wf.fioChanged {old} (h : s.Wf) : (s.fioChanged old).Wf :=
  .foldl (.foldl h fun _ _ h' => .ite h'.setTab h') fun _ _ h' => .ite h' h'.wr

theorem State.Wf.filterInput {n sample} (h : s.Wf) : (s.filterInput n sample).Wf :=
  .ite h (.ite h.setTab.wrBit (.when h.setTab.wrBit.setTab.capture fun _ h' => h'.raise))

theorem State.Wf.filterRb {n sample} (h : s.Wf) : (s.filterRb n sample).Wf := .ite h h.field.wrBit

theorem State.Wf.sampleInputs {fi rb} (h : s.Wf) : (s.sampleInputs fi rb).Wf := by
  unfold State.sampleInputs
  exact .ite h (.foldl (.refresh (.foldl (.foldl h.field fun _ _ h' => h'.filterInput) fun _ _ h' => h'.filterRb))
      fun _ _ h' => h'.markMismatch)

theorem State.Wf.counterEdge {c rising} (h : s.Wf) : (s.counterEdge c rising).Wf :=
  .ite (.when h.inc32 fun _ h' => h'.raise) h

theorem State.Wf.latchFo {n} (h : s.Wf) : (s.latchFo n).Wf := h.latchMask

theorem State.Wf.setSupply {x mv} (h : s.Wf) : (s.setSupply x mv).Wf := h.wr.wrFld

/-! ### The signal map -/

theorem State.Wf.setSig {i x} (h : s.Wf) : (s.setSig i x).Wf := h.prog

theorem State.Wf.stationSeen {st} (h : s.Wf) : (s.stationSeen st).Wf := h.wrBit

/-! ### Inside a lane -/

theorem State.Wf.sigUpdate {i v} (h : s.Wf) : (s.sigUpdate i v).Wf := .when h.setSig fun _ h' => h'.stationSeen

/-! ### The signal map -/

theorem State.Wf.rxSignals {kind num d} (h : s.Wf) : (s.rxSignals kind num d).Wf :=
  .foldl h fun _ _ h' => .ite h'.sigUpdate h'

theorem State.Wf.snapSignal {k i} (h : s.Wf) : (s.snapSignal k i).Wf := by
  unfold State.snapSignal
  extract_lets _ _ _ _ _ s₁ s₂ s₃
  have h₁ : s₁.Wf := .when h fun _ h' => h'.setSig
  have h₂ : s₂.Wf := h₁.setImgBits
  have h₃ : s₃.Wf := h₂.setImgBits
  exact .ite h₃.wrFld (.ite h₃.wrFld h₃)

theorem State.Wf.snapSignals {k} (h : s.Wf) : (s.snapSignals k).Wf := .foldl h.wr fun _ _ h' => h'.snapSignal

theorem State.Wf.snapCapture {k} (h : s.Wf) : (s.snapCapture k).Wf := h.clearImage.snapSignals

theorem State.Wf.snapWrite {k due events} (h : s.Wf) : (s.snapWrite k due events).Wf := by
  unfold State.snapWrite
  extract_lets _ s₁ s₂ s₃ s₄ s₅ s₆ _
  have h₁ : s₁.Wf := h.setImage
  have h₂ : s₂.Wf := h₁.setImage
  have h₃ : s₃.Wf := h₂.setImage
  have h₄ : s₄.Wf := h₃.setImage
  have h₅ : s₅.Wf := .foldl h₄ fun _ _ h' => h'.setImage
  have h₆ : s₆.Wf := .foldl h₅ fun _ _ h' => h'.copyImage
  exact h₆.tro

theorem State.Wf.setTabBytes {p ix n d} (h : s.Wf) : (s.setTabBytes p ix n d).Wf := .foldl h fun _ _ h' => h'.setTab

theorem State.Wf.setObjReady {n o b} (h : s.Wf) : (s.setObjReady n o b).Wf := h.wrBit

theorem State.Wf.completeObj {n o} (h : s.Wf) : (s.completeObj n o).Wf := h.modCan.setObjReady

theorem State.Wf.putCan {i x} (h : s.Wf) : (s.putCan i x).Wf := .ite h.accessFault h.setTabBytes

theorem State.Wf.putMvb {i x} (h : s.Wf) : (s.putMvb i x).Wf := h.setTabBytes

theorem State.Wf.putDs {i x} (h : s.Wf) : (s.putDs i x).Wf := h.net

theorem State.Wf.putView {up i x} (h : s.Wf) : (s.putView up i x).Wf := h.modView

theorem State.Wf.substOutputs (h : s.Wf) : s.substOutputs.Wf := by
  unfold State.substOutputs
  extract_lets _ _ s₁ s₂ s₃ _ s₄ s₅
  have h₁ : s₁.Wf := .foldl h fun _ _ h' => h'.putCan
  have h₂ : s₂.Wf := .ite h₁ (.foldl h₁ fun _ _ h' => h'.putMvb)
  have h₃ : s₃.Wf := .foldl h₂ fun _ _ h' => h'.putDs
  have h₄ : s₄.Wf := h₃.net
  have h₅ : s₅.Wf := .foldl h₄ fun _ _ h' => h'.putView
  exact .foldl h₅ fun _ _ h' => h'.wrBit

theorem State.Wf.sendSubst (h : s.Wf) : s.sendSubst.Wf := .ite h h.substOutputs

theorem State.Wf.putMoving (h : s.Wf) : s.putMoving.Wf := by
  unfold State.putMoving
  split
  · exact h
  · exact h.wrBit

theorem State.Wf.commitOut (h : s.Wf) : s.commitOut.Wf := by
  unfold State.commitOut
  split
  · exact h
  · split
    · exact h.putMoving
    · extract_lets _ s₁ _ s₂ s₃ s₄ s₅
      have h₁ : s₁.Wf := .foldl h fun _ _ h' => h'.putCan
      have h₂ : s₂.Wf := .foldl h₁ fun _ _ h' => .ite h' h'.completeObj
      have h₃ : s₃.Wf := .ite h₂ (.foldl h₂ fun _ _ h' => h'.putMvb)
      have h₄ : s₄.Wf := .ite (.foldl h₃ fun _ _ h' => h'.putDs) h₃
      have h₅ : s₅.Wf := .foldl h₄ fun _ _ h' => h'.putView
      exact h₅.putMoving

theorem State.Wf.staleStation {st} (h : s.Wf) : (s.staleStation st).Wf := .foldl h fun _ _ h' => h'.setSig

/-! ### The CAN channels -/

theorem State.Wf.setTt {n x} (h : s.Wf) : (s.setTt n x).Wf := h.wrFld

theorem State.Wf.ttErr {n code p1} (h : s.Wf) : (s.ttErr n code p1).Wf := h.raise

theorem State.Wf.applySchedule {n} (h : s.Wf) : (s.applySchedule n).Wf :=
  .ite h (.ite h.applyShadows h.dropShadows.accessFault.ttErr)

theorem State.Wf.scheduleNow {n} (h : s.Wf) : (s.scheduleNow n).Wf := .ite h h.applySchedule

theorem State.Wf.startFrame {n b ws} (h : s.Wf) : (s.startFrame n b ws).Wf := h.modCan

theorem State.Wf.canStop {n} (h : s.Wf) : (s.canStop n).Wf := h.wrBit.wr.modCan.scheduleNow

theorem State.Wf.ttListen {n} (h : s.Wf) : (s.ttListen n).Wf := h.setTt.modCan.scheduleNow

theorem State.Wf.canCtrl {n v} (h : s.Wf) : (s.canCtrl n v).Wf := by
  unfold State.canCtrl
  extract_lets _ _ s₁ _ s₂ now s₃
  have h₁ : s₁.Wf := h.wr
  have h₂ : s₂.Wf := .when h₁ fun _ h' => h'.wrBit
  have h₃ : s₃.Wf := .when h₂ fun _ h' => h'.modCan
  split
  · exact h₂.wrBit.modCan
  · split
    · clear_value now
      split
      · exact h₂.modCan
      · exact h₃.canStop
    · exact .ite h₂.setTt.wrBit.wrFld.scheduleNow (.ite h₂.ttListen h₂)

theorem State.Wf.canIntegrate {n} (h : s.Wf) : (s.canIntegrate n).Wf := .ite h (.ite h.wrBit.ttListen h.wrBit)

theorem State.Wf.setErrCnt {n tec rec} (h : s.Wf) : (s.setErrCnt n tec rec).Wf :=
  .ite h.wr (.ite h.wr.wrFld.raise.sat16.wrBit.modCan h.wr.wrFld.raise.wrBit)

theorem State.Wf.txOk {n} (h : s.Wf) : (s.txOk n).Wf := h.setErrCnt

theorem State.Wf.rxOk {n} (h : s.Wf) : (s.rxOk n).Wf := .ite h (.ite h.setErrCnt h.setErrCnt.draw)

theorem State.Wf.rxPush {n q pair f sof} (h : s.Wf) : (s.rxPush n q pair f sof).Wf :=
  .ite (.ite h.sat16 h.sat16hi) (.when h.modCan fun _ h' => h'.raise)

theorem State.Wf.canReceive {n f sof} (h : s.Wf) : (s.canReceive n f sof).Wf := by
  unfold State.canReceive
  extract_lets s₁
  have h₁ : s₁.Wf := h.capture.inc32.rxOk
  split
  · exact h₁.sat16
  · extract_lets s₂ _
    have h₂ : s₂.Wf := h₁.rxSignals
    exact .ite h₂.rxPush (.ite h₂.rxPush h₂)

theorem State.Wf.rxqPop {n q} (h : s.Wf) : (s.rxqPop n q).1.Wf := by
  unfold State.rxqPop
  split
  · exact h
  · exact h.modCan

theorem State.Wf.inhibitMaster {n} (h : s.Wf) : (s.inhibitMaster n).Wf := .ite h.wrBit.ttErr.setTt h.wrBit.ttErr

theorem State.Wf.ownIdSeen {n f} (h : s.Wf) : (s.ownIdSeen n f).Wf := .ite h.inhibitMaster h

theorem State.Wf.basicCycle {n cc} (h : s.Wf) : (s.basicCycle n cc).Wf := .ite h.wrFld.applySchedule h.wrFld

theorem State.Wf.setOffset {n mrm mark} (h : s.Wf) : (s.setOffset n mrm mark).Wf := h.wr

theorem State.Wf.setPeriod {n p} (h : s.Wf) : (s.setPeriod n p).Wf := h.modCan.wr

theorem State.Wf.trimPeriod {n sof mrm} (h : s.Wf) : (s.trimPeriod n sof mrm).Wf := by
  unfold State.trimPeriod
  extract_lets _
  split
  · exact h.setPeriod
  · split
    · exact h
    · extract_lets _
      exact .ite h h.setPeriod

theorem State.Wf.observe {n cc onGuard} (h : s.Wf) : (s.observe n cc onGuard).Wf := by
  unfold State.observe
  split
  · exact .ite h.modCan h
  · exact .ite h.modCan.ttErr (.ite h.modCan.setTt h.modCan)

theorem State.Wf.reference {n f sof elapsed} (h : s.Wf) : (s.reference n f sof elapsed).Wf := by
  unfold State.reference
  extract_lets _ _ _ _ _ _ _ _ _ s₁ s₂ _ s₃ s₄ s₅ s₆ s₇ s₈
  have h₁ : s₁.Wf := h.wr.wrFld
  have h₂ : s₂.Wf := h₁.modCan
  have h₃ : s₃.Wf := .when h₂ fun _ h' => h'.wrBit
  have h₄ : s₄.Wf := h₂.wrBit
  have h₅ : s₅.Wf := .when h₄ fun _ h' => h'.ttErr
  have h₆ : s₆.Wf := h₅.setOffset.trimPeriod
  have h₇ : s₇.Wf := .ite (.ite h₂.setTt.modCan.setOffset h₂) (.ite h₃.observe.setOffset (.ite
      (.when h₆ fun _ h' => h'.tbMeasure) h₂))
  have h₈ : s₈.Wf := h₇.modCan
  exact h₈.basicCycle

theorem State.Wf.becomeMaster {n} (h : s.Wf) : (s.becomeMaster n).Wf := h.modCan.wr.setPeriod.wrBit.setTt

theorem State.Wf.ownReference {n ntu cc} (h : s.Wf) : (s.ownReference n ntu cc).Wf :=
  h.capture.inc32.txOk.modCan.modCan.wr.wrFld.basicCycle

theorem State.Wf.refMissing {n} (h : s.Wf) : (s.refMissing n).Wf := by
  unfold State.refMissing
  exact .ite h (.ite (.ite h.wrFld.sat16.ttErr.modCan.basicCycle.modCan.ttErr h.wrFld.sat16.ttErr.modCan.basicCycle)
      (.ite h.wrFld.sat16.ttErr.modCan.basicCycle.ttListen.ttErr h.wrFld.sat16.ttErr.modCan.basicCycle))

theorem State.Wf.evbRequest {n v} (h : s.Wf) : (s.evbRequest n v).Wf := h.wr.modCan

theorem State.Wf.evbAbortReq {n v} (h : s.Wf) : (s.evbAbortReq n v).Wf :=
  .foldl h fun _ _ h' => .ite (.ite h'.modCan h'.wrBit) h'

theorem State.Wf.txDone {n b sofNs} (h : s.Wf) : (s.txDone n b sofNs).Wf := by
  unfold State.txDone
  extract_lets _ _ s₁ s₂ _ _ _ s₃ s₄ s₅
  have h₁ : s₁.Wf := .ite h h.startFrame
  have h₂ : s₂.Wf := h₁.capture.inc32.txOk
  have h₃ : s₃.Wf := .ite (.ite h₂ h₂.setObjReady) h₂.wrBit
  have h₄ : s₄.Wf := h₃.modCan
  have h₅ : s₅.Wf := .when h₄ fun _ h' => h'.raise
  exact .ite h (.ite h₅.canStop h₅)

theorem State.Wf.captureErred {n} (h : s.Wf) : (s.captureErred n).Wf := .ite h.capture.draw h

theorem State.Wf.frameError {n own b fl tec rec} (h : s.Wf) : (s.frameError n own b fl tec rec).Wf := by
  unfold State.frameError
  split
  · exact h
  · extract_lets _ s₁ _ _ _ s₂ s₃ s₄ s₅ s₆
    have h₁ : s₁.Wf := h.captureErred
    have h₂ : s₂.Wf := h₁.modCan
    have h₃ : s₃.Wf := .when h₂ fun _ h' => h'.wr.raise
    have h₄ : s₄.Wf := .when h₃ fun _ h' => h'.inhibitMaster
    have h₅ : s₅.Wf := by
      unfold s₅
      split
      · exact h₁
      · split
        · exact .ite h₄.wrBit.modCan h₄
        · exact h₄
    have h₆ : s₆.Wf := h₅.setErrCnt
    exact .ite h₆.canStop h₆

theorem State.Wf.exclusiveWindow {n w busIdle} (h : s.Wf) : (s.exclusiveWindow n w busIdle).Wf :=
  .ite h (.ite h.sat16 (.ite h (.ite h.sat16hi.ttErr (.ite h.startFrame h.sat16.startFrame))))

theorem State.Wf.arbitratingWindow {n w} (h : s.Wf) : (s.arbitratingWindow n w).Wf := by
  unfold State.arbitratingWindow
  split
  · exact h
  · extract_lets _ s₁
    have h₁ : s₁.Wf := h.modCan
    split
    · exact h₁
    · exact h₁.startFrame

theorem State.Wf.lateFrame {n f sof} (h : s.Wf) : (s.lateFrame n f sof).Wf := .ite h.modCan.canReceive h

/-! ### The MVB controller -/

theorem State.Wf.mvbErr {code} (h : s.Wf) : (s.mvbErr code).Wf := h.raise

theorem State.Wf.mvbCalm (h : s.Wf) : s.mvbCalm.Wf := h.mvb

theorem State.Wf.setMvbRole {r} (h : s.Wf) : (s.setMvbRole r).Wf :=
  .ite h.wrFld.mvb.raise (.ite h.wrFld.mvb.mvbCalm.raise h.wrFld.mvb)

theorem State.Wf.mvbCfg (h : s.Wf) : s.mvbCfg.Wf := .ite (.ite h.setMvbRole h) (.ite h.setMvbRole h)

theorem State.Wf.mvbLine {b valid other} (h : s.Wf) : (s.mvbLine b valid other).Wf := by
  unfold State.mvbLine
  extract_lets _ _ _ _ _ _ s₁ s₂ s₃
  have h₁ : s₁.Wf := h.mvb
  have h₂ : s₂.Wf := .when h₁ fun _ h' => .ite h'.sat16hi h'.sat16
  have h₃ : s₃.Wf := .when h₂ fun _ h' => h'.wrBit
  exact .when h₃ fun _ h' => h'.wrBit

theorem State.Wf.mvbLines {a b} (h : s.Wf) : (s.mvbLines a b).Wf := by
  unfold State.mvbLines
  extract_lets s₁ _ _ s₂ _ s₃ _
  have h₁ : s₁.Wf := h.mvbLine.mvbLine
  have h₂ : s₂.Wf := h₁.mvbErr
  have h₃ : s₃.Wf := h₁.mvb
  exact .ite (.ite h₁ h₂.mvb) (.ite h₃.wrBit.raise h₃)

theorem State.Wf.portStamp {p} (h : s.Wf) : (s.portStamp p).Wf := h.setTab

theorem State.Wf.mvbForeign (h : s.Wf) : s.mvbForeign.Wf := h.mvb.setMvbRole.mvbErr

theorem State.Wf.mvbAnswer {d} (h : s.Wf) : (s.mvbAnswer d).Wf := h.mvb

theorem State.Wf.mvbMaster {port fc own} (h : s.Wf) : (s.mvbMaster port fc own).Wf := by
  unfold State.mvbMaster
  extract_lets s₁ _ s₂ s₃ _ s₄ _
  have h₁ : s₁.Wf := .ite h (.ite h.mvbForeign (.when h fun _ h' => h'.mvbCalm))
  have h₂ : s₂.Wf := h₁.mvb
  have h₃ : s₃.Wf := .when h₂ fun _ h' => h'.inc32.mvb
  have h₄ : s₄.Wf := h₃.mvb
  exact .ite h₄ (.ite (.ite h₄.mvbAnswer h₄) (.foldl h₄ fun _ _ h' => .when h'.portStamp.mvbAnswer fun _ h'' =>
      h''.raise))

theorem State.Wf.mvbSlave {d} (h : s.Wf) : (s.mvbSlave d).Wf := by
  unfold State.mvbSlave
  split
  · exact h
  · extract_lets _ s₁ _
    have h₁ : s₁.Wf := h.mvb
    exact .ite h₁.mvbErr (.foldl h₁ fun _ _ h' => .when h'.setTabBytes.portStamp.rxSignals fun _ h'' => h''.raise)

theorem State.Wf.mvbFrame {a b} (h : s.Wf) : (s.mvbFrame a b).Wf := by
  unfold State.mvbFrame
  extract_lets _ _ _ _ _ s₁ _
  have h₁ : s₁.Wf := h.mvbLines
  split
  · exact h₁.mvbForeign
  · split
    · exact h₁.mvbErr
    · exact h₁.mvbMaster
    · exact h₁.mvbSlave

theorem State.Wf.applyPolls (h : s.Wf) : s.applyPolls.Wf :=
  .ite h (.ite h.dropShadows.accessFault.mvbErr h.draw.applyShadows.wr)

theorem State.Wf.toBasicPeriod (h : s.Wf) : s.toBasicPeriod.Wf := h.advanceTo.mvb

theorem State.Wf.basicPeriod (h : s.Wf) : s.basicPeriod.Wf := by
  unfold State.basicPeriod
  split
  · exact h
  · extract_lets s₁ _ s₂ s₃ s₄ _
    have h₁ : s₁.Wf := h.toBasicPeriod
    have h₂ : s₂.Wf := h₁.wrFld
    have h₃ : s₃.Wf := .ite h₂.applyPolls h₂
    have h₄ : s₄.Wf := .ite h₃.setMvbRole h₃
    exact .ite h₄.mvb h₄

/-! ### The Ethernet switch and precision time -/

theorem State.Wf.portCount {n c k} (h : s.Wf) : (s.portCount n c k).Wf := h.setTab.setTab

theorem State.Wf.sendFrame {e} (h : s.Wf) : (s.sendFrame e).Wf := h.portCount.portCount.net

theorem State.Wf.enqueue {e} (h : s.Wf) : (s.enqueue e).Wf := .ite h.sendFrame h.net

theorem State.Wf.drainPort {n} (h : s.Wf) : (s.drainPort n).Wf := .foldl h.net fun _ _ h' => h'.sendFrame

theorem State.Wf.gateBoundary {n} (h : s.Wf) : (s.gateBoundary n).Wf :=
  .ite h (.ite h.applyShadows h.dropShadows.raise)

theorem State.Wf.deliverCpu {n f ingress} (h : s.Wf) : (s.deliverCpu n f ingress).Wf :=
  .when (.when h.net.portCount.portCount fun _ h' => h'.raise) fun _ h' => h'.raise

theorem State.Wf.emitOn {n o f correct ingress egressDelay} (h : s.Wf) :
    (s.emitOn n o f correct ingress egressDelay).Wf := by
  unfold State.emitOn
  extract_lets _ _ _ s₁ _ _ _ _ _ s₂ _
  have h₁ : s₁.Wf := .when h fun _ h' => h'.capture
  have h₂ : s₂.Wf := h₁.inc32.wr
  exact .ite h₁.setTab.setTab.setTab.enqueue (.ite h₁.enqueue (.ite h₁.sat16.enqueue h₂.enqueue))

theorem State.Wf.learn {mac n} (h : s.Wf) : (s.learn mac n).Wf := .ite h h.net.wr

theorem State.Wf.popTx (h : s.Wf) : s.popTx.Wf := by
  unfold State.popTx
  split
  · exact h
  · exact h.net

theorem State.Wf.ethFrame {n f egressDelay} (h : s.Wf) : (s.ethFrame n f egressDelay).Wf := by
  unfold State.ethFrame
  split
  · exact h
  · extract_lets s₁ s₂ _ s₃ s₄ rule
    have h₁ : s₁.Wf := .ite h.popTx h
    have h₂ : s₂.Wf := h₁.portCount.portCount.learn
    have h₃ : s₃.Wf := .when h₂ fun _ h' => h'.capture
    have h₄ : s₄.Wf := .when h₃ fun _ h' => h'.raise
    split
    · exact h₁.portCount
    · split
      · exact h₁.portCount
      · split
        · exact h₁.sat16
        · split
          · exact h₄
          · clear_value rule
            split
            · exact h₄
            · exact h₄.deliverCpu
            · exact .foldl h₄ fun _ _ h' => .ite h'.deliverCpu h'.emitOn

theorem State.Wf.dsCommitted {d} (h : s.Wf) : (s.dsCommitted d).Wf :=
  .ite h (.when h.rxSignals fun _ h' => h'.stationSeen)

theorem State.Wf.outSeq {k} (h : s.Wf) : (s.outSeq k).Wf := .ite h h.net.wr.raise

theorem State.Wf.gateNext {n} (h : s.Wf) : (s.gateNext n).Wf := .ite h.advanceTo.gateBoundary.net h.advanceTo.net

/-! ### The cameras -/

theorem State.Wf.visLoad (h : s.Wf) : s.visLoad.Wf := h.wr.wr

theorem State.Wf.offsetsStale (h : s.Wf) : s.offsetsStale.Wf := h.views (List.length_map _)

theorem State.Wf.camCheckFail {c code} (h : s.Wf) : (s.camCheckFail c code).Wf := .ite h.camBad h.camErr

theorem State.Wf.setCam {c st} (h : s.Wf) : (s.setCam c st).Wf :=
  .ite h.wrFld.wrBit.visLoad h.wrFld.wrBit.visLoad.raise

theorem State.Wf.i2cAbort {c} (h : s.Wf) : (s.i2cAbort c).Wf := .ite h.wr h

theorem State.Wf.camStop {c} (h : s.Wf) : (s.camStop c).Wf := .ite h h.setCam.modCam.i2cAbort

theorem State.Wf.camRetime {c} (h : s.Wf) : (s.camRetime c).Wf :=
  .ite h (.offsetsStale (.applyShadows (.foldl h fun _ _ h' => .ite h'.modView h')))

theorem State.Wf.camLinking {c} (h : s.Wf) : (s.camLinking c).Wf := by
  unfold State.camLinking
  exact .ite (.modCam (.setCam (.wrFld (.camRetime (.ite h h.applyShadows.offsetsStale))))) h.camErr.camStop

theorem State.Wf.camCtrl {c v} (h : s.Wf) : (s.camCtrl c v).Wf := .ite h.wr.camLinking (.ite h.wr.camStop h.wr)

theorem State.Wf.writeSlot {c y} (h : s.Wf) : (s.writeSlot c y).Wf := h.modCam

theorem State.Wf.startSlot {c y} (h : s.Wf) : (s.startSlot c y).Wf := h.modCam

theorem State.Wf.lineZero {c t} (h : s.Wf) : (s.lineZero c t).Wf := h.wr.modCam

theorem State.Wf.stampLine {c y t good} (h : s.Wf) : (s.stampLine c y t good).Wf :=
  .foldl h fun _ _ h' => .ite h'.modCam h'

theorem State.Wf.takeLine {c y px} (h : s.Wf) : (s.takeLine c y px).Wf :=
  .ite (.startSlot (.ite h.modCam.writeSlot h.modCam)) (.ite h.modCam.writeSlot h.modCam)

theorem State.Wf.camLine {c y px full t} (h : s.Wf) : (s.camLine c y px full t).Wf := by
  unfold State.camLine
  split
  · exact h
  · extract_lets s₁
    have h₁ : s₁.Wf := .ite h.lineZero h
    exact .ite h₁.stampLine (.ite h₁.camBad.stampLine (.ite h₁.camBad.stampLine
        (.ite h₁.camBad.stampLine h₁.takeLine.stampLine)))

theorem State.Wf.camFrameStart {c no} (h : s.Wf) : (s.camFrameStart c no).Wf := by
  unfold State.camFrameStart
  exact .ite h (.modCam (.when (.capture (.wr (.wr (.applyShadows
      (.when h fun _ h' => h'.camBad))))) fun _ h' => h'.setCam))

theorem State.Wf.camFrameEnd {c} (h : s.Wf) : (s.camFrameEnd c).Wf := by
  unfold State.camFrameEnd
  extract_lets _ s₁ s₂ s₃ s₄
  have h₁ : s₁.Wf := .when h fun _ h' => h'.camBad
  have h₂ : s₂.Wf := .foldl h₁ fun _ _ h' => h'.startSlot.writeSlot
  have h₃ : s₃.Wf := .ite h₁ h₂.inc32
  have h₄ : s₄.Wf := h₃.wr
  exact h₄.modCam

theorem State.Wf.embLine {c d} (h : s.Wf) : (s.embLine c d).Wf := .modCam (.foldl h fun _ _ h' => h'.setTab)

theorem State.Wf.camPacket {c vc dt hdr crcOk d} (h : s.Wf) : (s.camPacket c vc dt hdr crcOk d).Wf := by
  unfold State.camPacket
  extract_lets _ s₁
  have h₁ : s₁.Wf := .when h fun _ h' => h'.sat16
  exact .ite h (.ite h₁.camCheckFail (.ite h₁.sat16 (.ite h₁ (.ite h₁.sat16 (.ite h₁.sat16 (.ite h₁.camCheckFail
      (.ite h₁.embLine h₁)))))))

theorem State.Wf.i2cCmd {c v} (h : s.Wf) : (s.i2cCmd c v).Wf := .ite h (.ite h.wr.wr h.wr)

theorem State.Wf.i2cComplete {c ack answered d} (h : s.Wf) : (s.i2cComplete c ack answered d).Wf :=
  .ite h (.ite h.wr.wr.wr h.wr)

/-! ### Frame watch -/

theorem State.Wf.showVerdict {v} (h : s.Wf) : (s.showVerdict v).Wf := h.wr

theorem State.Wf.setWatch {v st} (h : s.Wf) : (s.setWatch v st).Wf := h.wr

theorem State.Wf.watchTo {v st} (h : s.Wf) : (s.watchTo v st).Wf :=
  .showVerdict (.when h.setWatch.modWatch fun _ h' => h'.raise)

theorem State.Wf.watchFailed {v} (h : s.Wf) : (s.watchFailed v).Wf :=
  .showVerdict (.when h.setWatch.sat16 fun _ h' => h'.modWatch.raise)

theorem State.Wf.watchFail {v k} (h : s.Wf) : (s.watchFail v k).Wf := by
  unfold State.watchFail
  extract_lets _ s₁ s₂
  have h₁ : s₁.Wf := h.modWatch
  have h₂ : s₂.Wf := h₁.setWatch
  exact .ite h.showVerdict (.ite h₂.watchFailed (.ite h₂.setWatch.showVerdict h₂.showVerdict))

theorem State.Wf.watchFrame {v} (h : s.Wf) : (s.watchFrame v).Wf := by
  unfold State.watchFrame
  extract_lets _ _ s₁ _ s₂ s₃
  have h₁ : s₁.Wf := h.modWatch
  have h₂ : s₂.Wf := h₁.wr
  have h₃ : s₃.Wf := .when h₂ fun _ h' => h'.setWatch
  exact .ite h₁ (.ite (.ite h₃.wr.showVerdict (.ite h₃.watchTo h₃.showVerdict)) h₃.showVerdict)

theorem State.Wf.judgeView {c v isA why no dev} (h : s.Wf) : (s.judgeView c v isA why no dev).Wf := by
  unfold State.judgeView
  exact .ite h (.showVerdict (.when (.when (.when (.when h.wrFld.modWatch fun _ h' => h'.sat16.raise) fun _ h' =>
      h'.sat16.raise) fun _ h' => h'.watchFail) fun _ h' => h'.watchFail))

theorem State.Wf.judgeCam {c missing} (h : s.Wf) : (s.judgeCam c missing).Wf := by
  unfold State.judgeCam
  extract_lets _ _ _ _ s₁
  have h₁ : s₁.Wf := .foldl h fun _ _ h' => h'.judgeView
  exact .ite h₁ h₁.modCam

theorem State.Wf.reportIn {d r} (h : s.Wf) : (s.reportIn d r).Wf := by
  unfold State.reportIn
  exact .ite h (.ite h.sat16 (.showVerdict (.modWatch (.foldl h.modDsp.wr.wr fun _ _ h' => h'.setTab))))

theorem State.Wf.historyLost (h : s.Wf) : s.historyLost.Wf := by
  unfold State.historyLost
  extract_lets s₁
  have h₁ : s₁.Wf := h.raise
  exact .foldl h₁ fun _ _ h' => .ite h'.modDsp (.ite h'.modDsp.modWatch.setWatch h'.modDsp.modWatch.watchFailed)

theorem State.Wf.judgeReport {d n} (h : s.Wf) : (s.judgeReport d n).Wf := by
  unfold State.judgeReport
  split
  · exact h.watchFrame
  · extract_lets _ s₁ s₂ _ s₃ s₄
    have h₁ : s₁.Wf := h.modDsp
    have h₂ : s₂.Wf := h₁.sat16hi.modDsp
    have h₃ : s₃.Wf := h₁.modWatch
    have h₄ : s₄.Wf := by
      unfold s₄
      split
      · exact .ite h₂.modWatch.raise.watchFail h₂
      · split
        · exact h₁.modWatch.sat16.raise.watchFail
        · split
          · exact h₃.modWatch
          · extract_lets _ s₅
            have h₅ : s₅.Wf := h₃.modWatch.sat16.wr
            exact h₅.raise.watchFail
    exact h₄.watchFrame

theorem State.Wf.metaCheck {d syncOk reader frame} (h : s.Wf) : (s.metaCheck d syncOk reader frame).Wf := by
  unfold State.metaCheck
  split
  · exact h
  · extract_lets _ _ s₁ s₂ first _ s₃ s₄ s₅
    have h₁ : s₁.Wf := .foldl h fun _ _ h' => h'.setTab.setTab
    have h₂ : s₂.Wf := h₁.modDsp
    have h₃ : s₃.Wf := h₂.modWatch
    have h₄ : s₄.Wf := by
      unfold s₄
      clear_value first
      split
      · exact h₃
      · extract_lets _
        exact h₃.sat16.wr.raise
    have h₅ : s₅.Wf := .when h₄ fun _ h' => h'.sat16.raise
    exact .ite h₂ (.ite h₅.watchFail h₅.showVerdict)

theorem State.Wf.watchRelease {v} (h : s.Wf) : (s.watchRelease v).Wf := .ite h.watchTo h

/-! ### Views and display ports -/

theorem State.Wf.applyBank {v} (h : s.Wf) : (s.applyBank v).Wf :=
  .ite h (.raise (.wr (.wrBit (.foldl h fun _ _ h' => h'.wr))))

theorem State.Wf.viewCommit {v k} (h : s.Wf) : (s.viewCommit v k).Wf := .ite h h.modView.wr

theorem State.Wf.setView {v st} (h : s.Wf) : (s.setView v st).Wf := .ite h.wrFld.watchTo h.wrFld

theorem State.Wf.watchCfg {v changed} (h : s.Wf) : (s.watchCfg v changed).Wf :=
  .ite (.ite h h.watchTo) (.ite h.watchTo (.ite h.watchTo h))

theorem State.Wf.takeGlyphs {v} (h : s.Wf) : (s.takeGlyphs v).Wf := .applyShadows (.foldl h fun _ _ h' => h'.modView)

theorem State.Wf.viewTake {v} (h : s.Wf) : (s.viewTake v).Wf := h.applyShadows.applyShadows.applyShadows.modView

theorem State.Wf.viewDrop {v} (h : s.Wf) : (s.viewDrop v).Wf := h.dropShadows.dropShadows.dropShadows.modView

theorem State.Wf.viewConfigure {v} (h : s.Wf) : (s.viewConfigure v).Wf := by
  unfold State.viewConfigure
  extract_lets _ _ s₁
  have h₁ : s₁.Wf := h.viewTake.wrFld
  split
  · exact h
  · split
    · exact h.viewTake.setView
    · split
      · exact h
      · split
        · extract_lets s₂
          have h₂ : s₂.Wf := h.viewDrop.wrFld.raise
          exact .ite h₂.setView h₂
        · exact .ite h₁.setView h₁

theorem State.Wf.viewFrame {v} (h : s.Wf) : (s.viewFrame v).Wf := by
  unfold State.viewFrame
  exact .ite h (.watchCfg (.applyBank (.modView (.ite h.wrBit.takeGlyphs.viewConfigure.setView
      (.ite h.wrBit.takeGlyphs.viewConfigure.setView h.wrBit.takeGlyphs.viewConfigure)))))

theorem State.Wf.setDsp {d st} (h : s.Wf) : (s.setDsp d st).Wf := by
  unfold State.setDsp
  extract_lets _ s₁ s₂ s₃
  have h₁ : s₁.Wf := h.wrFld
  have h₂ : s₂.Wf := .when h₁ fun _ h' => h'.wrFld
  have h₃ : s₃.Wf := .when h₂ fun _ h' => h'.wrBit
  exact .ite h₃.raise (.ite h₃.raise h₃)

theorem State.Wf.dspTrain {d} (h : s.Wf) : (s.dspTrain d).Wf := h.applyShadows.offsetsStale.modDsp.setDsp

theorem State.Wf.dspStart {d} (h : s.Wf) : (s.dspStart d).Wf :=
  .ite h (.ite h.applyShadows (.ite h.applyShadows.dspTrain h.applyShadows.raise))

theorem State.Wf.dspRetrain {d} (h : s.Wf) : (s.dspRetrain d).Wf := .ite h.dspTrain h.setDsp.raise

theorem State.Wf.dspStop {d} (h : s.Wf) : (s.dspStop d).Wf := .ite h h.setDsp

theorem State.Wf.frameIndex {d ofs} (h : s.Wf) : (s.frameIndex d ofs).Wf := h.modDsp

theorem State.Wf.dspStrobe {d} (h : s.Wf) : (s.dspStrobe d).Wf := by
  unfold State.dspStrobe
  extract_lets _ _ s₁
  have h₁ : s₁.Wf := h.fire.frameIndex
  split
  · exact h₁
  · extract_lets _
    exact .ite h.fire.frameIndex h.advanceTo.strobeFor.frameIndex.modDsp

theorem State.Wf.dspFrame {d} (h : s.Wf) : (s.dspFrame d).Wf := by
  unfold State.dspFrame
  exact .ite h (.ite h.dspStrobe.capture.applyShadows.dspStop
      (.ite h.dspStrobe.capture.applyShadows.wrBit h.dspStrobe.capture.applyShadows.wrBit.inc32.modDsp))

theorem State.Wf.lostPixels {v ecc} (h : s.Wf) : (s.lostPixels v ecc).Wf := .foldl h fun _ _ h' => h'.modCam

theorem State.Wf.lineEcc {e} (h : s.Wf) : (s.lineEcc e).Wf := h.sat16.raise

theorem State.Wf.addMeta {d line} (h : s.Wf) : (s.addMeta d line).Wf := .ite h.modDsp h

theorem State.Wf.emitLine {v line ecc} (h : s.Wf) : (s.emitLine v line ecc).Wf := by
  unfold State.emitLine
  extract_lets _ _ _ s₁ s₂ _ _ _ s₃ s₄ _ s₅
  have h₁ : s₁.Wf := .when h fun _ h' => h'.modView
  have h₂ : s₂.Wf := h₁.lostPixels
  have h₃ : s₃.Wf := .when h₁ fun _ h' => h'.sat16
  have h₄ : s₄.Wf := .ite h₃ (.foldl h₃ fun _ _ h' => h'.lineEcc)
  have h₅ : s₅.Wf := h₄.modDsp
  exact .ite h h₅.addMeta

theorem State.Wf.measureLatency {v} (h : s.Wf) : (s.measureLatency v).Wf := by
  unfold State.measureLatency
  extract_lets _ _ _ _
  split
  · exact h
  · split
    · extract_lets _ s₁
      have h₁ : s₁.Wf := h.wr.wr
      exact .ite h₁.modWatch.sat16.raise.watchFail h₁.modWatch.showVerdict
    · exact h
    · exact .ite h.modWatch.sat16.raise.watchFail h.modWatch.showVerdict

theorem State.Wf.dcsCtrl {d v} (h : s.Wf) : (s.dcsCtrl d v).Wf := .ite h.wr.modDsp h.wr

/-! ### The management firmware -/

theorem State.Wf.boxDone {n err resp} (h : s.Wf) : (s.boxDone n err resp).Wf := by
  unfold State.boxDone
  exact .ite h (.when (.raiseAt (.bells (.modBox (.wr (.wr (.foldl h fun _ _ h' => h'.wr)))))) fun _ h' => h'.raiseAt)

/-- A served command ends refused, or does what its row does. -/
theorem State.Wf.serve {n code sel lens f} (h : s.Wf) (hf : ∀ t, t.Wf → (f t).Wf) : (s.serve n code sel lens f).Wf :=
  .ite h (.ite h.boxDone (.ite h.boxDone (.ite h.boxDone (hf s h))))

theorem State.Wf.boxRun {n} (h : s.Wf) : (s.boxRun n).Wf := h.modBox.bells

theorem State.Wf.boxReset {n} (h : s.Wf) : (s.boxReset n).Wf :=
  (h.filterRegs.boxes List.length_set).frame

theorem State.Wf.setUpd {x} (h : s.Wf) : (s.setUpd x).Wf := .ite h h.wrFld.raise

theorem State.Wf.updBoundary (h : s.Wf) : s.updBoundary.Wf := .ite h h.applyShadows

theorem State.Wf.updEnd (h : s.Wf) : s.updEnd.Wf := h.upd.wr.wr.setUpd.updBoundary

theorem State.Wf.setSpare {x} (h : s.Wf) : (s.setSpare x).Wf := h.keep

theorem State.Wf.updDrop (h : s.Wf) : s.updDrop.Wf := h.setSpare.updEnd

theorem State.Wf.updRefuse {reason code} (h : s.Wf) : (s.updRefuse reason code).Wf := h.wr.raise

/-! ### The duplex unit -/

theorem State.Wf.applyForces {id} (h : s.Wf) : (s.applyForces id).Wf := .foldl h fun _ _ h' => h'.setImgBits

theorem State.Wf.commitVoted (h : s.Wf) : s.commitVoted.Wf :=
  .commitOut (.refresh (.field (.ite h.applyForces.substitute h.applyForces.copyImage)))

theorem State.Wf.setRoleOut {b} (h : s.Wf) : (s.setRoleOut b).Wf := h.wrBit.refresh

theorem State.Wf.setRole {r} (h : s.Wf) : (s.setRole r).Wf := h.wrFld

theorem State.Wf.leaveRole (h : s.Wf) : s.leaveRole.Wf := h.setRole.wr.dup.setRoleOut

theorem State.Wf.firstRole (h : s.Wf) : s.firstRole.Wf := .ite h (.ite h.setRole h.setRole.setRoleOut)

theorem State.Wf.sendHeartbeat {f} (h : s.Wf) : (s.sendHeartbeat f).Wf :=
  .ite h (.foldl h fun _ _ h' => .ite h'.enqueue h')

theorem State.Wf.partnerFrame {f} (h : s.Wf) : (s.partnerFrame f).Wf := by
  unfold State.partnerFrame
  extract_lets s₁ s₂ _ _ s₃ s₄ s₅ _ s₆
  have h₁ : s₁.Wf := h.wrFld
  have h₂ : s₂.Wf := h₁.wrFld
  have h₃ : s₃.Wf := h₂.wr.wr
  have h₄ : s₄.Wf := .when h₃ fun _ h' => h'.raise
  have h₅ : s₅.Wf := .when h₄ fun _ h' => h'.dup
  have h₆ : s₆.Wf := h₅.dup
  exact .ite h₆.updDrop.updRefuse h₆

theorem State.Wf.takeMirror {f} (h : s.Wf) : (s.takeMirror f).Wf := .ite h h.clearImage.putImage.dup.wr

theorem State.Wf.compareDigest {f} (h : s.Wf) : (s.compareDigest f).Wf := .when h.dup fun _ h' => h'.sat16

theorem State.Wf.selcyFrame {f} (h : s.Wf) : (s.selcyFrame f).Wf := by
  unfold State.selcyFrame
  exact .ite h (.ite h.sat16 (.ite h.wrBit (.ite h.partnerFrame.dup.compareDigest.capture.takeMirror.tbMeasure
      h.partnerFrame.dup.compareDigest.capture)))

theorem State.Wf.ethHeartbeat {f} (h : s.Wf) : (s.ethHeartbeat f).Wf := .ite h (.ite h.wrBit h.partnerFrame.dup)

theorem State.Wf.takeRole {trig} (h : s.Wf) : (s.takeRole trig).Wf := by
  unfold State.takeRole
  extract_lets _ s₁ s₂ _ s₃ s₄ s₅
  have h₁ : s₁.Wf := h.setRole.wrBit
  have h₂ : s₂.Wf := h₁.wr.wr
  have h₃ : s₃.Wf := h₂.dup
  have h₄ : s₄.Wf := h₃.sat16.raise
  have h₅ : s₅.Wf := .ite h₄.copyImage.commitVoted.wr h₄.copyImage.commitVoted
  exact h₅.setRoleOut

theorem State.Wf.endTry (h : s.Wf) : s.endTry.Wf := by
  unfold State.endTry
  split
  · exact .ite h.dup.wrBit h
  · exact h

theorem State.Wf.tryRole {trig} (h : s.Wf) : (s.tryRole trig).Wf := .ite (.ite h.takeRole h) h.dup

theorem State.Wf.closeWindowHb (h : s.Wf) : s.closeWindowHb.Wf := by
  unfold State.closeWindowHb
  extract_lets _ _ _ s₁ s₂ s₃ s₄ _
  have h₁ : s₁.Wf := h.wrBit
  have h₂ : s₂.Wf := h₁.wrFld.wrFld
  have h₃ : s₃.Wf := .when h₂ fun _ h' => h'.raise
  have h₄ : s₄.Wf := .ite (.when h₃ fun _ h' => h'.raise) h₁
  exact h₄.dup

theorem State.Wf.duplexTick (h : s.Wf) : s.duplexTick.Wf := by
  unfold State.duplexTick
  split
  · exact h
  · extract_lets _ s₁ _ s₂ s₃ box s₄ _ s₅ s₆
    have h₁ : s₁.Wf := h.dup
    have h₂ : s₂.Wf := h₁.endTry.closeWindowHb
    have h₃ : s₃.Wf := .ite h₂.leaveRole (.ite h₂.setRole.setRoleOut h₂)
    have h₄ : s₄.Wf := .raise (.ite h₃.leaveRole h₃)
    have h₅ : s₅.Wf := h₄.dup
    have h₆ : s₆.Wf := by
      unfold s₆
      split
      · clear_value box
        split
        · exact h₅
        · exact h₅.boxDone
      · exact h₃
    exact .ite (.ite h₆.tryRole (.ite h₆.tryRole h₆)) h₆

theorem State.Wf.startYield (h : s.Wf) : s.startYield.Wf := h.dup

/-! ### The recorder -/

theorem State.Wf.stagePut {r} (h : s.Wf) : (s.stagePut r).Wf := h.frame

theorem State.Wf.stageGap (h : s.Wf) : s.stageGap.Wf := .ite h h.recd.draw.stagePut

theorem State.Wf.stageRec {r} (h : s.Wf) : (s.stageRec r).Wf :=
  .ite h.stageGap (.ite h.stageGap.stagePut h.stageGap.recd.sat16.raise)

theorem State.Wf.suppress {r} (h : s.Wf) : (s.suppress r).Wf := h.recd

theorem State.Wf.accept {r} (h : s.Wf) : (s.accept r).Wf := by
  refine .ite h.stageRec (.ite h.suppress ?_)
  cases s.recd.buckets.find? (fun b => b.code = r.code) with
  | none => exact .ite h.recd.suppress h.recd.recd.stageRec
  | some _ => exact .ite h.recd.suppress h.recd.recd.stageRec

theorem State.Wf.takeInlet (h : s.Wf) : s.takeInlet.Wf := by
  unfold State.takeInlet
  split
  · exact h
  · next e rest entries =>
    have shorter : rest.length ≤ 256 := Nat.le_of_succ_le (by simpa [entries] using h.inlet_le)
    exact (h.inlet shorter).accept

theorem State.Wf.appCode {ini v} (h : s.Wf) : (s.appCode ini v).Wf := h.accept

theorem State.Wf.secondEnd (h : s.Wf) : s.secondEnd.Wf := by
  unfold State.secondEnd
  extract_lets _ _ s₁ _ s₂ _ s₃
  have h₁ : s₁.Wf := h.recd
  have h₂ : s₂.Wf := .foldl h₁ fun _ _ h' => h'.draw.accept
  have h₃ : s₃.Wf := .when h₂ fun _ h' => h'.draw.draw.accept
  exact .ite h₁ h₃.sat16by.raise

theorem State.Wf.ringPut {r} (h : s.Wf) : (s.ringPut r).Wf := h.keep

theorem State.Wf.writeRec {ringOk studOk r} (h : s.Wf) : (s.writeRec ringOk studOk r).Wf := by
  unfold State.writeRec
  extract_lets _ _ _ _ s₁ s₂ _
  have h₁ : s₁.Wf := .ite h.keep h
  have h₂ : s₂.Wf := .ite h₁.ringPut h₁
  exact .ite h₂.keep.raise h₂

theorem State.Wf.recError (h : s.Wf) : s.recError.Wf := h.raise.draw

theorem State.Wf.flush {ringOk studOk} (h : s.Wf) : (s.flush ringOk studOk).Wf := by
  unfold State.flush
  split
  · exact h
  · extract_lets _ _ s₁ s₂ s₃ s₄ s₅
    have h₁ : s₁.Wf := h.recd
    have h₂ : s₂.Wf := .foldl h₁ fun _ _ h' => h'.writeRec
    have h₃ : s₃.Wf := .when h₂ fun _ h' => h'.recError
    have h₄ : s₄.Wf := .when h₃ fun _ h' => h'.recError
    have h₅ : s₅.Wf := h₄.inc32.raise
    exact h₅.stageGap

theorem State.Wf.flushFor {trig} (h : s.Wf) : (s.flushFor trig).Wf := h.recd

theorem State.Wf.alarmRecord {source resp} (h : s.Wf) : (s.alarmRecord source resp).Wf :=
  .ringPut (.ite h.draw.frame.keep h.draw.frame)

theorem State.Wf.fetchRec {e} (h : s.Wf) : (s.fetchRec e).1.Wf := by
  unfold State.fetchRec
  extract_lets lost
  clear_value lost
  split
  · split
    · exact h
    · exact h
  · exact h.draw.draw

theorem State.Wf.expPop (h : s.Wf) : s.expPop.1.Wf := by
  unfold State.expPop
  split
  · exact h
  · next e _ =>
    have fetched : (if e.words.isEmpty then s.fetchRec e else (s, e.words, e.recs)).1.Wf := .iteFst h.fetchRec h
    dsimp only
    split
    · exact fetched.recd
    · exact fetched.recd

theorem State.Wf.recRead {n} (h : s.Wf) : (s.recRead n).Wf := .ite h.boxDone (.boxDone (.foldl h fun _ _ h' => h'.wr))

theorem State.Wf.recExport {n} (h : s.Wf) : (s.recExport n).Wf :=
  .ite h.boxDone (.ite h.boxDone (.ite h.recd.boxDone h.recd.boxDone))

theorem State.Wf.recClear {n} (h : s.Wf) : (s.recClear n).Wf :=
  .ite h.boxDone (.ite h.boxDone (.ite h.boxDone h.keep.draw.accept.boxDone))

theorem State.Wf.martSet {n} (h : s.Wf) : (s.martSet n).Wf :=
  .ite h.boxDone (.ite h.recd.boxDone (.ite h.recd.boxDone (.ite h.boxDone h.recd.boxDone)))

theorem State.Wf.findSeq (h : s.Wf) : s.findSeq.Wf := by
  unfold State.findSeq
  split
  · exact h.keep
  · exact h.keep

theorem State.Wf.recStart {kept} (h : s.Wf) : (s.recStart kept).Wf := .stageRec (.draw (.ite h.recd h.recd.findSeq))

/-! ### DMA and PCIe -/

theorem State.Wf.setDma {c st} (h : s.Wf) : (s.setDma c st).Wf := h.wrFld

theorem State.Wf.dmaFollow {c} (h : s.Wf) : (s.dmaFollow c).Wf := .ite h.setDma (.ite h.setDma h)

theorem State.Wf.dmaAdvance {c} (h : s.Wf) : (s.dmaAdvance c).Wf := h.wrFld

theorem State.Wf.dmaTailSet {c v} (h : s.Wf) : (s.dmaTailSet c v).Wf := h.wr.dmaFollow

theorem State.Wf.dmaCtrl {c v} (h : s.Wf) : (s.dmaCtrl c v).Wf := by
  unfold State.dmaCtrl
  extract_lets s₁
  have h₁ : s₁.Wf := h.wr
  exact .ite h₁.setDma (.ite h₁.setDma.dmaFollow (.ite h₁.setDma.dmaAdvance.dmaFollow h₁))

theorem State.Wf.dmaLog2 {c v} (h : s.Wf) : (s.dmaLog2 c v).Wf := .ite h.wr h

theorem State.Wf.modVec {v f} (h : s.Wf) : (s.modVec v f).Wf := h.net

theorem State.Wf.msixRaise {v} (h : s.Wf) : (s.msixRaise v).Wf := .ite h.modVec h.setBytes.modVec

theorem State.Wf.msixWrite {a w} (h : s.Wf) : (s.msixWrite a w).Wf := by
  unfold State.msixWrite
  extract_lets _ s₁
  have h₁ : s₁.Wf := h.modVec
  exact .ite h (.ite h.modVec (.ite h.modVec (.ite h.modVec (.ite h₁.msixRaise h₁))))

theorem State.Wf.popWords {n} (h : s.Wf) : (s.popWords n).1.Wf := by
  induction n generalizing s with
  | zero => exact h
  | succ n ih => exact ih h.expPop

theorem State.Wf.dmaSource {d given} (h : s.Wf) : (s.dmaSource d given).1.Wf :=
  .iteFst h (.iteFst h (.iteFst h.net (.iteFst h.popWords (.iteFst h h))))

theorem State.Wf.dmaDest {c d bs} (h : s.Wf) : (s.dmaDest c d bs).Wf :=
  .ite h.setBytes (.ite h.setBytes (.ite h.setBytes (.ite h.net h.net)))

theorem State.Wf.dmaBack {c err n} (h : s.Wf) : (s.dmaBack c err n).Wf := h.setBytes

theorem State.Wf.dmaHalt {c err} (h : s.Wf) : (s.dmaHalt c err).Wf :=
  .raise (.wrFld (.setDma (.when h fun _ h' => h'.dmaBack.draw)))

theorem State.Wf.dmaDone {c host given met} (h : s.Wf) : (s.dmaDone c host given met).Wf := by
  unfold State.dmaDone
  extract_lets _ _
  exact .ite h (.ite h.sat16.dmaHalt (.ite h.dmaHalt (.ite h (.dmaFollow (.when (.inc32 (.dmaAdvance
      (.when h.dmaSource.dmaDest.dmaBack fun _ h' => h'.wrFld))) fun _ h' => h'.raise.msixRaise)))))

theorem State.Wf.setPcieLink {w} (h : s.Wf) : (s.setPcieLink w).Wf := h.wr.draw

theorem State.Wf.pcieDown (h : s.Wf) : s.pcieDown.Wf :=
  .ite h (.msixRaise (.raise (.foldl h.setPcieLink fun _ _ h' => h'.dmaHalt)))

theorem State.Wf.pcieLinkUp {gen width} (h : s.Wf) : (s.pcieLinkUp gen width).Wf :=
  .ite h h.setPcieLink.raise.msixRaise

/-! ### The tack room and the spook alarm -/

theorem State.Wf.setAttr {slot w} (h : s.Wf) : (s.setAttr slot w).Wf := .ite h.keep h.sec

theorem State.Wf.opEnd {op err outLen} (h : s.Wf) : (s.opEnd op err outLen).Wf := h.sec.wr.inc32.raise

theorem State.Wf.tackCmd {v} (h : s.Wf) : (s.tackCmd v).Wf :=
  .ite h.wr (.ite h.wr.wrBit (.ite h.wr.opEnd h.wr.sec.wr))

theorem State.Wf.opDone {out} (h : s.Wf) : (s.opDone out).Wf := by
  unfold State.opDone
  split
  · exact h
  · extract_lets _ s₁ _
    have h₁ : s₁.Wf := h.sec
    split
    · exact h₁.opEnd
    · extract_lets _ s₂ s₃
      have h₂ : s₂.Wf := .foldl h₁ fun _ _ h' => h'.wr
      have h₃ : s₃.Wf := .ite h₂.setAttr.draw (.ite h₂.setAttr.draw (.ite h₂.setAttr.draw (.ite h₂.setAttr h₂)))
      exact h₃.opEnd

theorem State.Wf.lockTack (h : s.Wf) : s.lockTack.Wf := h.wrBit.raise

theorem State.Wf.zeroWin (h : s.Wf) : s.zeroWin.Wf := h.filterRegs

theorem State.Wf.zeroKeys (h : s.Wf) : s.zeroKeys.Wf := h.sec

theorem State.Wf.erase {source resp} (h : s.Wf) : (s.erase source resp).Wf := by
  unfold State.erase
  extract_lets s₁ s₂ s₃ _ _ _ s₄
  have h₁ : s₁.Wf := h.lockTack
  have h₂ : s₂.Wf := by
    unfold s₂
    split
    · exact h₁.zeroWin.opEnd
    · exact h₁.zeroWin
  have h₃ : s₃.Wf := h₂.alarmRecord.zeroKeys
  have h₄ : s₄.Wf := h₃.frame
  exact h₄.raise

theorem State.Wf.spookDemand (h : s.Wf) : s.spookDemand.Wf := h.tro.lineCauses

theorem State.Wf.spookOne {k} (h : s.Wf) : (s.spookOne k).Wf :=
  .ite h.sat16 (.ite h.sat16.wrBit.wr.wr.keep h.sat16.wrBit.wr.wr.raise)

theorem State.Wf.spookFire {ks} (h : s.Wf) : (s.spookFire ks).Wf := by
  unfold State.spookFire
  extract_lets _ erasing _ s₁
  have h₁ : s₁.Wf := .spookDemand (.foldl h fun _ _ h' => h'.spookOne)
  split
  · exact h₁
  · clear_value erasing
    split
    · exact h₁.erase
    · exact .ite h₁.lockTack h₁

theorem State.Wf.spookClear {v} (h : s.Wf) : (s.spookClear v).Wf := h.wr.spookDemand

theorem State.Wf.getChallenge {n} (h : s.Wf) : (s.getChallenge n).Wf := .ite h.boxDone h.frame.boxDone

theorem State.Wf.openScan (h : s.Wf) : s.openScan.Wf :=
  have lost : ({ s.zeroKeys with mem := s.mem.filter fun c => hostMem 0 ≤ c.1 } : State).Wf :=
    h.zeroKeys.mem (stWf_filter _ _ _ h.mem_wf)
  .wrBit (.clearNet (.frame (lost.cams (List.length_map fun (c : Cam) => { c with ring := [], raw := [] }))))

theorem State.Wf.unlock {n scope} (h : s.Wf) : (s.unlock n scope).Wf := by
  unfold State.unlock
  extract_lets s₁ s₂ _ s₃ s₄
  have h₁ : s₁.Wf := .when h fun _ h' => h'.zeroKeys.sec.lockTack
  have h₂ : s₂.Wf := .when h₁ fun _ h' => h'.openScan
  have h₃ : s₃.Wf := h₂.keep
  have h₄ : s₄.Wf := h₃.wr.wrBit
  exact h₄.raise.boxDone

theorem State.Wf.submit {n sigOk} (h : s.Wf) : (s.submit n sigOk).Wf := by
  unfold State.submit
  extract_lets _ _ _ s₁ _ _ s₂
  have h₁ : s₁.Wf := h.sec
  have h₂ : s₂.Wf := h₁.keep
  exact .ite h.boxDone (.ite h₁.boxDone (.ite h₁.unlock (.boxDone (.ite h₂.spookFire h₂))))

theorem State.Wf.zeroize {n} (h : s.Wf) : (s.zeroize n).Wf := .ite h.boxDone h.erase.boxDone

/-! ### Reintegration -/

theorem State.Wf.reintRefuse {result} (h : s.Wf) : (s.reintRefuse result).Wf := h.wrFld

theorem State.Wf.reintStart {target donor reload} (h : s.Wf) : (s.reintStart target donor reload).1.Wf := by
  unfold State.reintStart
  extract_lets st
  split
  · exact h.reintRefuse
  · split
    · exact h.reintRefuse
    · split
      · exact h.reintRefuse
      · split
        · exact h.reintRefuse
        · exact .reint (.modLane (.wrBit (.wr (.wr h))))

theorem State.Wf.reintAbort (h : s.Wf) : s.reintAbort.Wf := .ite h (.reintFail (.ite h.failLane h))

theorem State.Wf.reloadCode {l} (h : s.Wf) : (s.reloadCode l).Wf := by
  unfold State.reloadCode
  extract_lets _ _ _ _ s₁ _ s₂
  have h₁ : s₁.Wf := h.filterMem
  have h₂ : s₂.Wf := h.filterMem
  exact .ite (.foldl h₁ fun _ _ h' => .ite h'.setByte h') (.foldl h₂ fun _ _ h' => h'.setByte)

theorem State.Wf.reintBoot (h : s.Wf) : s.reintBoot.Wf :=
  .ite h (.resetLane (.wrFld (.ite (.prog (.ite h.reloadCode h)) (.ite h.reloadCode h))))

theorem State.Wf.bootDone {l hashOk} (h : s.Wf) : (s.bootDone l hashOk).Wf := by
  unfold State.bootDone
  exact .ite h (.ite (.ite h.modLane h.failLane) (.ite h.modLane.failLane.reintFollow h.setLane.wrFld.reint))

theorem State.Wf.copyPages {pages} (h : s.Wf) : (s.copyPages pages).Wf :=
  .wrFld (.foldl h.filterMem fun _ _ h' => h'.setByte)

theorem State.Wf.copyPass {dirtied} (h : s.Wf) : (s.copyPass dirtied).Wf := .ite h h.copyPages.reint

theorem State.Wf.finalTest {l d} (h : s.Wf) : (s.finalTest l d).Wf := .ite (.ite h.copyPages.wrFld.reint h) h

theorem State.Wf.reintTick (h : s.Wf) : s.reintTick.Wf := by
  unfold State.reintTick
  extract_lets _ _ _ _ s₁ s₂ s₃ s₄ _
  have h₁ : s₁.Wf := h.frame
  have h₂ : s₂.Wf := h₁.modLane
  have h₃ : s₃.Wf := h₂.setLane.voterUpdate.wrFld.wrFld
  have h₄ : s₄.Wf := h₃.raise.lineCauses
  exact .ite (.ite h₄.dup h₄) (.ite h.wrFld h)

theorem State.Wf.syncTimeout (h : s.Wf) : s.syncTimeout.Wf := .ite h.failLane.reintFail h

theorem State.Wf.autoReint {l} (h : s.Wf) : (s.autoReint l).Wf := .ite h.reintStart.modLane h

/-! ### Tack sets -/

theorem State.Wf.without {p} (h : s.Wf) : (s.without p).Wf := h.shadow

theorem State.Wf.putContents {ts sel} (h : s.Wf) : (s.putContents ts sel).Wf :=
  .foldl h.clearTs fun _ _ h' => h'.setT3

theorem State.Wf.putDeferring {ts sel} (h : s.Wf) : (s.putDeferring ts sel).Wf :=
  .foldl h.putContents fun _ _ h' => h'.setKey.setShadow

theorem State.Wf.leaveFaults (h : s.Wf) : s.leaveFaults.Wf := h.frame

theorem State.Wf.startUnits (h : s.Wf) : s.startUnits.Wf := by
  unfold State.startUnits
  extract_lets s₁ s₂ s₃
  have h₁ : s₁.Wf := .foldl h fun _ _ h' => .ite h'.camLinking h'
  have h₂ : s₂.Wf := .foldl h₁ fun _ _ h' => .ite h'.dspStart h'
  have h₃ : s₃.Wf := .foldl h₂ fun _ _ h' => .ite h'.modCan h'
  exact .ite h₃ h₃.mvbCfg

theorem State.Wf.takeSet {n src imm ts} (h : s.Wf) : (s.takeSet n src imm ts).Wf := by
  unfold State.takeSet
  extract_lets _ _ s₁ s₂ _ s₃ s₄ s₅ s₆ s₇ s₈ s₉ s₁₀ s₁₁
  have h₁ : s₁.Wf := .fioChanged (.ite h.putDeferring h.putContents)
  have h₂ : s₂.Wf := h₁.leaveFaults
  have h₃ : s₃.Wf := h₂.frame
  have h₄ : s₄.Wf := h₃.wr
  have h₅ : s₅.Wf := h₄.wrBit.wrBit.offsetsStale
  have h₆ : s₆.Wf := .views h₅ (List.length_map _)
  have h₇ : s₇.Wf := .foldl h₆ fun _ _ h' => h'.wrBit
  have h₈ : s₈.Wf := .ite h₇.setLink h₇
  have h₉ : s₉.Wf := .ite h₈ h₈.substOutputs
  have h₁₀ : s₁₀.Wf := h₉.startUnits.tbSelect
  have h₁₁ : s₁₁.Wf := .ite h₁₀.substitute h₁₀
  exact h₁₁.refresh.raise

theorem State.Wf.refuseSet {reason} (h : s.Wf) : (s.refuseSet reason).Wf := h.wrFld.raise

theorem State.Wf.noSet {n src} (h : s.Wf) : (s.noSet n src).Wf := h.clearTs.wr.wrBit.wrBit

theorem State.Wf.bootLoad (h : s.Wf) : s.bootLoad.Wf := by
  unfold State.bootLoad
  extract_lets _ s₁ _ _ _ _
  have h₁ : s₁.Wf := by
    unfold s₁
    split
    · split
      · exact h.keep
      · exact h.keep
    · exact h
  exact .ite h₁.takeSet h₁.noSet.refuseSet

theorem State.Wf.reloadPages {sel} (h : s.Wf) : (s.reloadPages sel).Wf := .ite h.putContents.startUnits.refresh h

/-! ### The farrier -/

theorem State.Wf.resetPages {sel} (h : s.Wf) : (s.resetPages sel).Wf := h.filterRegs.frame

theorem State.Wf.resetUnits {sel} (h : s.Wf) : (s.resetUnits sel).Wf where
  canonical := h.canonical
  fitted := by
    have fitted := h.fitted
    simp only [State.resetUnits, State.Fitted, List.length_map, List.length_zipIdx, apply_ite List.length, ite_self]
    exact fitted
  inlet_le := h.inlet_le

theorem State.Wf.updService (h : s.Wf) : s.updService.Wf := .ite h.wr h

theorem State.Wf.showRetain (h : s.Wf) : s.showRetain.Wf := h.wr.wr

theorem State.Wf.fillLane {l base n cells} (h : s.Wf) : (s.fillLane l base n cells).Wf :=
  .foldl h.filterMem fun _ _ h' => h'.setByte

theorem State.Wf.clearForces (h : s.Wf) : s.clearForces.Wf := h.filterRegs.wr

theorem State.Wf.keepForces {was} (h : s.Wf) : (s.keepForces was).Wf := by
  unfold State.keepForces
  extract_lets _ s₁
  have h₁ : s₁.Wf := .foldl h fun _ _ h' => .ite h' (.when (.foldl h' fun _ _ h'' => h''.setTab) fun _ h'' =>
      h''.raise)
  exact h₁.wr

theorem State.Wf.restoreForces (h : s.Wf) : s.restoreForces.Wf :=
  .keepForces (.foldl h.clearForces fun _ _ h' => h'.setKey)

theorem State.Wf.restart {cold} (h : s.Wf) : (s.restart cold).Wf := by
  unfold State.restart
  extract_lets _ _ _ _ s₁ s₂ _ s₃ s₄ _ s₅
  have h₁ : s₁.Wf := .foldl h fun _ _ h' => .ite h'.fillLane.fillLane h'.fillLane
  have h₂ : s₂.Wf := .ite h₁.restoreForces h₁.clearForces
  have h₃ : s₃.Wf := .ite h₂.keep h₂
  have h₄ : s₄.Wf := h₃.wr
  have h₅ : s₅.Wf := h₄.tro
  exact h₅.showRetain.wr

theorem State.Wf.bootLaneImage {which} (h : s.Wf) : (s.bootLaneImage which).Wf := by
  unfold State.bootLaneImage
  split
  · exact h.prog
  · extract_lets _ _ s₁ s₂ s₃
    have h₁ : s₁.Wf := h.prog
    have h₂ : s₂.Wf := h.prog
    have h₃ : s₃.Wf := h₂.wrBit
    exact .ite (.when h₁ fun _ h' => h'.raise) (.foldl h₃ fun _ _ h' => h'.fillLane.resetLane)

theorem State.Wf.bootService (h : s.Wf) : s.bootService.Wf := by
  unfold State.bootService
  split
  · exact h.prog
  · extract_lets _ _ s₁
    have h₁ : s₁.Wf := h.prog
    exact .when h₁ fun _ h' => h'.raise

theorem State.Wf.setPhase {n} (h : s.Wf) : (s.setPhase n).Wf := h.wrFld

theorem State.Wf.bootOn (h : s.Wf) : s.bootOn.Wf := by
  unfold State.bootOn
  extract_lets s₁ s₂ s₃
  have h₁ : s₁.Wf := h.setPhase.bootLoad
  have h₂ : s₂.Wf := h₁.setPhase.bootLaneImage.bootService
  have h₃ : s₃.Wf := h₂.setPhase.restart
  exact h₃.setPhase.updService

theorem State.Wf.setRes {b r} (h : s.Wf) : (s.setRes b r).Wf := h.wrFld

theorem State.Wf.showRes {boot} (h : s.Wf) : (s.showRes boot).Wf := h.wrBit

theorem State.Wf.clearRes (h : s.Wf) : s.clearRes.Wf := .foldl h fun _ _ h' => h'.setRes

theorem State.Wf.fioTestStarts (h : s.Wf) : s.fioTestStarts.Wf := .ite h.setLink h

theorem State.Wf.fioRelease (h : s.Wf) : s.fioRelease.Wf := .ite h.setLink h

theorem State.Wf.xlinkTestStarts (h : s.Wf) : s.xlinkTestStarts.Wf := .ite h.wrBit.raise h

theorem State.Wf.cutRun (h : s.Wf) : s.cutRun.Wf := .ite h.farr.wrFld.showRes h

theorem State.Wf.startRun {run blocks} (h : s.Wf) : (s.startRun run blocks).Wf :=
  h.farr.wr.wr.wrFld.wrFld.xlinkTestStarts.fioTestStarts

theorem State.Wf.rotationTested {l} (h : s.Wf) : (s.rotationTested l).Wf := .when h.dup fun _ h' => h'.reintStart

theorem State.Wf.report (h : s.Wf) : s.report.Wf := by
  unfold State.report
  extract_lets _ s₁ s₂ s₃ s₄ s₅ s₆ s₇
  have h₁ : s₁.Wf := .foldl h fun _ _ h' => h'.setRes
  have h₂ : s₂.Wf := h₁.farr
  have h₃ : s₃.Wf := h₂.wrFld.sat16.wrFld
  have h₄ : s₄.Wf := h₃.showRes
  have h₅ : s₅.Wf := .when h₄ fun _ h' => h'.raise
  have h₆ : s₆.Wf := .when h₅ fun _ h' => h'.raise
  have h₇ : s₇.Wf := .when h₆ fun _ h' => h'.raise
  exact h₇.tryParallel.updService

theorem State.Wf.preFail {supplyOk clockOk tempOk} (h : s.Wf) : (s.preFail supplyOk clockOk tempOk).Wf :=
  h.wrFld.report

theorem State.Wf.failBlock {b} (h : s.Wf) : (s.failBlock b).Wf := by
  unfold State.failBlock
  extract_lets s₁ s₂ _ s₃ s₄ _ s₅
  have h₁ : s₁.Wf := h.resetPages.resetUnits
  have h₂ : s₂.Wf := h₁.setRes
  have h₃ : s₃.Wf := h₂.keep
  have h₄ : s₄.Wf := .ite h₃.clearTs.offLane.wrBit h₃
  have h₅ : s₅.Wf := h₄.farr.raise
  exact h₅.refresh

theorem State.Wf.passBlock {b} (h : s.Wf) : (s.passBlock b).Wf := by
  unfold State.passBlock
  extract_lets _ s₁ _ s₂ s₃
  have h₁ : s₁.Wf := h.setRes
  have h₂ : s₂.Wf := h₁.keep
  have h₃ : s₃.Wf := .ite h₂.wrBit h₂
  exact .ite h₃.reloadPages.fioRelease.refresh h₃

theorem State.Wf.compareBlock {sig} (h : s.Wf) : (s.compareBlock sig).Wf := by
  unfold State.compareBlock
  split
  · exact h
  · extract_lets s₁ _ s₂ s₃ s₄
    have h₁ : s₁.Wf := h.setTab.setTab
    have h₂ : s₂.Wf := h₁.farr
    have h₃ : s₃.Wf := .ite h₂.passBlock h₂.failBlock
    have h₄ : s₄.Wf := h₃.xlinkTestStarts
    exact .ite h₄.fioTestStarts h₄

theorem State.Wf.bistRun {n} (h : s.Wf) : (s.bistRun n).Wf :=
  .ite h.boxDone (.ite h.boxDone (.ite h.boxDone (.ite h.boxDone h.startRun.boxRun)))

theorem State.Wf.runEnded {run} (h : s.Wf) : (s.runEnded run).Wf := by
  unfold State.runEnded
  split
  · exact h
  · exact h.bootOn
  · exact .ite h.boxDone h
  · exact h.rotationTested

theorem State.Wf.blockDone {sig supplyOk clockOk tempOk} (h : s.Wf) : (s.blockDone sig supplyOk clockOk tempOk).Wf :=
  .ite h (.ite h.preFail.runEnded (.ite h.compareBlock.report.runEnded h.compareBlock))

theorem State.Wf.precheck {supplyOk clockOk tempOk expired} (h : s.Wf) :
    (s.precheck supplyOk clockOk tempOk expired).Wf :=
  .ite h (.ite h.farr (.ite h h.preFail.runEnded))

theorem State.Wf.rotate (h : s.Wf) : s.rotate.Wf := .ite h h.failRequest.dup.startRun

/-! ### Boot and resets -/

theorem State.Wf.setCause {cause} (h : s.Wf) : (s.setCause cause).Wf := h.wr

theorem State.Wf.stickyTack {old por} (h : s.Wf) : (s.stickyTack old por).Wf := .wrBit (.ite h h.wrBit.wrBit.wr)

/-- A state that holds what a reset leaves of the stores, and every unit anew. -/
theorem State.Wf.ofReset {p q : Prop} {_ : Decidable p} {_ : Decidable q} {f : Nat × Word → Bool} {g : Host.Cell →
    Bool}
    {lane : Lane → Lane} {t : State} (h : s.Wf) (regs : t.regs = if p then s.regs.filter f else [])
    (mem : t.mem = if q then s.mem.filter g else s.mem) (img : t.img = []) (inlet : t.inlet = [])
    (lanes : t.lanes = s.lanes.map lane) (cams : t.cams = List.replicate 8 {}) (views : t.views = List.replicate 6 {})
    (dsps : t.dsps = List.replicate 6 {}) (watches : t.watches = List.replicate 6 {})
    (cans : t.cans = List.replicate 6 {}) (boxes : t.boxes = [{}, {}, {}]) : t.Wf where
  canonical := by
    rw [canon_iff, regs, mem, img]
    refine ⟨?_, ?_, rfl⟩
    · split
      · exact stWf_filter _ _ _ h.mem_wf
      · exact h.mem_wf
    · split
      · exact stWf_filter _ _ _ h.regs_wf
      · rfl
  fitted := by
    rw [State.Fitted, lanes, cams, views, dsps, watches, cans, boxes, List.length_map]
    exact ⟨h.fitted.1, rfl, rfl, rfl, rfl, rfl, rfl⟩
  inlet_le := by rw [inlet]; exact Nat.zero_le _

theorem State.Wf.wholeReset {cause aonKept elapsed} (h : s.Wf) : (s.wholeReset cause aonKept elapsed).Wf := by
  unfold State.wholeReset
  extract_lets por _ _ _ s₀ s₁ s₂ s₃ s₄ s₅ s₆ s₇
  have h₀ : s₀.Wf := h.ofReset rfl rfl rfl rfl rfl rfl rfl rfl rfl rfl rfl
  have h₁ : s₁.Wf := h₀.setCause.stickyTack
  have h₂ : s₂.Wf := h₁.wr.wr
  have h₃ : s₃.Wf := h₂.wrBit.wrBit
  have h₄ : s₄.Wf := .wr (.ite h₃ h₃.wr)
  have h₅ : s₅.Wf := h₄.wrBit
  have h₆ : s₆.Wf := .foldl h₅ fun _ _ h' => h'.wrBit.wrBit
  have h₇ : s₇.Wf := h₆.tbReset
  exact h₇.tro

theorem State.Wf.bootTrial (h : s.Wf) : s.bootTrial.Wf := .ite h.keep.wrFld.wrBit.sat16 (.ite h.keep.wrFld h)

theorem State.Wf.bootFirmware (h : s.Wf) : s.bootFirmware.Wf := .ite h (.ite h.raise.keep h.raise.keep.raise.frame)

theorem State.Wf.bootSelect (h : s.Wf) : s.bootSelect.Wf := by
  unfold State.bootSelect
  extract_lets s₁
  have h₁ : s₁.Wf := h.wrFld
  split
  · exact h₁.wr
  · exact h₁.wr

theorem State.Wf.vendorRecord (h : s.Wf) : s.vendorRecord.Wf := h.freeIx.accept

theorem State.Wf.sampleStraps (h : s.Wf) : s.sampleStraps.Wf := h.wrBit.wrBit.wrBit.wrBit

theorem State.Wf.raiseHeld (h : s.Wf) : s.raiseHeld.Wf := .foldl h.keep fun _ _ h' => h'.raise

theorem State.Wf.boot {cause recStarts} (h : s.Wf) : (s.boot cause recStarts).Wf := by
  unfold State.boot
  extract_lets _ s₁ s₂ _ _ s₃ _ s₄ s₅ s₆ s₇ s₈ s₉
  have h₁ : s₁.Wf := h.setPhase
  have h₂ : s₂.Wf := .ite h₁.sampleStraps h₁
  have h₃ : s₃.Wf := .ite h₂ h₂.spookFire
  have h₄ : s₄.Wf := h₃.setPhase.bootTrial.bootFirmware
  have h₅ : s₅.Wf := .ite h₄.recStart h₄
  have h₆ : s₆.Wf := h₅.raise
  have h₇ : s₇.Wf := .raiseHeld (.when h₆ fun _ h' => h'.raise)
  have h₈ : s₈.Wf := .when h₇ fun _ h' => h'.vendorRecord
  have h₉ : s₉.Wf := h₈.setPhase.bootSelect.fioRelease.setPhase.clearRes
  exact .ite h₄ (.ite h₉.startRun h₈.fioRelease.bootOn)

theorem State.Wf.resetBoot {cause aonKept elapsed} (h : s.Wf) : (s.resetBoot cause aonKept elapsed).Wf :=
  h.wholeReset.lineCauses.boot

theorem State.Wf.writeRetain {done mramOk} (h : s.Wf) : (s.writeRetain done mramOk).Wf := by
  unfold State.writeRetain
  split
  · exact h.wrFld
  · exact .ite h.wrFld (.ite h.wrFld h.keep.wrFld.wrFld.showRetain)

/-- The images empty, the lanes and the mailbox instances of the control and data planes anew. -/
theorem State.Wf.planesAnew (h : s.Wf) :
    ({ s with
      img := []
      lanes := s.lanes.map fun x => { autoUsed := x.autoUsed, hashBan := x.hashBan }
      boxes := (s.boxes.set 0 {}).set 1 {} } : State).Wf where
  canonical := (canon_iff _).2 ⟨h.mem_wf, h.regs_wf, rfl⟩
  fitted := by
    have fitted := h.fitted
    simp only [State.Fitted, List.length_map, List.length_set]
    exact fitted
  inlet_le := h.inlet_le

theorem State.Wf.warmReset (h : s.Wf) : s.warmReset.Wf := by
  unfold State.warmReset
  extract_lets _ s₁ roleIn low s₂ _ s₃ s₄ s₅ s₆
  have h₁ : s₁.Wf := h.keep
  have h₂ : s₂.Wf := h₁.cutRun.resetPages.resetUnits
  have h₃ : s₃.Wf := h₂.planesAnew.frame
  have h₄ : s₄.Wf := .foldl h₃ fun _ _ h' => h'.freeSems
  have h₅ : s₅.Wf := .foldl h₄ fun _ _ h' => h'.wrBit.wrBit
  have h₆ : s₆.Wf := h₅.setCause.wr.wrBit
  exact h₆.lineCauses.boot

theorem State.Wf.mgmtReset (h : s.Wf) : s.mgmtReset.Wf := by
  unfold State.mgmtReset
  extract_lets s₁ _ s₂ _ _ s₃ s₄ s₅ s₆ s₇ s₈ s₉
  have h₁ : s₁.Wf := h
  have h₂ : s₂.Wf := h.keep
  have h₃ : s₃.Wf := h₂.filterRegs.frame
  have h₄ : s₄.Wf := .ite h₃ h₃.wrFld
  have h₅ : s₅.Wf := h₄.setCause.stickyTack.wr
  have h₆ : s₆.Wf := h₅.wrFld
  have h₇ : s₇.Wf := h₆.wrFld
  have h₈ : s₈.Wf := h₇.freeSems.recStart
  have h₉ : s₉.Wf := .foldl h₈ fun _ _ h' => h'.boxDone
  exact h₉.raise

theorem State.Wf.watchdog (h : s.Wf) : s.watchdog.Wf := .ite h.keep.keep.resetBoot h.keep.mgmtReset

theorem State.Wf.dropLinks (h : s.Wf) : s.dropLinks.Wf := by
  unfold State.dropLinks
  extract_lets s₁ s₂ s₃
  have h₁ : s₁.Wf := .foldl h fun _ _ h' => h'.camStop
  have h₂ : s₂.Wf := .foldl h₁ fun _ _ h' => .ite h' h'.setView
  have h₃ : s₃.Wf := .foldl h₂ fun _ _ h' => h'.dspStop
  exact h₃.pcieDown

theorem State.Wf.stopCan (h : s.Wf) : s.stopCan.Wf := .foldl h fun _ _ h' => .ite h' (.ite h'.modCan h'.canStop)

theorem State.Wf.startPowerFail (h : s.Wf) : s.startPowerFail.Wf := by
  unfold State.startPowerFail
  extract_lets _ _ s₁ _ s₂ _ _ _ _ s₃ s₄
  have h₁ : s₁.Wf := h.raise
  have h₂ : s₂.Wf := .cutRun (.ite h₁.dropLinks.stopCan h₁)
  have h₃ : s₃.Wf := h₂.frame
  have h₄ : s₄.Wf := h₃.mgmtSafe.setRoleOut
  exact h₄.ocEnd.flushFor

theorem State.Wf.off (h : s.Wf) : s.off.Wf := by
  unfold State.off
  extract_lets t
  have ht : t.Wf := h.wholeReset
  clear_value t
  exact ht.frame

theorem State.Wf.profGuard {n f} (h : s.Wf) (hf : ∀ t, t.Wf → (f t).Wf) : (s.profGuard n f).Wf :=
  .ite h.boxDone (.ite h.boxDone (hf s h))

theorem State.Wf.profStore {n} (h : s.Wf) : (s.profStore n).Wf :=
  .ite h.keep.boxDone (.boxDone (.when h fun _ h' => h'.vendorRecord))

theorem State.Wf.profNow {n} (h : s.Wf) : (s.profNow n).Wf :=
  .ite h.boxDone (.ite h.takeSet.updService.boxDone (.boxDone (.when h.refuseSet fun _ h' => h'.vendorRecord)))

theorem State.Wf.profQuery {n} (h : s.Wf) : (s.profQuery n).Wf := h.boxDone

theorem State.Wf.setProf {prof} (h : s.Wf) : (s.setProf prof).Wf := h.pins

theorem State.Wf.setStraps {x} (h : s.Wf) : (s.setStraps x).Wf := h.frame.wr

theorem State.Wf.warmRestart (h : s.Wf) : s.warmRestart.Wf := .ite h.warmReset.boxDone h.warmReset

theorem State.Wf.restartWarm {n} (h : s.Wf) : (s.restartWarm n).Wf :=
  .ite h.boxDone (.ite h.boxRun.prog (.warmRestart (.ite h.boxRun h.boxRun.writeRetain)))

theorem State.Wf.setWall {n} (h : s.Wf) : (s.setWall n).Wf := .ite h.boxDone h.wr.wr.wr.raise.boxDone

/-! ### Updates -/

theorem State.Wf.hobbled {n code reason} (h : s.Wf) : (s.hobbled n code reason).Wf := h.updRefuse.boxDone

theorem State.Wf.updOpen {n} (h : s.Wf) : (s.updOpen n).Wf := by
  unfold State.updOpen
  extract_lets _ _ s₁ _ s₂ s₃ s₄ s₅
  have h₁ : s₁.Wf := h.draw
  have h₂ : s₂.Wf := h₁.setSpare
  have h₃ : s₃.Wf := h₂.upd
  have h₄ : s₄.Wf := h₃.wr.wr.wr
  have h₅ : s₅.Wf := h₄.wrFld.setUpd
  exact .ite h.boxDone (.ite h.updRefuse.boxDone (.ite h.hobbled (.ite h.boxDone h₅.boxDone)))

theorem State.Wf.updSession {n f} (h : s.Wf) (hf : ∀ t, t.Wf → (f t).Wf) :
    (s.updSession n f).Wf := .ite (hf s h) h.boxDone

theorem State.Wf.updTouch (h : s.Wf) : s.updTouch.Wf := h.upd

theorem State.Wf.updWrite {n} (h : s.Wf) : (s.updWrite n).Wf :=
  .ite h.boxDone h.upd.updTouch.setSpare.setUpd.wr.boxDone

theorem State.Wf.updVerify {n comps} (h : s.Wf) : (s.updVerify n comps).Wf := by
  unfold State.updVerify
  extract_lets s₁ _ _ s₂
  have h₁ : s₁.Wf := h.updTouch
  have h₂ : s₂.Wf := h₁.setSpare.setUpd
  split
  · exact h₁.boxDone
  · exact h₂.boxDone

theorem State.Wf.startPause {n} (h : s.Wf) : (s.startPause n).Wf := h.frame.boxDone.setUpd.wr.wr.updBoundary

theorem State.Wf.updActivate {n} (h : s.Wf) : (s.updActivate n).Wf :=
  .ite h.hobbled (.ite h.updTouch.startYield.dup.boxRun h.updTouch.startPause)

theorem State.Wf.coresRestart (h : s.Wf) : s.coresRestart.Wf :=
  .tro (.foldl (.foldl h fun _ _ h' => h'.boxDone) fun _ _ h' => h'.freeSems)

theorem State.Wf.pauseLoad (h : s.Wf) : s.pauseLoad.Wf := .ite (.ite h.takeSet h.refuseSet) h

theorem State.Wf.pauseService {ok} (h : s.Wf) : (s.pauseService ok).Wf := .ite h.bootService h.prog.raise

theorem State.Wf.servicePause {fwOk serviceOk ms} (h : s.Wf) : (s.servicePause fwOk serviceOk ms).Wf := by
  unfold State.servicePause
  exact .ite h (.ite h.coresRestart.wr.raise.keep.pauseService.sat16.wrBit.setUpd.raise.updService
      h.coresRestart.wr.pauseLoad.pauseService.keep.setUpd.updService)

theorem State.Wf.updConfirm {n} (h : s.Wf) : (s.updConfirm n).Wf := .ite h.hobbled h.keep.setUpd.boxDone

theorem State.Wf.updAbort {n} (h : s.Wf) : (s.updAbort n).Wf :=
  .ite h.keep.boxDone (.updSession h fun _ h' => h'.updDrop.boxDone)

theorem State.Wf.updStatus {n} (h : s.Wf) : (s.updStatus n).Wf := h.boxDone

theorem State.Wf.ownerClear {n} (h : s.Wf) : (s.ownerClear n).Wf := by
  unfold State.ownerClear
  split
  · exact h.boxDone
  · exact .ite h.keep.boxDone h.boxDone

/-! ### The program -/

theorem State.Wf.modeRefuse {why} (h : s.Wf) : (s.modeRefuse why).Wf := h.wrFld

theorem State.Wf.acceptMode {mode cold why} (h : s.Wf) : (s.acceptMode mode cold why).Wf := by
  unfold State.acceptMode
  extract_lets _ s₁
  have h₁ : s₁.Wf := h.prog
  split
  · exact .ite h.modeRefuse (.when h₁ fun _ h' => h'.modeRefuse)
  · exact h₁

theorem State.Wf.modeRequest {i v} (h : s.Wf) : (s.modeRequest i v).Wf := by
  unfold State.modeRequest
  extract_lets _ _
  split
  · exact h
  · split
    · exact h.modeRefuse
    · extract_lets _
      exact .ite h.modeRefuse h.acceptMode

theorem State.Wf.enterMode {m why} (h : s.Wf) : (s.enterMode m why).Wf := by
  unfold State.enterMode
  extract_lets _ _ s₁ s₂ s₃ _ s₄ _ _ _ s₅ s₆ _ s₇
  have h₁ : s₁.Wf := h.prog.wrFld.wrFld
  have h₂ : s₂.Wf := h₁.wrFld
  have h₃ : s₃.Wf := .ite h₂ h₂.ocEnd
  have h₄ : s₄.Wf := .ite h₃.prog h₃
  have h₅ : s₅.Wf := h₄.frame
  have h₆ : s₆.Wf := .ite h₅.mgmtSafe h₄
  have h₇ : s₇.Wf := .ite h₆ h₆.tro
  exact .ite h h₇.raise

theorem State.Wf.forceStop {why} (h : s.Wf) : (s.forceStop why).Wf := .ite h.prog.wrBit.wrFld h.prog.enterMode

theorem State.Wf.takeForced {why} (h : s.Wf) : (s.takeForced why).Wf := by
  unfold State.takeForced
  extract_lets _ s₁
  have h₁ : s₁.Wf := h.prog
  split
  · exact h₁.enterMode
  · extract_lets _
    exact .ite h₁.enterMode h₁.modeRefuse.enterMode

theorem State.Wf.programStart (h : s.Wf) : s.programStart.Wf := by
  unfold State.programStart
  exact .ite h (.ite h.bootLaneImage.restart.prog (.updService (.wrFld (.wrBit (.prog
      (.foldl h.bootLaneImage fun _ _ h' => h'.offLane))))))

theorem State.Wf.vwRestart (h : s.Wf) : s.vwRestart.Wf := h.vw

theorem State.Wf.lanesVote (h : s.Wf) : s.lanesVote.Wf := by
  unfold State.lanesVote
  extract_lets s₁ s₂
  have h₁ : s₁.Wf := .foldl h fun _ _ h' => .ite h' (.ite h'.setLane.modLane.tro h'.failLane)
  have h₂ : s₂.Wf := h₁.voterUpdate
  exact .lineCauses (.when h₂ fun _ h' => h'.safeCause)

theorem State.Wf.startTick (h : s.Wf) : s.startTick.Wf := by
  unfold State.startTick
  exact .ite h (.ite h.vwRestart.prog.lanesVote.wrBit.wrFld h.vwRestart.prog.lanesVote.wrBit.enterMode)

theorem State.Wf.forceSet {i w v} (h : s.Wf) : (s.forceSet i w v).Wf := h.setTab.setTab.wr

theorem State.Wf.ocSet {st result} (h : s.Wf) : (s.ocSet st result).Wf := h.wrFld.wrFld

theorem State.Wf.ocOpen (h : s.Wf) : s.ocOpen.Wf := .ite h (.ite h.ocSet (.ite h.ocSet h.filterMem.ocSet.wrFld))

theorem State.Wf.ocList {areas} (h : s.Wf) : (s.ocList areas).Wf := h.prog.wr

theorem State.Wf.ocArm (h : s.Wf) : s.ocArm.Wf := .ite h.ocSet.ocList h

theorem State.Wf.ocCommand {v} (h : s.Wf) : (s.ocCommand v).Wf := .ite (.ocArm (.ite h.ocOpen h)) (.ite h.ocOpen h)

theorem State.Wf.ocWrite {o v} (h : s.Wf) : (s.ocWrite o v).Wf := .ite h (.foldl h.setBytes fun _ _ h' => h'.setBytes)

theorem State.Wf.ocChecked {sigOk hashOk listBytes} (h : s.Wf) : (s.ocChecked sigOk hashOk listBytes).Wf :=
  .ite h (.ite h.ocSet (.ite h.ocSet (.ite h.ocSet h.ocSet)))

theorem State.Wf.ocCarryLane {l} (h : s.Wf) : (s.ocCarryLane l).Wf := .foldl h fun _ _ h' => h'.fillLane

theorem State.Wf.applyMap (h : s.Wf) : s.applyMap.Wf :=
  .ite h (.ite h.applyShadows.sendSubst h.dropShadows.accessFault)

theorem State.Wf.ocSwitch (h : s.Wf) : s.ocSwitch.Wf := by
  unfold State.ocSwitch
  extract_lets _ _ _ s₁ _ s₂ s₃ s₄
  have h₁ : s₁.Wf := .foldl h.draw fun _ _ h' => h'.ocCarryLane.setBytes
  have h₂ : s₂.Wf := h₁.filterMem.frame
  have h₃ : s₃.Wf := .foldl h₂ fun _ _ h' => h'.setByte
  have h₄ : s₄.Wf := h₃.applyMap.keepForces
  exact h₄.ocSet.raise

theorem State.Wf.ocTick (h : s.Wf) : s.ocTick.Wf := .ite h (.ite h.ocSwitch (.ite h.wrFld.ocSet h.wrFld))

/-! ### Gaits -/

theorem State.Wf.wakeBy {code} (h : s.Wf) : (s.wakeBy code).Wf := .ite h h.frame.wrBit.wrFld

theorem State.Wf.gaitAccept {t} (h : s.Wf) : (s.gaitAccept t).Wf := h.gait.wrBit.wrFld

theorem State.Wf.gaitSet {n} (h : s.Wf) : (s.gaitSet n).Wf :=
  .ite h.boxDone (.ite h.boxDone (.ite h.boxDone (.ite h.boxDone (.ite (.ite h.boxDone h.wakeBy.boxDone)
    (.ite h.boxDone (.ite h.wrFld.boxDone h.gaitAccept.boxDone))))))

theorem State.Wf.gaitEnd (h : s.Wf) : s.gaitEnd.Wf := h.frame.wrBit.wrFld

theorem State.Wf.gaitChanged {new} (h : s.Wf) : (s.gaitChanged new).Wf := h.wrFld.wr.wr.raise

theorem State.Wf.laneFlags (h : s.Wf) : s.laneFlags.Wf := .foldl h fun _ _ h' => h'.wrBit.wrBit

theorem State.Wf.planesLost {sel mem} (h : s.Wf) : (s.planesLost sel mem).Wf := by
  unfold State.planesLost
  extract_lets roleIn s₁ s₂
  have h₁ : s₁.Wf := h.resetPages.resetUnits
  have h₂ : s₂.Wf := (h₁.planesAnew.filterMem (p := fun c => mem c.1)).frame
  exact h₂.laneFlags.wrBit

theorem State.Wf.gaitFlush (h : s.Wf) : s.gaitFlush.Wf := h.recd.draw.flush

theorem State.Wf.goDown (h : s.Wf) : s.goDown.Wf := by
  unfold State.goDown
  extract_lets t can _ s₁ s₂ s₃ s₄ _ s₅ s₆
  have h₁ : s₁.Wf := h.gait
  have h₂ : s₂.Wf := h₁.dropLinks.gaitFlush
  have h₃ : s₃.Wf := h₂.gaitChanged.gaitEnd
  have h₄ : s₄.Wf := .ite h₃.clearNet h₃
  have h₅ : s₅.Wf := .ite h₄.keep h₄
  have h₆ : s₆.Wf := h₅.planesLost
  have three : [({} : Box), {}, {}].length = s₆.boxes.length := by
    obtain ⟨_, _, _, _, _, _, boxes⟩ := h₆.fitted
    exact boxes.symm
  clear_value s₆
  refine .ite h₅.planesLost (.ite ?_ h₅.refresh)
  exact ((h₆.inlet (x := []) (Nat.zero_le _)).boxes three).frame

theorem State.Wf.gaitAbandon {why} (h : s.Wf) : (s.gaitAbandon why).Wf := .wrFld (.gaitEnd (.ite h.wrBit h))

theorem State.Wf.gaitStep2 (h : s.Wf) : s.gaitStep2.Wf := .ite h.gaitAbandon (.ite h.frame h.goDown)

theorem State.Wf.gaitStep1 (h : s.Wf) : s.gaitStep1.Wf :=
  .ite h.gaitAbandon (.ite (.ite h.startYield.frame h.gaitAbandon) h.gaitStep2)

theorem State.Wf.retainDone {done mramOk} (h : s.Wf) : (s.retainDone done mramOk).Wf := by
  unfold State.retainDone
  split
  · exact h
  · extract_lets s₁ _ s₂
    have h₁ : s₁.Wf := h.writeRetain
    have h₂ : s₂.Wf := h₁.prog
    exact .ite h₂.warmRestart (.ite h₂.goDown h₂)

theorem State.Wf.exitUs {old} (h : s.Wf) : (s.exitUs old).Wf := h.wr.draw

theorem State.Wf.visionBack (h : s.Wf) : s.visionBack.Wf := by
  unfold State.visionBack
  extract_lets s₁ s₂
  have h₁ : s₁.Wf := .foldl h fun _ _ h' => .ite h'.camLinking h'
  have h₂ : s₂.Wf := .views h₁ (List.length_map _)
  exact .foldl h₂ fun _ _ h' => .ite h'.dspStart h'

theorem State.Wf.gaitExit {x} (h : s.Wf) : (s.gaitExit x).Wf := by
  unfold State.gaitExit
  split
  · exact h
  · extract_lets _ cut _ s₁ s₂ s₃ s₄ _ s₅ s₆ s₇ _ s₈ s₉
    have h₁ : s₁.Wf := h.gait
    have h₂ : s₂.Wf := by
      unfold s₂
      clear_value cut
      split
      · exact h₁.gaitChanged.gaitChanged
      · exact h₁
    have h₃ : s₃.Wf := h₁.tbReset
    have h₄ : s₄.Wf := h₃.gaitChanged
    have h₅ : s₅.Wf := h₄.tro
    have h₆ : s₆.Wf := h₁.gaitChanged.visionBack
    have h₇ : s₇.Wf := .ite h₆.setLink h₆
    have h₈ : s₈.Wf := .ite h₁.setProf.resetBoot (.ite (.bootOn (.lineCauses (.ite h₅.setLink h₅))) (.ite
        (.ite h₇.prog.wrBit h₇) h₁.gaitChanged.visionBack))
    have h₉ : s₉.Wf := h₈.wrFld.wrBit
    exact .ite h₂.wrFld.raise h₉.exitUs.refresh.raise

theorem State.Wf.measure {temp mv} (h : s.Wf) : (s.measure temp mv).Wf := by
  unfold State.measure
  extract_lets _ s₁ _ s₂ s₃ s₄
  have h₁ : s₁.Wf := h.wrFld.wr
  have h₂ : s₂.Wf := .when h₁ fun _ h' => h'.raise
  have h₃ : s₃.Wf := .when h₂ fun _ h' => h'.raise
  have h₄ : s₄.Wf := .ite h₃.gaitAccept.wrBit.gaitStep1 h₃
  exact .ite h₄.wakeBy h₄

/-! ### Troika -/

theorem State.Wf.openCollect {k} (h : s.Wf) : (s.openCollect k).Wf := .foldl h.tro.wrFld fun _ _ h' => h'.wr.modLane

theorem State.Wf.completion {l rel k cyc} (h : s.Wf) : (s.completion l rel k cyc).Wf :=
  .ite h (.ite h.modLane.wr.wrBit h.modLane.wr.wrBit.finalTest)

theorem State.Wf.takeVote {v} (h : s.Wf) : (s.takeVote v).Wf := h.clearImage.putImage.putImage

theorem State.Wf.slack {ds} (h : s.Wf) : (s.slack ds).Wf := h.wr.wrBit

theorem State.Wf.laneLate {l} (h : s.Wf) : (s.laneLate l).Wf := h.sat16.modLane.raise

theorem State.Wf.laneDisagrees {l w} (h : s.Wf) : (s.laneDisagrees l w).Wf := h.sat16.wr.modLane.raise

theorem State.Wf.failRule (h : s.Wf) : s.failRule.Wf := .foldl h fun _ _ h' => .ite h'.modLane.failLane h'

theorem State.Wf.vote {present} (h : s.Wf) : (s.vote present).Wf := by
  unfold State.vote
  extract_lets k mask v limp two s₁ s₂ s₃ clean _ s₄ s₅ s₆
  have h₁ : s₁.Wf := .ite h.slack h
  have h₂ : s₂.Wf := .ite h₁.takeVote h₁
  have h₃ : s₃.Wf := .ite h₂ h₂.sat16
  have h₄ : s₄.Wf := h₃.tro
  have h₅ : s₅.Wf := .when h₄ fun _ h' => h'.safeCause
  have h₆ : s₆.Wf := .foldl h₅ fun l t h' => by
    split
    · exact h'.laneDisagrees
    · exact .ite h'.modLane h'
  exact h₆.failRule.raise

theorem State.Wf.atDeadline (h : s.Wf) : s.atDeadline.Wf := by
  unfold State.atDeadline
  exact .oneCycle (fun _ h' => .ite h' (.ite h'.voterUpdate.wrFld.tro (.ite
      (.ite h'.voterUpdate.wrFld.frame h'.voterUpdate.wrFld.tro.sat16.wr.raise) (.reintFollow (.vote
      (.foldl h'.voterUpdate.wrFld fun _ _ h'' => h''.laneLate)))))) h

theorem State.Wf.tickClause (h : s.Wf) : s.tickClause.Wf :=
  .ite (.ite (.foldl h fun _ _ h' => .ite h'.failLane h') h) h

theorem State.Wf.safeExit (h : s.Wf) : s.safeExit.Wf := h.wrBit.wr.raise

theorem State.Wf.commitTick (h : s.Wf) : s.commitTick.Wf :=
  .ite (.firstRole (.tro (.commitVoted (.wr (.dup (.ite h.safeExit h)))))) h.tro

theorem State.Wf.bootTick (h : s.Wf) : s.bootTick.Wf :=
  .updService (.ite h.lanesVote.setPhase.wr.dup.enterMode h.lanesVote.setPhase.wr.dup)

theorem State.Wf.takeRequest {r} (h : s.Wf) : (s.takeRequest r).Wf := by
  unfold State.takeRequest
  extract_lets _ s₁ _ s₂
  have h₁ : s₁.Wf := h.prog
  have h₂ : s₂.Wf := h₁.modeRefuse
  exact .ite (.ite h₂.gaitAbandon h₂) (.ite h.wrBit h₁.enterMode)

theorem State.Wf.modeTick (h : s.Wf) : s.modeTick.Wf := by
  unfold State.modeTick
  split
  · exact h.bootTick
  · split
    · exact h.startTick
    · split
      · exact h.takeForced
      · split
        · exact h
        · exact h.takeRequest

theorem State.Wf.gaitStopTick (h : s.Wf) : s.gaitStopTick.Wf := .ite (.ite h.gait h.goDown) h

theorem State.Wf.fioApply {sel} (h : s.Wf) : (s.fioApply sel).Wf := .ite h h.applyShadows.fioChanged

theorem State.Wf.discard {p sel} (h : s.Wf) : (s.discard p sel).Wf := h.dropShadows.accessFault

theorem State.Wf.stopBoundary (h : s.Wf) : s.stopBoundary.Wf := by
  unfold State.stopBoundary
  extract_lets _ _ s₁ _ s₂ s₃ _
  have h₁ : s₁.Wf := .ite h.discard h
  have h₂ : s₂.Wf := .ite h₁ h₁.discard
  have h₃ : s₃.Wf := .ite (.ite h₂.discard h₂) h₁
  exact .applyShadows (.when h₃.applyShadows.applyShadows fun _ h' => h'.sendSubst)

theorem State.Wf.tickBoundary (h : s.Wf) : s.tickBoundary.Wf := .ite h.stopBoundary.fioApply h.fioApply

theorem State.Wf.cycleTick {due} (h : s.Wf) : (s.cycleTick due).Wf :=
  .when h.wr.wr.wr.tro.strobeFor.raise fun _ h' => h'.raise

theorem State.Wf.takeLatch (h : s.Wf) : s.takeLatch.1.Wf := .foldl h fun _ _ h' => h'.wr

theorem State.Wf.backLatch {ws} (h : s.Wf) : (s.backLatch ws).Wf := .foldl h fun _ _ h' => h'.wr

theorem State.Wf.snapTick {due ev} (h : s.Wf) : (s.snapTick due ev).Wf := by
  unfold State.snapTick
  extract_lets _ s₁ _ s₂ s₃ _ s₄ _ s₅ s₆ _
  have h₁ : s₁.Wf := h.snapCapture
  have h₂ : s₂.Wf := .foldl h₁ fun _ _ h' => h'.wr.modLane
  have h₃ : s₃.Wf := h₂.backLatch
  have h₄ : s₄.Wf := h₁.backLatch
  have h₅ : s₅.Wf := .ite h₃.tro (.ite h₁.snapWrite.openCollect h₄.tro)
  have h₆ : s₆.Wf := h₅.wr.wr
  exact h₆.tro

theorem State.Wf.missedDeadline (h : s.Wf) : s.missedDeadline.Wf := .ite h.atDeadline h

theorem State.Wf.afterYield (h : s.Wf) : s.afterYield.Wf := by
  unfold State.afterYield
  split
  · exact h
  · extract_lets _ s₁ s₂ _ s₃
    have h₁ : s₁.Wf := h.dup
    have h₂ : s₂.Wf := .ite (.ite h₁.gaitStep2 h₁) h
    have h₃ : s₃.Wf := h₂.dup
    split
    · exact h₂
    · exact .ite h₃.startPause h₃

theorem State.Wf.tickCycle {due} (h : s.Wf) : (s.tickCycle due).Wf := by
  unfold State.tickCycle
  exact h.takeLatch.ocTick.tickClause.commitTick.modeTick.cycleTick.reintTick.tickBoundary.snapTick.duplexTick

theorem State.Wf.tick (h : s.Wf) : s.tick.Wf := by
  unfold State.tick
  exact .ite h (.refresh (.reintFollow (.gaitStopTick (.afterYield (.oneCycle
      (fun _ h' => h'.tickCycle) h.advanceTo.missedDeadline)))))

theorem State.Wf.dropIo {l f} (h : s.Wf) : (s.dropIo l f).Wf := h.modLane

theorem State.Wf.laneSafe {l rel demand} (h : s.Wf) : (s.laneSafe l rel demand).Wf := .ite h.wrBit.lineCauses h

/-! ### What reads answer -/

theorem State.Wf.indNext {p} (h : s.Wf) : (s.indNext p).Wf := h.wr

/-! ### The mailbox -/

theorem State.Wf.doorbell {i n addr v} (h : s.Wf) : (s.doorbell i n addr v).Wf :=
  .ite h (.ite h.accessFault h.modBox.bells.wrBit.wr)

theorem State.Wf.boxComplete {n err resp} (h : s.Wf) : (s.boxComplete n err resp).Wf := by
  unfold State.boxComplete
  extract_lets _ _
  split
  · exact h
  · split
    · exact h.boxDone
    · exact .ite h.boxDone (.ite h.boxDone (.ite h.boxDone h.boxDone))

theorem State.Wf.duplexAnswer {n} (h : s.Wf) : (s.duplexAnswer n).Wf := h.boxDone

theorem State.Wf.duplexInhibit {n b} (h : s.Wf) : (s.duplexInhibit n b).Wf := .ite h.boxDone h.wrBit.duplexAnswer

theorem State.Wf.duplexYield {n} (h : s.Wf) : (s.duplexYield n).Wf := .ite h.boxDone h.startYield.boxRun.dup

/-! ### Access checks and reads -/

theorem State.Wf.xlinkFault (h : s.Wf) : s.xlinkFault.Wf := .ite h.dup.leaveRole h.dup.setRoleOut

theorem State.Wf.blockFault {k} (h : s.Wf) : (s.blockFault k).Wf :=
  .ite h.resetBoot (.ite (.ite h.setT3 (.ite h.modLane.failLane.reintFollow h.modLane)) (.ite h.tro.safeCause
    (.ite h.tro.safeCause (.ite h.prog.forceStop (.ite h.prog (.ite h.setLink (.ite h.field.refresh (.ite h.xlinkFault
      (.ite h.sec.spookDemand (.ite h.recd (.ite h.gait h)))))))))))

theorem State.Wf.judge {k ini} (h : s.Wf) : (s.judge k ini).Wf := by
  unfold State.judge
  split
  · exact h
  · split
    · exact h
    · split
      · exact h.setT3
      · exact h.setT3.raise
      · extract_lets s₁ s₂
        have h₁ : s₁.Wf := h.setKey
        have h₂ : s₂.Wf := .ite h h₁.upsets
        exact h₂.error.blockFault

theorem State.Wf.scrub {k u} (h : s.Wf) : (s.scrub k u).Wf := .ite h h.upsets.judge

theorem State.Wf.refuse {i addr cause} (h : s.Wf) : (s.refuse i addr cause).Wf :=
  .busError (.ite h.sat16.error h.accessFault)

theorem State.Wf.refuseNowhere {i addr} (h : s.Wf) : (s.refuseNowhere i addr).Wf := h.raise.busError

theorem State.Wf.refuseWrite {i addr cause} (h : s.Wf) : (s.refuseWrite i addr cause).Wf :=
  .ite h.refuse.sat16.bus h.refuse

theorem State.Wf.indRead {ini p} (h : s.Wf) : (s.indRead ini p).1.Wf := .ite h.judge h.judge.indNext

theorem State.Wf.tbNsLatch {ini} (h : s.Wf) : (s.tbNsLatch ini).Wf := .ite h.tb h

theorem State.Wf.readWord {i p off} (h : s.Wf) : (s.readWord i p off).1.Wf :=
  .iteFst h.indRead (.iteFst h.tbNsLatch (.iteFst h.rxqPop (.iteFst h.expPop (.iteFst h.draw (.iteFst h h.judge)))))

theorem State.Wf.readPart {i addr n atomic} (h : s.Wf) : (s.readPart i addr n atomic).Wf := by
  unfold State.readPart
  extract_lets _
  split
  · exact h.refuseNowhere
  · exact h.busData
  · exact h.busData
  · exact h.refuse
  · exact h.readWord.busData

theorem State.Wf.busRead {i addr n atomic} (h : s.Wf) : (s.busRead i addr n atomic).Wf := by
  unfold State.busRead
  extract_lets s₁ r
  have h₁ : s₁.Wf := h.bus
  have hr : r.1.Wf := List.foldlRecOn (motive := fun c : State × List Word × Bool => c.1.Wf) _ _ h₁ fun _ h' _ _ =>
      h'.readPart
  split
  · exact h₁
  · split
    · split
      · exact h₁.refuse
      · exact h₁.readPart
    · exact hr.bus

theorem State.Wf.laneLoadFault {i} (h : s.Wf) : (s.laneLoadFault i).Wf := by
  unfold State.laneLoadFault
  split
  · exact .ite h.laneTrap h
  · exact h

theorem State.Wf.initRead {i addr n} (h : s.Wf) : (s.initRead i addr n).Wf :=
  .ite h.busError.laneLoadFault h.busRead.laneLoadFault

/-! ### Writes -/

theorem State.Wf.putWord {i k addr v} (h : s.Wf) : (s.putWord i k addr v).Wf := by
  unfold State.putWord
  extract_lets _ _ _ s₁ _
  have h₁ : s₁.Wf := .ite h (.ite h.setShadow (.ite h.setT3 h.setKey))
  exact .ite h₁ (.ite h₁ h₁.kpStart)

theorem State.Wf.afterWord {k} (h : s.Wf) : (s.afterWord k).Wf := by
  unfold State.afterWord
  extract_lets _ s₁
  have h₁ : s₁.Wf := h.voterUpdate
  exact .ite (.refresh (.ite h₁.substitute h₁)) (.ite h.tbSelect (.ite h.refresh (.ite (.ite h.scheduleNow h)
      (.ite h.mvbCfg (.ite (.ite h h.pcieDown) (.ite h.spookDemand (.ite h.updBoundary (.ite h.offsetsStale h))))))))

theorem State.Wf.reintWord {v} (h : s.Wf) : (s.reintWord v).Wf := .ite h.wr.reintStart h.wr

theorem State.Wf.laneCtrl {l v} (h : s.Wf) : (s.laneCtrl l v).Wf :=
  .reintFollow (.ite (.failRequest (.ite h.splitRequest h)) (.ite h.splitRequest h))

theorem State.Wf.kpEffect {i k} (h : s.Wf) : (s.kpEffect i k).Wf := by
  unfold State.kpEffect
  extract_lets _ _ _ _ _ s₁
  have h₁ : s₁.Wf := .ite h.setShadow (.ite h.setT3 h.setKey)
  exact .ite h.setRate (.ite h.reintWord (.ite h.modeRequest (.ite h.ocCommand (.ite h.laneCtrl (.ite h.forceSet
      (.ite (.ite h.modBox h) h₁.afterWord))))))

theorem State.Wf.keyN {i p v} (h : s.Wf) : (s.keyN i p v).Wf := by
  unfold State.keyN
  extract_lets s₁ s₂
  have h₁ : s₁.Wf := h.wr
  have h₂ : s₂.Wf := h₁.kpDrop
  split
  · exact h₁.kpFail
  · exact .ite h₂.kpFail (.ite h₂.kpEffect.indNext h₂.kpEffect)

theorem State.Wf.kpExpire {p} (h : s.Wf) : (s.kpExpire p).Wf := by
  unfold State.kpExpire
  split
  · exact h
  · exact h.kpDrop.kpFail

theorem State.Wf.applyStop {p} (h : s.Wf) : (s.applyStop p).Wf := by
  unfold State.applyStop
  extract_lets _ s₁ s₂
  have h₁ : s₁.Wf := .ite h.discard h
  have h₂ : s₂.Wf := .ite h₁.discard h₁
  exact .ite h₂.applyShadows (.ite (.ite h (.ite h.applyShadows.sendSubst h.discard))
      (.ite h.fioApply.refresh h.applyShadows.refresh))

theorem State.Wf.applyWrite {i p addr v} (h : s.Wf) : (s.applyWrite i p addr v).Wf :=
  .ite h (.ite h.applyStop h.wrBit.accessFault)

theorem State.Wf.boundary {p inst} (h : s.Wf) : (s.boundary p inst).Wf :=
  .ite (.ite h.tickBoundary.refresh h) (.ite h.applySchedule (.ite h.applyPolls (.ite h.gateBoundary
    (.ite h.applyShadows (.ite h.viewConfigure (.ite h.applyShadows (.ite h.viewConfigure
    (.ite h.updBoundary h))))))))

theorem State.Wf.canTab {i n ix addr v} (h : s.Wf) : (s.canTab i n ix addr v).1.Wf :=
  .iteFst (.iteFst h.refuse (.iteFst h.completeObj h.setTab)) (.iteFst h.refuse
    (.iteFst h.setTab h.putWord.afterWord))

theorem State.Wf.rtcAlarmSet {v} (h : s.Wf) : (s.rtcAlarmSet v).Wf := .ite h.keep.keep.wakeBy h.keep

theorem State.Wf.indWrite {i p addr v} (h : s.Wf) : (s.indWrite i p addr v).Wf :=
  .ite h (.ite h.refuse (.ite h.indNext (.ite h.refuse (.ite h.refuse (.ite (.ite h.canTab.indNext h.canTab)
    (.ite h.rtcAlarmSet.indNext (.ite h.putWord h.putWord.afterWord.indNext)))))))

theorem State.Wf.semWrite {i k addr v} (h : s.Wf) : (s.semWrite i k addr v).Wf := by
  unfold State.semWrite
  extract_lets _ _ s₁ s₂
  have h₁ : s₁.Wf := .ite h.wr h
  have h₂ : s₂.Wf := .ite h₁ (.ite h₁.wr h₁.accessFault)
  exact .ite h₂.wr h₂

theorem State.Wf.bankWrite {i off addr v} (h : s.Wf) : (s.bankWrite i off addr v).Wf := .ite h.refuse h.wr

theorem State.Wf.boxWrite {i p off addr v} (h : s.Wf) : (s.boxWrite i p off addr v).Wf := by
  unfold State.boxWrite
  extract_lets _ s₁ s₂
  have h₁ : s₁.Wf := h.wr
  have h₂ : s₂.Wf := h₁.modBox
  exact .ite (.ite h.accessFault (.ite h₁ (.ite h₂.kpStart h₂))) (.ite h.doorbell h.putWord)

theorem State.Wf.measDeliver (h : s.Wf) : s.measDeliver.Wf := h.tbMeasure

theorem State.Wf.dsWrite {off v} (h : s.Wf) : (s.dsWrite off v).Wf := .ite h h.net

theorem State.Wf.dmaWrite {i off addr v} (h : s.Wf) : (s.dmaWrite i off addr v).Wf :=
  .ite h.dmaLog2 (.ite h.dmaTailSet (.ite h.dmaCtrl h.putWord))

theorem State.Wf.paramWrite {i v off addr x} (h : s.Wf) : (s.paramWrite i v off addr x).Wf :=
  .ite h.refuse (.ite h.viewCommit h.modView)

theorem State.Wf.canWrite {i n off addr v} (h : s.Wf) : (s.canWrite i n off addr v).Wf :=
  .ite h.canCtrl (.ite h.evbRequest (.ite h.evbAbortReq h.putWord.afterWord))

theorem State.Wf.dataWrite {i p off addr v} (h : s.Wf) : (s.dataWrite i p off addr v).Wf :=
  .ite h.refuse (.ite h.dsCommitted (.ite h.dsWrite (.ite h.dmaWrite (.ite h.camCtrl (.ite h.i2cCmd
    (.ite h.paramWrite (.ite h.dcsCtrl (.ite (.ite h.watchRelease h) h.putWord.afterWord))))))))

theorem State.Wf.mgmtWrite {i p off addr v} (h : s.Wf) : (s.mgmtWrite i p off addr v).Wf :=
  .ite h.tackCmd (.ite (.ite h.spookClear h.refuse) (.ite (.ite h.refuse h.appCode) (.ite h.wr h.putWord.afterWord)))

theorem State.Wf.regWrite {i p off addr v} (h : s.Wf) : (s.regWrite i p off addr v).Wf :=
  .ite h.boxWrite (.ite h.bankWrite (.ite h.semWrite (.ite h.putWord.measDeliver (.ite (.putWord
    (.ite h.reintAbort h)) (.ite (.putWord (.ite h.ocEnd h)) (.ite h.ocWrite (.ite h.canWrite (.ite h.dataWrite
    (.ite h.mgmtWrite h.putWord.afterWord)))))))))

theorem State.Wf.writeWord {i p off addr v} (h : s.Wf) : (s.writeWord i p off addr v).Wf :=
  .ite h (.ite h.refuse (.ite h.refuse (.ite h.applyWrite (.ite h.kpDrop (.ite h.keyN (.ite (.ite h.wr h)
    (.ite h.indWrite h.regWrite)))))))

/-! ### The register bus and the write vote -/

theorem State.Wf.writePart {i addr n v atomic} (h : s.Wf) : (s.writePart i addr n v atomic).Wf := by
  unfold State.writePart
  extract_lets _ _ s₁ s₂
  have h₁ : s₁.Wf := h.writeWord
  have h₂ : s₂.Wf := h₁.sat16
  split
  · exact h.refuseNowhere
  · exact h
  · exact h
  · exact h.refuseWrite
  · exact .ite h₂.bus h₁

theorem State.Wf.busWrite {i addr n vs atomic} (h : s.Wf) : (s.busWrite i addr n vs atomic).Wf := by
  unfold State.busWrite
  extract_lets s₁ r
  have h₁ : s₁.Wf := h.bus
  have hr : r.1.Wf := List.foldlRecOn (motive := fun c : State × Bool => c.1.Wf) _ _ h₁ fun _ h' _ _ =>
      h'.bus.writePart
  split
  · exact h₁
  · split
    · split
      · exact h₁.refuseWrite
      · exact h₁.refuseWrite
      · exact h₁.refuseNowhere
      · exact h₁
    · exact hr.bus

theorem State.Wf.setSlot {k} (h : s.Wf) : (s.setSlot k).Wf := h.vw

theorem State.Wf.vwSplit {k} (h : s.Wf) : (s.vwSplit k).Wf := by
  unfold State.vwSplit
  split
  · exact .ite h.setSlot h.setSlot.vwError
  · exact h.setSlot

theorem State.Wf.vwArrive {l addr v} (h : s.Wf) : (s.vwArrive l addr v).Wf := by
  unfold State.vwArrive
  extract_lets _ _ s₁ _ _ _ s₂
  have h₁ : s₁.Wf := h.vw
  have h₂ : s₂.Wf := by
    unfold s₂
    split
    · exact h₁
    · split
      · exact .ite h₁.setSlot h₁.vwSplit
      · split
        · extract_lets _
          exact .ite h₁.vwSplit h₁.setSlot
        · exact .ite h₁.setSlot.vwDrop h₁.setSlot
  exact .ite h (.ite h₁.vwSettle h₂.vwSettle)

theorem State.Wf.vwExecute (h : s.Wf) : s.vwExecute.Wf := by
  unfold State.vwExecute
  extract_lets s₁ bus
  have h₁ : s₁.Wf := h.vwSettle
  split
  · exact h₁
  · split
    · exact h₁
    · extract_lets s₂ s₃
      have h₂ : s₂.Wf := h₁.setSlot.busWrite
      have h₃ : s₃.Wf := h₂.retireSlot
      exact h₃.bus.vwSettle

theorem State.Wf.vwTimeout (h : s.Wf) : s.vwTimeout.Wf := by
  unfold State.vwTimeout
  extract_lets _
  split
  · exact h
  · exact .vwSettle (.ite h.vwSplit h.vwDrop)

theorem State.Wf.laneStore {l addr n v atomic} (h : s.Wf) : (s.laneStore l addr n v atomic).Wf := by
  unfold State.laneStore
  extract_lets s₁
  have h₁ : s₁.Wf := h.bus
  split
  · exact h₁
  · split
    · exact h₁.laneTrap
    · split
      · exact .ite h₁.completion (.ite h₁.laneSafe (.ite h₁.vwArrive h₁))
      · exact h₁.refuse
      · exact h₁.refuseNowhere
      · exact h₁
      · exact h₁

theorem State.Wf.initWrite {i addr n vs atomic} (h : s.Wf) : (s.initWrite i addr n vs atomic).Wf := by
  unfold State.initWrite
  split
  · exact h.laneStore
  · exact h.busWrite.reintFollow

theorem State.Wf.put1 {i p off v} (h : s.Wf) : (s.put1 i p off v).Wf := h.initWrite

theorem State.Wf.putPair {i p off v} (h : s.Wf) : (s.putPair i p off v).Wf := h.put1.put1

theorem State.Wf.putTab {i p ix v} (h : s.Wf) : (s.putTab i p ix v).Wf := h.put1.put1

theorem State.Wf.loadDatum {l sh e} (h : s.Wf) : (s.loadDatum l sh e).Wf := h.modLane

theorem State.Wf.releaseEntry {l e} (h : s.Wf) : (s.releaseEntry l e).Wf :=
  .ite h.modLane (.ite h.busRead.laneTrap h.busRead.loadDatum)

theorem State.Wf.aloneAccess {l sh e} (h : s.Wf) : (s.aloneAccess l sh e).Wf :=
  .ite h.laneStore (.ite h.busRead.coreTrap h.busRead.loadDatum)

theorem State.Wf.laneInstr {l r} (h : s.Wf) : (s.laneInstr l r).Wf := by
  unfold State.laneInstr
  extract_lets s₁
  have h₁ : s₁.Wf := h.laneStep
  split
  · exact h₁
  · split
    · exact h₁.aloneAccess
    · exact h₁

theorem State.Wf.compareWindow {l railsOk flagged} (h : s.Wf) : (s.compareWindow l railsOk flagged).Wf := by
  unfold State.compareWindow
  extract_lets _ _
  split
  · exact h
  · split
    · exact h
    · extract_lets s₁ s₂ s₃ s₄
      have h₁ : s₁.Wf := h.inc32.modLane
      have h₂ : s₂.Wf := h₁.wr.wr
      have h₃ : s₃.Wf := by
        unfold s₃
        split
        · exact h₂
        · exact h₂.releaseEntry
      have h₄ : s₄.Wf := .ite (.ite h₃.enterSplit h₃.refuseSplit) h₃
      exact .ite h₂.raise.failLane (.ite h₄ (.ite h₄.inc32 h₄.raise.failLane))

theorem State.Wf.pcieSram {addr n w} (h : s.Wf) : (s.pcieSram addr n w).Wf := by
  unfold State.pcieSram
  split
  · exact .ite h.setBytes h.sat16
  · extract_lets _
    exact h.bus

theorem State.Wf.pcieMsix {addr n w} (h : s.Wf) : (s.pcieMsix addr n w).Wf := by
  unfold State.pcieMsix
  extract_lets _ _
  split
  · exact .foldl h fun _ _ h' => h'.msixWrite
  · exact h.bus

theorem State.Wf.pcieInbound {bar addr n w} (h : s.Wf) : (s.pcieInbound bar addr n w).Wf := by
  unfold State.pcieInbound
  split
  · exact h
  · split
    · split
      · exact h
      · split
        · exact h.busRead
        · exact h.busWrite
    · exact .ite h h.pcieSram
    · exact .ite h h.pcieMsix

theorem State.Wf.tackStart {i op v} (h : s.Wf) : (s.tackStart i op v).Wf := h.put1

/-! ### The step -/

theorem State.Wf.withPending {q} (h : s.Wf) : (s.withPending q).Wf := h.pending

theorem State.Wf.withFetchWord {nbits w} (h : s.Wf) : (s.withFetchWord nbits w).Wf := by
  unfold State.withFetchWord
  split
  · exact h
  · exact h.withPending

end

/-! ### The commands -/

section
variable {s : State}

/-- The outcome is a next state with the queue and the variant of `s`, well-formed where `s` is. -/
def Answers (s : State) (o : Host.Outcome State Fault Refusal) : Prop := ∃ t, o = answer s t ∧ (s.Wf → t.Wf)

theorem Answers.intro {t : State} (ht : s.Wf → t.Wf) : Answers s (answer s t) := ⟨t, rfl, ht⟩

theorem execPpsIn_answers {back} : Answers s (execPpsIn back s) := .intro fun h => h.ppsEdge

theorem execSecondMark_answers : Answers s (execSecondMark s) :=
  .intro fun h => .ite (.keep (.ite h h.secondMarkNow)) (.wr (.keep (.ite h h.secondMarkNow)))

theorem execTbWrap_answers : Answers s (execTbWrap s) := .intro fun h => h.advanceTo

theorem execTbMeasurement_answers {src t theta} : Answers s (execTbMeasurement src t theta s) :=
  .intro fun h => h.tbMeasure

theorem execRefSourceTimeout_answers {x} : Answers s (execRefSourceTimeout x s) := .intro fun h => h.tbLose

theorem execMonoTimeSave_answers : Answers s (execMonoTimeSave s) := .intro fun h => h.keep

theorem execTbCapture_answers {src} : Answers s (execTbCapture src s) := .intro fun h => h.capture

theorem execLaneWindowFull_answers {l} : Answers s (execLaneWindowFull l s) := .intro fun h => .ite h h.modLane

theorem execLaneSramScrub_answers {l word e} : Answers s (execLaneSramScrub l word e s) :=
  .intro fun h => .ite h h.laneEcc.reintFollow

theorem execLaneClockCheck_answers {l ppm stopped} : Answers s (execLaneClockCheck l ppm stopped s) :=
  .intro fun h => .ite h.failLane.reintFollow h

theorem execDebugRequest_answers {l a} : Answers s (execDebugRequest l a s) :=
  .intro fun h => h.debugLane.reintFollow

theorem execIsoLinkFrame_answers {f} : Answers s (execIsoLinkFrame f s) := .intro fun h => h.isoFrame

theorem execFieldSideLinkTimeout_answers : Answers s (execFieldSideLinkTimeout s) := .intro fun h => .ite h.field h

theorem execLinkSyncTimeout_answers : Answers s (execLinkSyncTimeout s) := .intro fun h => .ite h.setLink h

theorem execCouplerCheckDone_answers {fiF rbF outF} : Answers s (execCouplerCheckDone fiF rbF outF s) :=
  .intro fun h => .ite h.wr.wr.wr.latchMask.field.tryParallel.refresh h

theorem execInputSample_answers {fi rb} : Answers s (execInputSample fi rb s) := .intro fun h => h.sampleInputs

theorem execFieldCounterEdge_answers {c rising} : Answers s (execFieldCounterEdge c rising s) :=
  .intro fun h => h.counterEdge

theorem execFoShort_answers {n} : Answers s (execFoShort n s) := .intro fun h => .ite h.latchFo.wrBit.raise h

theorem execFoOvertemp_answers {n} : Answers s (execFoOvertemp n s) :=
  .intro fun h => .ite h.field.latchFo.wrBit.raise h

theorem execFoOpenLoad_answers {n} : Answers s (execFoOpenLoad n s) := .intro fun h => .ite h.wrBit.raise h

theorem execFoReadback_answers {n} : Answers s (execFoReadback n s) :=
  .intro fun h => .ite (.ite h.raise (.ite h.wrBit h)) h

theorem execOutputSwitchOff_answers {n currentMa decayUs} : Answers s (execOutputSwitchOff n currentMa decayUs s) :=
  .intro fun h => .ite (.when h.wrFld fun _ h' => h'.raise) h

theorem execFieldWarn_answers {mv} : Answers s (execFieldWarn mv s) :=
  .intro fun h => .ite h.setSupply.raise.refresh h

theorem execFieldNormal_answers {mv} : Answers s (execFieldNormal mv s) := .intro fun h => .ite h.setSupply.refresh h

theorem execFieldSag_answers {mv} : Answers s (execFieldSag mv s) :=
  .intro fun h => .ite h.setSupply.sat16.field.raise.refresh h

theorem execFieldLost_answers {mv} : Answers s (execFieldLost mv s) := .intro fun h => by
  exact .ite (.refresh (.ite h.setSupply.sat16.field.raise.setLink h.setSupply.sat16.field.raise)) h

theorem execFieldOk_answers {mv} : Answers s (execFieldOk mv s) :=
  .intro fun h => .ite (.refresh (.raise (.foldl h.setSupply.field fun _ _ h' => h'.wrBit))) h

theorem execIlkCrcCheck_answers : Answers s (execIlkCrcCheck s) :=
  .intro fun h => .ite h (.ite h.wr.raise.field.refresh h.wr)

theorem execFoDriverCooled_answers {n} : Answers s (execFoDriverCooled n s) := .intro fun h => .ite h.field.refresh h

theorem execStationLost_answers {st} : Answers s (execStationLost st s) :=
  .intro fun h => .ite h.setTab.staleStation.wrBit.raise h

theorem execMapCrcCheck_answers {mapEcc} : Answers s (execMapCrcCheck mapEcc s) :=
  .intro fun h => .ite (.ite h.wr h.wr.raise.prog) (.ite (.ite h.wr h.wr.raise.prog) h.wr)

theorem execCanIntegrated_answers {n} : Answers s (execCanIntegrated n s) := .intro fun h => h.canIntegrate

theorem execCanFrameReceived_answers {n f sofBack} :
    Answers s (execCanFrameReceived n f sofBack s) := .intro fun h => by
  exact .ite h.lateFrame (.ite h.capture (.ownIdSeen (.when h.canReceive fun _ h' => h'.sat16hi)))

theorem execCanTxDone_answers {n buf sofNs} : Answers s (execCanTxDone n buf sofNs s) := .intro fun h => h.txDone

theorem execCanFrameError_answers {n own buf fl tec rec} : Answers s (execCanFrameError n own buf fl tec rec s) :=
  .intro fun h => h.frameError

theorem execCanBusoffRecovered_answers {n} : Answers s (execCanBusoffRecovered n s) :=
  .intro fun h => .ite h.setErrCnt h

theorem execCanReferenceReceived_answers {n f sofBack elapsed} :
    Answers s (execCanReferenceReceived n f sofBack elapsed s) := .intro fun h => by
  exact .ite h.lateFrame (.ite h.capture (.ite (.ite h.capture h.canReceive) (.ite (.sat16hi
      (.ite h.capture h.canReceive)) (.reference (.ownIdSeen (.ite h.capture h.canReceive))))))

theorem execCanReferenceMissing_answers {n} : Answers s (execCanReferenceMissing n s) := .intro fun h => h.refMissing

theorem execCanMasterReferenceSend_answers {n lostTo} :
    Answers s (execCanMasterReferenceSend n lostTo s) := .intro fun h => by
  split
  · exact h
  · split
    · exact h.ownReference
    · exact h.setTt

theorem execCanBackupReferenceSend_answers {n lostTo} : Answers s (execCanBackupReferenceSend n lostTo s) :=
  .intro fun h => .ite h h.ownReference.becomeMaster

theorem execCanInitWatchExpiry_answers {n lostTo} :
    Answers s (execCanInitWatchExpiry n lostTo s) := .intro fun h => by
  split
  · exact h
  · split
    · exact h.ttListen
    · split
      · exact h
      · split
        · exact h.ownReference.becomeMaster
        · exact h.setTt.modCan

theorem execCanExclusiveWindow_answers {n w busIdle} : Answers s (execCanExclusiveWindow n w busIdle s) :=
  .intro fun h => h.exclusiveWindow

theorem execCanArbitratingWindow_answers {n w} : Answers s (execCanArbitratingWindow n w s) :=
  .intro fun h => h.arbitratingWindow

theorem execMvbFrameReceived_answers {a b} : Answers s (execMvbFrameReceived a b s) :=
  .intro fun h => .ite h.mvbFrame h

theorem execMvbBasicPeriod_answers : Answers s (execMvbBasicPeriod s) := .intro fun h => h.basicPeriod

theorem execMvbPollMiss_answers {e} : Answers s (execMvbPollMiss e s) := .intro fun h => .ite h.sat16.raise.mvb h

theorem execMvbSilenceExpiry_answers : Answers s (execMvbSilenceExpiry s) := .intro fun h => .ite h.advanceTo.mvb h

theorem execMvbCollisionReset_answers : Answers s (execMvbCollisionReset s) := .intro fun h => .ite h.advanceTo.mvb h

theorem execEthFrameReceived_answers {port f egressDelay} : Answers s (execEthFrameReceived port f egressDelay s) :=
  .intro fun h => h.ethFrame

theorem execEthLink_answers {port up speed} : Answers s (execEthLink port up speed s) :=
  .intro fun h => .ite h h.wr.raise

theorem execEthAddressAgeing_answers {mac} : Answers s (execEthAddressAgeing mac s) := .intro fun h => by
  extract_lets s₁ _ _
  have h₁ : s₁.Wf := by
    unfold s₁
    split
    · exact h
    · exact h.advanceTo
  exact .ite h₁ h₁.net.wr

theorem execEthGateChange_answers {port waited} : Answers s (execEthGateChange port waited s) := .intro fun h => by
  split
  · exact h
  · extract_lets _ s₁ _
    have h₁ : s₁.Wf := h.gateNext.drainPort
    split
    · split
      · exact h₁
      · exact h₁.net.portCount.raise
    · exact h₁

theorem execOutSeqWrite_answers {k} : Answers s (execOutSeqWrite k s) := .intro fun h => h.outSeq

theorem execCamLinkTrained_answers {c} : Answers s (execCamLinkTrained c s) := .intro fun h => .ite h.setCam h

theorem execCamLinkTrainTimeout_answers {c} : Answers s (execCamLinkTrainTimeout c s) :=
  .intro fun h => .ite h.sat16 h

theorem execCamLinkLost_answers {c} : Answers s (execCamLinkLost c s) :=
  .intro fun h => .ite h.camBad.setCam.i2cAbort.camLinking h

theorem execCamPacket_answers {c vc dt hdr crcOk payload} : Answers s (execCamPacket c vc dt hdr crcOk payload s) :=
  .intro fun h => h.camPacket

theorem execCamFrameStart_answers {c frameNo} : Answers s (execCamFrameStart c frameNo s) :=
  .intro fun h => h.camFrameStart

theorem execCamLineArrival_answers {c y pixels queueFull back} :
    Answers s (execCamLineArrival c y pixels queueFull back s) :=
  .intro fun h => h.camLine

theorem execCameraSyncStrobe_answers {c} : Answers s (execCameraSyncStrobe c s) :=
  .intro fun h => .ite h (.ite h.fire.modCam h.fire)

theorem execI2cDone_answers {c ack answered data} : Answers s (execI2cDone c ack answered data s) :=
  .intro fun h => h.i2cComplete

theorem execCamFrameEnd_answers {c frameNo} : Answers s (execCamFrameEnd c frameNo s) :=
  .intro fun h => .ite h h.camFrameEnd.judgeCam

theorem execCamFrameStartMissing_answers {c} : Answers s (execCamFrameStartMissing c s) :=
  .intro fun h => .ite h (.ite h.camErr.judgeCam h.camErr)

theorem execMetadataLineCheck_answers {d syncOk readerTiles frame} :
    Answers s (execMetadataLineCheck d syncOk readerTiles frame s) :=
  .intro fun h => h.metaCheck

theorem execDisplayReportReceived_answers {d r} : Answers s (execDisplayReportReceived d r s) :=
  .intro fun h => h.reportIn

theorem execReportJudgement_answers {d n histOk} : Answers s (execReportJudgement d n histOk s) :=
  .intro fun h => .judgeReport (.when h fun _ h' => h'.historyLost)

theorem execFwatchRelease_answers {v} : Answers s (execFwatchRelease v s) := .intro fun h => h.watchRelease

theorem execPcommit_answers {v k} : Answers s (execPcommit v k s) := .intro fun h => h.viewCommit

theorem execViewFrameStart_answers {v} : Answers s (execViewFrameStart v s) := .intro fun h => h.viewFrame

theorem execDspEnable_answers {d} : Answers s (execDspEnable d s) := .intro fun h => h.dspStart

theorem execDspLinkTrained_answers {d bcUp} : Answers s (execDspLinkTrained d bcUp s) :=
  .intro fun h => .ite h (.wrBit (.wrBit (.ite h.setDsp h)))

theorem execDspTrainTimeout_answers {d} : Answers s (execDspTrainTimeout d s) := .intro fun h => .ite h.sat16 h

theorem execDspLinkLost_answers {d} : Answers s (execDspLinkLost d s) := .intro fun h => .ite h.sat16.dspRetrain h

theorem execDisplayFrameStart_answers {d} : Answers s (execDisplayFrameStart d s) := .intro fun h => h.dspFrame

theorem execDcsSent_answers {d} : Answers s (execDcsSent d s) := .intro fun h => .ite h.wrBit.modDsp h

theorem execOffsetComputeDone_answers {v} : Answers s (execOffsetComputeDone v s) :=
  .intro fun h => .ite h (.ite h.modView h.wr.wr.modView)

theorem execRefOutEmission_answers {v} : Answers s (execRefOutEmission v s) := .intro fun h => h.measureLatency

theorem execDofsChange_answers {d v} : Answers s (execDofsChange d v s) :=
  .intro fun h => .ite h (.ite h.raise h.setShadow.applyShadows.offsetsStale.modDsp)

theorem execDisplayLineEmission_answers {v line ecc} : Answers s (execDisplayLineEmission v line ecc s) :=
  .intro fun h => h.emitLine

theorem execXlinkFrameSend_answers : Answers s (execXlinkFrameSend s) :=
  .intro fun h => .ite h h.advanceTo.dup.wr.sendHeartbeat

theorem execXlinkFrameReceived_answers {f} : Answers s (execXlinkFrameReceived f s) := .intro fun h => h.selcyFrame

theorem execEthHeartbeatReceived_answers {f} : Answers s (execEthHeartbeatReceived f s) :=
  .intro fun h => h.ethHeartbeat

theorem execXlinkUp_answers : Answers s (execXlinkUp s) := .intro fun h => .ite h.wrBit.raise h

theorem execXlinkDown_answers : Answers s (execXlinkDown s) := .intro fun h => .ite h.wrBit.raise h

theorem execRoleHoldTimeout_answers : Answers s (execRoleHoldTimeout s) :=
  .intro fun h => .ite h (.ite h.advanceTo.leaveRole h.advanceTo.setRoleOut)

theorem execRoleInChange_answers {asserted} : Answers s (execRoleInChange asserted s) := .intro fun h => by
  extract_lets s₁ s₂ s₃
  have h₁ : s₁.Wf := h.endTry
  have h₂ : s₂.Wf := h₁.wrBit.refresh
  have h₃ : s₃.Wf := h₂.sat16.raise
  split
  · exact .ite (.ite h₃.leaveRole h₃) h₂
  · split
    · exact .ite h₂.takeRole h₂
    · exact h₂

theorem execRecRead_answers {inst} : Answers s (execRecRead inst s) := .intro fun h => .serve h fun _ h' => h'.recRead

theorem execRecExport_answers {inst} : Answers s (execRecExport inst s) :=
  .intro fun h => .serve h fun _ h' => h'.recExport

theorem execRecClearStudbook_answers {inst} : Answers s (execRecClearStudbook inst s) :=
  .intro fun h => .serve h fun _ h' => h'.recClear

theorem execMartingaleSet_answers {inst} : Answers s (execMartingaleSet inst s) :=
  .intro fun h => .serve h fun _ h' => h'.martSet

theorem execRecordAccept_answers {vendor} : Answers s (execRecordAccept vendor s) := .intro fun h => by
  split
  · exact h
  · split
    · exact h.takeInlet
    · exact h.accept

theorem execMartingaleRefill_answers : Answers s (execMartingaleRefill s) := .intro fun h => .ite h h.advanceTo.recd

theorem execMartingaleSecondEnd_answers : Answers s (execMartingaleSecondEnd s) :=
  .intro fun h => .ite h h.advanceTo.recd.secondEnd

theorem execRecFlush_answers {ringOk studOk} : Answers s (execRecFlush ringOk studOk s) := .intro fun h => h.flush

theorem execRecFlushInterval_answers : Answers s (execRecFlushInterval s) :=
  .intro fun h => .ite h (.ite h.advanceTo.recd h.advanceTo.recd.flushFor)

theorem execRecExportTimeout_answers : Answers s (execRecExportTimeout s) := .intro fun h => by
  split
  · exact h
  · extract_lets s₁ _
    have h₁ : s₁.Wf := h.advanceTo
    exact h₁.recd

theorem execMramRefresh_answers {readOk} : Answers s (execMramRefresh readOk s) :=
  .intro fun h => .ite h (.ite h.keep h.keep.recError)

theorem execDmaDescriptorDone_answers {c desc src err} : Answers s (execDmaDescriptorDone c desc src err s) :=
  .intro fun h => .ite h.dmaDone h

theorem execPcieLinkDown_answers : Answers s (execPcieLinkDown s) := .intro fun h => h.pcieDown

theorem execPcieLinkUp_answers {gen width} : Answers s (execPcieLinkUp gen width s) := .intro fun h => h.pcieLinkUp

theorem execPcieCompletionTimeout_answers {c} : Answers s (execPcieCompletionTimeout c s) :=
  .intro fun h => .ite h h.sat16hi.dmaHalt

theorem execTackOpDone_answers {out} : Answers s (execTackOpDone out s) := .intro fun h => h.opDone

theorem execDrbgReseed_answers {healthOk} : Answers s (execDrbgReseed healthOk s) :=
  .intro fun h => .ite h.sec h.wrBit

theorem execSpookTrigger_answers {srcs} : Answers s (execSpookTrigger srcs s) :=
  .intro fun h => .ite h.wr h.wr.spookFire

theorem execOtpRecheck_answers {ok} : Answers s (execOtpRecheck ok s) := .intro fun h => .ite h.keep h.keep.spookFire

theorem execDebugChallengeExpiry_answers : Answers s (execDebugChallengeExpiry s) :=
  .intro fun h => .ite h h.advanceTo.sec

theorem execGetChallenge_answers {inst} : Answers s (execGetChallenge inst s) :=
  .intro fun h => .serve h fun _ h' => h'.getChallenge

theorem execSubmit_answers {inst sigOk} : Answers s (execSubmit inst sigOk s) :=
  .intro fun h => .serve h fun _ h' => h'.submit

theorem execZeroize_answers {inst} : Answers s (execZeroize inst s) := .intro fun h => .serve h fun _ h' => h'.zeroize

theorem execAutoReintStart_answers {l} : Answers s (execAutoReintStart l s) := .intro fun h => h.autoReint

theorem execReintResetDone_answers : Answers s (execReintResetDone s) := .intro fun h => h.reintBoot

theorem execLaneBootDone_answers {l hashOk} : Answers s (execLaneBootDone l hashOk s) := .intro fun h => h.bootDone

theorem execLaneBootTimeout_answers {l} : Answers s (execLaneBootTimeout l s) :=
  .intro fun h => .ite h.failLane.reintFollow h

theorem execReintCopyPassDone_answers {dirtied} : Answers s (execReintCopyPassDone dirtied s) :=
  .intro fun h => h.copyPass

theorem execSyncTimeout_answers : Answers s (execSyncTimeout s) := .intro fun h => h.syncTimeout

theorem execFarrierPrecheckRetry_answers {supplyOk clockOk tempOk expired} :
    Answers s (execFarrierPrecheckRetry supplyOk clockOk tempOk expired s) :=
  .intro fun h => h.precheck

theorem execFarrierPreconditionFail_answers {supplyOk clockOk tempOk} :
    Answers s (execFarrierPreconditionFail supplyOk clockOk tempOk s) :=
  .intro fun h => .ite h h.preFail.runEnded

theorem execFarrierBlockDone_answers {sig supplyOk clockOk tempOk} :
    Answers s (execFarrierBlockDone sig supplyOk clockOk tempOk s) :=
  .intro fun h => h.blockDone.reintFollow

theorem execLaneRotation_answers : Answers s (execLaneRotation s) := .intro fun h => h.rotate.reintFollow

theorem execBistRun_answers {inst} : Answers s (execBistRun inst s) := .intro fun h => .serve h fun _ h' => h'.bistRun

theorem execBistResult_answers {inst} : Answers s (execBistResult inst s) :=
  .intro fun h => .serve h fun _ h' => h'.boxDone

theorem execPowerOnReset_answers {x elapsedNs} : Answers s (execPowerOnReset x elapsedNs s) :=
  .intro fun h => h.setStraps.resetBoot

theorem execBootPhaseOverrun_answers {phase} : Answers s (execBootPhaseOverrun phase s) := .intro fun h => by
  extract_lets _ _ _ _ s₁ _ _ s₂ s₃
  have h₁ : s₁.Wf := .foldl h.cutRun fun _ _ h' => h'.offLane
  have h₂ : s₂.Wf := h₁.frame
  have h₃ : s₃.Wf := .ite h₂.noSet.refresh h₂
  exact .ite h h₃.setPhase.wr

theorem execFaultReset_answers : Answers s (execFaultReset s) := .intro fun h => h.resetBoot

theorem execMgmtWatchdogReset_answers : Answers s (execMgmtWatchdogReset s) := .intro fun h => .ite h.watchdog h

theorem execLogicLow_answers {mv} : Answers s (execLogicLow mv s) := .intro fun h => .ite h.wr.raise h

theorem execLogicInInterruption_answers : Answers s (execLogicInInterruption s) :=
  .intro fun h => .ite h (.ite h.pins.startPowerFail h.pins)

theorem execLogicInReturn_answers {within10ms} : Answers s (execLogicInReturn within10ms s) :=
  .intro fun h => .ite h.pins (.ite h.pins h)

theorem execPowerFail_answers : Answers s (execPowerFail s) := .intro fun h => .ite h.startPowerFail h

theorem execPowerFailReset_answers {returned elapsedNs} : Answers s (execPowerFailReset returned elapsedNs s) :=
  .intro fun h => .ite h (.ite h.resetBoot h.off)

theorem execHoldupCharged_answers : Answers s (execHoldupCharged s) := .intro fun h => .ite h.pins h

theorem execSafeNFilterExpiry_answers {x} : Answers s (execSafeNFilterExpiry x s) :=
  .intro fun h => h.frame.lineCauses

theorem execMovingFilterStationary_answers : Answers s (execMovingFilterStationary s) := .intro fun h => h.pins

theorem execUsbVbusChange_answers {above} : Answers s (execUsbVbusChange above s) := .intro fun h => h.pins

theorem execRomRecoveryImage_answers {provision h} : Answers s (execRomRecoveryImage provision h s) :=
  .intro fun h => .ite h (.ite (.ite h.keep.resetBoot h) (.ite h.keep.resetBoot h))

theorem execPing_answers {inst} : Answers s (execPing inst s) := .intro fun h => .serve h fun _ h' => h'.boxDone

theorem execGetId_answers {inst} : Answers s (execGetId inst s) := .intro fun h => .serve h fun _ h' => h'.boxDone

theorem execProfileSelectStore_answers {inst} : Answers s (execProfileSelectStore inst s) :=
  .intro fun h => .serve h fun _ h' => .profGuard h' fun _ h'' => h''.profStore

theorem execProfileSelectImmediate_answers {inst} : Answers s (execProfileSelectImmediate inst s) :=
  .intro fun h => .serve h fun _ h' => .profGuard h' fun _ h'' => h''.profNow

theorem execProfileSelectRevoke_answers {inst} : Answers s (execProfileSelectRevoke inst s) :=
  .intro fun h => .serve h fun _ h' => .profGuard h' fun _ h'' => h''.keep.boxDone

theorem execProfileQuery_answers {inst} : Answers s (execProfileQuery inst s) :=
  .intro fun h => .serve h fun _ h' => h'.profQuery

theorem execRestartWarm_answers {inst} : Answers s (execRestartWarm inst s) :=
  .intro fun h => .serve h fun _ h' => h'.restartWarm

theorem execRestartCold_answers {x} : Answers s (execRestartCold x s) :=
  .intro fun h => .serve h fun _ h' => .ite h'.boxDone h'.setProf.resetBoot

theorem execTimeSetWall_answers {inst} : Answers s (execTimeSetWall inst s) :=
  .intro fun h => .serve h fun _ h' => h'.setWall

theorem execUpdOpen_answers {inst} : Answers s (execUpdOpen inst s) := .intro fun h => .serve h fun _ h' => h'.updOpen

theorem execUpdWrite_answers {inst} : Answers s (execUpdWrite inst s) :=
  .intro fun h => .serve h fun _ h' => .updSession h' fun _ h'' => h''.updWrite

theorem execUpdVerify_answers {inst comps} : Answers s (execUpdVerify inst comps s) :=
  .intro fun h => .serve h fun _ h' => .updSession h' fun _ h'' => h''.updVerify

theorem execUpdActivate_answers {inst} : Answers s (execUpdActivate inst s) :=
  .intro fun h => .serve h fun _ h' => .updSession h' fun _ h'' => h''.updActivate

theorem execUpdConfirm_answers {inst} : Answers s (execUpdConfirm inst s) :=
  .intro fun h => .serve h fun _ h' => h'.updConfirm

theorem execUpdAbort_answers {inst} : Answers s (execUpdAbort inst s) :=
  .intro fun h => .serve h fun _ h' => h'.updAbort

theorem execUpdStatus_answers {inst} : Answers s (execUpdStatus inst s) :=
  .intro fun h => .serve h fun _ h' => h'.updStatus

theorem execOwnerLockQuery_answers {inst} : Answers s (execOwnerLockQuery inst s) :=
  .intro fun h => .serve h fun _ h' => .ite h'.boxDone h'.boxDone

theorem execOwnerLockSet_answers {inst} : Answers s (execOwnerLockSet inst s) :=
  .intro fun h => .serve h fun _ h' => h'.keep.boxDone

theorem execOwnerLockClear_answers {inst} : Answers s (execOwnerLockClear inst s) :=
  .intro fun h => .serve h fun _ h' => h'.ownerClear

theorem execUpdSessionTimeout_answers : Answers s (execUpdSessionTimeout s) :=
  .intro fun h => .ite h.advanceTo.updDrop h

theorem execUpdServicePause_answers {fwOk serviceOk ms} : Answers s (execUpdServicePause fwOk serviceOk ms s) :=
  .intro fun h => h.servicePause

theorem execProgramStart_answers : Answers s (execProgramStart s) := .intro fun h => h.programStart.reintFollow

theorem execHoldTimeout_answers : Answers s (execHoldTimeout s) := .intro fun h => .ite h.prog.raise h

theorem execOcCheckDone_answers {sigOk hashOk listBytes} : Answers s (execOcCheckDone sigOk hashOk listBytes s) :=
  .intro fun h => h.ocChecked

theorem execGaitSet_answers {inst} : Answers s (execGaitSet inst s) := .intro fun h => .serve h fun _ h' => h'.gaitSet

theorem execGaitQuery_answers {inst} : Answers s (execGaitQuery inst s) :=
  .intro fun h => .serve h fun _ h' => .ite h'.boxDone h'.boxDone

theorem execGaitTransitionStart_answers : Answers s (execGaitTransitionStart s) :=
  .intro fun h => .ite h.advanceTo.gaitStep1 h

theorem execGaitExit_answers {x} : Answers s (execGaitExit x s) := .intro fun h => h.gaitExit

theorem execWakeNWake_answers : Answers s (execWakeNWake s) := .intro fun h => h.wakeBy

theorem execRtcAlarmWake_answers : Answers s (execRtcAlarmWake s) := .intro fun h => .ite h.keep.wakeBy h

theorem execFieldInputWakeSample_answers {fi} : Answers s (execFieldInputWakeSample fi s) :=
  .intro fun h => .ite (.ite h.gait.wakeBy h.gait) h

theorem execCanWakePattern_answers {n} : Answers s (execCanWakePattern n s) := .intro fun h => .ite h.wakeBy h

theorem execDieTempSample_answers {temp mv} : Answers s (execDieTempSample temp mv s) :=
  .intro fun h => .ite h.measure h

theorem execMovingFilterMoving_answers : Answers s (execMovingFilterMoving s) := .intro fun h => h.pins

theorem execRetainRecordWrite_answers {done mramOk} : Answers s (execRetainRecordWrite done mramOk s) :=
  .intro fun h => h.retainDone

theorem execControlTick_answers : Answers s (execControlTick s) := .intro fun h => h.tick

theorem execFwatchVerdictRead_answers {returned} : Answers s (execFwatchVerdictRead returned s) :=
  .intro fun h => h.tro

theorem execLaneCompletion_answers {l k cyc} : Answers s (execLaneCompletion l k cyc s) :=
  .intro fun h => h.dropIo.completion

theorem execCollectDeadline_answers : Answers s (execCollectDeadline s) := .intro fun h => h.atDeadline

theorem execLaneSafeWrite_answers {l demand} : Answers s (execLaneSafeWrite l demand s) :=
  .intro fun h => h.dropIo.laneSafe

theorem execMboxCommandComplete_answers {inst err resp} : Answers s (execMboxCommandComplete inst err resp s) :=
  .intro fun h => h.boxComplete

theorem execDuplexRoleQuery_answers {inst} : Answers s (execDuplexRoleQuery inst s) :=
  .intro fun h => .serve h fun _ h' => .ite h'.boxDone h'.duplexAnswer

theorem execDuplexRoleSetInhibit_answers {inst} : Answers s (execDuplexRoleSetInhibit inst s) :=
  .intro fun h => .serve h fun _ h' => h'.duplexInhibit

theorem execDuplexRoleClearInhibit_answers {inst} : Answers s (execDuplexRoleClearInhibit inst s) :=
  .intro fun h => .serve h fun _ h' => h'.duplexInhibit

theorem execDuplexYield_answers {inst} : Answers s (execDuplexYield inst s) :=
  .intro fun h => .serve h fun _ h' => h'.duplexYield

theorem execT3ScrubVisit_answers {key u} : Answers s (execT3ScrubVisit key u s) := .intro fun h => h.scrub

theorem execIndDataRead_answers {i page} : Answers s (execIndDataRead i page s) := .intro fun h => h.initRead

theorem execTbNsRead_answers {i} : Answers s (execTbNsRead i s) := .intro fun h => h.initRead

theorem execRxqPop_answers {n q i} : Answers s (execRxqPop n q i s) := .intro fun h => h.initRead

theorem execExpPortRead_answers {i} : Answers s (execExpPortRead i s) := .intro fun h => h.initRead

theorem execBridleTimeout_answers {i addr write} : Answers s (execBridleTimeout i addr write s) :=
  .intro fun h => .ite h (.ite h (.ite h.refuse.laneLoadFault (.ite h h.refuseWrite)))

theorem execGeneralRegisterWrite_answers {i addr bytes vs atomic} :
    Answers s (execGeneralRegisterWrite i addr bytes vs atomic s) :=
  .intro fun h => h.initWrite

theorem execIndDataWrite_answers {i page v} : Answers s (execIndDataWrite i page v s) := .intro fun h => h.put1

theorem execKpValueWrite_answers {i addr v} : Answers s (execKpValueWrite i addr v s) := .intro fun h => h.initWrite

theorem execKeyNWrite_answers {i page v} : Answers s (execKeyNWrite i page v s) := .intro fun h => h.put1

theorem execKeyWrite_answers {i page v} : Answers s (execKeyWrite i page v s) := .intro fun h => h.put1

theorem execKeypairExpiry_answers {page} : Answers s (execKeypairExpiry page s) := .intro fun h => h.kpExpire

theorem execAbWrite_answers {i addr v} : Answers s (execAbWrite i addr v s) := .intro fun h => h.initWrite

theorem execBoundaryApply_answers {page inst} : Answers s (execBoundaryApply page inst s) :=
  .intro fun h => .ite h.boundary h

theorem execApply_answers {i page v} : Answers s (execApply i page v s) := .intro fun h => h.put1

theorem execWmRegisterWrite_answers {i addr v} : Answers s (execWmRegisterWrite i addr v s) :=
  .intro fun h => h.initWrite

theorem execEvrPendW1c_answers {i bank w v} : Answers s (execEvrPendW1c i bank w v s) := .intro fun h => h.put1

theorem execRouteWordWrite_answers {i n v} : Answers s (execRouteWordWrite i n v s) := .intro fun h => h.putTab.put1

theorem execEventOccurrence_answers {n p0 p1 p2 unacked} : Answers s (execEventOccurrence n p0 p1 p2 unacked s) :=
  .intro fun h => .ite h h.occur

theorem execVotedWriteArrival_answers {l addr v} : Answers s (execVotedWriteArrival l addr v s) :=
  .intro fun h => .ite h.laneStore h.laneStore.dropIo

theorem execVotedWriteExecute_answers : Answers s (execVotedWriteExecute s) := .intro fun h => h.vwExecute.reintFollow

theorem execVotedWriteTimeout_answers : Answers s (execVotedWriteTimeout s) := .intro fun h => h.vwTimeout

theorem execBridleRetry_answers {i addr v} : Answers s (execBridleRetry i addr v s) := .intro fun h => by
  split
  · exact h
  · extract_lets s₁
    have h₁ : s₁.Wf := h.sat16.raise
    split
    · exact h₁.initRead
    · exact h₁.initWrite

theorem execSemAcquire_answers {i k} : Answers s (execSemAcquire i k s) := .intro fun h => h.put1

theorem execSemRelease_answers {i k} : Answers s (execSemRelease i k s) := .intro fun h => h.put1

theorem execSemForce_answers {i k} : Answers s (execSemForce i k s) := .intro fun h => h.put1

theorem execMboxDoorbell_answers {i v} : Answers s (execMboxDoorbell i v s) := .intro fun h => h.put1

theorem execMeasOfsHiWrite_answers {i v} : Answers s (execMeasOfsHiWrite i v s) := .intro fun h => h.put1

theorem execLaneInstruction_answers {l r} : Answers s (execLaneInstruction l r s) :=
  .intro fun h => h.laneInstr.reintFollow

theorem execLockstepCompare_answers {l railsOk selfTestFlagged} :
    Answers s (execLockstepCompare l railsOk selfTestFlagged s) :=
  .intro fun h => h.compareWindow.reintFollow

theorem execReintStart_answers {i v} : Answers s (execReintStart i v s) := .intro fun h => h.putPair

theorem execReintAbort_answers {i} : Answers s (execReintAbort i s) := .intro fun h => h.put1

theorem execSplitReq_answers {i l} : Answers s (execSplitReq i l s) := .intro fun h => h.putPair

theorem execFailReq_answers {i l} : Answers s (execFailReq i l s) := .intro fun h => h.putPair

theorem execModeReqRun_answers {i cold} : Answers s (execModeReqRun i cold s) := .intro fun h => h.putPair

theorem execModeReqStop_answers {i} : Answers s (execModeReqStop i s) := .intro fun h => h.putPair

theorem execModeReqHold_answers {i} : Answers s (execModeReqHold i s) := .intro fun h => h.putPair

theorem execOcOpen_answers {i} : Answers s (execOcOpen i s) := .intro fun h => h.putPair

theorem execOcWinWrite_answers {i off v} : Answers s (execOcWinWrite i off v s) := .intro fun h => h.put1

theorem execOcArm_answers {i areas} : Answers s (execOcArm i areas s) :=
  .intro fun h => .ite h.putPair.ocList h.putPair

theorem execOcAbort_answers {i} : Answers s (execOcAbort i s) := .intro fun h => h.put1

theorem execForceWrite_answers {i sig word v} : Answers s (execForceWrite i sig word v s) :=
  .intro fun h => h.putTab.put1

theorem execCamRun_answers {c i v} : Answers s (execCamRun c i v s) := .intro fun h => h.put1

theorem execI2cStart_answers {c i v} : Answers s (execI2cStart c i v s) := .intro fun h => h.put1

theorem execDcsSend_answers {d i v} : Answers s (execDcsSend d i v s) := .intro fun h => h.put1

theorem execCanModeWrite_answers {n i v} : Answers s (execCanModeWrite n i v s) := .intro fun h => h.put1

theorem execCanObjectUpdate_answers {n o i} : Answers s (execCanObjectUpdate n o i s) := .intro fun h => h.putTab

theorem execEvbReq_answers {n i v} : Answers s (execEvbReq n i v s) := .intro fun h => h.put1

theorem execEvbAbort_answers {n i v} : Answers s (execEvbAbort n i v s) := .intro fun h => h.put1

theorem execCanRecover_answers {n i} : Answers s (execCanRecover n i s) := .intro fun h => h.put1

theorem execDsCommit_answers {i v} : Answers s (execDsCommit i v s) := .intro fun h => h.put1

theorem execDmaTailWrite_answers {c i v} : Answers s (execDmaTailWrite c i v s) := .intro fun h => h.put1

theorem execDmaEnable_answers {c i} : Answers s (execDmaEnable c i s) := .intro fun h => h.put1

theorem execDmaDisable_answers {c i} : Answers s (execDmaDisable c i s) := .intro fun h => h.put1

theorem execDmaResume_answers {c i} : Answers s (execDmaResume c i s) := .intro fun h => h.put1

theorem execPcieInboundAccess_answers {bar addr bytes w} : Answers s (execPcieInboundAccess bar addr bytes w s) :=
  .intro fun h => h.pcieInbound.reintFollow

theorem execTackOpAesGcmEncrypt_answers {i v} : Answers s (execTackOpAesGcmEncrypt i v s) :=
  .intro fun h => h.tackStart

theorem execTackOpAesGcmDecrypt_answers {i v} : Answers s (execTackOpAesGcmDecrypt i v s) :=
  .intro fun h => h.tackStart

theorem execTackOpAesCtr_answers {i v} : Answers s (execTackOpAesCtr i v s) := .intro fun h => h.tackStart

theorem execTackOpAesCmac_answers {i v} : Answers s (execTackOpAesCmac i v s) := .intro fun h => h.tackStart

theorem execTackOpSha256_answers {i v} : Answers s (execTackOpSha256 i v s) := .intro fun h => h.tackStart

theorem execTackOpSha384_answers {i v} : Answers s (execTackOpSha384 i v s) := .intro fun h => h.tackStart

theorem execTackOpHmacSha256_answers {i v} : Answers s (execTackOpHmacSha256 i v s) := .intro fun h => h.tackStart

theorem execTackOpHmacSha384_answers {i v} : Answers s (execTackOpHmacSha384 i v s) := .intro fun h => h.tackStart

theorem execTackOpEcdsaSignP256_answers {i v} : Answers s (execTackOpEcdsaSignP256 i v s) :=
  .intro fun h => h.tackStart

theorem execTackOpEcdsaSignP384_answers {i v} : Answers s (execTackOpEcdsaSignP384 i v s) :=
  .intro fun h => h.tackStart

theorem execTackOpEcdsaVerifyP256_answers {i v} : Answers s (execTackOpEcdsaVerifyP256 i v s) :=
  .intro fun h => h.tackStart

theorem execTackOpEcdsaVerifyP384_answers {i v} : Answers s (execTackOpEcdsaVerifyP384 i v s) :=
  .intro fun h => h.tackStart

theorem execTackOpEcdhP256_answers {i v} : Answers s (execTackOpEcdhP256 i v s) := .intro fun h => h.tackStart

theorem execTackOpEcdhP384_answers {i v} : Answers s (execTackOpEcdhP384 i v s) := .intro fun h => h.tackStart

theorem execTackOpHkdf_answers {i v} : Answers s (execTackOpHkdf i v s) := .intro fun h => h.tackStart

theorem execTackOpDrbgGenerate_answers {i v} : Answers s (execTackOpDrbgGenerate i v s) := .intro fun h => h.tackStart

theorem execTackOpGenerateKey_answers {i v} : Answers s (execTackOpGenerateKey i v s) := .intro fun h => h.tackStart

theorem execTackOpImportWrapped_answers {i v} : Answers s (execTackOpImportWrapped i v s) :=
  .intro fun h => h.tackStart

theorem execTackOpExportWrapped_answers {i v} : Answers s (execTackOpExportWrapped i v s) :=
  .intro fun h => h.tackStart

theorem execTackOpDelete_answers {i v} : Answers s (execTackOpDelete i v s) := .intro fun h => h.tackStart

theorem execTackOpImportPlaintext_answers {i v} : Answers s (execTackOpImportPlaintext i v s) :=
  .intro fun h => h.tackStart

theorem execSpookLatchW1c_answers {i v} : Answers s (execSpookLatchW1c i v s) := .intro fun h => h.put1

theorem execAppCodeWrite_answers {i v} : Answers s (execAppCodeWrite i v s) := .intro fun h => h.put1

end

/-- Every command answers a next state, with the queue and the variant as they were, and keeps the invariant. -/
theorem exec_answers (c : Instr) (s : State) : Answers s (exec c s) :=
  match c with
  | .generalRegisterWrite .. => execGeneralRegisterWrite_answers
  | .indDataRead .. => execIndDataRead_answers
  | .indDataWrite .. => execIndDataWrite_answers
  | .kpValueWrite .. => execKpValueWrite_answers
  | .keyNWrite .. => execKeyNWrite_answers
  | .keyWrite .. => execKeyWrite_answers
  | .keypairExpiry .. => execKeypairExpiry_answers
  | .t3ScrubVisit .. => execT3ScrubVisit_answers
  | .abWrite .. => execAbWrite_answers
  | .boundaryApply .. => execBoundaryApply_answers
  | .apply .. => execApply_answers
  | .wmRegisterWrite .. => execWmRegisterWrite_answers
  | .evrPendW1c .. => execEvrPendW1c_answers
  | .routeWordWrite .. => execRouteWordWrite_answers
  | .eventOccurrence .. => execEventOccurrence_answers
  | .votedWriteArrival .. => execVotedWriteArrival_answers
  | .votedWriteExecute => execVotedWriteExecute_answers
  | .votedWriteTimeout => execVotedWriteTimeout_answers
  | .bridleRetry .. => execBridleRetry_answers
  | .bridleTimeout .. => execBridleTimeout_answers
  | .semAcquire .. => execSemAcquire_answers
  | .semRelease .. => execSemRelease_answers
  | .semForce .. => execSemForce_answers
  | .mboxDoorbell .. => execMboxDoorbell_answers
  | .mboxCommandComplete .. => execMboxCommandComplete_answers
  | .ping .. => execPing_answers
  | .getId .. => execGetId_answers
  | .profileSelectStore .. => execProfileSelectStore_answers
  | .profileSelectImmediate .. => execProfileSelectImmediate_answers
  | .profileSelectRevoke .. => execProfileSelectRevoke_answers
  | .profileQuery .. => execProfileQuery_answers
  | .gaitSet .. => execGaitSet_answers
  | .gaitQuery .. => execGaitQuery_answers
  | .bistRun .. => execBistRun_answers
  | .bistResult .. => execBistResult_answers
  | .updOpen .. => execUpdOpen_answers
  | .updWrite .. => execUpdWrite_answers
  | .updVerify .. => execUpdVerify_answers
  | .updActivate .. => execUpdActivate_answers
  | .updConfirm .. => execUpdConfirm_answers
  | .updAbort .. => execUpdAbort_answers
  | .updStatus .. => execUpdStatus_answers
  | .ownerLockQuery .. => execOwnerLockQuery_answers
  | .ownerLockSet .. => execOwnerLockSet_answers
  | .ownerLockClear .. => execOwnerLockClear_answers
  | .recRead .. => execRecRead_answers
  | .recExport .. => execRecExport_answers
  | .recClearStudbook .. => execRecClearStudbook_answers
  | .martingaleSet .. => execMartingaleSet_answers
  | .timeSetWall .. => execTimeSetWall_answers
  | .getChallenge .. => execGetChallenge_answers
  | .submit .. => execSubmit_answers
  | .zeroize .. => execZeroize_answers
  | .duplexRoleQuery .. => execDuplexRoleQuery_answers
  | .duplexRoleSetInhibit .. => execDuplexRoleSetInhibit_answers
  | .duplexRoleClearInhibit .. => execDuplexRoleClearInhibit_answers
  | .duplexYield .. => execDuplexYield_answers
  | .restartWarm .. => execRestartWarm_answers
  | .restartCold .. => execRestartCold_answers
  | .powerOnReset .. => execPowerOnReset_answers
  | .bootPhaseOverrun .. => execBootPhaseOverrun_answers
  | .faultReset => execFaultReset_answers
  | .mgmtWatchdogReset => execMgmtWatchdogReset_answers
  | .logicLow .. => execLogicLow_answers
  | .logicInInterruption => execLogicInInterruption_answers
  | .logicInReturn .. => execLogicInReturn_answers
  | .powerFail => execPowerFail_answers
  | .powerFailReset .. => execPowerFailReset_answers
  | .holdupCharged => execHoldupCharged_answers
  | .safeNFilterExpiry .. => execSafeNFilterExpiry_answers
  | .movingFilterMoving => execMovingFilterMoving_answers
  | .movingFilterStationary => execMovingFilterStationary_answers
  | .wakeNWake => execWakeNWake_answers
  | .roleInChange .. => execRoleInChange_answers
  | .ppsIn .. => execPpsIn_answers
  | .secondMark => execSecondMark_answers
  | .tbWrap => execTbWrap_answers
  | .tbNsRead .. => execTbNsRead_answers
  | .measOfsHiWrite .. => execMeasOfsHiWrite_answers
  | .tbMeasurement .. => execTbMeasurement_answers
  | .refSourceTimeout .. => execRefSourceTimeout_answers
  | .monoTimeSave => execMonoTimeSave_answers
  | .tbCapture .. => execTbCapture_answers
  | .controlTick => execControlTick_answers
  | .fwatchVerdictRead .. => execFwatchVerdictRead_answers
  | .laneCompletion .. => execLaneCompletion_answers
  | .collectDeadline => execCollectDeadline_answers
  | .laneSafeWrite .. => execLaneSafeWrite_answers
  | .reintStart .. => execReintStart_answers
  | .reintAbort .. => execReintAbort_answers
  | .autoReintStart .. => execAutoReintStart_answers
  | .reintResetDone => execReintResetDone_answers
  | .laneBootDone .. => execLaneBootDone_answers
  | .laneBootTimeout .. => execLaneBootTimeout_answers
  | .reintCopyPassDone .. => execReintCopyPassDone_answers
  | .syncTimeout => execSyncTimeout_answers
  | .laneInstruction .. => execLaneInstruction_answers
  | .laneWindowFull .. => execLaneWindowFull_answers
  | .lockstepCompare .. => execLockstepCompare_answers
  | .laneSramScrub .. => execLaneSramScrub_answers
  | .laneClockCheck .. => execLaneClockCheck_answers
  | .splitReq .. => execSplitReq_answers
  | .failReq .. => execFailReq_answers
  | .debugRequest _ a => execDebugRequest_answers (a := a)
  | .modeReqRun .. => execModeReqRun_answers
  | .modeReqStop .. => execModeReqStop_answers
  | .modeReqHold .. => execModeReqHold_answers
  | .programStart => execProgramStart_answers
  | .holdTimeout => execHoldTimeout_answers
  | .retainRecordWrite .. => execRetainRecordWrite_answers
  | .ocOpen .. => execOcOpen_answers
  | .ocWinWrite .. => execOcWinWrite_answers
  | .ocArm .. => execOcArm_answers
  | .ocAbort .. => execOcAbort_answers
  | .ocCheckDone .. => execOcCheckDone_answers
  | .forceWrite .. => execForceWrite_answers
  | .stationLost .. => execStationLost_answers
  | .mapCrcCheck .. => execMapCrcCheck_answers
  | .isoLinkFrame .. => execIsoLinkFrame_answers
  | .fieldSideLinkTimeout => execFieldSideLinkTimeout_answers
  | .linkSyncTimeout => execLinkSyncTimeout_answers
  | .couplerCheckDone .. => execCouplerCheckDone_answers
  | .inputSample .. => execInputSample_answers
  | .fieldCounterEdge .. => execFieldCounterEdge_answers
  | .foShort .. => execFoShort_answers
  | .foOvertemp .. => execFoOvertemp_answers
  | .foOpenLoad .. => execFoOpenLoad_answers
  | .foReadback .. => execFoReadback_answers
  | .outputSwitchOff .. => execOutputSwitchOff_answers
  | .fieldWarn .. => execFieldWarn_answers
  | .fieldNormal .. => execFieldNormal_answers
  | .fieldSag .. => execFieldSag_answers
  | .fieldLost .. => execFieldLost_answers
  | .fieldOk .. => execFieldOk_answers
  | .ilkCrcCheck => execIlkCrcCheck_answers
  | .camRun .. => execCamRun_answers
  | .camLinkTrained .. => execCamLinkTrained_answers
  | .camLinkTrainTimeout .. => execCamLinkTrainTimeout_answers
  | .camLinkLost .. => execCamLinkLost_answers
  | .camPacket .. => execCamPacket_answers
  | .camFrameStart .. => execCamFrameStart_answers
  | .camLineArrival .. => execCamLineArrival_answers
  | .camFrameEnd _ frameNo => execCamFrameEnd_answers (frameNo := frameNo)
  | .camFrameStartMissing .. => execCamFrameStartMissing_answers
  | .cameraSyncStrobe .. => execCameraSyncStrobe_answers
  | .i2cStart .. => execI2cStart_answers
  | .i2cDone .. => execI2cDone_answers
  | .pcommit .. => execPcommit_answers
  | .viewFrameStart .. => execViewFrameStart_answers
  | .dspEnable .. => execDspEnable_answers
  | .dspLinkTrained .. => execDspLinkTrained_answers
  | .dspTrainTimeout .. => execDspTrainTimeout_answers
  | .dspLinkLost .. => execDspLinkLost_answers
  | .displayFrameStart .. => execDisplayFrameStart_answers
  | .dcsSend .. => execDcsSend_answers
  | .dcsSent .. => execDcsSent_answers
  | .offsetComputeDone .. => execOffsetComputeDone_answers
  | .refOutEmission .. => execRefOutEmission_answers
  | .dofsChange .. => execDofsChange_answers
  | .metadataLineCheck .. => execMetadataLineCheck_answers
  | .displayReportReceived .. => execDisplayReportReceived_answers
  | .reportJudgement .. => execReportJudgement_answers
  | .fwatchRelease .. => execFwatchRelease_answers
  | .canModeWrite .. => execCanModeWrite_answers
  | .canIntegrated .. => execCanIntegrated_answers
  | .canFrameReceived .. => execCanFrameReceived_answers
  | .rxqPop .. => execRxqPop_answers
  | .canObjectUpdate .. => execCanObjectUpdate_answers
  | .evbReq .. => execEvbReq_answers
  | .evbAbort .. => execEvbAbort_answers
  | .canTxDone .. => execCanTxDone_answers
  | .canFrameError .. => execCanFrameError_answers
  | .canRecover .. => execCanRecover_answers
  | .canBusoffRecovered .. => execCanBusoffRecovered_answers
  | .canReferenceReceived .. => execCanReferenceReceived_answers
  | .canReferenceMissing .. => execCanReferenceMissing_answers
  | .canMasterReferenceSend .. => execCanMasterReferenceSend_answers
  | .canBackupReferenceSend .. => execCanBackupReferenceSend_answers
  | .canInitWatchExpiry .. => execCanInitWatchExpiry_answers
  | .canExclusiveWindow .. => execCanExclusiveWindow_answers
  | .canArbitratingWindow .. => execCanArbitratingWindow_answers
  | .canWakePattern .. => execCanWakePattern_answers
  | .mvbFrameReceived .. => execMvbFrameReceived_answers
  | .mvbBasicPeriod => execMvbBasicPeriod_answers
  | .mvbPollMiss .. => execMvbPollMiss_answers
  | .mvbSilenceExpiry => execMvbSilenceExpiry_answers
  | .mvbCollisionReset => execMvbCollisionReset_answers
  | .ethFrameReceived .. => execEthFrameReceived_answers
  | .ethLink .. => execEthLink_answers
  | .ethAddressAgeing .. => execEthAddressAgeing_answers
  | .ethGateChange .. => execEthGateChange_answers
  | .dsCommit .. => execDsCommit_answers
  | .outSeqWrite .. => execOutSeqWrite_answers
  | .dmaTailWrite .. => execDmaTailWrite_answers
  | .dmaEnable .. => execDmaEnable_answers
  | .dmaDisable .. => execDmaDisable_answers
  | .dmaResume .. => execDmaResume_answers
  | .dmaDescriptorDone .. => execDmaDescriptorDone_answers
  | .pcieInboundAccess .. => execPcieInboundAccess_answers
  | .pcieLinkDown => execPcieLinkDown_answers
  | .pcieLinkUp .. => execPcieLinkUp_answers
  | .xlinkFrameSend => execXlinkFrameSend_answers
  | .xlinkFrameReceived .. => execXlinkFrameReceived_answers
  | .ethHeartbeatReceived .. => execEthHeartbeatReceived_answers
  | .xlinkUp => execXlinkUp_answers
  | .xlinkDown => execXlinkDown_answers
  | .roleHoldTimeout => execRoleHoldTimeout_answers
  | .laneRotation => execLaneRotation_answers
  | .farrierBlockDone .. => execFarrierBlockDone_answers
  | .farrierPrecheckRetry .. => execFarrierPrecheckRetry_answers
  | .tackOpAesGcmEncrypt .. => execTackOpAesGcmEncrypt_answers
  | .tackOpAesGcmDecrypt .. => execTackOpAesGcmDecrypt_answers
  | .tackOpAesCtr .. => execTackOpAesCtr_answers
  | .tackOpAesCmac .. => execTackOpAesCmac_answers
  | .tackOpSha256 .. => execTackOpSha256_answers
  | .tackOpSha384 .. => execTackOpSha384_answers
  | .tackOpHmacSha256 .. => execTackOpHmacSha256_answers
  | .tackOpHmacSha384 .. => execTackOpHmacSha384_answers
  | .tackOpEcdsaSignP256 .. => execTackOpEcdsaSignP256_answers
  | .tackOpEcdsaSignP384 .. => execTackOpEcdsaSignP384_answers
  | .tackOpEcdsaVerifyP256 .. => execTackOpEcdsaVerifyP256_answers
  | .tackOpEcdsaVerifyP384 .. => execTackOpEcdsaVerifyP384_answers
  | .tackOpEcdhP256 .. => execTackOpEcdhP256_answers
  | .tackOpEcdhP384 .. => execTackOpEcdhP384_answers
  | .tackOpHkdf .. => execTackOpHkdf_answers
  | .tackOpDrbgGenerate .. => execTackOpDrbgGenerate_answers
  | .tackOpGenerateKey .. => execTackOpGenerateKey_answers
  | .tackOpImportWrapped .. => execTackOpImportWrapped_answers
  | .tackOpExportWrapped .. => execTackOpExportWrapped_answers
  | .tackOpDelete .. => execTackOpDelete_answers
  | .tackOpImportPlaintext .. => execTackOpImportPlaintext_answers
  | .tackOpDone .. => execTackOpDone_answers
  | .drbgReseed .. => execDrbgReseed_answers
  | .spookTrigger .. => execSpookTrigger_answers
  | .spookLatchW1c .. => execSpookLatchW1c_answers
  | .otpRecheck .. => execOtpRecheck_answers
  | .debugChallengeExpiry => execDebugChallengeExpiry_answers
  | .updSessionTimeout => execUpdSessionTimeout_answers
  | .updServicePause .. => execUpdServicePause_answers
  | .recordAccept .. => execRecordAccept_answers
  | .appCodeWrite .. => execAppCodeWrite_answers
  | .martingaleRefill => execMartingaleRefill_answers
  | .martingaleSecondEnd => execMartingaleSecondEnd_answers
  | .recFlush .. => execRecFlush_answers
  | .recFlushInterval => execRecFlushInterval_answers
  | .expPortRead .. => execExpPortRead_answers
  | .recExportTimeout => execRecExportTimeout_answers
  | .mramRefresh .. => execMramRefresh_answers
  | .gaitTransitionStart => execGaitTransitionStart_answers
  | .gaitExit .. => execGaitExit_answers
  | .rtcAlarmWake => execRtcAlarmWake_answers
  | .fieldInputWakeSample .. => execFieldInputWakeSample_answers
  | .dieTempSample .. => execDieTempSample_answers
  | .farrierPreconditionFail .. => execFarrierPreconditionFail_answers
  | .foDriverCooled .. => execFoDriverCooled_answers
  | .usbVbusChange .. => execUsbVbusChange_answers
  | .romRecoveryImage .. => execRomRecoveryImage_answers
  | .displayLineEmission .. => execDisplayLineEmission_answers
  | .pcieCompletionTimeout .. => execPcieCompletionTimeout_answers

theorem Answers.completes {c : Instr} {s : State} (h : Answers s (exec c s)) :
    Completes c s fun t => t.pending = s.pending ∧ t.variant = s.variant := by
  obtain ⟨t, next, _⟩ := h
  exact ⟨_, next, rfl, rfl⟩

theorem Answers.wf_next {s t : State} {o : Host.Outcome State Fault Refusal} (h : Answers s o) (hs : s.Wf)
    (next : o = .next t) : t.Wf := by
  obtain ⟨u, answered, keeps⟩ := h
  rw [answered, answer] at next
  cases next
  exact (keeps hs).frame

/-- The command at the front of the queue, or one clock cycle where none waits, keeps the invariant. -/
theorem step_keeps_wf {s t : State} (h : s.Wf) (next : step s = .next t) : t.Wf := by
  unfold step at next
  split at next
  · cases next
    exact h.tbCycle
  · next c q _ =>
    exact (exec_answers c (s.withPending q)).wf_next h.withPending next

end Sys2Proof.Machine

open Sys2Proof.Machine

/-- Settles O2: every arm of the dispatch is an answer, which puts the queue and the variant back. -/
theorem everyCommandKeepsQueueAndVariant : Obligations.EveryCommandKeepsQueueAndVariant := by
  unfold Obligations.EveryCommandKeepsQueueAndVariant
  exact fun c s => (exec_answers c s).completes

/-- Settles O5: each arm of the dispatch, and the clock cycle, is built of functions that keep the invariant. -/
theorem everyStepKeepsInvariant : Obligations.EveryStepKeepsInvariant := by
  unfold Obligations.EveryStepKeepsInvariant
  intro s t inv next
  exact State.wf_iff_inv.1 (step_keeps_wf (State.wf_iff_inv.2 inv) next)
end

section
set_option Elab.async false -- one proof after the other: each further worker thread takes its stack from the check's memory
/-! SUPPORT. What an operation leaves as it was: registers beside a set of words, the pending bits of the headers, and the fields
of the state that no unit of the control and the data plane holds. -/

namespace Sys2Proof.Machine

variable {Q R : Nat → Prop} {s t u : State}

/-! ### Pending bits -/

theorem all_ite_some {α : Type} {c : Prop} {_ : Decidable c} {x : α} {r : Option α} {q : α → Bool} (hr : r.all q = true)
    (hx : c → q x = true) : (if c then some x else r).all q = true := by
  split
  · next hc => exact hx hc
  · exact hr

/-- The page that carries an event is not the router's own, and its bit lies in EVT_PEND. -/
theorem evHome_bounds {n p b : Nat} (h : evHome n = some (p, b)) : p ≠ 0x02 ∧ b < 32 := by
  have all : (evHome n).all (fun x => decide (x.1 ≠ 0x02 ∧ x.2 < 32)) = true := by
    unfold evHome
    repeat refine all_ite_some ?_ fun _ => decide_eq_true (by omega)
    rfl
  rw [h] at all
  exact of_decide_eq_true all

theorem rb_wr_ne {p o p' o' i : Nat} {v : Word} (h : rk p o ≠ rk p' o') : (s.wr p o v).rb p' o' i = s.rb p' o' i := by
  rw [State.rb, rd_wr_ne _ _ _ _ _ _ h, State.rb]

theorem rb_wrBit_ne {p o p' o' i j : Nat} {b : Bool} (h : rk p o ≠ rk p' o') : (s.wrBit p o i b).rb p' o' j = s.rb p' o' j :=
  rb_wr_ne h

/-- Setting a bit clears none. -/
theorem rb_wrBit_true {p o p' o' i j : Nat} (hi : i < 32) (h : s.rb p' o' j = true) : (s.wrBit p o i true).rb p' o' j = true := by
  by_cases e : rk p o = rk p' o'
  · rw [State.rb, State.rd, key_wrBit, if_pos e]
    by_cases ej : j = i
    · rw [ej]; exact bit_setBit_self _ _ _ hi
    · rw [bit_setBit_ne _ _ _ _ hi ej, State.rd, e]; exact h
  · rw [rb_wrBit_ne e]; exact h

theorem rb_route {n p o i : Nat} {p0 p1 p2 : Word} (hn : n < 256) (hp : p ≠ 0x02) (ho : o < 0x20000) :
    (s.route n p0 p1 p2).rb p o i = s.rb p o i := by
  rw [State.rb, State.rd, key_route _ _ _ _ _ _ (by rw [rk_page _ _ ho]; exact hp) hn, State.rb, State.rd]

theorem lt_of_not_evReserved {n : Nat} (h : ¬evReserved n = true) : n < 256 := by
  simp only [evReserved, Bool.or_eq_true, decide_eq_true_eq, not_or] at h
  omega

/-- An occurrence clears no pending bit. -/
theorem rb_occur_pend {n p i : Nat} {p0 p1 p2 : Word} (hp : p ≠ 0x02) (h : s.rb p 0x18 i = true) :
    (s.occur n p0 p1 p2).rb p 0x18 i = true := by
  unfold State.occur
  split
  · exact h
  · next hr =>
    have hn := lt_of_not_evReserved hr
    split
    · rw [rb_route hn hp (by decide)]; exact h
    · next home =>
      have hb := (evHome_bounds home).2
      unfold State.raiseAt
      split
      · exact h
      · split
        · rw [rb_route hn hp (by decide)]; exact rb_wrBit_true hb h
        · exact rb_wrBit_true hb h

/-- A raised event is pending on its unit's page. -/
theorem rb_raise_self {n p b : Nat} {p0 p1 p2 : Word} (home : evHome n = some (p, b)) (hr : evReserved n = false)
    (fitted : pageAbsent s.variant p = false) : (s.raise n p0 p1 p2).rb p 0x18 b = true := by
  have hn : n < 256 := lt_of_not_evReserved (by simp [hr])
  obtain ⟨hp, hb⟩ := evHome_bounds home
  have set : (s.wrBit p 0x18 b true).rb p 0x18 b = true := rb_wrBit_self _ _ _ _ _ hb
  unfold State.raise State.occur
  simp only [hr, home, State.raiseAt, fitted, Bool.false_eq_true, if_false]
  split
  · rw [rb_route hn hp (by decide)]; exact set
  · exact set

/-! ### Registers -/

/-- Beside the words of `Q`, the pending bits and the router's page every register and table word reads as before, and no pending
bit of another page is cleared. -/
structure SameBut (Q : Nat → Prop) (s t : State) : Prop where
  key : ∀ k, keyPage k ≠ 0x02 → (∀ p, k ≠ rk p 0x18) → ¬Q k → t.key k = s.key k
  pend : ∀ p i, p ≠ 0x02 → ¬Q (rk p 0x18) → s.rb p 0x18 i = true → t.rb p 0x18 i = true

theorem SameBut.refl : SameBut Q s s := ⟨fun _ _ _ _ => rfl, fun _ _ _ _ h => h⟩

theorem SameBut.trans (h : SameBut Q s t) (g : SameBut Q t u) : SameBut Q s u :=
  ⟨fun k h2 hp hq => (g.key k h2 hp hq).trans (h.key k h2 hp hq), fun p i h2 hq e => g.pend p i h2 hq (h.pend p i h2 hq e)⟩

theorem SameBut.mono (h : SameBut Q s t) (sub : ∀ k, Q k → R k) : SameBut R s t :=
  ⟨fun k h2 hp hr => h.key k h2 hp (fun hq => hr (sub k hq)), fun p i h2 hr => h.pend p i h2 (fun hq => hr (sub _ hq))⟩

/-- A state with the same registers. -/
theorem SameBut.regs (h : SameBut Q s t) (e : u.regs = t.regs := by rfl) : SameBut Q s u := by
  refine ⟨fun k h2 hp hq => (key_congr e k).trans (h.key k h2 hp hq), fun p i h2 hq hi => ?_⟩
  rw [State.rb, rd_congr e]
  exact h.pend p i h2 hq hi

theorem SameBut.setKey {k : Nat} {v : Word} (h : SameBut Q s t) (hk : Q k) : SameBut Q s (t.setKey k v) := by
  refine ⟨fun j h2 hp hq => ?_, fun p i h2 hq hi => ?_⟩
  · rw [key_setKey, if_neg (fun e => hq (by rw [← e]; exact hk)), h.key j h2 hp hq]
  · rw [State.rb, State.rd, key_setKey, if_neg (fun e => hq (by rw [← e]; exact hk))]
    exact h.pend p i h2 hq hi

theorem SameBut.occur {n : Nat} {p0 p1 p2 : Word} (h : SameBut Q s t) : SameBut Q s (t.occur n p0 p1 p2) :=
  ⟨fun k h2 hp hq => (key_occur _ _ _ _ _ k h2 hp).trans (h.key k h2 hp hq),
    fun p i h2 hq hi => rb_occur_pend h2 (h.pend p i h2 hq hi)⟩

theorem SameBut.raise {n : Nat} {p0 p1 p2 : Word} (h : SameBut Q s t) : SameBut Q s (t.raise n p0 p1 p2) := h.occur

theorem SameBut.wr {p o : Nat} {v : Word} (h : SameBut Q s t) (hq : Q (rk p o) := by decide) : SameBut Q s (t.wr p o v) :=
  h.setKey hq

theorem SameBut.wrFld {p o lo n x : Nat} (h : SameBut Q s t) (hq : Q (rk p o) := by decide) : SameBut Q s (t.wrFld p o lo n x) :=
  h.wr hq

theorem SameBut.wrBit {p o i : Nat} {b : Bool} (h : SameBut Q s t) (hq : Q (rk p o) := by decide) : SameBut Q s (t.wrBit p o i b) :=
  h.wr hq

theorem SameBut.ite {c : Prop} {_ : Decidable c} {a b : State} (ha : SameBut Q s a) (hb : SameBut Q s b) :
    SameBut Q s (if c then a else b) := by
  split
  · exact ha
  · exact hb

theorem SameBut.when {c : Bool} {f : State → State} (h : SameBut Q s t) (hf : ∀ x, SameBut Q s x → SameBut Q s (f x)) :
    SameBut Q s (t.when c f) := .ite (hf t h) h

theorem SameBut.foldl {α : Type} {f : State → α → State} {l : List α} (h : SameBut Q s t)
    (hf : ∀ x ∈ l, ∀ y, SameBut Q s y → SameBut Q s (f y x)) : SameBut Q s (l.foldl f t) := by
  induction l generalizing t with
  | nil => exact h
  | cons a l ih => exact ih (hf a List.mem_cons_self t h) fun x hx => hf x (List.mem_cons_of_mem a hx)

theorem SameBut.rd {p o : Nat} (h : SameBut Q s t) (hp : p ≠ 0x02 := by decide) (ho : o ≠ 0x18 := by decide)
    (hl : o < 0x20000 := by decide) (hq : ¬Q (rk p o) := by decide) : t.rd p o = s.rd p o :=
  h.key _ (by rw [rk_page _ _ hl]; exact hp) (fun q e => by unfold rk at e; omega) hq

theorem SameBut.rf {p o lo n : Nat} (h : SameBut Q s t) (hp : p ≠ 0x02 := by decide) (ho : o ≠ 0x18 := by decide)
    (hl : o < 0x20000 := by decide) (hq : ¬Q (rk p o) := by decide) : t.rf p o lo n = s.rf p o lo n := by
  rw [State.rf, h.rd hp ho hl hq, State.rf]

theorem SameBut.rb {p o i : Nat} (h : SameBut Q s t) (hp : p ≠ 0x02 := by decide) (ho : o ≠ 0x18 := by decide)
    (hl : o < 0x20000 := by decide) (hq : ¬Q (rk p o) := by decide) : t.rb p o i = s.rb p o i := by
  rw [State.rb, h.rd hp ho hl hq, State.rb]

/-! ### Registers and the fields behind the pins, what is kept without power, the time and the gait -/

/-- `SameBut`, with the pins, what is kept without power, the time base's and the power ladder's state as before. -/
structure Kept (Q : Nat → Prop) (s t : State) : Prop extends SameBut Q s t where
  pins : t.pins = s.pins
  keep : t.keep = s.keep
  tb : t.tb = s.tb
  gait : t.gait = s.gait

theorem Kept.refl : Kept Q s s := ⟨.refl, rfl, rfl, rfl, rfl⟩

theorem Kept.trans (h : Kept Q s t) (g : Kept Q t u) : Kept Q s u :=
  ⟨h.toSameBut.trans g.toSameBut, g.pins.trans h.pins, g.keep.trans h.keep, g.tb.trans h.tb, g.gait.trans h.gait⟩

theorem Kept.mono (h : Kept Q s t) (sub : ∀ k, Q k → R k) : Kept R s t :=
  ⟨h.toSameBut.mono sub, h.pins, h.keep, h.tb, h.gait⟩

/-- A state that agrees with one that is kept in every field that `Kept` speaks of. -/
theorem Kept.frame (h : Kept Q s t) (regs : u.regs = t.regs := by rfl) (pins : u.pins = t.pins := by rfl)
    (keep : u.keep = t.keep := by rfl) (tb : u.tb = t.tb := by rfl) (gait : u.gait = t.gait := by rfl) : Kept Q s u :=
  ⟨h.toSameBut.regs regs, pins.trans h.pins, keep.trans h.keep, tb.trans h.tb, gait.trans h.gait⟩

/-- What changes registers and the inlet queue alone keeps the fields. -/
theorem Kept.registers (h : Kept Q s t) (only : OnlyRegsInlet t u) (same : SameBut Q s u) : Kept Q s u :=
  ⟨same, only.pins_eq.trans h.pins, only.keep_eq.trans h.keep, only.tb_eq.trans h.tb, only.gait_eq.trans h.gait⟩

theorem Kept.setKey {k : Nat} {v : Word} (h : Kept Q s t) (hk : Q k) : Kept Q s (t.setKey k v) :=
  h.registers (onlyRegsInlet_setKey t k v) (h.toSameBut.setKey hk)

theorem Kept.raise {n : Nat} {p0 p1 p2 : Word} (h : Kept Q s t) : Kept Q s (t.raise n p0 p1 p2) :=
  h.registers (onlyRegsInlet_raise t n p0 p1 p2) h.toSameBut.raise

theorem Kept.wr {p o : Nat} {v : Word} (h : Kept Q s t) (hq : Q (rk p o) := by decide) : Kept Q s (t.wr p o v) := h.setKey hq

theorem Kept.setTab {p o : Nat} {v : Word} (h : Kept Q s t) (hq : Q (tk p o) := by decide) : Kept Q s (t.setTab p o v) := h.setKey hq

theorem Kept.wrFld {p o lo n x : Nat} (h : Kept Q s t) (hq : Q (rk p o) := by decide) : Kept Q s (t.wrFld p o lo n x) := h.wr hq

theorem Kept.wrBit {p o i : Nat} {b : Bool} (h : Kept Q s t) (hq : Q (rk p o) := by decide) : Kept Q s (t.wrBit p o i b) := h.wr hq

theorem Kept.sat16 {p o : Nat} (h : Kept Q s t) (hq : Q (rk p o) := by decide) : Kept Q s (t.sat16 p o) := h.wrFld hq

theorem Kept.setT3 {k : Nat} {v : Word} (h : Kept Q s t) (hk : Q k) : Kept Q s (t.setT3 k v) := (h.setKey hk).frame

theorem Kept.ite {c : Prop} {_ : Decidable c} {a b : State} (ha : Kept Q s a) (hb : Kept Q s b) : Kept Q s (if c then a else b) := by
  split
  · exact ha
  · exact hb

theorem Kept.when {c : Bool} {f : State → State} (h : Kept Q s t) (hf : ∀ x, Kept Q s x → Kept Q s (f x)) :
    Kept Q s (t.when c f) := .ite (hf t h) h

theorem Kept.foldl {α : Type} {f : State → α → State} {l : List α} (h : Kept Q s t)
    (hf : ∀ x ∈ l, ∀ y, Kept Q s y → Kept Q s (f y x)) : Kept Q s (l.foldl f t) := by
  induction l generalizing t with
  | nil => exact h
  | cons a l ih => exact ih (hf a List.mem_cons_self t h) fun x hx => hf x (List.mem_cons_of_mem a hx)

theorem Kept.setByte {a : Nat} {b : Byte} (h : Kept Q s t) : Kept Q s (t.setByte a b) := h.frame

theorem Kept.setBytes {a : Nat} {bs : List Byte} (h : Kept Q s t) : Kept Q s (t.setBytes a bs) := by
  induction bs generalizing t a with
  | nil => exact h
  | cons b bs ih => exact ih h.setByte

theorem Kept.setImage {id w : Nat} {v : DWord} (h : Kept Q s t) : Kept Q s (t.setImage id w v) := h.frame

theorem Kept.clearImage {id : Nat} (h : Kept Q s t) : Kept Q s (t.clearImage id) := h.frame

theorem Kept.putImage {id : Nat} {l : List (Nat × DWord)} (h : Kept Q s t) : Kept Q s (t.putImage id l) :=
  .foldl h fun _ _ _ h' => h'.setImage

theorem Kept.copyImage {a b : Nat} (h : Kept Q s t) : Kept Q s (t.copyImage a b) := h.clearImage.putImage

/-! ### Interlock table, command register and safe-state latch -/

/-- The words of the field I/O board and of the interlock table. -/
abbrev FieldWords (k : Nat) : Prop := keyPage k = 0x0B ∨ keyPage k = 0x0C
/-- These, with the voter's page. -/
abbrev SafeWords (k : Nat) : Prop := keyPage k = 0x07 ∨ FieldWords k

/-- The table has 64 entries. -/
theorem firing_lt {e : Nat} (h : e ∈ s.firing) : e < 64 := by
  obtain ⟨c, hc, rfl⟩ := List.mem_map.1 (List.mem_filter.1 h).1
  have := (List.mem_filter.1 hc).2
  simp only [Bool.and_eq_true, decide_eq_true_eq] at this
  omega

theorem fieldWords_tk {p o : Nat} (hp : p = 0x0B ∨ p = 0x0C) (ho : o < 0x10000) : FieldWords (tk p o) := by
  rw [FieldWords, tk_page _ _ ho]; exact hp

theorem evalIlk_kept : Kept FieldWords s s.evalIlk := by
  unfold State.evalIlk
  extract_lets f fresh _ _ masks s₁ s₂ s₃
  have h₁ : Kept FieldWords s s₁ := Kept.refl.wr.wr
  have h₂ : Kept FieldWords s s₂ := h₁.wr
  have h₃ : Kept FieldWords s s₃ := h₂.foldl fun x hx y h' => by
    obtain ⟨e, he, rfl⟩ := List.mem_map.1 hx
    have lt : e < 64 := firing_lt (List.mem_filter.1 he).1
    exact ((h'.setTab (fieldWords_tk (.inr rfl) (by omega))).setTab (fieldWords_tk (.inr rfl) (by omega))).wr
  clear_value masks
  split
  · exact h₃
  · exact h₃.raise

/-- The table evaluated and the command register updated: words of the field I/O board and of the table. -/
theorem refresh_kept : Kept FieldWords s s.refresh := by
  unfold State.refresh
  extract_lets s₁ s₂ _
  have h₁ : Kept FieldWords s s₁ := evalIlk_kept
  have h₂ : Kept FieldWords s s₂ := h₁.wr.wr
  exact .ite .refl h₂.frame

theorem Kept.refresh (h : Kept Q s t) (hQ : ∀ k, FieldWords k → Q k) : Kept Q s t.refresh := h.trans (refresh_kept.mono hQ)

theorem Kept.substitute {src : Nat} (h : Kept Q s t) : Kept Q s (t.substitute src) := h.clearImage.putImage.putImage.setImage

theorem Kept.limpEnd {was : Bool} (h : Kept SafeWords s t) : Kept SafeWords s (t.limpEnd was) :=
  .ite (h.substitute.refresh fun _ => .inr) h

theorem Kept.safeCause {c : Nat} (h : Kept SafeWords s t) : Kept SafeWords s (t.safeCause c) := by
  unfold State.safeCause
  exact .ite h.wrBit.limpEnd
    (.refresh (.when h.wrBit.wr.sat16.raise.copyImage.substitute fun _ h' => h'.frame) fun _ => .inr)

theorem Kept.lineCauses (h : Kept SafeWords s t) : Kept SafeWords s t.lineCauses := by
  unfold State.lineCauses
  extract_lets s₁ s₂ s₃ s₄
  have h₁ : Kept SafeWords s s₁ := .when h fun _ h' => h'.frame
  have h₂ : Kept SafeWords s s₂ := .when h₁ fun _ h' => h'.safeCause
  have h₃ : Kept SafeWords s s₃ := .when h₂ fun _ h' => h'.safeCause
  have h₄ : Kept SafeWords s s₄ := .when h₃ fun _ h' => h'.safeCause
  exact .when h₄ fun _ h' => h'.safeCause

end Sys2Proof.Machine
end

section
set_option Elab.async false -- one proof after the other: each further worker thread takes its stack from the check's memory
/-! SUPPORT. What the units of the control and the data plane leave as it was: the pending events of SYS, every word of the power
ladder, the pins, what is kept without power, the time and the gait. -/

namespace Sys2Proof.Machine

variable {s t : State}

/-- Every word but those of the power ladder and EVT_PEND of SYS. -/
abbrev UnitWords (k : Nat) : Prop := keyPage k ≠ 0x72 ∧ k ≠ rk 0x00 0x18

theorem unitWords_key {k : Nat} (h0 : keyPage k ≠ 0x00) (h72 : keyPage k ≠ 0x72) : UnitWords k :=
  ⟨h72, fun e => h0 (by rw [e]; rfl)⟩

theorem unitWords_rk {p o : Nat} (hp : p ≠ 0x00 ∧ p ≠ 0x72) (ho : o < 0x20000 := by decide) : UnitWords (rk p o) :=
  unitWords_key (by rw [rk_page _ _ ho]; exact hp.1) (by rw [rk_page _ _ ho]; exact hp.2)

theorem unitWords_cam {c o : Nat} (hc : c < 8) (ho : o < 0x20000 := by decide) : UnitWords (rk (camPage c) o) :=
  unitWords_rk (by unfold camPage; omega) ho

theorem unitWords_view {v o : Nat} (hv : v < 6) (ho : o < 0x20000 := by decide) : UnitWords (rk (viewPage v) o) :=
  unitWords_rk (by unfold viewPage; omega) ho

theorem unitWords_dsp {d o : Nat} (hd : d < 6) (ho : o < 0x20000 := by decide) : UnitWords (rk (dspPage d) o) :=
  unitWords_rk (by unfold dspPage; omega) ho

theorem unitWords_can {n o : Nat} (hn : n < 6) (ho : o < 0x20000 := by decide) : UnitWords (rk (canPage n) o) :=
  unitWords_rk (by unfold canPage; omega) ho

theorem unitWords_watch {v o : Nat} (hv : v < 6) (ho : o < 0x40 := by decide) : UnitWords (rk 0x49 (fwOff v o)) :=
  unitWords_rk (by decide) (by unfold fwOff; omega)

theorem unitWords_dma {c o : Nat} (hc : c < 8) (ho : o < 0x20 := by decide) : UnitWords (rk 0x22 (dmaOff c o)) :=
  unitWords_rk (by decide) (by unfold dmaOff; omega)

theorem unitWords_safe : ∀ k, SafeWords k → UnitWords k := by
  rintro k (h | h | h) <;> exact unitWords_key (by omega) (by omega)

theorem unitWords_field : ∀ k, FieldWords k → UnitWords k := fun k h => unitWords_safe k (.inr h)

/-! ### Shadows -/

theorem Kept.takeShadows {p : Nat} {sel : Nat → Bool} (h : Kept UnitWords s t) (hp : p ≠ 0x00 ∧ p ≠ 0x72) :
    Kept UnitWords s (t.takeShadows p sel) := by
  unfold State.takeShadows
  extract_lets l s₁ s₂
  have h₁ : Kept UnitWords s s₁ := h.foldl fun c hc y h' => by
    have page : keyPage c.1 = p := by
      have := (List.mem_filter.1 hc).2
      simp only [Bool.and_eq_true, decide_eq_true_eq] at this
      exact this.1
    exact h'.setT3 (unitWords_key (by omega) (by omega))
  have h₂ : Kept UnitWords s s₂ := h₁.frame
  exact h₂.wrBit (unitWords_rk hp)

theorem Kept.applyShadows {p : Nat} {sel : Nat → Bool} (h : Kept UnitWords s t) (hp : p ≠ 0x00 ∧ p ≠ 0x72) :
    Kept UnitWords s (t.applyShadows p sel) := by
  unfold State.applyShadows
  exact .ite h (((h.takeShadows hp).wrFld (unitWords_rk hp)).wrBit (unitWords_rk hp))

theorem Kept.dropShadows {p : Nat} {sel : Nat → Bool} (h : Kept UnitWords s t) (hp : p ≠ 0x00 ∧ p ≠ 0x72) :
    Kept UnitWords s (t.dropShadows p sel) := by
  unfold State.dropShadows
  extract_lets s₁
  have h₁ : Kept UnitWords s s₁ := h.frame
  exact h₁.wrBit (unitWords_rk hp)

/-! ### Cameras -/

theorem Kept.offsetsStale (h : Kept UnitWords s t) : Kept UnitWords s t.offsetsStale := h.frame

theorem Kept.visLoad (h : Kept UnitWords s t) : Kept UnitWords s t.visLoad := by
  unfold State.visLoad
  exact h.wr.wr

theorem Kept.camErr {c code : Nat} (h : Kept UnitWords s t) (hc : c < 8) : Kept UnitWords s (t.camErr c code) :=
  (h.wr (unitWords_cam hc)).raise

theorem Kept.setCam {c st : Nat} (h : Kept UnitWords s t) (hc : c < 8) : Kept UnitWords s (t.setCam c st) := by
  unfold State.setCam
  extract_lets _ _ s₁
  have h₁ : Kept UnitWords s s₁ := ((h.wrFld (unitWords_cam hc)).wrBit (unitWords_cam hc)).visLoad
  exact .ite h₁ h₁.raise

theorem Kept.modCam {c : Nat} {f : Cam → Cam} (h : Kept UnitWords s t) : Kept UnitWords s (t.modCam c f) := h.frame

theorem Kept.i2cAbort {c : Nat} (h : Kept UnitWords s t) (hc : c < 8) : Kept UnitWords s (t.i2cAbort c) :=
  .ite (h.wr (unitWords_cam hc)) h

theorem Kept.camStop {c : Nat} (h : Kept UnitWords s t) (hc : c < 8) : Kept UnitWords s (t.camStop c) :=
  .ite h ((h.setCam hc).modCam.i2cAbort hc)

theorem Kept.camRetime {c : Nat} (h : Kept UnitWords s t) : Kept UnitWords s (t.camRetime c) := by
  unfold State.camRetime
  extract_lets s₁
  have h₁ : Kept UnitWords s s₁ := .foldl h fun _ _ _ h' => .ite h'.frame h'
  exact .ite h (h₁.applyShadows (by decide)).offsetsStale

theorem Kept.camLinking {c : Nat} (h : Kept UnitWords s t) (hc : c < 8) : Kept UnitWords s (t.camLinking c) := by
  have page : camPage c ≠ 0x00 ∧ camPage c ≠ 0x72 := by unfold camPage; omega
  unfold State.camLinking
  extract_lets _ s₁ s₂ s₃
  have h₁ : Kept UnitWords s s₁ := .ite h (h.applyShadows page).offsetsStale
  have h₂ : Kept UnitWords s s₂ := h₁.camRetime
  have h₃ : Kept UnitWords s s₃ := h₂.wrFld (unitWords_cam hc)
  exact .ite (h₃.setCam hc).modCam ((h.camErr hc).camStop hc)

/-! ### Frame watch, views and display ports -/

theorem Kept.showVerdict {v : Nat} (h : Kept UnitWords s t) (hv : v < 6) : Kept UnitWords s (t.showVerdict v) :=
  h.wr (unitWords_watch hv)

theorem Kept.setWatch {v st : Nat} (h : Kept UnitWords s t) (hv : v < 6) : Kept UnitWords s (t.setWatch v st) :=
  h.wr (unitWords_watch hv)

theorem Kept.modWatch {v : Nat} {f : Watch → Watch} (h : Kept UnitWords s t) : Kept UnitWords s (t.modWatch v f) := h.frame

theorem Kept.watchTo {v st : Nat} (h : Kept UnitWords s t) (hv : v < 6) : Kept UnitWords s (t.watchTo v st) := by
  unfold State.watchTo
  extract_lets _ s₁
  have h₁ : Kept UnitWords s s₁ := (h.setWatch hv).modWatch
  exact .showVerdict (.when h₁ fun _ h' => h'.raise) hv

theorem Kept.setView {v st : Nat} (h : Kept UnitWords s t) (hv : v < 6) : Kept UnitWords s (t.setView v st) := by
  have h₁ := h.wrFld (lo := 0) (n := 2) (x := st) (unitWords_view (o := 0x60) hv)
  exact .ite (h₁.watchTo hv) h₁

theorem Kept.setDsp {d st : Nat} (h : Kept UnitWords s t) (hd : d < 6) : Kept UnitWords s (t.setDsp d st) := by
  unfold State.setDsp
  extract_lets _ s₁ s₂ s₃
  have h₁ : Kept UnitWords s s₁ := h.wrFld (unitWords_dsp hd)
  have h₂ : Kept UnitWords s s₂ := .when h₁ fun _ h' => h'.wrFld (unitWords_dsp hd)
  have h₃ : Kept UnitWords s s₃ := .when h₂ fun _ h' => h'.wrBit (unitWords_dsp hd)
  exact .ite h₃.raise (.ite h₃.raise h₃)

theorem Kept.dspTrain {d : Nat} (h : Kept UnitWords s t) (hd : d < 6) : Kept UnitWords s (t.dspTrain d) := by
  unfold State.dspTrain
  extract_lets s₁ s₂
  have h₁ : Kept UnitWords s s₁ := (h.applyShadows (by decide)).offsetsStale
  have h₂ : Kept UnitWords s s₂ := h₁.frame
  exact h₂.setDsp hd

theorem Kept.dspStart {d : Nat} (h : Kept UnitWords s t) (hd : d < 6) : Kept UnitWords s (t.dspStart d) := by
  unfold State.dspStart
  extract_lets _ s₁
  have h₁ : Kept UnitWords s s₁ := h.applyShadows (by unfold dspPage; omega)
  exact .ite h (.ite h₁ (.ite (h₁.dspTrain hd) h₁.raise))

theorem Kept.dspStop {d : Nat} (h : Kept UnitWords s t) (hd : d < 6) : Kept UnitWords s (t.dspStop d) := .ite h (h.setDsp hd)

/-! ### DMA, PCIe and CAN -/

theorem Kept.msixRaise {v : Nat} (h : Kept UnitWords s t) : Kept UnitWords s (t.msixRaise v) := by
  unfold State.msixRaise
  exact .ite h.frame h.setBytes.frame

theorem Kept.dmaBack {c err n : Nat} (h : Kept UnitWords s t) : Kept UnitWords s (t.dmaBack c err n) := h.setBytes

theorem Kept.draw (h : Kept UnitWords s t) : Kept UnitWords s t.draw := h.frame

theorem Kept.dmaHalt {c err : Nat} (h : Kept UnitWords s t) (hc : c < 8) : Kept UnitWords s (t.dmaHalt c err) := by
  unfold State.dmaHalt
  extract_lets s₁ s₂
  have h₁ : Kept UnitWords s s₁ := .when h fun _ h' => h'.dmaBack.draw
  have h₂ : Kept UnitWords s s₂ := (h₁.wrFld (unitWords_dma hc)).wrFld (unitWords_dma hc)
  exact h₂.raise

theorem Kept.setPcieLink {w : Nat} (h : Kept UnitWords s t) : Kept UnitWords s (t.setPcieLink w) := by
  unfold State.setPcieLink
  exact h.wr.draw

theorem Kept.pcieDown (h : Kept UnitWords s t) : Kept UnitWords s t.pcieDown := by
  unfold State.pcieDown
  extract_lets hit s₁
  have h₁ : Kept UnitWords s s₁ := .foldl h.setPcieLink fun c hc _ h' => h'.dmaHalt (List.mem_range.1 (List.mem_filter.1 hc).1)
  exact .ite h h₁.raise.msixRaise

/-- Every row of a CAN schedule that is refused is an error of its own page. -/
theorem Kept.applySchedule {n : Nat} (h : Kept UnitWords s t) (hn : n < 6) : Kept UnitWords s (t.applySchedule n) := by
  have page : canPage n ≠ 0x00 ∧ canPage n ≠ 0x72 := by unfold canPage; omega
  have own : pageOf .hw (addrOf (canPage n) 0x20) = canPage n := by
    rw [pageOf_addrOf _ _ _ (by unfold canPage; omega) (by decide), if_neg (by unfold canPage; omega)]
  unfold State.applySchedule
  extract_lets
  refine .ite h (.ite (h.applyShadows page) ?_)
  unfold State.accessFault State.error State.ttErr
  extract_lets
  rw [own]
  exact ((h.dropShadows page).wr (unitWords_can hn)).raise.raise

theorem Kept.modCan {n : Nat} {f : Can → Can} (h : Kept UnitWords s t) : Kept UnitWords s (t.modCan n f) := h.frame

theorem Kept.canStop {n : Nat} (h : Kept UnitWords s t) (hn : n < 6) : Kept UnitWords s (t.canStop n) := by
  unfold State.canStop
  extract_lets _ s₁
  have h₁ : Kept UnitWords s s₁ := (h.wrBit (unitWords_can hn)).wr (unitWords_can hn)
  exact .ite h₁.modCan (h₁.modCan.applySchedule hn)

/-! ### Links that drop and come back -/

/-- The vision path, PCIe and their links stop. -/
theorem Kept.dropLinks (h : Kept UnitWords s t) : Kept UnitWords s t.dropLinks := by
  unfold State.dropLinks
  extract_lets s₁ s₂ s₃
  have h₁ : Kept UnitWords s s₁ := .foldl h fun _ hc _ h' => h'.camStop (List.mem_range.1 hc)
  have h₂ : Kept UnitWords s s₂ := .foldl h₁ fun _ hv _ h' => .ite h' (h'.setView (List.mem_range.1 hv))
  have h₃ : Kept UnitWords s s₃ := .foldl h₂ fun _ hd _ h' => h'.dspStop (List.mem_range.1 hd)
  exact h₃.pcieDown

theorem Kept.stopCan (h : Kept UnitWords s t) : Kept UnitWords s t.stopCan :=
  .foldl h fun _ hn _ h' => .ite h' (.ite h'.frame (h'.canStop (List.mem_range.1 hn)))

/-- Camera ports whose RUN is set enter LINKING. -/
theorem Kept.camsLink (h : Kept UnitWords s t) : Kept UnitWords s ((List.range 8).foldl (fun t c =>
    if t.rb (camPage c) 0x40 0 && t.camState c = 0 && t.camUp c then t.camLinking c else t) t) :=
  .foldl h fun _ hc _ h' => .ite (h'.camLinking (List.mem_range.1 hc)) h'

/-- Display ports whose EN is set start. -/
theorem Kept.dspsStart (h : Kept UnitWords s t) : Kept UnitWords s ((List.range 6).foldl (fun t d =>
    if t.rb (dspPage d) 0x40 0 then t.dspStart d else t) t) :=
  .foldl h fun _ hd _ h' => .ite (h'.dspStart (List.mem_range.1 hd)) h'

theorem Kept.visionBack (h : Kept UnitWords s t) : Kept UnitWords s t.visionBack := by
  unfold State.visionBack
  extract_lets s₁ s₂
  have h₁ : Kept UnitWords s s₁ := h.camsLink
  have h₂ : Kept UnitWords s s₂ := h₁.frame
  exact h₂.dspsStart

/-! ### The field domain, the safe state and the roles -/

theorem Kept.setLink {m : Nat} (h : Kept UnitWords s t) : Kept UnitWords s (t.setLink m) := by
  unfold State.setLink
  extract_lets s₁ _ s₂
  have h₁ : Kept UnitWords s s₁ := h.wrFld.raise
  have h₂ : Kept UnitWords s s₂ := h₁.frame
  exact .ite h (h₂.refresh unitWords_field)

/-- A boot test that is cut off. -/
theorem Kept.cutRun (h : Kept UnitWords s t) : Kept UnitWords s t.cutRun := by
  unfold State.cutRun State.showRes
  have h₁ : Kept UnitWords s { t with farr := {} } := h.frame
  exact .ite h₁.wrFld.wrBit h

theorem Kept.setMvbRole {r : Nat} (h : Kept UnitWords s t) : Kept UnitWords s (t.setMvbRole r) := by
  unfold State.setMvbRole
  extract_lets _ s₁ _ s₂
  have h₁ : Kept UnitWords s s₁ := h.wrFld
  have h₂ : Kept UnitWords s s₂ := h₁.frame
  have h₃ : Kept UnitWords s s₂.mvbCalm := h₂.frame
  exact .ite h₂.raise (.ite h₃.raise h₂)

theorem Kept.mvbCfg (h : Kept UnitWords s t) : Kept UnitWords s t.mvbCfg :=
  .ite (.ite h.setMvbRole h) (.ite h.setMvbRole h)

end Sys2Proof.Machine
end

section
set_option Elab.async false -- one proof after the other: each further worker thread takes its stack from the check's memory
/-! SUPPORT. How a row answers, how the firmware completes a command (R99), and how time advances (R132). -/

namespace Sys2Proof.Machine

variable {Q : Nat → Prop} {s t u : State}

/-! ### Rows -/

/-- A row that answers with `u` completes with what holds of `u`, where that does not speak of the queue and the variant. -/
theorem completes_of {c : Instr} {P : State → Prop} (row : exec c s = answer s u)
    (frame : ∀ x : State, P x → P { x with pending := s.pending, variant := s.variant }) (h : P u) : Completes c s P :=
  ⟨_, row, frame u h⟩

/-! ### Mailbox -/

theorem SameBut.raiseAt {p b n : Nat} {p0 p1 p2 : Word} (h : SameBut Q s t) (hn : n < 256 := by decide) (hb : b < 32 := by decide) :
    SameBut Q s (t.raiseAt p b n p0 p1 p2) := by
  have set : SameBut Q t (t.wrBit p 0x18 b true) := by
    refine ⟨fun k _ hk _ => ?_, fun q i _ _ hi => rb_wrBit_true hb hi⟩
    rw [key_wrBit, if_neg (fun e => hk p e.symm)]
  have route : ∀ x : State, SameBut Q x (x.route n p0 p1 p2) := fun x =>
    ⟨fun k h2 _ _ => key_route _ _ _ _ _ k h2 hn, fun q i h2 _ hi => by rw [rb_route hn h2 (by decide)]; exact hi⟩
  exact h.trans (.ite .refl (.ite (set.trans (route _)) set))

theorem Kept.raiseAt {p b n : Nat} {p0 p1 p2 : Word} (h : Kept Q s t) (hn : n < 256 := by decide) (hb : b < 32 := by decide) :
    Kept Q s (t.raiseAt p b n p0 p1 p2) :=
  h.registers (onlyRegsInlet_raiseAt t n p b p0 p1 p2) (h.toSameBut.raiseAt hn hb)

/-- The words of mailbox `n`. -/
abbrev BoxWords (n k : Nat) : Prop := keyPage k = boxPage n

theorem boxWords_rk {n o : Nat} (ho : o < 0x20000 := by decide) : BoxWords n (rk (boxPage n) o) := rk_page _ _ ho

theorem boxPage_ne {n : Nat} (hn : n < 3) : boxPage n = 0x01 ∨ boxPage n = 0x80 ∨ boxPage n = 0x81 := by
  unfold boxPage; split <;> omega

/-- Consecutive words written leave every other word as it was. -/
theorem rd_wrResp_ne {p k o : Nat} {ws : List Word} (ho : o < 0x84 + 4 * k) :
    ((ws.zipIdx k).foldl (fun t (v, j) => t.wr p (0x84 + 4 * j) v) s).rd p o = s.rd p o := by
  induction ws generalizing s k with
  | nil => rfl
  | cons w ws ih =>
    rw [List.zipIdx_cons, List.foldl_cons, ih (by omega)]
    exact rd_wr_ne _ _ _ _ _ _ (by unfold rk; omega)

/-- Consecutive words written read back. -/
theorem rd_wrResp {p k j : Nat} {ws : List Word} (hj : j < ws.length) :
    ((ws.zipIdx k).foldl (fun t (v, j) => t.wr p (0x84 + 4 * j) v) s).rd p (0x84 + 4 * (k + j)) = ws[j] := by
  induction ws generalizing s k j with
  | nil => exact absurd hj (by simp)
  | cons w ws ih =>
    rw [List.zipIdx_cons, List.foldl_cons]
    cases j with
    | zero => rw [rd_wrResp_ne (by omega)]; exact rd_wr_self _ _ _ _
    | succ j => rw [show k + (j + 1) = k + 1 + j by omega]; exact ih (by simpa using hj)

theorem Kept.modBox {n : Nat} {f : Box → Box} (h : Kept Q s t) : Kept Q s (t.modBox n f) := h.frame

/-- A completion changes the words of its mailbox. -/
theorem Kept.boxDone {n err : Nat} {resp : List Word} (h : Kept Q s t) (hQ : ∀ k, BoxWords n k → Q k) :
    Kept Q s (t.boxDone n err resp) := by
  unfold State.boxDone
  extract_lets p r s₁ s₂ s₃ s₄ s₅
  have len : r.length ≤ 14 := by rw [List.length_take]; omega
  have h₁ : Kept Q s s₁ := h.foldl fun x hx _ h' => by
    have := List.snd_lt_of_mem_zipIdx hx
    exact h'.wr (hQ _ (boxWords_rk (by omega)))
  have h₂ : Kept Q s s₂ := h₁.wr (hQ _ boxWords_rk)
  have h₃ : Kept Q s s₃ := (h₂.wr (hQ _ boxWords_rk)).modBox
  have h₄ : Kept Q s s₄ := h₃.frame
  have h₅ : Kept Q s s₅ := h₄.raiseAt
  exact .ite h (.when h₅ fun _ h' => h'.raiseAt)

theorem boxes_wrResp {p : Nat} {l : List (Word × Nat)} :
    (l.foldl (fun t (v, j) => t.wr p (0x84 + 4 * j) v) s).boxes = s.boxes := by
  induction l generalizing s with
  | nil => rfl
  | cons a l ih => exact ih

/-- The words of a mailbox whose command completes: those before, with RESP and STATUS written; DOORBELL and EVT_PEND apart. -/
theorem rd_boxDone {n err o : Nat} {resp : List Word} (hn : n < 3) (busy : s.boxBusy n = true) (h0 : o ≠ 0x18) (h1 : o ≠ 0x7C)
    (ho : o < 0x20000) : (s.boxDone n err resp).rd (boxPage n) o =
      ((((resp.take 14).zipIdx).foldl (fun t (v, j) => t.wr (boxPage n) (0x84 + 4 * j) v) s).wr (boxPage n) 0x80
        (w32 (2 + err % 256 * 0x100 + fld (s.box n).cmd 8 8 * 0x1_0000 + (resp.take 14).length * 0x100_0000))).rd (boxPage n) o := by
  have hp : boxPage n ≠ 0x02 := by have := boxPage_ne hn; omega
  unfold State.boxDone
  rw [if_neg (by simp [busy])]
  extract_lets p r s₁ s₂ s₃ s₄ s₅
  have box : s₁.box n = s.box n := congrArg (·.getD n {}) boxes_wrResp
  have raised : SameBut (fun _ => False) s₄ s₅ := SameBut.refl.raiseAt
  have events := raised.when (c := decide (err % 256 ≠ 0))
    (f := fun t => t.raiseAt p 1 2 (w32 n) (t.openWord 2 1) (t.openWord 2 2)) fun _ h' => h'.raiseAt
  have regs : s₄.regs = (s₂.wr p 0x7C 0).regs := rfl
  rw [events.rd hp h0 ho (fun h => h), rd_congr regs, rd_wr_ne _ _ _ _ _ _ (by unfold rk; omega)]
  unfold s₂
  rw [box]

/-- STATUS of a command that has completed. -/
theorem boxDone_ended {n err len : Nat} {resp : List Word} (hn : n < 3) (busy : s.boxBusy n = true) (hl : resp.length = len)
    (short : len ≤ 14 := by decide) : s.Ended (s.boxDone n err resp) n err len := by
  subst hl
  rw [State.Ended, rd_boxDone hn busy (by decide) (by decide) (by decide), rd_wr_self, List.take_of_length_le short]

/-- The command that a state holds is that of any state with the same instances. -/
theorem ended_congr {n err len : Nat} (h : s.boxes = u.boxes) (e : u.Ended t n err len) : s.Ended t n err len := by
  have box : s.box n = u.box n := congrArg (·.getD n {}) h
  rw [State.Ended, box]
  exact e

/-- RESP of a command that has completed. -/
theorem boxDone_resp {n err j : Nat} {resp : List Word} (hn : n < 3) (busy : s.boxBusy n = true) (len : resp.length ≤ 14)
    (hj : j < resp.length) : (s.boxDone n err resp).resp n j = resp[j] := by
  rw [State.resp, rd_boxDone hn busy (by omega) (by omega) (by omega), rd_wr_ne _ _ _ _ _ _ (by unfold rk; omega),
    List.take_of_length_le len]
  simpa using rd_wrResp (s := s) (p := boxPage n) (k := 0) hj

theorem boxBusy_of_holds {n code : Nat} {lens : List Nat} (h : s.Holds n code lens) : s.boxBusy n = true := by
  obtain ⟨next, _⟩ := h
  unfold State.boxNext at next
  simp only [Bool.and_eq_true] at next
  exact next.1.1

/-- The firmware serves a command that stands first and that R103, R104 and R118 let pass. -/
theorem serve_of_holds {n code : Nat} {sel : List Word → Bool} {lens : List Nat} {f : State → State} (h : s.Holds n code lens)
    (take : sel (s.box n).args = true) : s.serve n code sel lens f = f s := by
  obtain ⟨next, hcode, plane, len, good⟩ := h
  unfold State.serve
  have known := List.contains_iff_mem.2 len
  simp only [next, hcode, take, plane, good, known, Bool.not_true, Bool.or_self, Bool.false_eq_true, if_false, ne_eq,
    not_true_eq_false, decide_false]

/-- A row that serves such a command completes with what holds of the state that the firmware leaves. -/
theorem completes_serve {c : Instr} {P : State → Prop} {n code : Nat} {sel : List Word → Bool} {lens : List Nat} {f : State → State}
    (row : exec c s = answer s (s.serve n code sel lens f)) (frame : ∀ x : State, P x → P { x with pending := s.pending, variant := s.variant })
    (h : s.Holds n code lens) (take : sel (s.box n).args = true) (hf : P (f s)) : Completes c s P :=
  completes_of row frame (by rw [serve_of_holds h take]; exact hf)

/-! ### Time -/

/-- The words that change as time passes: HOLD_S and the pages of the lanes' samples. -/
abbrev TimeWords (k : Nat) : Prop := keyPage k = 0x06 ∨ k = rk 0x05 0x80

theorem OnlyRegsInlet.ite {c : Prop} {_ : Decidable c} {a b : State} (ha : OnlyRegsInlet s a) (hb : OnlyRegsInlet s b) :
    OnlyRegsInlet s (if c then a else b) := by
  split
  · exact ha
  · exact hb

theorem OnlyRegsInlet.foldl {α : Type} {f : State → α → State} {l : List α} (h : OnlyRegsInlet s t)
    (hf : ∀ x y, OnlyRegsInlet y (f y x)) : OnlyRegsInlet s (l.foldl f t) := by
  induction l generalizing t with
  | nil => exact h
  | cons a l ih => exact ih (h.trans' (hf a t))

theorem OnlyRegsInlet.when {c : Bool} {f : State → State} (h : OnlyRegsInlet s t) (hf : ∀ y, OnlyRegsInlet y (f y)) :
    OnlyRegsInlet s (t.when c f) := .ite (h.trans' (hf t)) h

theorem onlyRegsInlet_holdSeconds (s : State) : OnlyRegsInlet s s.holdSeconds := .when (.rfl' s) fun y => onlyRegsInlet_wr y _ _ _

theorem onlyRegsInlet_samplePcs (s : State) : OnlyRegsInlet s s.samplePcs :=
  .foldl (.rfl' s) fun _ y => .ite (.rfl' y) (onlyRegsInlet_wr y _ _ _)

/-- Time at `c` changes registers and the inlet queue beside the count. -/
theorem setCount_only {c fr : Nat} : OnlyRegsInlet { s with tb := { s.tb with count := c, frac := fr } } (s.setCount c fr) :=
  .when (.when (onlyRegsInlet_holdSeconds _) onlyRegsInlet_samplePcs) fun y => onlyRegsInlet_raise y _ _ _ _

theorem SameBut.holdSeconds (h : SameBut TimeWords s t) : SameBut TimeWords s t.holdSeconds := .when h fun _ h' => h'.wr

theorem SameBut.samplePcs (h : SameBut Q s t) (hQ : ∀ k, keyPage k = 0x06 → Q k) : SameBut Q s t.samplePcs :=
  h.foldl fun l hl _ h' => by
    have lt : l < 3 := by simp only [List.mem_cons, List.not_mem_nil, or_false] at hl; omega
    exact .ite h' (h'.wr (hQ _ (rk_page _ _ (by unfold laneOff; omega))))

theorem setCount_sameBut {c fr : Nat} : SameBut TimeWords s (s.setCount c fr) :=
  have counted : SameBut TimeWords s { s with tb := { s.tb with count := c, frac := fr } } := SameBut.refl.regs
  .when (.when counted.holdSeconds fun _ h' => h'.samplePcs fun _ => .inl) fun _ h' => h'.raise

theorem advanceTo_sameBut {c : Nat} : SameBut TimeWords s (s.advanceTo c) := .ite setCount_sameBut .refl

theorem advanceTo_only (s : State) (c : Nat) :
    ∃ fr, OnlyRegsInlet { s with tb := { s.tb with count := max s.tb.count c, frac := fr } } (s.advanceTo c) := by
  unfold State.advanceTo
  split
  · next lt => exact ⟨0, by rw [Nat.max_eq_right (by omega)]; exact setCount_only⟩
  · next ge => exact ⟨s.tb.frac, by rw [Nat.max_eq_left (by omega)]; exact .rfl' _⟩

@[simp] theorem advanceTo_pins (s : State) (c : Nat) : (s.advanceTo c).pins = s.pins := by
  obtain ⟨_, h⟩ := advanceTo_only s c; exact h.pins_eq
@[simp] theorem advanceTo_keep (s : State) (c : Nat) : (s.advanceTo c).keep = s.keep := by
  obtain ⟨_, h⟩ := advanceTo_only s c; exact h.keep_eq
/-- Time never goes back (R132). -/
@[simp] theorem advanceTo_count (s : State) (c : Nat) : (s.advanceTo c).tb.count = max s.tb.count c := by
  obtain ⟨_, h⟩ := advanceTo_only s c; rw [h.tb_eq]

end Sys2Proof.Machine
end

section
set_option Elab.async false -- one proof after the other: each further worker thread takes its stack from the check's memory
/-! SUPPORT. Roles: the role word through the functions that change it (R34, R385), and the duplex commands (R396). -/

namespace Sys2Proof.Machine

variable {s t : State}

/-! ### The command register's update -/

theorem evalIlk_only (s : State) : OnlyRegsInlet s s.evalIlk := by
  unfold State.evalIlk
  extract_lets f fresh _ _ masks s₁ s₂ s₃
  have h₁ : OnlyRegsInlet s s₁ := (onlyRegsInlet_wr s _ _ _).trans' (onlyRegsInlet_wr _ _ _ _)
  have h₃ : OnlyRegsInlet s s₃ := (h₁.trans' (onlyRegsInlet_wr _ _ _ _)).foldl fun _ y =>
    ((onlyRegsInlet_setKey y _ _).trans' (onlyRegsInlet_setKey _ _ _)).trans' (onlyRegsInlet_wr _ _ _ _)
  clear_value masks
  split
  · exact h₃
  · exact h₃.trans' (onlyRegsInlet_raise _ _ _ _ _)

/-- Beside registers and the inlet queue, the update changes the board's own state. -/
theorem refresh_only (s : State) : s.refresh = { s with regs := s.refresh.regs, inlet := s.refresh.inlet, field := s.refresh.field } := by
  unfold State.refresh
  extract_lets s₁ s₂ _
  split
  · rfl
  · have h₂ : OnlyRegsInlet s s₂ := ((evalIlk_only s).trans' (onlyRegsInlet_wr _ _ _ _)).trans' (onlyRegsInlet_wr _ _ _ _)
    unfold OnlyRegsInlet at h₂
    rw [h₂]

@[simp] theorem refresh_dup (s : State) : s.refresh.dup = s.dup := by rw [refresh_only]
@[simp] theorem refresh_tro (s : State) : s.refresh.tro = s.tro := by rw [refresh_only]

/-! ### The role word -/

/-- The command register's update leaves the role word as it was. -/
theorem rd_refresh_role : s.refresh.rd 0x50 0x58 = s.rd 0x50 0x58 := refresh_kept.rd

theorem rd_advanceTo_role {c : Nat} : (s.advanceTo c).rd 0x50 0x58 = s.rd 0x50 0x58 := advanceTo_sameBut.rd

theorem role_of_rd (h : t.rd 0x50 0x58 = s.rd 0x50 0x58) : t.role = s.role := by rw [State.role, State.rf, h]; rfl

theorem rd_setRoleOut {b : Bool} :
    (s.setRoleOut b).rd 0x50 0x58 = setBit (s.rd 0x50 0x58) 4 (b && !s.pins.pfActive && !s.dup.fault) := by
  rw [State.setRoleOut, rd_refresh_role, rd_wrBit_self]

theorem roleOut_setRoleOut_false : (s.setRoleOut false).roleOut = false := by
  rw [State.roleOut, State.rb, rd_setRoleOut, bit_setBit_self _ _ _ (by decide)]; rfl

theorem role_setRoleOut {b : Bool} : (s.setRoleOut b).role = s.role := by
  rw [State.role, State.rf, rd_setRoleOut, fld_setBit_ne _ _ _ _ _ (by decide) (by decide)]; rfl

theorem roleIn_setRoleOut {b : Bool} : (s.setRoleOut b).roleIn = s.roleIn := by
  rw [State.roleIn, State.rb, rd_setRoleOut, bit_setBit_ne _ _ _ _ (by decide) (by decide)]; rfl

theorem roleOut_leaveRole : s.leaveRole.roleOut = false := roleOut_setRoleOut_false

/-- The word that leaving the role starts from. -/
theorem rd_leaving {d : Duplex} {v : Word} :
    ({ (s.setRole 2).wr 0x50 0x5C v with dup := d } : State).rd 0x50 0x58 = setFld (s.rd 0x50 0x58) 0 2 2 :=
  (rd_congr (s := (s.setRole 2).wr 0x50 0x5C v) rfl _ _).trans
    ((rd_wr_ne _ _ _ _ _ _ (by decide)).trans (rd_wrFld_self s _ _ _ _ _))

theorem role_leaveRole : s.leaveRole.role = 2 := by
  rw [State.leaveRole, role_setRoleOut, State.role, State.rf, rd_leaving, fld_setFld_self _ _ _ _ (by decide)]; rfl

theorem roleIn_leaveRole : s.leaveRole.roleIn = s.roleIn := by
  rw [State.leaveRole, roleIn_setRoleOut, State.roleIn, State.rb, rd_leaving, bit_setFld_ne _ _ _ _ _ (by decide) (by decide)]; rfl

/-- The end of a try marks the word and changes no role and no line. -/
theorem endTry_roles : s.endTry.role = s.role ∧ s.endTry.roleOut = s.roleOut ∧ s.endTry.roleIn = s.roleIn := by
  have marked : ∀ d : Duplex, let t := ({ s with dup := d }).wrBit 0x50 0x58 8 true
      t.role = s.role ∧ t.roleOut = s.roleOut ∧ t.roleIn = s.roleIn := fun d => by
    have word : (({ s with dup := d }).wrBit 0x50 0x58 8 true).rd 0x50 0x58 = setBit (s.rd 0x50 0x58) 8 true := rd_wrBit_self _ _ _ _ _
    refine ⟨?_, ?_, ?_⟩
    · rw [State.role, State.rf, word, fld_setBit_ne _ _ _ _ _ (by decide) (by decide)]; rfl
    · rw [State.roleOut, State.rb, word, bit_setBit_ne _ _ _ _ (by decide) (by decide)]; rfl
    · rw [State.roleIn, State.rb, word, bit_setBit_ne _ _ _ _ (by decide) (by decide)]; rfl
  unfold State.endTry
  split
  · split
    · exact marked _
    · exact ⟨rfl, rfl, rfl⟩
  · exact ⟨rfl, rfl, rfl⟩

/-- ROLE_IN as it passes its filter, with the drivers updated: it shows in the word, whose role and whose own line stay. -/
theorem roleLine_roles {b : Bool} : let t := (s.wrBit 0x50 0x58 5 b).refresh
    t.role = s.role ∧ t.roleOut = s.roleOut ∧ t.roleIn = b := by
  have word : (s.wrBit 0x50 0x58 5 b).refresh.rd 0x50 0x58 = setBit (s.rd 0x50 0x58) 5 b := by
    rw [rd_refresh_role, rd_wrBit_self]
  refine ⟨?_, ?_, ?_⟩
  · rw [State.role, State.rf, word, fld_setBit_ne _ _ _ _ _ (by decide) (by decide)]; rfl
  · rw [State.roleOut, State.rb, word, bit_setBit_ne _ _ _ _ (by decide) (by decide)]; rfl
  · rw [State.roleIn, State.rb, word, bit_setBit_self _ _ _ (by decide)]

/-! ### Duplex commands -/

theorem boxBusy_congr {n : Nat} (h : t.regs = s.regs) : t.boxBusy n = s.boxBusy n := by
  rw [State.boxBusy, State.rb, rd_congr h]; rfl

/-- The page of a mailbox is not XLINK's. -/
theorem boxPage_xlink {n o : Nat} (hn : n < 3) (ho : o < 0x20000 := by decide) : ¬BoxWords n (rk 0x50 o) := by
  have := boxPage_ne hn
  rw [BoxWords, rk_page _ _ ho]
  omega

/-- DUPLEX_ROLE ends with the role word as its first answer. -/
theorem duplexAnswer_ended {n : Nat} (hn : n < 3) (busy : s.boxBusy n = true) :
    s.Ended (s.duplexAnswer n) n 0 3 ∧ (s.duplexAnswer n).resp n 0 = s.roleWord :=
  ⟨boxDone_ended hn busy rfl,
    boxDone_resp hn busy (by simp) (by simp)⟩

/-- INHIBIT as DUPLEX_ROLE sets or clears it. -/
theorem duplexInhibit_ended {n : Nat} {b : Bool} (hn : n < 3) (busy : s.boxBusy n = true) (en : s.duplexEn = true) :
    s.Ended (s.duplexInhibit n b) n 0 3 ∧ (s.duplexInhibit n b).inhibit = b := by
  have page : rk 0x50 0x58 ≠ rk (boxPage n) 0x80 := by have := boxPage_ne hn; unfold rk; omega
  have busy' : (s.wrBit 0x50 0x58 7 b).boxBusy n = true := by rw [State.boxBusy, rb_wrBit_ne page]; exact busy
  have frame : Kept (BoxWords n) (s.wrBit 0x50 0x58 7 b) ((s.wrBit 0x50 0x58 7 b).duplexAnswer n) := Kept.refl.boxDone fun _ h => h
  have keep : ((s.wrBit 0x50 0x58 7 b).duplexAnswer n).inhibit = b := by
    rw [State.inhibit, frame.rb (hq := boxPage_xlink hn), rb_wrBit_self _ _ _ _ _ (by decide)]
  rw [State.duplexInhibit, if_neg (by simp [en])]
  exact ⟨ended_congr (u := s.wrBit 0x50 0x58 7 b) rfl (duplexAnswer_ended hn busy').1, keep⟩

/-- DUPLEX_YIELD of a module that may yield: the next frame carries it, and the command runs on. -/
theorem duplexYield_waits {n : Fin 3} (may : s.mayYield = true) : (s.duplexYield n).dup.yieldNext = true ∧
    (s.duplexYield n).dup.yieldBox = some n ∧ (s.duplexYield n).boxBusy n.val = s.boxBusy n.val := by
  unfold State.duplexYield
  rw [if_neg (by simp [may])]
  exact ⟨rfl, rfl, boxBusy_congr rfl⟩

end Sys2Proof.Machine
end

section
set_option Elab.async false -- one proof after the other: each further worker thread takes its stack from the check's memory
open Sys2Proof Sys2Proof.Machine

/-- Settles O34: the role word through each row, and the completions of the duplex commands. -/
theorem duplexRoles : Obligations.DuplexRoles := by
  unfold Obligations.DuplexRoles
  refine ⟨fun s out => completes_of rfl (fun _ h => h) ?_, fun s out active => completes_of rfl (fun _ h => h) ?_,
    fun s none => completes_of rfl (fun _ h => h) ?_,
    fun inst s holds sub => completes_serve rfl (fun _ h => h) holds (by simp [sub]) ?_,
    fun inst s holds sub en => completes_serve rfl (fun _ h => h) holds (by simp [sub]) ?_,
    fun inst s holds sub en => completes_serve rfl (fun _ h => h) holds (by simp [sub]) ?_,
    fun inst s holds may => completes_serve rfl (fun _ h => h) holds rfl ?_,
    fun inst s holds may => completes_serve rfl (fun _ h => h) holds rfl ?_⟩
  · have role : ∀ c, (s.advanceTo c).role = s.role := fun c => role_of_rd rd_advanceTo_role
    simp only [out, Bool.not_true, Bool.false_eq_true, if_false, role]
    split
    · exact ⟨roleOut_leaveRole, role_leaveRole⟩
    · exact ⟨roleOut_setRoleOut_false, role_setRoleOut.trans (role _)⟩
  · obtain ⟨tried, outTried, _⟩ := endTry_roles (s := s)
    obtain ⟨lineRole, lineOut, lineIn⟩ := roleLine_roles (s := s.endTry) (b := true)
    have raised : ∀ x : State, SameBut (· = rk 0x50 0x84) x ((x.sat16 0x50 0x84).raise 235 0 0 0) := fun x => SameBut.refl.wrFld.raise
    have word := (raised (s.endTry.wrBit 0x50 0x58 5 true).refresh).rd (p := 0x50) (o := 0x58)
    simp only [if_true, lineOut, outTried, out, role_of_rd word, lineRole, tried, active]
    exact ⟨roleIn_leaveRole.trans ((congrArg (bit · 5) word).trans lineIn), role_leaveRole, roleOut_leaveRole⟩
  · have idle : s.endTry = s := by unfold State.endTry; rw [none]
    obtain ⟨lineRole, _, lineIn⟩ := roleLine_roles (s := s) (b := false)
    have still : (s.wrBit 0x50 0x58 5 false).refresh.dup.tryUntil = Option.none := by
      rw [refresh_dup]; exact none
    simp only [idle, Bool.false_eq_true, if_false, still]
    exact ⟨lineIn, lineRole⟩
  · rw [if_neg (by omega)]
    exact duplexAnswer_ended inst.isLt (boxBusy_of_holds holds)
  · exact duplexInhibit_ended inst.isLt (boxBusy_of_holds holds) en
  · exact duplexInhibit_ended inst.isLt (boxBusy_of_holds holds) en
  · obtain ⟨next, box, busy⟩ := duplexYield_waits (n := inst) may
    exact ⟨next, box, busy.trans (boxBusy_of_holds holds)⟩
  · rw [State.duplexYield, if_pos (by simp [may])]
    exact boxDone_ended inst.isLt (boxBusy_of_holds holds) rfl
end

section
set_option Elab.async false -- one proof after the other: each further worker thread takes its stack from the check's memory
/-! SUPPORT. The safe-state latch (R51, R186), the power-fail sequence (R42 to R45) and the reset that leaves the module off. -/

namespace Sys2Proof.Machine

variable {s t u : State}

/-! ### The latch and its causes -/

theorem putImage_tro {id : Nat} {l : List (Nat × DWord)} : (s.putImage id l).tro = s.tro := by
  unfold State.putImage
  induction l generalizing s with
  | nil => rfl
  | cons c l ih => exact ih

@[simp] theorem substitute_tro {src : Nat} : (s.substitute src).tro = s.tro := putImage_tro.trans putImage_tro

@[simp] theorem limpEnd_tro {was : Bool} : (s.limpEnd was).tro = s.tro := by
  unfold State.limpEnd
  split
  · rw [refresh_tro, substitute_tro]
  · rfl

@[simp] theorem safeCause_tro {c : Nat} : (s.safeCause c).tro = s.tro := by
  unfold State.safeCause
  extract_lets s₁ s₂ s₃ s₄
  split
  · exact limpEnd_tro
  · have e₂ : s₂.tro = s.tro := (onlyRegsInlet_raise _ _ _ _ _).tro_eq
    have e₃ : s₃.tro = s.tro := (substitute_tro.trans putImage_tro).trans e₂
    have e₄ : s₄.tro = s₃.tro := by unfold s₄ State.when; split <;> rfl
    rw [refresh_tro, e₄, e₃]

theorem limpEnd_kept {was : Bool} : Kept FieldWords s (s.limpEnd was) := by
  unfold State.limpEnd
  exact .ite (Kept.refl.substitute.refresh fun _ h => h) .refl

/-- A cause sets the latch and its bit of SAFE_CAUSE. -/
theorem safeCause_latches {c : Nat} (hc : c < 32) : (s.safeCause c).latched = true ∧ (s.safeCause c).rb 0x07 0x44 c = true := by
  unfold State.safeCause
  extract_lets s₁ s₂ s₃ s₄
  split
  · next latched =>
    exact ⟨limpEnd_kept.rb.trans ((rb_wrBit_ne (by decide)).trans latched), limpEnd_kept.rb.trans (rb_wrBit_self _ _ _ _ _ hc)⟩
  · have h₂ : Kept (· = rk 0x07 0x78) s₁ s₂ := Kept.refl.sat16.raise
    have h₃ : Kept (· = rk 0x07 0x78) s₁ s₃ := h₂.copyImage.substitute
    have h₄ : Kept (· = rk 0x07 0x78) s₁ s₄ := .when h₃ fun _ h' => h'.frame
    have end₁ : Kept (fun k => k = rk 0x07 0x78 ∨ FieldWords k) s₁ s₄.refresh := (h₄.mono fun _ => .inl).refresh fun _ => .inr
    refine ⟨end₁.rb.trans ((rb_wr_ne (by decide)).trans (rb_wrBit_self _ _ _ _ _ (by decide))), end₁.rb.trans ?_⟩
    rw [State.rb, rd_wr_self, bit, w32, BitVec.getLsbD_ofNat, Nat.testBit_two_pow_self, decide_eq_true hc]
    rfl

/-- Once the latch is set it stays, and so does every cause. -/
structure Latched (s t : State) : Prop where
  latched : s.latched = true → t.latched = true
  cause : ∀ i, s.latched = true → s.rb 0x07 0x44 i = true → t.rb 0x07 0x44 i = true

theorem Latched.refl : Latched s s := ⟨fun h => h, fun _ _ h => h⟩

theorem Latched.trans (h : Latched s t) (g : Latched t u) : Latched s u :=
  ⟨fun e => g.latched (h.latched e), fun i e c => g.cause i (h.latched e) (h.cause i e c)⟩

theorem Latched.safeCause {c : Nat} (h : Latched s t) (hc : c < 32) : Latched s (t.safeCause c) := by
  refine h.trans ⟨fun _ => (safeCause_latches hc).1, fun i latched cause => ?_⟩
  rw [State.safeCause, if_pos latched, limpEnd_kept.rb]
  exact rb_wrBit_true hc cause

theorem Latched.when {c : Bool} {f : State → State} (h : Latched s t) (hf : ∀ x, Latched s x → Latched s (f x)) :
    Latched s (t.when c f) := by
  unfold State.when
  split
  · exact hf t h
  · exact h

/-- A demand of a cause of the line, which the cause itself does not take back, sets the latch and shows. -/
theorem when_safeCause_latches {b : Bool} {c : Nat} (hc : c < 32) (demand : b = true) :
    (s.when b fun t => t.safeCause c).latched = true ∧ (s.when b fun t => t.safeCause c).rb 0x07 0x44 c = true := by
  rw [demand]; exact safeCause_latches hc

theorem when_safeCause_tro {b : Bool} {c : Nat} : (s.when b fun t => t.safeCause c).tro = s.tro := by
  unfold State.when
  split
  · exact safeCause_tro
  · rfl

/-- The causes of the line that are present: SAFE_N or the rails, and the demand of the management plane, set the latch. -/
theorem lineCauses_spec : s.lineCauses.tro.railsOk = s.tro.railsOk ∧
    ((s.pins.safeN || !s.tro.railsOk) = true → s.lineCauses.latched = true ∧ s.lineCauses.rb 0x07 0x44 0 = true) ∧
    (s.tro.mgmtDemand = true → s.lineCauses.latched = true) := by
  unfold State.lineCauses
  extract_lets s₁ s₂ s₃ s₄
  have e₁ : s₁.pins = s.pins ∧ s₁.tro.railsOk = s.tro.railsOk ∧ s₁.tro.mgmtDemand = s.tro.mgmtDemand := by
    unfold s₁ State.when; split <;> exact ⟨rfl, rfl, rfl⟩
  have e₃ : s₃.tro = s₁.tro := when_safeCause_tro.trans when_safeCause_tro
  have l₃ : Latched s₂ s₃ := Latched.refl.when fun _ h => h.safeCause (by decide)
  have l₄ : Latched s₃ s₄ := Latched.refl.when fun _ h => h.safeCause (by decide)
  have l₅ : Latched s₄ (s₄.when s₄.tro.spookDemand fun t => t.safeCause 3) := Latched.refl.when fun _ h => h.safeCause (by decide)
  refine ⟨?_, fun demand => ?_, fun demand => ?_⟩
  · rw [when_safeCause_tro, show s₄.tro = s₃.tro from when_safeCause_tro, e₃, e₁.2.1]
  · have at₂ : s₂.latched = true ∧ s₂.rb 0x07 0x44 0 = true :=
      when_safeCause_latches (by decide) (by rw [e₁.1, e₁.2.1]; exact demand)
    exact ⟨((l₃.trans l₄).trans l₅).latched at₂.1, ((l₃.trans l₄).trans l₅).cause 0 at₂.1 at₂.2⟩
  · exact l₅.latched (when_safeCause_latches (by decide) (by rw [e₃, e₁.2.2]; exact demand)).1

theorem mgmtSafe_latches : s.mgmtSafe.latched = true := lineCauses_spec.2.2 rfl

/-! ### The power-fail sequence -/

/-- Every variant has the SYS page. -/
theorem sys_fitted (v : Variant) : pageAbsent v 0x00 = false := by cases v <;> rfl

/-- The words that the role's release and the end of an operation write. -/
abbrev FallWords (k : Nat) : Prop := k = rk 0x50 0x58 ∨ k = rk 0x09 0x6C ∨ FieldWords k

theorem Kept.setRoleOut {Q : Nat → Prop} {b : Bool} (h : Kept Q s t) (role : Q (rk 0x50 0x58)) (field : ∀ k, FieldWords k → Q k) :
    Kept Q s (t.setRoleOut b) := (h.wrBit role).refresh field

theorem Kept.ocEnd {Q : Nat → Prop} {r : Nat} (h : Kept Q s t) (hQ : Q (rk 0x09 0x6C) := by decide) : Kept Q s (t.ocEnd r) := by
  unfold State.ocEnd
  exact .ite ((h.wrFld hQ).wrFld hQ) h

/-- What the start of the sequence does (R43, R44): the event, the saved time, the safe state and the role. -/
theorem startPowerFail_spec : s.startPowerFail.pins.pfActive = true ∧ s.startPowerFail.keep.monoSaved = s.tb.count ∧
    s.startPowerFail.latched = true ∧ s.startPowerFail.roleOut = false ∧ s.startPowerFail.rb 0x00 0x18 8 = true := by
  unfold State.startPowerFail
  extract_lets flag booting s₁ run s₂ _ _ _ _ s₃ s₄
  have raised : s₁.rb 0x00 0x18 8 = true := rb_raise_self rfl rfl (sys_fitted _)
  have count₁ : s₁.tb = s.tb := (onlyRegsInlet_raise _ _ _ _ _).tb_eq
  have h₂ : Kept UnitWords s₁ s₂ := .cutRun (.ite (.stopCan (.dropLinks .refl)) .refl)
  have safe : Kept SafeWords s₃ s₃.mgmtSafe := .lineCauses Kept.refl.frame
  have h₄ : Kept UnitWords s₃ s₄ := (safe.mono unitWords_safe).setRoleOut (by decide) unitWords_field
  have h₅ : Kept UnitWords s₃ ((s₄.ocEnd 8).flushFor 4) := Kept.frame (h₄.ocEnd (by decide))
  have fall : Kept FallWords s₃.mgmtSafe ((s₄.ocEnd 8).flushFor 4) :=
    Kept.frame ((Kept.refl.setRoleOut (by decide) fun _ h => .inr (.inr h)).ocEnd (by decide))
  have ended : Kept (· = rk 0x09 0x6C) s₄ ((s₄.ocEnd 8).flushFor 4) := Kept.frame Kept.refl.ocEnd
  refine ⟨by rw [h₅.pins], ?_, fall.rb.trans mgmtSafe_latches, ended.rb.trans roleOut_setRoleOut_false, ?_⟩
  · rw [h₅.keep]
    exact congrArg (·.count) (h₂.tb.trans count₁)
  · have pend₂ : s₃.rb 0x00 0x18 8 = true := h₂.pend _ _ (by decide) (by decide) raised
    exact h₅.pend _ _ (by decide) (by decide) pend₂

/-! ### The module is off -/

theorem tbReset_keep {a : Bool} {n : Nat} : (s.tbReset a n).keep = s.keep := rfl

/-- The recorder's ring in MRAM outlasts a reset. -/
theorem wholeReset_ring {cause n : Nat} {a : Bool} : (s.wholeReset cause a n).keep.ring = s.keep.ring := by
  unfold State.wholeReset
  extract_lets por _ _ _ t₀ t₁ t₂ t₃ t₄ t₅ t₆ t₇
  have h₁ : Kept (fun _ => True) t₀ t₁ := by
    have h₀ : Kept (fun _ => True) t₀ (t₀.setCause cause) := Kept.refl.wr trivial
    exact (Kept.ite h₀ (((h₀.wrBit trivial).wrBit trivial).wr trivial)).wrBit trivial
  have h₂ : Kept (fun _ => True) t₀ t₂ := (h₁.wr trivial).wr trivial
  have h₃ : Kept (fun _ => True) t₀ t₃ := (h₂.wrBit trivial).wrBit trivial
  have h₄ : Kept (fun _ => True) t₀ t₄ := (Kept.ite h₃ (h₃.wr trivial)).wr trivial
  have h₅ : Kept (fun _ => True) t₀ t₅ := h₄.wrBit trivial
  have h₆ : Kept (fun _ => True) t₀ t₆ := .foldl h₅ fun _ _ _ h' => (h'.wrBit trivial).wrBit trivial
  have ring : t₀.keep.ring = s.keep.ring := rfl
  clear_value t₆ t₀
  have h₇ : t₇.keep = t₆.keep := tbReset_keep
  rw [← ring, ← h₆.keep, ← h₇]

theorem off_spec : s.off.pins.running = false ∧ s.off.keep.boots = s.keep.boots ∧ s.off.keep.ring = s.keep.ring := by
  unfold State.off
  extract_lets t
  have ring : t.keep.ring = s.keep.ring := wholeReset_ring
  clear_value t
  exact ⟨rfl, rfl, ring⟩

/-! ### The die temperature -/

/-- The words of the power ladder that a wake writes. -/
abbrev WakeWords (k : Nat) : Prop := k = rk 0x72 0x0C ∨ k = rk 0x72 0x44

theorem SameBut.wakeBy {Q : Nat → Prop} {n : Nat} (h : SameBut Q s t) (hQ : ∀ k, WakeWords k → Q k) : SameBut Q s (t.wakeBy n) := by
  unfold State.wakeBy
  extract_lets c cut _ _ s₁
  have h₁ : SameBut Q s s₁ := h.regs
  exact .ite h ((h₁.wrBit (hQ _ (by decide))).wrFld (hQ _ (by decide)))

/-- Below its limit a temperature is shown with the voltage, and beyond that only events are raised and GALLOP asked for (R125). -/
theorem measure_below {temp : Int} {mv : Nat} (low : temp < 1300) : (s.measure temp mv).rf 0x00 0x60 0 16 = (BitVec.ofInt 16 temp).toNat ∧
    (s.measure temp mv).rd 0x00 0x5C = w32 (min 0xFFFF mv) := by
  unfold State.measure
  extract_lets was s₁ rose s₂ s₃ s₄
  have rose_false : rose = false := by simp [rose]; omega
  have e₂ : s₂ = s₁ := by simp [s₂, rose_false, State.when]
  have h₃ : SameBut WakeWords s₁ s₃ := .when (e₂ ▸ .refl) fun _ h' => h'.raise
  have e₄ : s₄ = s₃ := by simp [s₄, rose_false]
  rw [e₄]
  have h₅ : SameBut WakeWords s₁ (if (s₃.hot && decide (s₃.gaitNow = 1) && decide (temp < 1200)) = true then s₃.wakeBy 6 else s₃) :=
    .ite (h₃.wakeBy fun _ h => h) h₃
  refine ⟨h₅.rf.trans ?_, h₅.rd.trans (rd_wr_self _ _ _ _)⟩
  rw [State.rf, rd_wr_ne _ _ _ _ _ _ (by decide), ← State.rf, rf_wrFld_self _ _ _ _ _ _ (by decide)]
  exact Nat.mod_eq_of_lt (BitVec.isLt _)

end Sys2Proof.Machine
end

section
set_option Elab.async false -- one proof after the other: each further worker thread takes its stack from the check's memory
open Sys2Proof Sys2Proof.Machine

/-- Settles O37: each row shows what it is given, and what the safe state and the power-fail sequence do besides leaves that. -/
theorem suppliesAndPins : Obligations.SuppliesAndPins := by
  unfold Obligations.SuppliesAndPins
  refine ⟨fun mv s run low => completes_of rfl (fun _ h => h) ?_,
    fun s run ride pf held booted => completes_of rfl (fun _ h => by rw [h]) ?_,
    fun s run ride pf held => completes_of rfl (fun _ h => h) ?_, fun s cut pf => completes_of rfl (fun _ h => by rw [h]) ?_,
    fun s run cut pf gait => completes_of rfl (fun _ h => h) ?_, fun elapsed s pf back => completes_of rfl (fun _ h => h) ?_,
    fun s run cut => completes_of rfl (fun _ h => by rw [h]) ?_, fun x s demand => completes_of rfl (fun _ h => h) ?_,
    fun x s low rails => completes_of rfl (fun _ h => h) ?_, fun s => completes_of rfl (fun _ h => h) ⟨rfl, rfl⟩,
    fun s => completes_of rfl (fun _ h => h) ⟨rfl, rfl⟩, fun above s => completes_of rfl (fun _ h => by rw [h]) rfl,
    fun temp mv s run low => completes_of rfl (fun _ h => h) ?_⟩
  · rw [if_pos (by simp [run, low])]
    exact ⟨(rd_raise _ _ _ _ _ _ _ (by decide) (by decide) (by decide)).trans (rd_wr_self _ _ _ _),
      rb_raise_self rfl rfl (sys_fitted _)⟩
  · have up : State.booted { s with pins := { s.pins with interrupted := true, fellAt := s.tb.count } } = true := booted
    rw [if_neg (by simp [run, ride, pf]), if_neg (by rw [up]; simp [held])]
  · rw [if_neg (by simp [run, ride, pf]), if_pos (by simp [held])]
    obtain ⟨active, saved, _⟩ := startPowerFail_spec (s := { s with pins := { s.pins with interrupted := true, fellAt := s.tb.count } })
    exact ⟨active, saved⟩
  · rw [if_neg (by simp [pf]), if_pos (by simp [cut])]
  · rw [if_pos (by simp [run, cut, pf, gait])]
    exact startPowerFail_spec
  · rw [if_neg (by simp [pf]), if_neg (by simp [back])]
    exact off_spec
  · rw [if_pos (by simp [run, cut])]
  · obtain ⟨rails, demanded, _⟩ :=
      lineCauses_spec (s := { s with pins := { s.pins with safeN := x.low }, tro := { s.tro with railsOk := x.railsOk } })
    obtain ⟨latched, cause⟩ := demanded (by simpa using demand)
    exact ⟨congrArg (·.safeN) (Kept.lineCauses Kept.refl).pins, rails, latched, cause⟩
  · obtain ⟨ok, _⟩ := lineCauses_spec (s := { s with pins := { s.pins with safeN := x.low }, tro := { s.tro with railsOk := x.railsOk } })
    exact ⟨(congrArg (·.safeN) (Kept.lineCauses Kept.refl).pins).trans low, ok.trans rails⟩
  · rw [if_pos run]
    exact measure_below low
end

section
set_option Elab.async false -- one proof after the other: each further worker thread takes its stack from the check's memory
/-! SUPPORT. What leaves the power ladder as it was: the word of GAIT.STATE, the wake source kept and the stage of a transition. -/

namespace Sys2Proof.Machine

variable {s t u : State}

/-- GAIT.STATE, the wake source kept and the stage of a transition are as before. -/
structure SameGait (s t : State) : Prop where
  word : t.rd 0x72 0x44 = s.rd 0x72 0x44
  wake : t.gait.wake = s.gait.wake
  stage : t.gait.stage = s.gait.stage

namespace SameGait

theorem refl : SameGait s s := ⟨rfl, rfl, rfl⟩

theorem trans (h : SameGait s t) (g : SameGait t u) : SameGait s u :=
  ⟨g.word.trans h.word, g.wake.trans h.wake, g.stage.trans h.stage⟩

theorem kept {Q : Nat → Prop} (h : SameGait s t) (k : Kept Q t u) (hq : ¬Q (rk 0x72 0x44) := by decide) : SameGait s u :=
  h.trans ⟨k.rd (hq := hq), congrArg (·.wake) k.gait, congrArg (·.stage) k.gait⟩

/-- A state with the same registers and the same gait. -/
theorem frame (h : SameGait s t) (regs : u.regs = t.regs := by rfl) (wake : u.gait.wake = t.gait.wake := by rfl)
    (stage : u.gait.stage = t.gait.stage := by rfl) : SameGait s u := h.trans ⟨rd_congr regs _ _, wake, stage⟩

/-- Cells are dropped, but not that of the word. -/
theorem filtered {f : Nat → Bool} (h : SameGait s t) (hf : f (rk 0x72 0x44) = true)
    (regs : u.regs = t.regs.filter (fun c => f c.1) := by rfl) (wake : u.gait.wake = t.gait.wake := by rfl)
    (stage : u.gait.stage = t.gait.stage := by rfl) : SameGait s u := by
  refine h.trans ⟨?_, wake, stage⟩
  rw [State.rd, State.key, regs, stGet, alGet_filter, if_pos hf]
  rfl

theorem setKey {k : Nat} {v : Word} (h : SameGait s t) (hk : k ≠ rk 0x72 0x44) : SameGait s (t.setKey k v) :=
  h.trans ⟨by rw [State.rd, key_setKey, if_neg hk, State.rd], rfl, rfl⟩

theorem wr {p o : Nat} {v : Word} (h : SameGait s t) (hk : rk p o ≠ rk 0x72 0x44 := by decide) : SameGait s (t.wr p o v) := h.setKey hk

theorem wrFld {p o lo n x : Nat} (h : SameGait s t) (hk : rk p o ≠ rk 0x72 0x44 := by decide) : SameGait s (t.wrFld p o lo n x) := h.wr hk

theorem wrBit {p o i : Nat} {b : Bool} (h : SameGait s t) (hk : rk p o ≠ rk 0x72 0x44 := by decide) : SameGait s (t.wrBit p o i b) :=
  h.wr hk

theorem sat16 {p o : Nat} (h : SameGait s t) (hk : rk p o ≠ rk 0x72 0x44 := by decide) : SameGait s (t.sat16 p o) := h.wrFld hk

theorem inc32 {p o : Nat} (h : SameGait s t) (hk : rk p o ≠ rk 0x72 0x44 := by decide) : SameGait s (t.inc32 p o) := h.wr hk

/-- A table word is no register. -/
theorem tk_ne {p o : Nat} (ho : o < 0x10000) : tk p o ≠ rk 0x72 0x44 := by unfold tk rk; omega

/-- A register of another page. -/
theorem rk_ne {p o : Nat} (hp : p ≠ 0x72) (ho : o < 0x20000) : rk p o ≠ rk 0x72 0x44 := by unfold rk; omega

theorem setTab {p o : Nat} {v : Word} (h : SameGait s t) (ho : o < 0x10000) : SameGait s (t.setTab p o v) := h.setKey (tk_ne ho)

theorem setT3 {k : Nat} {v : Word} (h : SameGait s t) (hk : k ≠ rk 0x72 0x44) : SameGait s (t.setT3 k v) := (h.setKey hk).frame

theorem raise {n : Nat} {p0 p1 p2 : Word} (h : SameGait s t) : SameGait s (t.raise n p0 p1 p2) := h.kept (Kept.refl (Q := fun _ => False)).raise

theorem ite {c : Prop} {_ : Decidable c} {a b : State} (ha : SameGait s a) (hb : SameGait s b) : SameGait s (if c then a else b) := by
  split
  · exact ha
  · exact hb

theorem when {c : Bool} {f : State → State} (h : SameGait s t) (hf : ∀ x, SameGait s x → SameGait s (f x)) :
    SameGait s (t.when c f) := .ite (hf t h) h

theorem foldl {α : Type} {f : State → α → State} {l : List α} (h : SameGait s t)
    (hf : ∀ x ∈ l, ∀ y, SameGait s y → SameGait s (f y x)) : SameGait s (l.foldl f t) := by
  induction l generalizing t with
  | nil => exact h
  | cons a l ih => exact ih (hf a List.mem_cons_self t h) fun x hx => hf x (List.mem_cons_of_mem a hx)

theorem error {p off ini cause ev : Nat} {p0 : Word} (h : SameGait s t) : SameGait s (t.error p off ini cause ev p0) :=
  raise (h.wr (by unfold rk; omega))

theorem accessFault {i : Init} {a : Word} {cause : Nat} (h : SameGait s t) : SameGait s (t.accessFault i a cause) := h.error

theorem modLane {l : Nat} {f : Lane → Lane} (h : SameGait s t) : SameGait s (t.modLane l f) := h.frame

theorem draw (h : SameGait s t) : SameGait s t.draw := h.frame

theorem setByte {a : Nat} {b : Byte} (h : SameGait s t) : SameGait s (t.setByte a b) := h.frame

theorem refresh (h : SameGait s t) : SameGait s t.refresh := h.kept refresh_kept

theorem lineCauses (h : SameGait s t) : SameGait s t.lineCauses := h.kept (Kept.lineCauses .refl)

theorem setLink {m : Nat} (h : SameGait s t) : SameGait s (t.setLink m) := h.kept (Kept.setLink (s := t) .refl)

theorem visionBack (h : SameGait s t) : SameGait s t.visionBack := h.kept (Kept.visionBack .refl)

/-! ### Lanes -/

theorem laneOff_ne {l o : Nat} (hl : l < 3) (ho : o < 0x40 := by decide) : rk 0x06 (laneOff l o) ≠ rk 0x72 0x44 :=
  rk_ne (by decide) (by unfold laneOff; omega)

theorem freeSems {c : Nat} (h : SameGait s t) : SameGait s (t.freeSems c) :=
  h.foldl fun _ hk _ h' => .ite (h'.wr (rk_ne (by decide) (by have := List.mem_range.1 hk; omega))) h'

theorem vwDrop {k : VwSlot} (h : SameGait s t) : SameGait s (t.vwDrop k) := by
  unfold State.vwDrop
  extract_lets _ s₁
  have h₁ : SameGait s s₁ := h.frame
  split
  · exact h₁
  · exact h₁.error

theorem vwSettleN {n : Nat} (h : SameGait s t) : SameGait s (State.vwSettleN n t) := by
  induction n generalizing t with
  | zero => exact h
  | succ n ih =>
    have retired : SameGait s (t.retireSlot t.vw.base) := frame (h.wr (p := 0x07) (o := 0x58))
    exact .ite (ih retired) h

theorem vwLaneLeft {l : Nat} (h : SameGait s t) : SameGait s (t.vwLaneLeft l) := by
  unfold State.vwLaneLeft
  extract_lets _ _ s₁
  have h₁ : SameGait s s₁ := h.frame
  have dropped := (h₁.foldl (f := State.vwDrop) (l := s₁.vw.slots.filter fun k => k.matched.isNone && !k.dropped)
    fun _ _ _ h' => h'.vwDrop).freeSems (c := 3)
  exact .ite (frame dropped.vwSettleN) h₁

theorem voterUpdate (h : SameGait s t) : SameGait s t.voterUpdate := by
  unfold State.voterUpdate
  extract_lets _ _ s₁
  have h₁ : SameGait s s₁ := h.wrFld.wrFld
  exact h₁.when fun _ h' => h'.raise

theorem safeCause {c : Nat} (h : SameGait s t) : SameGait s (t.safeCause c) := h.kept (Kept.safeCause .refl)

theorem limpEnd {was : Bool} (h : SameGait s t) : SameGait s (t.limpEnd was) := h.kept limpEnd_kept

theorem ocEnd {r : Nat} (h : SameGait s t) : SameGait s (t.ocEnd r) := h.kept (Kept.ocEnd (Q := (· = rk 0x09 0x6C)) .refl)

theorem setLane {l code : Nat} (h : SameGait s t) (hl : l < 3) : SameGait s (t.setLane l code) := by
  unfold State.setLane
  extract_lets _ _ s₁ s₂ s₃
  have h₁ : SameGait s s₁ := h.wrFld (laneOff_ne hl)
  have h₂ : SameGait s s₂ := h₁.vwLaneLeft
  have h₃ : SameGait s s₃ := h₂.voterUpdate
  exact .ite (limpEnd (h₃.when fun _ h' => h'.safeCause.ocEnd)) (.ite h₁.limpEnd h₁)

theorem resetLane {l : Nat} (h : SameGait s t) (hl : l < 3) : SameGait s (t.resetLane l) := by
  unfold State.resetLane
  extract_lets _ s₁ s₂ s₃ s₄
  have h₁ : SameGait s s₁ := wrBit (.ite ((h.wrBit (laneOff_ne hl)).wrBit (laneOff_ne hl)).modLane h)
  have h₂ : SameGait s s₂ := .ite (h₁.setT3 (laneOff_ne hl)) h₁
  have h₃ : SameGait s s₃ := h₂.setLane hl
  have h₄ : SameGait s s₄ := h₃.modLane
  exact h₄.when fun _ h' => h'.raise

/-- DEBUG_SPLIT and UNUSABLE of the lanes. -/
theorem laneFlags (h : SameGait s t) : SameGait s t.laneFlags :=
  h.foldl fun l hl _ h' => by
    have lt : l < 3 := by simp only [List.mem_cons, List.not_mem_nil, or_false] at hl; omega
    exact (h'.wrBit (laneOff_ne lt)).wrBit (laneOff_ne lt)

/-! ### Time -/

theorem setRate {f p : Int} (h : SameGait s t) : SameGait s (t.setRate f p) := by
  unfold State.setRate
  exact (frame (h.wr (p := 0x05) (o := 0x4C))).wr

theorem tbReset {a : Bool} {n : Nat} (h : SameGait s t) : SameGait s (t.tbReset a n) := by
  unfold State.tbReset
  extract_lets _ s₁
  have h₁ : SameGait s s₁ := h.frame
  exact h₁.setRate

theorem tbSelect (h : SameGait s t) : SameGait s t.tbSelect := by
  unfold State.tbSelect
  extract_lets _ _ s₁ _ s₂ s₃ _ s₄
  have h₁ : SameGait s s₁ := h.wrFld.raise
  have h₂ : SameGait s s₂ := h₁.frame
  have h₃ : SameGait s s₃ := h₂.setRate
  have h₄ : SameGait s s₄ := h₃.frame
  exact .ite h (.ite h₄.wrFld.wr.raise (.ite h₂.wrFld h₂))

/-! ### The recorder -/

theorem stagePut {r : Rec} (h : SameGait s t) : SameGait s (t.stagePut r) := h.frame

theorem ringPut {r : Rec} (h : SameGait s t) : SameGait s (t.ringPut r) := h.frame

theorem stageGap (h : SameGait s t) : SameGait s t.stageGap := .ite h (.stagePut (.draw h.frame))

theorem stageRec {r : Rec} (h : SameGait s t) : SameGait s (t.stageRec r) :=
  .ite h.stageGap (.ite h.stageGap.stagePut (.raise (.sat16 h.stageGap.frame)))

theorem suppress {r : Rec} (h : SameGait s t) : SameGait s (t.suppress r) := h.frame

theorem accept {r : Rec} (h : SameGait s t) : SameGait s (t.accept r) := by
  refine .ite h.stageRec (.ite h.suppress ?_)
  cases t.recd.buckets.find? (fun b => b.code = r.code) with
  | none => exact .ite h.frame.suppress h.frame.frame.stageRec
  | some _ => exact .ite h.frame.suppress h.frame.frame.stageRec

theorem findSeq (h : SameGait s t) : SameGait s t.findSeq := by
  unfold State.findSeq
  split
  · exact h.frame
  · exact h.frame

theorem recStart {kept : Bool} (h : SameGait s t) : SameGait s (t.recStart kept) :=
  .stageRec (.draw (.ite h.frame h.frame.findSeq))

theorem vendorRecord (h : SameGait s t) : SameGait s t.vendorRecord := h.frame.accept

/-! ### The spook alarm -/

theorem lockTack (h : SameGait s t) : SameGait s t.lockTack := h.wrBit.raise

theorem zeroWin (h : SameGait s t) : SameGait s t.zeroWin :=
  h.filtered (f := fun k => !(keyPage k = 0x60 && !keyIsTab k && 0x800 ≤ keyOff k)) (by decide)

theorem alarmRecord {a b : Nat} (h : SameGait s t) : SameGait s (t.alarmRecord a b) :=
  .ringPut (.ite h.draw.frame.frame h.draw.frame)

theorem opEnd {op err n : Nat} (h : SameGait s t) : SameGait s (t.opEnd op err n) := by
  have ended : SameGait s { t with sec := { t.sec with op := none } } := h.frame
  exact (ended.wr (p := 0x60) (o := 0x4C)).inc32.raise

theorem erase {a b : Nat} (h : SameGait s t) : SameGait s (t.erase a b) := by
  unfold State.erase
  extract_lets s₁ s₂ s₃ _ _ _ s₄
  have h₁ : SameGait s s₁ := h.lockTack
  have h₂ : SameGait s s₂ := by
    unfold s₂
    split
    · exact h₁.zeroWin.opEnd
    · exact h₁.zeroWin
  have h₃ : SameGait s s₃ := h₂.alarmRecord.frame
  have h₄ : SameGait s s₄ := h₃.frame
  exact h₄.raise

theorem spookOne {k : Nat} (h : SameGait s t) (hk : k < 12) : SameGait s (t.spookOne k) := by
  unfold State.spookOne
  extract_lets s₁ _ s₂ _
  have h₁ : SameGait s s₁ := h.sat16 (rk_ne (by decide) (by omega))
  have h₂ : SameGait s s₂ := h₁.wrBit.wr.wr
  exact .ite h₁ (.ite h₂.frame h₂.raise)

theorem spookFire {ks : List Nat} (h : SameGait s t) (hks : ∀ k ∈ ks, k < 12) : SameGait s (t.spookFire ks) := by
  unfold State.spookFire
  extract_lets _ erasing _ s₁
  have fired := h.foldl (f := State.spookOne) (l := ks) fun k hk _ h' => h'.spookOne (hks k hk)
  have h₁ : SameGait s s₁ := lineCauses fired.frame
  split
  · exact h₁
  · clear_value erasing
    split
    · exact h₁.erase
    · exact .ite h₁.lockTack h₁

end SameGait

end Sys2Proof.Machine
end

section
set_option Elab.async false -- one proof after the other: each further worker thread takes its stack from the check's memory
/-! SUPPORT. The load of a tack set, the restart, the boot and the loss of the planes leave the power ladder as it was. -/

namespace Sys2Proof.Machine

variable {s t u : State}

/-- A tack set loads no word of the power ladder's state (R15). -/
theorem gaitState_not_ts : (accOf (rk 0x72 0x44)).ts = false := by decide

/-- A set that is not refused names loaded words alone (R113). -/
theorem contents_ts_of_setRefusal {ts : TackSet} (h : s.setRefusal ts = 0) : ∀ c ∈ ts.contents, (accOf (contentKey c)).ts = true := by
  unfold State.setRefusal at h
  split_ifs at h with _ _ _ _ _ bad
  simp only [Bool.not_eq_true, Bool.not_eq_false', Bool.and_eq_true, List.all_eq_true] at bad
  intro c hc
  have ok := bad.1 c hc
  simp only [contentOk, Bool.and_eq_true] at ok
  exact ok.1

namespace SameGait

/-! ### Tack set -/

theorem clearTs {sel : Nat → Bool} (h : SameGait s t) : SameGait s (t.clearTs sel) :=
  h.filtered (f := fun k => !((accOf k).ts && sel k)) (by simp [gaitState_not_ts])

theorem putContents {ts : TackSet} {sel : Nat → Bool} (h : SameGait s t) (hts : ∀ c ∈ ts.contents, (accOf (contentKey c)).ts = true) :
    SameGait s (t.putContents ts sel) :=
  h.clearTs.foldl fun c hc _ h' => h'.setT3 fun e => by
    have loaded := hts c (List.mem_filter.1 hc).1
    rw [e, gaitState_not_ts] at loaded
    exact Bool.noConfusion loaded

theorem fioChanged {old : State} (h : SameGait s t) : SameGait s (t.fioChanged old) := by
  unfold State.fioChanged
  extract_lets s₁
  have h₁ : SameGait s s₁ := h.foldl fun n hn _ h' => .ite (h'.setTab (by have := List.mem_range.1 hn; omega)) h'
  exact h₁.foldl fun c hc _ h' => .ite h' (h'.wr (rk_ne (by decide) (by have := List.mem_range.1 hc; omega)))

theorem setTabBytes {p ix n : Nat} {d : List Byte} (h : SameGait s t) (hix : ix + n ≤ 0x10000) : SameGait s (t.setTabBytes p ix n d) :=
  h.foldl fun j hj _ h' => h'.setTab (by have := List.mem_range.1 hj; omega)

theorem putCan {i x : Nat} (h : SameGait s t) : SameGait s (t.putCan i x) :=
  .ite h.accessFault (h.setTabBytes (by unfold objBase; omega))

theorem putMvb {i x : Nat} (h : SameGait s t) : SameGait s (t.putMvb i x) :=
  h.setTabBytes (by have := fld_lt (t.mapWord i 2) 0 8; omega)

theorem putDs {i x : Nat} (h : SameGait s t) : SameGait s (t.putDs i x) := h.frame

theorem putView {up : Bool} {i x : Nat} (h : SameGait s t) : SameGait s (t.putView up i x) := h.frame

theorem substOutputs (h : SameGait s t) : SameGait s t.substOutputs := by
  unfold State.substOutputs
  extract_lets _ _ s₁ s₂ s₃ _ s₄ s₅
  have h₁ : SameGait s s₁ := h.foldl fun _ _ _ h' => h'.putCan
  have h₂ : SameGait s s₂ := .ite h₁ (h₁.foldl fun _ _ _ h' => h'.putMvb)
  have h₃ : SameGait s s₃ := h₂.foldl fun _ _ _ h' => h'.putDs
  have h₄ : SameGait s s₄ := h₃.frame
  have h₅ : SameGait s s₅ := h₄.foldl fun _ _ _ h' => h'.putView
  exact h₅.foldl fun _ _ _ h' => h'.wrBit

theorem offsetsStale (h : SameGait s t) : SameGait s t.offsetsStale := h.frame

theorem startUnits (h : SameGait s t) : SameGait s t.startUnits := by
  unfold State.startUnits
  extract_lets s₁ s₂ s₃
  have h₁ : SameGait s s₁ := h.kept (Kept.camsLink .refl)
  have h₂ : SameGait s s₂ := h₁.kept (Kept.dspsStart .refl)
  have h₃ : SameGait s s₃ := h₂.foldl fun _ _ _ h' => .ite h'.frame h'
  exact .ite h₃ (h₃.kept (Kept.mvbCfg .refl))

theorem takeSet {n : Nat} {src : Bool} {ts : TackSet} (h : SameGait s t) (hts : ∀ c ∈ ts.contents, (accOf (contentKey c)).ts = true) :
    SameGait s (t.takeSet n src false ts) := by
  unfold State.takeSet
  extract_lets _ _ s₁ s₂ _ s₃ s₄ s₅ s₆ s₇ s₈ s₉ s₁₀ s₁₁
  have h₁ : SameGait s s₁ := (h.putContents hts).fioChanged
  have h₂ : SameGait s s₂ := h₁.frame
  have h₃ : SameGait s s₃ := h₂.frame
  have h₄ : SameGait s s₄ := h₃.wr
  have h₅ : SameGait s s₅ := h₄.wrBit.wrBit.offsetsStale
  have h₆ : SameGait s s₆ := h₅.frame
  have h₇ : SameGait s s₇ := h₆.foldl fun v hv _ h' =>
    h'.wrBit (rk_ne (by have := List.mem_range.1 hv; unfold viewPage; omega) (by decide))
  have h₈ : SameGait s s₈ := .ite h₇.setLink h₇
  have h₉ : SameGait s s₉ := .ite h₈ h₈.substOutputs
  have h₁₀ : SameGait s s₁₀ := h₉.startUnits.tbSelect
  have h₁₁ : SameGait s s₁₁ := .ite (h₁₀.kept (Kept.refl (Q := fun _ => False)).substitute) h₁₀
  exact h₁₁.refresh.raise

theorem noSet {n : Nat} {src : Bool} (h : SameGait s t) : SameGait s (t.noSet n src) := by
  unfold State.noSet
  extract_lets s₁
  have h₁ : SameGait s s₁ := h.clearTs.wr
  exact h₁.wrBit.wrBit

theorem refuseSet {r : Nat} (h : SameGait s t) : SameGait s (t.refuseSet r) := h.wrFld.raise

theorem bootLoad (h : SameGait s t) : SameGait s t.bootLoad := by
  unfold State.bootLoad
  extract_lets _ s₁ n src ts r
  have h₁ : SameGait s s₁ := by
    unfold s₁
    split
    · split
      · exact h.frame
      · exact h.frame
    · exact h
  split
  · next taken => exact h₁.takeSet (contents_ts_of_setRefusal taken)
  · exact h₁.noSet.refuseSet

/-! ### Restart -/

theorem fillLane {l base n : Nat} {cells : List (Nat × Byte)} (h : SameGait s t) : SameGait s (t.fillLane l base n cells) := by
  unfold State.fillLane
  extract_lets clear
  have cleared : SameGait s clear := h.frame
  exact cleared.foldl fun _ _ _ h' => h'.setByte

theorem clearForces (h : SameGait s t) : SameGait s t.clearForces := by
  unfold State.clearForces
  exact (h.filtered (f := fun k => !isForceKey k) (by decide)).wr

/-- A force key lies in the lower half of the table. -/
theorem signal_lt {i : Nat} (h : i ∈ ((t.forceKeys.map fun k => (keyOff k - 0x4000) / 4)).eraseDups) : i < 0x1000 := by
  obtain ⟨k, hk, rfl⟩ := List.mem_map.1 (List.mem_eraseDups.1 h)
  have force := (List.mem_filter.1 hk).2
  simp only [isForceKey, Bool.and_eq_true, decide_eq_true_eq] at force
  omega

theorem keepForces {was : Nat → Word} (h : SameGait s t) : SameGait s (t.keepForces was) := by
  unfold State.keepForces
  extract_lets ids s₁
  have h₁ : SameGait s s₁ := h.foldl fun i hi _ h' => by
    have lt : i < 0x1000 := signal_lt hi
    refine .ite h' (.when (h'.foldl fun w hw _ h'' => h''.setTab ?_) fun _ h'' => h''.raise)
    simp only [List.mem_cons, List.not_mem_nil, or_false] at hw
    omega
  exact h₁.wr

theorem restoreForces (h : SameGait s t) : SameGait s t.restoreForces := by
  unfold State.restoreForces
  extract_lets _ s₁
  have h₁ : SameGait s s₁ := h.clearForces.foldl fun c hc _ h' => h'.setKey fun e => by
    have force := (List.mem_filter.1 hc).2
    rw [e] at force
    exact absurd force (by decide)
  exact h₁.keepForces

theorem showRetain (h : SameGait s t) : SameGait s t.showRetain := by
  unfold State.showRetain
  exact h.wr.wr

theorem restart {cold : Bool} (h : SameGait s t) : SameGait s (t.restart cold) := by
  unfold State.restart
  extract_lets _ _ _ _ s₁ s₂ _ s₃ s₄ _ s₅
  have h₁ : SameGait s s₁ := h.foldl fun _ _ _ h' => .ite h'.fillLane.fillLane h'.fillLane
  have h₂ : SameGait s s₂ := .ite h₁.restoreForces h₁.clearForces
  have h₃ : SameGait s s₃ := .ite h₂.frame h₂
  have h₄ : SameGait s s₄ := h₃.wr
  have h₅ : SameGait s s₅ := h₄.frame
  exact h₅.showRetain.wr

/-! ### Boot -/

theorem bootLaneImage {which : Nat → Bool} (h : SameGait s t) : SameGait s (t.bootLaneImage which) := by
  unfold State.bootLaneImage
  split
  · exact h.frame
  · extract_lets _ _ s₁ s₂ s₃
    have h₁ : SameGait s s₁ := h.frame
    have h₂ : SameGait s s₂ := h.frame
    have h₃ : SameGait s s₃ := h₂.wrBit
    refine .ite (h₁.when fun _ h' => h'.raise) (h₃.foldl fun l hl _ h' => h'.fillLane.resetLane ?_)
    have mem := (List.mem_filter.1 hl).1
    simp only [List.mem_cons, List.not_mem_nil, or_false] at mem
    omega

theorem bootService (h : SameGait s t) : SameGait s t.bootService := by
  unfold State.bootService
  split
  · exact h.frame
  · extract_lets _ _ s₁
    have h₁ : SameGait s s₁ := h.frame
    exact h₁.when fun _ h' => h'.raise

theorem setPhase {n : Nat} (h : SameGait s t) : SameGait s (t.setPhase n) := h.wrFld

theorem updService (h : SameGait s t) : SameGait s t.updService := by
  unfold State.updService
  exact .ite h.wr h

/-- Phases 5 to 8 of the boot. -/
theorem bootOn (h : SameGait s t) : SameGait s t.bootOn := by
  unfold State.bootOn
  extract_lets s₁ s₂ s₃
  have h₁ : SameGait s s₁ := h.setPhase.bootLoad
  have h₂ : SameGait s s₂ := h₁.setPhase.bootLaneImage.bootService
  have h₃ : SameGait s s₃ := h₂.setPhase.restart
  exact h₃.setPhase.updService

theorem sampleStraps (h : SameGait s t) : SameGait s t.sampleStraps := h.wrBit.wrBit.wrBit.wrBit

theorem bootTrial (h : SameGait s t) : SameGait s t.bootTrial := by
  unfold State.bootTrial
  extract_lets _ _ s₁
  have h₁ : SameGait s s₁ := h.frame
  exact .ite h₁.wrFld.wrBit.sat16 (.ite (wrFld h.frame) h)

theorem bootFirmware (h : SameGait s t) : SameGait s t.bootFirmware := by
  unfold State.bootFirmware
  extract_lets _ s₁ _ s₂ _ s₃
  have h₁ : SameGait s s₁ := h.raise
  have h₂ : SameGait s s₂ := h₁.frame
  have h₃ : SameGait s s₃ := h₂.raise
  exact .ite h (.ite h₂ h₃.frame)

theorem bootSelect (h : SameGait s t) : SameGait s t.bootSelect := by
  unfold State.bootSelect
  extract_lets s₁
  have h₁ : SameGait s s₁ := h.wrFld
  split
  · exact h₁.wr
  · exact h₁.wr

theorem raiseHeld (h : SameGait s t) : SameGait s t.raiseHeld := .foldl h.frame fun _ _ _ h' => h'.raise

theorem fioRelease (h : SameGait s t) : SameGait s t.fioRelease := .ite h.setLink h

theorem clearRes (h : SameGait s t) : SameGait s t.clearRes :=
  h.foldl fun b hb _ h' => h'.wrFld (rk_ne (by decide) (by have := List.mem_range.1 hb; omega))

theorem startRun {run : FarrRun} {blocks : List Nat} (h : SameGait s t) : SameGait s (t.startRun run blocks) := by
  unfold State.startRun State.fioTestStarts State.xlinkTestStarts
  extract_lets s₁ _ s₂ s₃
  have h₁ : SameGait s s₁ := h.frame
  have h₂ : SameGait s s₂ := h₁.wr.wr.wrFld
  have h₃ : SameGait s s₃ := h₂.wrFld
  have h₄ : SameGait s (if (s₃.xlinkTested && s₃.rb 0x50 0x5C 0) = true then (s₃.wrBit 0x50 0x5C 0 false).raise 229 0 0 0 else s₃) :=
    .ite h₃.wrBit.raise h₃
  exact .ite h₄.setLink h₄

theorem boot {cause : Nat} {recStarts : Bool} (h : SameGait s t) : SameGait s (t.boot cause recStarts) := by
  unfold State.boot
  extract_lets _ s₁ s₂ found₁ found₂ s₃ _ s₄ s₅ s₆ s₇ s₈ s₉
  have h₁ : SameGait s s₁ := h.setPhase
  have h₂ : SameGait s s₂ := .ite h₁.sampleStraps h₁
  have seen₁ : ∀ k ∈ found₁, k < 12 := by
    unfold found₁
    split
    · exact fun k hk => List.mem_range.1 (List.mem_filter.1 hk).1
    · exact fun k hk => absurd hk List.not_mem_nil
  have seen₂ : ∀ k ∈ found₂, k < 12 := by
    unfold found₂
    split
    · exact seen₁
    · intro k hk
      rcases List.mem_append.1 hk with hk | hk
      · exact seen₁ k hk
      · rw [List.mem_singleton.1 hk]; decide
  have h₃ : SameGait s s₃ := .ite h₂ (h₂.spookFire seen₂)
  have h₄ : SameGait s s₄ := h₃.setPhase.bootTrial.bootFirmware
  have h₅ : SameGait s s₅ := .ite h₄.recStart h₄
  have h₆ : SameGait s s₆ := h₅.raise
  have h₇ : SameGait s s₇ := raiseHeld (h₆.when fun _ h' => h'.raise)
  have h₈ : SameGait s s₈ := h₇.when fun _ h' => h'.vendorRecord
  have h₉ : SameGait s s₉ := h₈.setPhase.bootSelect.fioRelease.setPhase.clearRes
  exact .ite h₄ (.ite h₉.startRun h₈.fioRelease.bootOn)

/-! ### The planes -/

theorem planesLost {sel mem : Nat → Bool} (h : SameGait s t) (hs : sel 0x72 = false) : SameGait s (t.planesLost sel mem) := by
  unfold State.planesLost
  extract_lets roleIn s₁ s₂
  have pages : SameGait s (t.resetPages sel) := h.filtered (f := fun k => !sel (keyPage k)) (by
    rw [show keyPage (rk 0x72 0x44) = 0x72 from rfl, hs]; rfl)
  have h₁ : SameGait s s₁ := pages.frame
  have h₂ : SameGait s s₂ := h₁.frame
  exact h₂.laneFlags.wrBit

theorem clearNet (h : SameGait s t) : SameGait s t.clearNet := h.frame

end SameGait

end Sys2Proof.Machine
end

section
set_option Elab.async false -- one proof after the other: each further worker thread takes its stack from the check's memory
/-! SUPPORT. The power ladder: wakes, requests, the way down and the exit (R469 to R475). -/

namespace Sys2Proof.Machine

variable {s t u : State}

/-! ### Wakes -/

/-- A wake source that can act is kept as the cause, of several the lowest code, and the transition goes no further. -/
theorem wakeBy_wakes {c : Nat} (may : s.mayWake = true) :
    (s.wakeBy c).gait.wake = some (min c (s.gait.wake.getD c)) ∧ (s.wakeBy c).gait.stage = .none := by
  have lowest : (match s.gait.wake with | none => c | some w => min w c) = min c (s.gait.wake.getD c) := by
    cases s.gait.wake with
    | none => exact (Nat.min_self c).symm
    | some w => exact Nat.min_comm w c
  unfold State.wakeBy
  rw [if_neg (by simp [may])]
  exact ⟨congrArg some lowest, rfl⟩

/-- The same, where the cause kept is that of another state. -/
theorem wakeBy_wake_of {c : Nat} (may : t.mayWake = true) (h : t.gait.wake = s.gait.wake) :
    (t.wakeBy c).gait.wake = some (min c (s.gait.wake.getD c)) := by
  rw [← h]
  exact (wakeBy_wakes may).1

theorem wakeBy_keep {c : Nat} : (s.wakeBy c).keep = s.keep := by
  unfold State.wakeBy
  split
  · rfl
  · rfl

theorem wakeBy_boxes {c : Nat} : (s.wakeBy c).boxes = s.boxes := by
  unfold State.wakeBy
  split
  · rfl
  · rfl

theorem mayWake_of_gaitNow (h : s.gaitNow ≠ 0) : s.mayWake = true := by simp [State.mayWake, h]

theorem rf_congr {p o lo n : Nat} (h : t.regs = s.regs) : t.rf p o lo n = s.rf p o lo n := by
  rw [State.rf, rd_congr h, State.rf]

theorem progMode_congr (h : t.regs = s.regs) : t.progMode = s.progMode := rf_congr h

theorem mayWake_congr (regs : t.regs = s.regs) (stage : t.gait.stage = s.gait.stage) : t.mayWake = s.mayWake := by
  rw [State.mayWake, State.mayWake, State.inTransition, State.inTransition, gaitNow_congr regs, stage]

/-- A wake after the alarm was cleared. -/
theorem wakeBy_alarm {k : Keep} {c : Nat} (cleared : k.rtcAlarm = 0) (may : s.mayWake = true) :
    (State.wakeBy { s with keep := k } c).keep.rtcAlarm = 0 ∧
      (State.wakeBy { s with keep := k } c).gait.wake = some (min c (s.gait.wake.getD c)) :=
  ⟨(congrArg (·.rtcAlarm) wakeBy_keep).trans cleared, wakeBy_wake_of ((mayWake_congr rfl rfl).trans may) rfl⟩

/-! ### Requests -/

/-- The page of a mailbox is not that of the power ladder. -/
theorem boxPage_gait {n o : Nat} (hn : n < 3) (ho : o < 0x20000 := by decide) : ¬BoxWords n (rk 0x72 o) := by
  have := boxPage_ne hn
  rw [BoxWords, rk_page _ _ ho]
  omega

theorem boxBusy_ladder {Q : Nat → Prop} {n : Nat} (h : SameBut Q s t) (hn : n < 3) (hQ : ∀ k, Q k → keyPage k = 0x72) :
    t.boxBusy n = s.boxBusy n := by
  have := boxPage_ne hn
  exact h.rb (by omega) (by decide) (by decide) fun hq => by
    have := hQ _ hq
    rw [rk_page _ _ (by decide)] at this
    omega

theorem wakeWords_page (k : Nat) (h : WakeWords k) : keyPage k = 0x72 := by
  rcases h with rfl | rfl <;> rfl

/-- An accepted request: the stage, the target and PSTAT.PENDING. -/
theorem gaitAccept_accepts {x : Nat} (hx : x ≤ 4) : (s.gaitAccept x).gait.stage = .accepted ∧ (s.gaitAccept x).gaitTarget = x ∧
    (s.gaitAccept x).rb 0x72 0x0C 0 = true := by
  refine ⟨rfl, ?_, ?_⟩
  · rw [State.gaitAccept, State.gaitTarget, rf_wrFld_self _ _ _ _ _ _ (by decide)]
    exact Nat.mod_eq_of_lt (by omega)
  · rw [State.gaitAccept, State.rb, rd_wrFld_ne _ _ _ _ _ _ _ _ (by decide), ← State.rb, rb_wrBit_self _ _ _ _ _ (by decide)]

theorem gaitAccept_words {x : Nat} : SameBut WakeWords s (s.gaitAccept x) := by
  unfold State.gaitAccept
  have staged : SameBut WakeWords s { s with gait := { s.gait with stage := .accepted, startAt := s.tb.count + 1_000_000 } } := SameBut.refl.regs
  exact (staged.wrBit (by decide)).wrFld

/-- GAIT_SET downwards that nothing refuses (R469, R470). -/
theorem gaitSet_accepts {n x : Nat} (hn : n < 3) (busy : s.boxBusy n = true) (arg : x = fld (s.boxArg n 0) 0 3)
    (ok : s.gaitBoxOk n = true) (idle : s.inTransition = false) (down : s.gaitNow < x) (hx : x ≤ 4) (free : s.gaitRefusal x = 0) :
    s.Ended (s.gaitSet n) n 0 0 ∧ (s.gaitSet n).gait.stage = .accepted ∧ (s.gaitSet n).gaitTarget = x ∧
      (s.gaitSet n).rb 0x72 0x0C 0 = true := by
  have set : s.gaitSet n = (s.gaitAccept x).boxDone n 0 [] := by
    rw [State.gaitSet, ← arg, if_neg (by simp [ok]), if_neg (by omega), if_neg (by simp [idle]), if_neg (by omega), if_neg (by omega),
      if_neg (by omega)]
    simp only [free, ne_eq, not_true_eq_false, if_false]
  have busy' : (s.gaitAccept x).boxBusy n = true := by rw [boxBusy_ladder gaitAccept_words hn wakeWords_page]; exact busy
  have frame : Kept (BoxWords n) (s.gaitAccept x) ((s.gaitAccept x).boxDone n 0 []) := Kept.refl.boxDone fun _ h => h
  obtain ⟨stage, target, pending⟩ := gaitAccept_accepts (s := s) hx
  rw [set]
  exact ⟨ended_congr (u := s.gaitAccept x) rfl (boxDone_ended hn busy' rfl), (congrArg (·.stage) frame.gait).trans stage,
    (frame.rf (hq := boxPage_gait hn)).trans target, (frame.rb (hq := boxPage_gait hn)).trans pending⟩

/-- GAIT_SET towards GALLOP wakes (R472). -/
theorem gaitSet_wakes {n : Nat} (hn : n < 3) (busy : s.boxBusy n = true) (arg : fld (s.boxArg n 0) 0 3 = 0)
    (ok : s.gaitBoxOk n = true) (idle : s.inTransition = false) (below : s.gaitNow ≠ 0) (cool : s.dieTemp < 1200) :
    s.Ended (s.gaitSet n) n 0 0 ∧ (s.gaitSet n).gait.wake = some (min 5 (s.gait.wake.getD 5)) := by
  have set : s.gaitSet n = (s.wakeBy 5).boxDone n 0 [] := by
    rw [State.gaitSet, arg, if_neg (by simp [ok]), if_neg (by omega), if_neg (by simp [idle]), if_neg (by omega), if_pos rfl,
      if_neg (by omega)]
  have words : SameBut WakeWords s (s.wakeBy 5) := SameBut.refl.wakeBy fun _ h => h
  have busy' : (s.wakeBy 5).boxBusy n = true := by rw [boxBusy_ladder words hn wakeWords_page]; exact busy
  have frame : Kept (BoxWords n) (s.wakeBy 5) ((s.wakeBy 5).boxDone n 0 []) := Kept.refl.boxDone fun _ h => h
  rw [set]
  exact ⟨ended_congr wakeBy_boxes.symm (boxDone_ended hn busy' rfl),
    (congrArg (·.wake) frame.gait).trans (wakeBy_wakes (mayWake_of_gaitNow below)).1⟩

/-! ### The way down -/

/-- GAIT_CHANGED shows the new gait and changes nothing else of the word and of the ladder's state. -/
theorem rd_gaitChanged {g : Nat} : (s.gaitChanged g).rd 0x72 0x44 = setFld (s.rd 0x72 0x44) 0 3 g := by
  unfold State.gaitChanged
  extract_lets _ s₁
  have h₁ : s₁.rd 0x72 0x44 = setFld (s.rd 0x72 0x44) 0 3 g :=
    (rd_wr_ne _ _ _ _ _ _ (by decide)).trans ((rd_wr_ne _ _ _ _ _ _ (by decide)).trans (rd_wrFld_self _ _ _ _ _ _))
  exact (rd_raise _ _ _ _ _ _ _ (by decide) (by decide) (by decide)).trans h₁

theorem gaitChanged_gait {g : Nat} : (s.gaitChanged g).gait = s.gait := (onlyRegsInlet_raise _ _ _ _ _).gait_eq

theorem gaitNow_gaitChanged {g : Nat} (hg : g < 8) : (s.gaitChanged g).gaitNow = g := by
  rw [State.gaitNow, State.rf, rd_gaitChanged, fld_setFld_self _ _ _ _ (by decide)]
  exact Nat.mod_eq_of_lt hg

theorem gaitNow_gaitEnd : s.gaitEnd.gaitNow = s.gaitNow := by
  unfold State.gaitEnd
  extract_lets _ _ s₁
  have h₁ : s₁.rd 0x72 0x44 = s.rd 0x72 0x44 := rd_congr rfl _ _
  rw [State.gaitNow, State.rf, rd_wrFld_self, fld_setFld_ne _ _ _ _ _ _ (by decide) (by decide), rd_wrBit_ne _ _ _ _ _ _ _ (by decide), h₁]
  rfl

theorem SameGait.gaitNow (h : SameGait s t) : t.gaitNow = s.gaitNow := congrArg (fld · 0 3) h.word

/-- Steps 3 to 7 enter the target gait (R471). -/
theorem goDown_enters : s.goDown.gaitNow = s.gaitTarget ∧ s.goDown.gait.stage = .none := by
  unfold State.goDown
  extract_lets g can _ s₁ s₂ s₃ s₄ _ s₅ s₆
  have lt : g < 8 := fld_lt _ _ _
  have h₃ : s₃.gaitNow = g ∧ s₃.gait.stage = .none := ⟨gaitNow_gaitEnd.trans (gaitNow_gaitChanged lt), rfl⟩
  have h₄ : SameGait s₃ s₄ := .ite (SameGait.clearNet .refl) .refl
  have h₅ : SameGait s₃ s₅ := .ite h₄.frame h₄
  have h₆ : SameGait s₃ s₆ := h₅.planesLost (by decide)
  have down : SameGait s₃ (if g = 3 then s₅.planesLost lostInWalk (fun a => (usbMem 0 ≤ a && a < usbMem 0x1_0000) || hostMem 0 ≤ a)
      else if g = 4 then { s₆ with inlet := [], recd := {}, upd := {}, boxes := [{}, {}, {}], bells := [], farr := {} } else s₅.refresh) :=
    .ite (h₅.planesLost (by decide)) (.ite h₆.frame h₅.refresh)
  exact ⟨down.gaitNow.trans h₃.1, down.stage.trans h₃.2⟩

/-- What decides the first steps of a transition is not changed by time. -/
theorem advanceTo_ladder {c : Nat} : (s.advanceTo c).moving = s.moving ∧ (s.advanceTo c).role = s.role ∧
    (s.advanceTo c).gaitTarget = s.gaitTarget ∧ (s.advanceTo c).progMode = s.progMode ∧ (s.advanceTo c).gaitNow = s.gaitNow := by
  have same : SameBut TimeWords s (s.advanceTo c) := advanceTo_sameBut
  refine ⟨?_, same.rf, same.rf, same.rf, same.rf⟩
  rw [State.moving, State.moving, advanceTo_pins, State.progMoving, same.rb]
  rfl

/-- The start of a transition of a module that stands still and does not carry the role. -/
theorem gaitStep1_step2 (still : s.moving = false) (follows : s.role ≠ 1) : s.gaitStep1 = s.gaitStep2 := by
  rw [State.gaitStep1, if_neg (by simp [still]), if_neg follows]

/-! ### The exit -/

/-- A write of the exit's cause leaves the gait; what follows leaves the word. -/
theorem exit_shows {w : Nat} (now : s.gaitNow = 0) (wake : s.gait.wake = none) (h : SameGait (s.wrFld 0x72 0x44 8 4 w) t) :
    t.gaitNow = 0 ∧ t.gait.wake = none ∧ t.rf 0x72 0x44 8 4 = w % 16 := by
  refine ⟨?_, h.wake.trans wake, ?_⟩
  · rw [State.gaitNow, State.rf, h.word, rd_wrFld_self, fld_setFld_ne _ _ _ _ _ _ (by decide) (by decide)]
    exact now
  · rw [State.rf, h.word, rd_wrFld_self, fld_setFld_self _ _ _ _ (by decide)]; rfl

/-- A reset of the whole module other than a management reset's warm start takes the ladder to GALLOP (R478). -/
theorem wholeReset_gallop {cause n : Nat} {a : Bool} (hc : cause ≠ 2) :
    (s.wholeReset cause a n).gaitNow = 0 ∧ (s.wholeReset cause a n).gait.wake = none := by
  unfold State.wholeReset
  extract_lets por _ _ _ t₀ t₁ t₂ t₃ t₄ t₅ t₆ t₇
  have empty : t₀.regs = [] := if_neg hc
  have anew : t₀.gait.wake = none := rfl
  have h₁ : SameGait t₀ t₁ := by
    have h₀ : SameGait t₀ (t₀.setCause cause) := SameGait.refl.wr
    exact SameGait.wrBit (.ite h₀ h₀.wrBit.wrBit.wr)
  have h₂ : SameGait t₀ t₂ := h₁.wr.wr
  have h₃ : SameGait t₀ t₃ := h₂.wrBit.wrBit
  have h₄ : SameGait t₀ t₄ := SameGait.wr (.ite h₃ h₃.wr)
  have h₅ : SameGait t₀ t₅ := h₄.wrBit
  have h₆ : SameGait t₀ t₆ := h₅.laneFlags
  have h₇ : SameGait t₀ t₇ := h₆.tbReset
  clear_value t₇ t₀
  have h₈ : SameGait t₀ { t₇ with tro := { t₇.tro with bootAt := t₇.tb.count, railsOk := s.tro.railsOk } } := h₇.frame
  refine ⟨h₈.gaitNow.trans ?_, h₈.wake.trans anew⟩
  rw [State.gaitNow, State.rf, State.rd, State.key, empty]
  decide

theorem SameGait.exitUs {o : Nat} (h : SameGait s t) : SameGait s (t.exitUs o) := by
  unfold State.exitUs
  extract_lets _
  exact h.wr.draw

theorem gallop_of_same (g : s.gaitNow = 0 ∧ s.gait.wake = none) (h : SameGait s t) : t.gaitNow = 0 ∧ t.gait.wake = none :=
  ⟨h.gaitNow.trans g.1, h.wake.trans g.2⟩

theorem gallop_ite {c : Prop} {_ : Decidable c} (ha : s.gaitNow = 0 ∧ s.gait.wake = none) (hb : t.gaitNow = 0 ∧ t.gait.wake = none) :
    (if c then s else t).gaitNow = 0 ∧ (if c then s else t).gait.wake = none := by
  split
  · exact ha
  · exact hb

theorem resetBoot_gallops {cause n : Nat} {a : Bool} (hc : cause ≠ 2) :
    (s.resetBoot cause a n).gaitNow = 0 ∧ (s.resetBoot cause a n).gait.wake = none :=
  gallop_of_same (wholeReset_gallop hc) (SameGait.lineCauses .refl).boot

/-- The exit, from whatever gait, comes to GALLOP with its cause (R473). -/
theorem gaitExit_gallops {x : ExitNow} {w : Nat} (due : s.gait.wake = some w) :
    (s.gaitExit x).gaitNow = 0 ∧ (s.gaitExit x).gait.wake = none ∧ (s.gaitExit x).rf 0x72 0x44 8 4 = w % 16 := by
  unfold State.gaitExit
  split
  · next none => rw [none] at due; exact nomatch due
  · next w' found =>
    obtain rfl : w' = w := Option.some.inj (found.symm.trans due)
    extract_lets old cut _ s₁ s₂ s₃ s₄ _ s₅ s₆ s₇ _ s₈ s₉
    have changed : ∀ u : State, (u.gaitChanged 0).gaitNow = 0 ∧ (u.gaitChanged 0).gait.wake = u.gait.wake :=
      fun u => ⟨gaitNow_gaitChanged (by decide), by rw [gaitChanged_gait]⟩
    have h₁ : s₁.gait.wake = none := rfl
    have h₂ : old = 0 → s₂.gaitNow = 0 ∧ s₂.gait.wake = none := fun up => by
      unfold s₂
      clear_value cut
      split
      · exact ⟨(changed _).1, (changed _).2.trans (by rw [gaitChanged_gait])⟩
      · exact ⟨up, h₁⟩
    have h₃ : SameGait s₁ s₃ := SameGait.tbReset .refl
    have h₄ : s₄.gaitNow = 0 ∧ s₄.gait.wake = none := ⟨(changed _).1, (changed _).2.trans (h₃.wake.trans h₁)⟩
    have h₅ : SameGait s₄ s₅ := SameGait.refl.frame
    have h₆ : SameGait (s₁.gaitChanged 0) s₆ := SameGait.visionBack .refl
    have h₇ : SameGait (s₁.gaitChanged 0) s₇ := .ite h₆.setLink h₆
    have h₈ : s₈.gaitNow = 0 ∧ s₈.gait.wake = none := by
      unfold s₈
      refine gallop_ite ?_ (gallop_ite ?_ (gallop_ite ?_ ?_))
      · exact resetBoot_gallops (by decide)
      · exact gallop_of_same h₄ (SameGait.bootOn (SameGait.lineCauses (.ite h₅.setLink h₅)))
      · exact gallop_of_same ⟨(changed s₁).1, (changed s₁).2.trans h₁⟩ (.ite (SameGait.wrBit h₇.frame) h₇)
      · exact gallop_of_same ⟨(changed s₁).1, (changed s₁).2.trans h₁⟩ (SameGait.visionBack .refl)
    have h₉ : SameGait (s₈.wrFld 0x72 0x44 8 4 w') s₉ := SameGait.refl.wrBit
    split
    · next up => exact exit_shows (h₂ up).1 (h₂ up).2 (SameGait.raise .refl)
    · exact exit_shows h₈.1 h₈.2 h₉.exitUs.refresh.raise

end Sys2Proof.Machine
end

section
open Sys2Proof Sys2Proof.Machine

/-- Settles O54: each request, wake and transition as the ladder's functions carry it out, through the steps that leave the ladder
as it was. -/
theorem powerLadder : Obligations.PowerLadder := by
  unfold Obligations.PowerLadder
  refine ⟨fun inst x s holds arg ok idle down hx free => completes_serve rfl (fun _ h => h) holds rfl ?_,
    fun inst s holds arg ok idle below cool => completes_serve rfl (fun _ h => h) holds rfl ?_,
    fun inst s holds ok => completes_serve rfl (fun _ h => h) holds rfl ?_,
    fun s accepted still follows free => completes_of rfl (fun _ h => h) ?_,
    fun s accepted still follows target runs => completes_of rfl (fun _ h => h) ?_,
    fun w x s due => completes_of rfl (fun _ h => h) (gaitExit_gallops due), fun s may => completes_of rfl (fun _ h => h) ?_,
    fun s alarm en may => completes_of rfl (fun _ h => h) ?_, fun fi d s low en fitted hd => ?_⟩
  · exact gaitSet_accepts inst.isLt (boxBusy_of_holds holds) arg ok idle down hx free
  · exact gaitSet_wakes inst.isLt (boxBusy_of_holds holds) arg ok idle below cool
  · rw [if_pos ok]
    have busy := boxBusy_of_holds holds
    exact ⟨boxDone_ended inst.isLt busy rfl, boxDone_resp inst.isLt busy (by simp) (by simp),
      boxDone_resp inst.isLt busy (by simp) (by simp), boxDone_resp inst.isLt busy (by simp) (by simp)⟩
  · obtain ⟨moving, role, target, mode, _⟩ := advanceTo_ladder (s := s) (c := s.gait.startAt)
    rw [if_pos accepted, gaitStep1_step2 (moving.trans still) (by rw [role]; exact follows), State.gaitStep2,
      if_neg (by simp [moving, still]), target, mode, if_neg (by simp only [Bool.and_eq_true, decide_eq_true_eq]; omega), ← target]
    exact goDown_enters
  · obtain ⟨moving, role, goal, mode, now⟩ := advanceTo_ladder (s := s) (c := s.gait.startAt)
    rw [if_pos accepted, gaitStep1_step2 (moving.trans still) (by rw [role]; exact follows), State.gaitStep2,
      if_neg (by simp [moving, still]), goal, mode, if_pos (by simp [target, runs])]
    exact ⟨rfl, rfl, (gaitNow_congr rfl).trans now, (progMode_congr rfl).trans mode⟩
  · exact wakeBy_wakes may
  · rw [if_pos (by simp [alarm, en, may])]
    exact wakeBy_alarm rfl may
  · subst hd
    have sampled : ((s.gaitNow = 2 || s.gaitNow = 3) && s.rb 0x72 0x48 3 && s.fioFitted) = true := by simp [low, en, fitted]
    have may : s.mayWake = true := mayWake_of_gaitNow (by omega)
    refine ⟨fun hit => completes_of rfl (fun _ h => h) ?_, fun miss => completes_of rfl (fun _ h => by rw [h]) ?_⟩
    · rw [if_pos sampled, if_pos (by simpa using hit)]
      exact wakeBy_wake_of ((mayWake_congr rfl rfl).trans may) rfl
    · rw [if_pos sampled, if_neg (by simpa using miss)]
end

section
set_option Elab.async false -- one proof after the other: each further worker thread takes its stack from the check's memory
/-! SUPPORT. The time base: instants, captures, measurements, and the two accesses that act (R129 to R143). -/

namespace Sys2Proof.Machine

variable {s t u : State} {Q : Nat → Prop}

/-! ### Instants -/

/-- The next instant of a period is a multiple of it after the phase, and not before now. -/
theorem nextInstant_spec {phi p now : Nat} {last : Option Nat} (hp : 0 < p) :
    (∃ n, nextInstant phi p now last = phi + n * p) ∧ now ≤ nextInstant phi p now last := by
  have reached : ∃ n, (if now ≤ phi then phi else phi + (now - phi + p - 1) / p * p) = phi + n * p ∧ now ≤ phi + n * p := by
    split
    · exact ⟨0, by omega, by omega⟩
    · have := Nat.div_add_mod (now - phi + p - 1) p
      have := Nat.mod_lt (now - phi + p - 1) hp
      have := Nat.mul_comm p ((now - phi + p - 1) / p)
      exact ⟨_, rfl, by omega⟩
  obtain ⟨n, eq, le⟩ := reached
  unfold nextInstant
  rw [if_neg (by omega), eq]
  cases last with
  | none => exact ⟨⟨n, rfl⟩, le⟩
  | some l =>
    dsimp only
    split
    · have := Nat.div_add_mod (l - phi) p
      have := Nat.mod_lt (l - phi) hp
      have := Nat.mul_comm p ((l - phi) / p)
      exact ⟨⟨_, rfl⟩, by rw [Nat.add_mul, Nat.one_mul]; omega⟩
    · exact ⟨⟨n, rfl⟩, le⟩

/-- The next second mark is a whole second of wall time, and not before now (R141). -/
theorem nextMark_spec : s.tb.count ≤ s.nextMark ∧ ((s.nextMark : Int) + s.wallOffset) % 1_000_000_000 = 0 := by
  obtain ⟨⟨n, eq⟩, le⟩ := nextInstant_spec (phi := ((-s.wallOffset) % 1_000_000_000).toNat) (p := 1_000_000_000) (now := s.tb.count)
    (last := s.tb.lastMark) (by decide)
  refine ⟨le, ?_⟩
  rw [State.nextMark, eq]
  generalize s.wallOffset = w
  omega

/-! ### Time passes -/

/-- Every variant has the TB page. -/
theorem tb_fitted (v : Variant) : pageAbsent v 0x05 = false := by cases v <;> rfl

theorem rd_holdSeconds (hold : s.tbState = tbHoldover) :
    s.holdSeconds.rd 0x05 0x80 = w32 (min 0xFFFF_FFFF ((s.tb.count - s.tb.holdAt) / 1_000_000_000)) := by
  unfold State.holdSeconds State.when
  rw [if_pos (decide_eq_true hold), rd_wr_self]

/-- HOLD_S in HOLDOVER, as time comes to `c` (R136). -/
theorem rd_hold_setCount {c fr : Nat} (hold : s.tbState = tbHoldover) :
    (s.setCount c fr).rd 0x05 0x80 = w32 (min 0xFFFF_FFFF ((c - s.tb.holdAt) / 1_000_000_000)) := by
  unfold State.setCount
  extract_lets wraps sampled _ s₁
  have held : State.rd (State.holdSeconds { s with tb := { s.tb with count := c, frac := fr } }) 0x05 0x80 =
      w32 (min 0xFFFF_FFFF ((c - s.tb.holdAt) / 1_000_000_000)) := by
    refine rd_holdSeconds ((Eq.trans ?_ hold))
    exact congrArg (fld · 0 2) (rd_congr rfl _ _)
  have h₁ : SameBut (fun k => keyPage k = 0x06) (State.holdSeconds { s with tb := { s.tb with count := c, frac := fr } }) s₁ :=
    .when .refl fun _ h' => h'.samplePcs fun _ h => h
  have h₂ : SameBut (fun k => keyPage k = 0x06) (State.holdSeconds { s with tb := { s.tb with count := c, frac := fr } })
      (s₁.when (0 < wraps) fun t => t.raise 32 t.epoch (w32 wraps) 0) := h₁.when fun _ h' => h'.raise
  exact h₂.rd.trans held

/-- A carry into TB_EPOCH raises TB_WRAP (R129). -/
theorem setCount_wraps {c fr : Nat} (carry : s.tb.count / 2 ^ 32 < c / 2 ^ 32) : (s.setCount c fr).rb 0x05 0x18 0 = true := by
  unfold State.setCount
  extract_lets wraps sampled _ s₁
  have pos : 0 < wraps := by unfold wraps; omega
  rw [State.when, if_pos (decide_eq_true pos)]
  exact rb_raise_self rfl rfl (tb_fitted _)

/-! ### Captures (R143) -/

/-- Capture slot `k` holds the time `c` and is disarmed. -/
structure SlotLatched (k c : Nat) (s : State) : Prop where
  low : s.rd 0x05 (0xA4 + 0x10 * k) = w32 c
  high : s.rd 0x05 (0xA8 + 0x10 * k) = w32 (c / 2 ^ 32)
  off : s.rb 0x05 (0xA0 + 0x10 * k) 8 = false

/-- Slot `j` latches `c`. -/
def State.latchSlot (s : State) (c j : Nat) : State :=
  ((s.wr 0x05 (0xA4 + 0x10 * j) (w32 c)).wr 0x05 (0xA8 + 0x10 * j) (w32 (c / 2 ^ 32))).wrBit 0x05 (0xA0 + 0x10 * j) 8 false

/-- Slots latch `c`, one after the other. -/
def State.latchSlots (s : State) (c : Nat) (l : List Nat) : State := l.foldl (fun t j => t.latchSlot c j) s

theorem latchSlot_self {k c : Nat} : SlotLatched k c (s.latchSlot c k) where
  low := (rd_wrBit_ne _ _ _ _ _ _ _ (by unfold rk; omega)).trans ((rd_wr_ne _ _ _ _ _ _ (by unfold rk; omega)).trans (rd_wr_self _ _ _ _))
  high := (rd_wrBit_ne _ _ _ _ _ _ _ (by unfold rk; omega)).trans (rd_wr_self _ _ _ _)
  off := rb_wrBit_self _ _ _ _ _ (by decide)

theorem latchSlot_ne {j k c o : Nat} (hj : j ≠ k) (ho : o = 0xA0 ∨ o = 0xA4 ∨ o = 0xA8) :
    (s.latchSlot c j).rd 0x05 (o + 0x10 * k) = s.rd 0x05 (o + 0x10 * k) :=
  (rd_wrBit_ne _ _ _ _ _ _ _ (by unfold rk; omega)).trans
    ((rd_wr_ne _ _ _ _ _ _ (by unfold rk; omega)).trans (rd_wr_ne _ _ _ _ _ _ (by unfold rk; omega)))

theorem SlotLatched.latchSlot {j k c : Nat} (h : SlotLatched k c s) : SlotLatched k c (s.latchSlot c j) := by
  by_cases e : j = k
  · rw [e]; exact latchSlot_self
  · exact ⟨(latchSlot_ne e (by decide)).trans h.low, (latchSlot_ne e (by decide)).trans h.high,
      (congrArg (bit · 8) (latchSlot_ne e (by decide))).trans h.off⟩

theorem SlotLatched.latchSlots {k c : Nat} {l : List Nat} (h : SlotLatched k c s) :
    SlotLatched k c (s.latchSlots c l) := by
  induction l generalizing s with
  | nil => exact h
  | cons j l ih => exact ih h.latchSlot

theorem slotLatched_of_mem {k c : Nat} {l : List Nat} (hk : k ∈ l) : SlotLatched k c (s.latchSlots c l) := by
  induction l generalizing s with
  | nil => exact absurd hk List.not_mem_nil
  | cons j l ih =>
    rcases List.mem_cons.1 hk with rfl | hk
    · exact latchSlot_self.latchSlots
    · exact ih hk

theorem SlotLatched.same {k c : Nat} (h : SlotLatched k c s) (g : SameBut Q s t) (hk : k < 4)
    (hQ : ∀ o, 0xA0 ≤ o → o < 0xE0 → ¬Q (rk 0x05 o)) : SlotLatched k c t where
  low := (g.rd (by decide) (by omega) (by omega) (hQ _ (by omega) (by omega))).trans h.low
  high := (g.rd (by decide) (by omega) (by omega) (hQ _ (by omega) (by omega))).trans h.high
  off := (g.rb (by decide) (by omega) (by omega) (hQ _ (by omega) (by omega))).trans h.off

/-- The slots that an edge of a source serves. -/
def State.slotsFor (s : State) (src : Nat) : List Nat :=
  (List.range 4).filter (fun k => s.rb 0x05 (0xA0 + 0x10 * k) 8 && s.rf 0x05 (0xA0 + 0x10 * k) 0 7 = src)

/-- A capture is the slots' latches and at most an event. -/
theorem capture_eq {src c : Nat} : s.capture src c = s.latchSlots c (s.slotsFor src) ∨
    ∃ k, s.capture src c = (s.latchSlots c (s.slotsFor src)).raise 38 (w32 k) 0 0 := by
  unfold State.capture
  extract_lets ks s₁
  have latched : s₁ = s.latchSlots c (s.slotsFor src) := rfl
  rw [← latched]
  clear_value s₁ ks
  cases ks with
  | nil => exact .inl rfl
  | cons k _ => exact .inr ⟨k, rfl⟩

/-- An armed slot that names the source latches the time of the edge and is disarmed (R143). -/
theorem capture_latches {src c k : Nat} (hk : k < 4) (armed : s.rb 0x05 (0xA0 + 0x10 * k) 8 = true)
    (named : s.rf 0x05 (0xA0 + 0x10 * k) 0 7 = src) : SlotLatched k c (s.capture src c) := by
  have mem : k ∈ s.slotsFor src := List.mem_filter.2 ⟨List.mem_range.2 hk, by simp [armed, named]⟩
  rcases capture_eq (s := s) (src := src) (c := c) with eq | ⟨j, eq⟩
  · rw [eq]; exact slotLatched_of_mem mem
  · rw [eq]; exact (slotLatched_of_mem mem).same (Q := fun _ => False) SameBut.refl.raise hk fun _ _ _ h => h

/-- The words of the capture slots. -/
abbrev SlotWords (k : Nat) : Prop := keyPage k = 0x05 ∧ 0xA0 ≤ k % 0x20000

theorem slotWords_rk {o : Nat} (h : 0xA0 ≤ o) (h' : o < 0x20000) : SlotWords (rk 0x05 o) :=
  ⟨rk_page _ _ h', by unfold rk; omega⟩

theorem capture_words {src c : Nat} : Kept SlotWords s (s.capture src c) := by
  have folded : Kept SlotWords s (s.latchSlots c (s.slotsFor src)) := .foldl .refl fun j hj _ h' => by
    have lt := List.mem_range.1 (List.mem_filter.1 hj).1
    exact ((h'.wr (slotWords_rk (by omega) (by omega))).wr (slotWords_rk (by omega) (by omega))).wrBit (slotWords_rk (by omega) (by omega))
  rcases capture_eq (s := s) (src := src) (c := c) with eq | ⟨j, eq⟩
  · rw [eq]; exact folded
  · rw [eq]; exact folded.raise

/-! ### The second mark (R141) -/

/-- The second mark of a running clock. -/
theorem secondMarkNow_spec : s.secondMarkNow.keep = s.keep ∧ s.secondMarkNow.tb.count = s.nextMark ∧
    s.secondMarkNow.tb.lastMark = some s.nextMark ∧
    (s.rb 0x05 0x08 2 = true → 2 ≤ s.tbState → s.secondMarkNow.pins.ppsRise = some s.nextMark) ∧
    (s.tbState = tbHoldover → s.tb.count < s.nextMark →
      s.secondMarkNow.rd 0x05 0x80 = w32 (min 0xFFFF_FFFF ((s.nextMark - s.tb.holdAt) / 1_000_000_000))) := by
  unfold State.secondMarkNow
  extract_lets s₁ _ s₂
  have count : s₁.tb.count = s.nextMark := (advanceTo_count _ _).trans (Nat.max_eq_right nextMark_spec.1)
  have same₁ : SameBut TimeWords s s₁ := advanceTo_sameBut
  have same₂ : SameBut TimeWords s s₂ := same₁.regs
  have en : s₂.rb 0x05 0x08 2 = s.rb 0x05 0x08 2 := same₂.rb
  have state : s₂.tbState = s.tbState := same₂.rf
  have keep : s₂.keep = s.keep := advanceTo_keep _ _
  have held : s.tbState = tbHoldover → s.tb.count < s.nextMark →
      s₂.rd 0x05 0x80 = w32 (min 0xFFFF_FFFF ((s.nextMark - s.tb.holdAt) / 1_000_000_000)) := fun hold lt => by
    have eq : s₁ = s.setCount s.nextMark 0 := if_pos lt
    exact (congrArg (State.rd · 0x05 0x80) eq).trans (rd_hold_setCount hold)
  have tb : s₂.tb.count = s.nextMark ∧ s₂.tb.lastMark = some s.nextMark := ⟨count, congrArg some count⟩
  rw [State.when]
  split
  · have rest := capture_words (s := { s₂ with pins := { s₂.pins with ppsRise := some s₂.tb.count } }) (src := 62) (c := s₂.tb.count)
    exact ⟨rest.keep.trans keep, (congrArg (·.count) rest.tb).trans tb.1, (congrArg (·.lastMark) rest.tb).trans tb.2,
      fun _ _ => (congrArg (·.ppsRise) rest.pins).trans (congrArg some count), fun hold lt => rest.rd.trans (held hold lt)⟩
  · next quiet =>
    refine ⟨keep, tb.1, tb.2, fun on locked => absurd ?_ quiet, held⟩
    rw [en, state, on, decide_eq_true locked]
    rfl

/-- The count of the always-on clock moves on and shows below GALLOP; time and pins stay (R478). -/
theorem rtcCount_spec {v : Word} : letI x : State := { s with keep := { s.keep with rtcS := (s.keep.rtcS + 1) % 2 ^ 32 } }
    letI y := if x.gaitNow = 0 then x else x.wr 0x72 0x58 v
    y.keep.rtcS = (s.keep.rtcS + 1) % 2 ^ 32 ∧ y.tb = s.tb ∧ y.pins = s.pins ∧ y.rd 0x05 0x80 = s.rd 0x05 0x80 := by
  generalize hx : ({ s with keep := { s.keep with rtcS := (s.keep.rtcS + 1) % 2 ^ 32 } } : State) = x
  have shown : Kept (· = rk 0x72 0x58) x (if x.gaitNow = 0 then x else x.wr 0x72 0x58 v) := .ite .refl Kept.refl.wr
  refine ⟨(congrArg (·.rtcS) shown.keep).trans ?_, shown.tb.trans ?_, shown.pins.trans ?_, shown.rd.trans ?_⟩ <;> rw [← hx]
  exact rd_congr rfl _ _

end Sys2Proof.Machine
end

section
set_option Elab.async false -- one proof after the other: each further worker thread takes its stack from the check's memory
/-! SUPPORT. Measurements of the reference sources (R133 to R138), and the accesses to TB that act (R130, R133). -/

namespace Sys2Proof.Machine

variable {s t u : State}

/-! ### What a measurement leaves -/

/-- The words that a measurement changes: state, rate, validity, offset, HOLD_S and the cycles stepped over, samples of the lanes' PCs
and the camera ports' pages. -/
abbrev TbWords (k : Nat) : Prop :=
  keyPage k = 0x06 ∨ (0x31 ≤ keyPage k ∧ keyPage k ≤ 0x38) ∨
    k ∈ [rk 0x05 0x0C, rk 0x05 0x48, rk 0x05 0x4C, rk 0x05 0x5C, rk 0x05 0x60, rk 0x05 0x80, rk 0x05 0x84]

theorem timeWords_tb : ∀ k, TimeWords k → TbWords k := by
  rintro k (h | rfl)
  · exact .inl h
  · decide

theorem tbWords_cam {c o : Nat} (hc : c < 8) (ho : o < 0x20000 := by decide) : TbWords (rk (camPage c) o) := by
  refine .inr (.inl ?_)
  rw [rk_page _ _ ho]
  unfold camPage
  omega

/-- Beside the words of a measurement the registers are as before, and so are the last measurements' times and the bus. -/
structure Measured (s t : State) : Prop extends SameBut TbWords s t where
  lastT : t.tb.lastT = s.tb.lastT
  bus : t.bus = s.bus

namespace Measured

theorem refl : Measured s s := ⟨.refl, rfl, rfl⟩

theorem frame (h : Measured s t) (regs : u.regs = t.regs := by rfl) (lastT : u.tb.lastT = t.tb.lastT := by rfl)
    (bus : u.bus = t.bus := by rfl) : Measured s u := ⟨h.toSameBut.regs regs, lastT.trans h.lastT, bus.trans h.bus⟩

theorem registers (h : Measured s t) (only : OnlyRegsInlet t u) (same : SameBut TbWords s u) : Measured s u :=
  ⟨same, (congrArg (·.lastT) only.tb_eq).trans h.lastT, only.bus_eq.trans h.bus⟩

theorem wr {p o : Nat} {v : Word} (h : Measured s t) (hq : TbWords (rk p o) := by decide) : Measured s (t.wr p o v) :=
  h.registers (onlyRegsInlet_wr t p o v) (h.toSameBut.wr hq)

theorem wrFld {p o lo n x : Nat} (h : Measured s t) (hq : TbWords (rk p o) := by decide) : Measured s (t.wrFld p o lo n x) := h.wr hq

theorem wrBit {p o i : Nat} {b : Bool} (h : Measured s t) (hq : TbWords (rk p o) := by decide) : Measured s (t.wrBit p o i b) := h.wr hq

theorem raise {n : Nat} {p0 p1 p2 : Word} (h : Measured s t) : Measured s (t.raise n p0 p1 p2) :=
  h.registers (onlyRegsInlet_raise t n p0 p1 p2) h.toSameBut.raise

theorem ite {c : Prop} {_ : Decidable c} {a b : State} (ha : Measured s a) (hb : Measured s b) : Measured s (if c then a else b) := by
  split
  · exact ha
  · exact hb

theorem when {c : Bool} {f : State → State} (h : Measured s t) (hf : ∀ x, Measured s x → Measured s (f x)) :
    Measured s (t.when c f) := .ite (hf t h) h

theorem foldl {α : Type} {f : State → α → State} {l : List α} (h : Measured s t)
    (hf : ∀ x ∈ l, ∀ y, Measured s y → Measured s (f y x)) : Measured s (l.foldl f t) := by
  induction l generalizing t with
  | nil => exact h
  | cons a l ih => exact ih (hf a List.mem_cons_self t h) fun x hx => hf x (List.mem_cons_of_mem a hx)

theorem setRate {f p : Int} (h : Measured s t) : Measured s (t.setRate f p) := by
  unfold State.setRate
  exact (frame (h.wr (p := 0x05) (o := 0x4C))).wr

theorem setCount {c fr : Nat} (h : Measured s t) : Measured s (t.setCount c fr) where
  toSameBut := h.toSameBut.trans (setCount_sameBut.mono timeWords_tb)
  lastT := by rw [(setCount_only (s := t)).tb_eq]; exact h.lastT
  bus := by rw [(setCount_only (s := t)).bus_eq]; exact h.bus

theorem camBad {c code : Nat} (h : Measured s t) (hc : c < 8) : Measured s (t.camBad c code) := by
  have counted : Measured s (t.sat16 (camPage c) 0xB8) := h.wrFld (tbWords_cam hc)
  have bad : Measured s ((t.sat16 (camPage c) 0xB8).modCam c fun x => { x with bad := true }) := counted.frame
  exact .ite h (raise (bad.wr (tbWords_cam hc)))

theorem cutFrames (h : Measured s t) : Measured s t.cutFrames := by
  unfold State.cutFrames
  extract_lets s₁
  have h₁ : Measured s s₁ := h.foldl fun _ hc _ h' => h'.camBad (List.mem_range.1 hc)
  exact h₁.frame

theorem tbSelect (h : Measured s t) : Measured s t.tbSelect := by
  unfold State.tbSelect
  extract_lets _ _ s₁ _ s₂ s₃ _ s₄
  have h₁ : Measured s s₁ := h.wrFld.raise
  have h₂ : Measured s s₂ := h₁.frame
  have h₃ : Measured s s₃ := h₂.setRate
  have h₄ : Measured s s₄ := h₃.frame
  exact .ite h (.ite h₄.wrFld.wr.raise (.ite h₂.wrFld h₂))

theorem tbJudge {theta : Int} (h : Measured s t) : Measured s (t.tbJudge theta) := by
  unfold State.tbJudge
  extract_lets _ _ _ _ s₁
  have h₁ : Measured s s₁ := h.frame
  exact .ite h₁.wrFld (.ite (frame (h₁.wrFld (p := 0x05) (o := 0x0C))) h₁)

theorem tbStep {theta : Int} (h : Measured s t) : Measured s (t.tbStep theta) := by
  unfold State.tbStep
  extract_lets _ _ s₁ s₂ _ s₃
  have h₁ : Measured s s₁ := h.setCount
  have h₂ : Measured s s₂ := h₁.wr
  have h₃ : Measured s s₃ := h₂.frame
  exact h₃.cutFrames.raise

/-- What the servo keeps of a measurement. -/
theorem prev {c : Nat} {theta : Int} {again : Bool} (h : Measured s t) :
    Measured s { t with tb := { t.tb with first := again, thetaPrev := theta, tPrev := c } } := h.frame

theorem tbServo {c : Nat} {theta : Int} (h : Measured s t) : Measured s (t.tbServo c theta) := by
  unfold State.tbServo
  extract_lets s₁ _ _ _ _ _ _ _ _ _ s₂ s₃
  have h₁ : Measured s s₁ := h.wr
  have h₂ : Measured s s₂ := h₁.setRate
  have h₃ : Measured s s₃ := h₂.when fun _ h' => h'.raise
  exact .ite h₁.tbJudge.prev (.ite h₁.setRate.tbJudge.prev (.ite h₁.setRate.tbStep.prev h₃.tbJudge.prev))

end Measured

/-- A measurement changes its words at most. -/
theorem tbMeasure_sameBut {src c : Nat} {theta : Int} : SameBut TbWords s (s.tbMeasure src c theta) := by
  unfold State.tbMeasure
  extract_lets prev n₀ n _ s₁ s₂ s₃
  have h₁ : SameBut TbWords s s₁ := SameBut.refl.regs
  have h₃ : Measured s₁ s₃ := (Measured.refl.wrBit (p := 0x05) (o := 0x5C)).tbSelect
  have h₄ : Measured s₁ (if s₃.tbActive = src then s₃.tbServo c theta else s₃) := .ite h₃.tbServo h₃
  exact .ite .refl (h₁.trans h₄.toSameBut)

/-- A measurement of a source that the order names, not before the last step, is kept as that source's last (R133). -/
theorem tbMeasure_kept {src c : Nat} {theta : Int} (hs : 1 ≤ src ∧ src ≤ 4) (named : s.tbPrios.contains src = true)
    (fresh : s.tb.lastStep ≤ c) : (s.tbMeasure src c theta).tb.lastT = s.tb.lastT.set (src - 1) c ∧ (s.tbMeasure src c theta).bus = s.bus := by
  unfold State.tbMeasure
  extract_lets prev n₀ n _ s₁ s₂ s₃
  rw [if_neg (by simp only [named, Bool.not_true, Bool.or_false, Bool.or_eq_true, decide_eq_true_eq]; omega)]
  have h₃ : Measured s₁ s₃ := (Measured.refl.wrBit (p := 0x05) (o := 0x5C)).tbSelect
  have h₄ : Measured s₁ (if s₃.tbActive = src then s₃.tbServo c theta else s₃) := .ite h₃.tbServo h₃
  exact ⟨h₄.lastT, h₄.bus⟩

/-! ### Accesses -/

/-- PPS_IN latches its edge in the slots of source 60 and raises TB_PPS; its measurement changes neither (R36). -/
theorem ppsEdge_spec {back k : Nat} (hk : k < 4) (armed : s.rb 0x05 (0xA0 + 0x10 * k) 8 = true)
    (named : s.rf 0x05 (0xA0 + 0x10 * k) 0 7 = 60) :
    (s.ppsEdge back).rd 0x05 (0xA4 + 0x10 * k) = w32 (s.tb.count - back) ∧ (s.ppsEdge back).rb 0x05 0x18 5 = true := by
  unfold State.ppsEdge
  extract_lets c s₁
  have latched : SlotLatched k c s₁ := (capture_latches hk armed named).same (Q := fun _ => False) SameBut.refl.raise hk fun _ _ _ h => h
  have raised : s₁.rb 0x05 0x18 5 = true := rb_raise_self rfl rfl (tb_fitted _)
  have slots : ∀ o, 0xA0 ≤ o → o < 0xE0 → ¬TbWords (rk 0x05 o) := fun o h h' => by
    rw [TbWords, rk_page _ _ (by omega)]
    simp only [List.mem_cons, List.not_mem_nil, or_false, rk]
    omega
  exact ⟨(latched.same tbMeasure_sameBut hk slots).low, tbMeasure_sameBut.pend _ _ (by decide) (by decide) raised⟩

/-- The high offset word takes plain writes of all its bits. -/
theorem ofsHi_acc : (accOf (rk 0x05 0x70)).rw = 0xFFFF_FFFF ∧ plainWord (rk 0x05 0x70) := by decide

theorem merge_all (o v : Word) : merge (w32 0xFFFF_FFFF) o v = v := by
  refine word_ext _ _ fun i hi => ?_
  rw [bit_merge _ _ _ _ hi, if_pos]
  rw [bit, w32, BitVec.getLsbD_ofNat, decide_eq_true hi, show 0xFFFF_FFFF = 2 ^ 32 - 1 from rfl, Nat.testBit_two_pow_sub_one,
    decide_eq_true hi]
  rfl

theorem putWord_ofsHi {i : Init} {a v : Word} : s.putWord i (rk 0x05 0x70) a v = s.setKey (rk 0x05 0x70) v := by
  obtain ⟨rw, kp, w1c, ab, t3⟩ := ofsHi_acc
  have plain : merge (w32 0xFFFF_FFFF) (s.key (rk 0x05 0x70)) v &&& ~~~(v &&& w32 0) = v := by
    rw [merge_all, show v &&& w32 0 = 0 from BitVec.and_zero, show ~~~(0 : Word) = BitVec.allOnes 32 from rfl, BitVec.and_allOnes]
  unfold State.putWord
  simp only [rw, kp, w1c, ab, t3, plain, Bool.false_eq_true, if_false, if_true, Nat.reduceEqDiff, decide_false, Bool.false_and]

/-- The write of the high offset word by an initiator that may delivers the measurement of source 1 (R133). -/
theorem writeWord_ofsHi {i : Init} {a v : Word} (may : tbWriter i 0x70 = true) :
    s.writeWord i 0x05 0x70 a v = (s.setKey (rk 0x05 0x70) v).measDeliver := by
  have voted : i ≠ .vote := by rintro rfl; exact absurd may (by decide)
  unfold State.writeWord
  rw [if_neg (by simp [voted]), if_neg (by simp [may]), if_neg (by simp), if_neg (by decide), if_neg (by decide), if_neg (by decide),
    if_neg (by decide), if_neg (by decide)]
  unfold State.regWrite
  rw [if_neg (by decide), if_neg (by decide), if_neg (by decide), if_pos (by decide), putWord_ofsHi]

/-- The high offset word written: it shows, and the time of the measurement is kept (R133). -/
theorem put1_ofsHi {i : Init} {v : Word} (reach : s.Open i 0x05 0x70 true) (may : tbWriter i 0x70 = true)
    (named : s.tbPrios.contains 1 = true) (fresh : s.tb.lastStep ≤ (s.rd 0x05 0x64).toNat + 2 ^ 32 * (s.rd 0x05 0x68).toNat)
    (slots : s.tb.lastT.length = 4) : (s.put1 i 0x05 0x70 v).rd 0x05 0x70 = v ∧
      (s.put1 i 0x05 0x70 v).tb.lastT.getD 0 0 = (s.rd 0x05 0x64).toNat + 2 ^ 32 * (s.rd 0x05 0x68).toNat := by
  obtain ⟨notLane, pass⟩ := reach
  generalize hu : State.setKey { s with bus := {} } (rk 0x05 0x70) v = u
  have other : ∀ o, o ≠ 0x70 → u.rd 0x05 o = s.rd 0x05 o := fun o ho => by
    rw [← hu]
    exact (rd_wr_ne _ _ _ _ _ _ (by unfold rk; omega)).trans (rd_congr rfl _ _)
  have word : u.rd 0x05 0x70 = v := by rw [← hu]; exact rd_wr_self _ _ _ _
  have tb : u.tb = s.tb ∧ u.bus = {} := by rw [← hu]; exact ⟨rfl, rfl⟩
  have order : u.tbPrios = s.tbPrios := by
    simp only [State.tbPrios, State.rf, other 0x50 (by decide)]
  obtain ⟨kept, bus⟩ := tbMeasure_kept (s := u) (src := 1) (c := (s.rd 0x05 0x64).toNat + 2 ^ 32 * (s.rd 0x05 0x68).toNat)
    (theta := signed 64 ((u.rd 0x05 0x6C).toNat + 2 ^ 32 * (u.rd 0x05 0x70).toNat)) (by decide) (by rw [order]; exact named)
    (by rw [tb.1]; exact fresh)
  have deliver : u.measDeliver = u.tbMeasure 1 ((s.rd 0x05 0x64).toNat + 2 ^ 32 * (s.rd 0x05 0x68).toNat)
      (signed 64 ((u.rd 0x05 0x6C).toNat + 2 ^ 32 * (u.rd 0x05 0x70).toNat)) := by
    rw [State.measDeliver, other 0x64 (by decide), other 0x68 (by decide)]
  have still : u.measDeliver.rd 0x05 0x70 = v := by rw [deliver]; exact tbMeasure_sameBut.rd.trans word
  have written := initWrite_pass (i := i) s (addrOf 0x05 0x70) v notLane (isRegSpace_addrOf _ _ (by decide) (by decide)) pass u.measDeliver
    (by
      rw [pageOf_addrOf _ _ _ (by decide) (by decide), offOf_addrOf _ _ (by decide) (by decide), if_neg (by decide), ← hu]
      exact writeWord_ofsHi may)
    (by rw [deliver, bus, tb.2])
  have put : s.put1 i 0x05 0x70 v = (State.reintFollow { u.measDeliver with bus := {} }) := written
  rw [put]
  obtain ⟨_, _, _, _, rest⟩ := reintFollow_rest { u.measDeliver with bus := {} }
  refine ⟨?_, ?_⟩
  · have key := key_reintFollow { u.measDeliver with bus := {} } (rk 0x05 0x70) (by decide) (by decide) (by decide)
      (fun p e => by unfold rk at e; omega)
    exact key.trans still
  · rw [rest]
    show u.measDeliver.tb.lastT.getD 0 0 = _
    rw [deliver, kept, tb.1]
    simp [List.getD_eq_getElem?_getD, slots]

/-- A read of TB_NS answers the low half of the time and keeps the high half for the reader (R130). -/
theorem initRead_tbNs {i : Init} (reach : s.Open i 0x05 0x40 false) (slots : s.tb.latches.length = 7) (low : 4 ≤ initCode i)
    (high : initCode i ≤ 0xA) : (s.initRead i (addrOf 0x05 0x40) 4).bus.data = s.ns ∧ (s.initRead i (addrOf 0x05 0x40) 4).bus.err = false ∧
      (s.initRead i (addrOf 0x05 0x40) 4).tb.latches.getD (initCode i - 4) 0 = s.epoch ∧
      ∀ j, j ≠ initCode i - 4 → (s.initRead i (addrOf 0x05 0x40) 4).tb.latches.getD j 0 = s.tb.latches.getD j 0 := by
  obtain ⟨notLane, pass⟩ := reach
  have word : State.readWord { s with bus := {} } i 0x05 0x40 = (State.tbNsLatch { s with bus := {} } (initCode i), s.ns) := rfl
  have latch : State.tbNsLatch { s with bus := {} } (initCode i) =
      { s with bus := {}, tb := { s.tb with latches := s.tb.latches.set (initCode i - 4) s.epoch } } := by
    rw [State.tbNsLatch, if_pos (by simp [low, high])]
    rfl
  rw [initRead_pass (i := i) s _ notLane (isRegSpace_addrOf _ _ (by decide) (by decide)) pass,
    pageOf_addrOf _ _ _ (by decide) (by decide), offOf_addrOf _ _ (by decide) (by decide), if_neg (by decide), word, latch]
  refine ⟨rfl, rfl, ?_, fun j hj => ?_⟩
  · have lt : initCode i - 4 < s.tb.latches.length := by omega
    simp [List.getD_eq_getElem?_getD, lt]
  · simp [List.getD_eq_getElem?_getD, List.getElem?_set_ne (Ne.symm hj)]

end Sys2Proof.Machine
end

section
open Sys2Proof Sys2Proof.Machine

/-- Settles O18: the instant that time comes to, the slots that latch it, and the accesses of TB that act. -/
theorem timeMarksAndCaptures : Obligations.TimeMarksAndCaptures := by
  unfold Obligations.TimeMarksAndCaptures
  refine ⟨fun s => completes_of rfl (fun _ h => h) ?_, fun s => completes_of rfl (fun _ h => h) ?_,
    fun s => completes_of rfl (fun _ h => h) ⟨rfl, rfl⟩,
    fun i s reach slots low high => completes_of rfl (fun _ h => h) (initRead_tbNs reach slots low high),
    fun src k s armed named => completes_of rfl (fun _ h => h) ?_,
    fun back k s armed named => completes_of rfl (fun _ h => h) (ppsEdge_spec k.isLt armed named),
    fun i v s reach may named fresh slots => completes_of rfl (fun _ h => h) (put1_ofsHi reach may named fresh slots)⟩
  · extract_lets s₁ s₂
    obtain ⟨rtc, tb, pins, hold⟩ := rtcCount_spec (s := s₁)
    have keep : s₁.keep = s.keep := by
      rcases ite_eq_or_eq (3 ≤ s.gaitNow || !s.pins.running) s s.secondMarkNow with e | e
      · exact congrArg _ e
      · exact (congrArg _ e).trans secondMarkNow_spec.1
    refine ⟨rtc.trans (by rw [keep]), fun gait running => ?_⟩
    have marked : s₁ = s.secondMarkNow := if_neg (by simp [running]; omega)
    obtain ⟨_, count, mark, rise, held⟩ := secondMarkNow_spec (s := s)
    rw [tb, pins, hold, marked]
    exact ⟨count, mark, nextMark_spec.1, nextMark_spec.2, rise, held⟩
  · have later : s.tb.count < (s.tb.count / 2 ^ 32 + 1) * 2 ^ 32 := by omega
    have carried : s.advanceTo ((s.tb.count / 2 ^ 32 + 1) * 2 ^ 32) = s.setCount ((s.tb.count / 2 ^ 32 + 1) * 2 ^ 32) 0 := if_pos later
    exact ⟨(advanceTo_count _ _).trans (Nat.max_eq_right later.le), by rw [carried]; exact setCount_wraps (by omega)⟩
  · obtain ⟨low, high, off⟩ := capture_latches (c := s.tb.count) k.isLt armed named
    exact ⟨low, high, off⟩
end

section
set_option Elab.async false -- one proof after the other: each further worker thread takes its stack from the check's memory
/-! SUPPORT. A write to a pending bank that ends a reintegration (R60, R192). -/

namespace Sys2Proof.Machine

/-- Lane A waits in SYNC as the target of a reintegration in COPY, and no lane votes (R191, R192). -/
def copyWithoutVoters : State := (State.reset.wr 0x06 (laneOff 0 4) 2).wr 0x07 0x60 3

/-- The management core clears bit 0 of PEND_4_1, which reads zero, and the word then reads 1 at bit 21: with the write the
reintegration ends for want of a donor, and LANE_FAILED of lane A, event 53, comes to be pending. -/
theorem bankClear_pends_laneFailed :
    copyWithoutVoters.rd 0x02 0x184 = 0 ∧ (copyWithoutVoters.put1 .mgmt 0x02 0x184 1).rd 0x02 0x184 = 0x20_0000 := by decide

end Sys2Proof.Machine
end

section
set_option Elab.async false -- one proof after the other: each further worker thread takes its stack from the check's memory
open Sys2Proof Sys2Proof.Machine

/-- Settles O4: the stores of the state before power-on are empty, and its lists of units have their lengths. -/
theorem resetMeetsInvariant : Obligations.ResetMeetsInvariant := by
  unfold Obligations.ResetMeetsInvariant
  have canonical : State.reset.Canonical := ⟨rfl, rfl, rfl⟩
  have fitted : State.reset.Fitted := ⟨rfl, rfl, rfl, rfl, rfl, rfl, rfl⟩
  exact ⟨canonical, fitted, Nat.zero_le _⟩

/-- Refutes O13: its third clause says that a write by a bank's owner leaves no bit set that was not, in every state. What follows
a write by R192 can set one: in COPY with no VOTING lane the target fails, and its event enters the bank. -/
theorem not_eventsAndTheirBanks : ¬ Obligations.EventsAndTheirBanks := by
  unfold Obligations.EventsAndTheirBanks
  rintro ⟨-, -, owner, -⟩
  obtain ⟨before, after⟩ := bankClear_pends_laneFailed
  obtain ⟨t, ran, cleared, -⟩ := owner 4 1 1 copyWithoutVoters (by decide) .mgmt rfl (by decide)
  injection ran with answered
  have shown : t.rd 0x02 0x184 = (copyWithoutVoters.put1 .mgmt 0x02 0x184 1).rd 0x02 0x184 := rd_congr (answered ▸ rfl) _ _
  have same : (0x20_0000 : Word) = 0 &&& ~~~1 := calc
    (0x20_0000 : Word) = t.rd 0x02 0x184 := (shown.trans after).symm
    _ = copyWithoutVoters.rd 0x02 0x184 &&& ~~~1 := cleared
    _ = 0 &&& ~~~1 := by rw [before]
  exact absurd same (by decide)
end

section
set_option Elab.async false -- one proof after the other: each further worker thread takes its stack from the check's memory
/-! SUPPORT. The words that no event, no error and no change of a lane writes, and what one write of the register bus does to them
(R58 to R64, R71 to R76, R192). -/

namespace Sys2Proof.Machine

variable {s t u : State}

/-! ### Settings -/

/-- The word is none of the LANE and VOTE pages, no pending bits and no ERRINFO of a page header, not POST_ERR of BRIDLE, and in the
event router a header word or a route word. -/
def Setting (k : Nat) : Prop :=
  keyPage k ≠ 0x06 ∧ keyPage k ≠ 0x07 ∧ k % 0x20000 ≠ 0x18 ∧ k % 0x20000 ≠ 0x38 ∧ k ≠ rk 0x03 0x44 ∧
    (keyPage k = 0x02 → k % 0x20000 < 0x40 ∨ 0x10000 ≤ k % 0x20000 ∧ k % 0x20000 < 0x10100)

theorem setting_rk {p o : Nat} (hp : p ≠ 0x06 ∧ p ≠ 0x07) (ho : o < 0x40 ∧ o ≠ 0x18 ∧ o ≠ 0x38) : Setting (rk p o) := by
  unfold Setting keyPage rk; omega

theorem setting_tk {p ix : Nat} (hp : p ≠ 0x06 ∧ p ≠ 0x07) (hix : ix < 0x10000) (route : p = 0x02 → ix < 0x100) :
    Setting (tk p ix) := by
  unfold Setting keyPage rk tk; omega

theorem setting_gait : Setting (rk 0x72 0x44) := by unfold Setting keyPage rk; omega

/-- Every setting, the pending key pairs, the shadows, the pins, what is kept without power and the variant are as before. -/
structure SettingsKept (s t : State) : Prop where
  key : ∀ k, Setting k → t.key k = s.key k
  kp : t.kp = s.kp
  shadow : t.shadow = s.shadow
  pins : t.pins = s.pins
  keep : t.keep = s.keep
  variant : t.variant = s.variant

namespace SettingsKept

theorem refl : SettingsKept s s := ⟨fun _ _ => rfl, rfl, rfl, rfl, rfl, rfl⟩

theorem trans (h : SettingsKept s t) (g : SettingsKept t u) : SettingsKept s u :=
  ⟨fun k hk => (g.key k hk).trans (h.key k hk), g.kp.trans h.kp, g.shadow.trans h.shadow, g.pins.trans h.pins, g.keep.trans h.keep,
    g.variant.trans h.variant⟩

/-- A state that agrees in every field that `SettingsKept` speaks of. -/
theorem frame (h : SettingsKept s t) (regs : u.regs = t.regs := by rfl) (kp : u.kp = t.kp := by rfl)
    (shadow : u.shadow = t.shadow := by rfl) (pins : u.pins = t.pins := by rfl) (keep : u.keep = t.keep := by rfl)
    (variant : u.variant = t.variant := by rfl) : SettingsKept s u :=
  h.trans ⟨fun k _ => key_congr regs k, kp, shadow, pins, keep, variant⟩

/-- What changes registers and the inlet queue alone keeps the fields. -/
theorem registers (only : OnlyRegsInlet s t) (key : ∀ k, Setting k → t.key k = s.key k) : SettingsKept s t :=
  ⟨key, only.kp_eq, only.shadow_eq, only.pins_eq, only.keep_eq, only.variant_eq⟩

theorem wr {p o : Nat} {v : Word} (h : SettingsKept s t) (other : ¬Setting (rk p o)) : SettingsKept s (t.wr p o v) :=
  h.trans (registers (onlyRegsInlet_wr t p o v) fun k hk => by rw [key_wr, if_neg fun e => other (by rw [e]; exact hk)])

theorem wrFld {p o lo n x : Nat} (h : SettingsKept s t) (other : ¬Setting (rk p o)) : SettingsKept s (t.wrFld p o lo n x) := h.wr other

theorem wrBit {p o i : Nat} {b : Bool} (h : SettingsKept s t) (other : ¬Setting (rk p o)) : SettingsKept s (t.wrBit p o i b) :=
  h.wr other

theorem setTab {p ix : Nat} {v : Word} (h : SettingsKept s t) (other : ¬Setting (tk p ix)) : SettingsKept s (t.setTab p ix v) :=
  h.trans (registers (onlyRegsInlet_setKey t _ v) fun k hk => by rw [key_setTab, if_neg fun e => other (by rw [e]; exact hk)])

theorem ite {c : Prop} {_ : Decidable c} {a b : State} (ha : SettingsKept s a) (hb : SettingsKept s b) :
    SettingsKept s (if c then a else b) := by
  split
  · exact ha
  · exact hb

/-! ### Events, errors and lanes -/

/-- The router counts an event, shows it in the banks and the vector, and hands it to the recorder: none of it is a setting. -/
theorem route {n : Nat} {p0 p1 p2 : Word} (h : SettingsKept s t) (hn : n < 256) : SettingsKept s (t.route n p0 p1 p2) := by
  have count : ∀ ix, 0x100 ≤ ix → ix < 0x10000 → ¬Setting (tk 0x02 ix) := fun ix _ _ => by unfold Setting keyPage rk tk; omega
  have status : ∀ o, 0x40 ≤ o → o < 0x10000 → ¬Setting (rk 0x02 o) := fun o _ _ => by unfold Setting keyPage rk; omega
  have counted : ∀ {x}, SettingsKept s x → SettingsKept s (x.countEvent n) := fun hx =>
    .setTab (.ite hx (hx.setTab (count _ (by omega) (by omega)))) (count _ (by omega) (by omega))
  have bank : ∀ {x b on}, b < 5 → SettingsKept s x → SettingsKept s (x.pendBank n b on) := fun hb hx =>
    .ite (hx.wrBit (status _ (by omega) (by omega))) hx
  have vector : ∀ {x c}, SettingsKept s x → SettingsKept s (if c = true then x.wrBit 0x02 (0x60 + 4 * (n / 32)) (n % 32) true else x) :=
    fun hx => .ite (hx.wrBit (status _ (by omega) (by omega))) hx
  have inlet : ∀ {x e}, SettingsKept s x → SettingsKept s (x.enterInlet e) := fun hx =>
    .ite hx.frame (hx.wrFld (status _ (by omega) (by omega)))
  have banks := bank (b := 4) (on := bit (t.routeWord n) 5) (by omega) (bank (b := 3) (on := bit (t.routeWord n) 4) (by omega)
    (bank (b := 2) (on := bit (t.routeWord n) 3) (by omega) (bank (b := 1) (on := bit (t.routeWord n) 2) (by omega)
      (bank (b := 0) (on := bit (t.routeWord n) 1) (by omega) (counted h)))))
  exact .ite (inlet (vector banks)) (vector banks)

theorem raise {n : Nat} {p0 p1 p2 : Word} (h : SettingsKept s t) : SettingsKept s (t.raise n p0 p1 p2) := by
  unfold State.raise State.occur
  have pending : ∀ p, ¬Setting (rk p 0x18) := fun p => by unfold Setting rk; omega
  split
  · exact h
  · next real =>
    have hn := lt_of_not_evReserved real
    split
    · exact h.route hn
    · exact .ite h (.ite (.route (h.wrBit (pending _)) hn) (h.wrBit (pending _)))

theorem error {p off ini cause ev : Nat} {p0 : Word} (h : SettingsKept s t) : SettingsKept s (t.error p off ini cause ev p0) :=
  .raise (h.wr (by unfold Setting rk; omega))

/-- The failure of a lane that does not vote is seen in its page, its events and what it holds. -/
theorem failLane {l c : Nat} (h : SettingsKept s t) (hl : l < 4) (idle : t.voting l = false) : SettingsKept s (t.failLane l c) := by
  obtain ⟨u, only, eq, same⟩ := failLane_idle t l c hl idle
  have mine : ¬Setting (rk 0x06 (laneOff l 4)) := by unfold Setting keyPage rk laneOff; omega
  have raised : SettingsKept u (t.failLane l c) := eq ▸ .raise (.wrFld .refl mine)
  exact h.trans ⟨fun k hk => (raised.key k hk).trans (same k hk.1), only.kp_eq, only.shadow_eq, only.pins_eq, only.keep_eq,
    only.variant_eq⟩

theorem reintFail {r : Nat} (h : SettingsKept s t) : SettingsKept s (t.reintFail r) :=
  have vote : ¬Setting (rk 0x07 0x60) := fun hk => hk.2.1 (rk_page _ _ (by decide))
  .wrFld (h.wrFld vote) vote

theorem reintFollow (h : SettingsKept s t) : SettingsKept s t.reintFollow := by
  have vote : ¬Setting (rk 0x07 0x60) := fun hk => hk.2.1 (rk_page _ _ (by decide))
  unfold State.reintFollow
  extract_lets target
  refine .ite h.reintFail ?_
  split
  · by_cases inSync : t.laneState target = 2
    · rw [if_neg (not_not_intro inSync)]
      refine .ite h ?_
      split
      · next d _ _ =>
        have copies : SettingsKept s ((t.wrFld 0x07 0x60 0 3 3).wrFld 0x07 0x60 8 2 d) := (h.wrFld vote).wrFld vote
        exact copies.frame
      · exact .reintFail (h.failLane (reintTarget_lt t) (by simp [State.voting, target, inSync]))
    · rw [if_pos inSync]
      exact h.reintFail
  · exact h

end SettingsKept

/-! ### What an access meets -/

/-- What an access of an initiator that is no lane meets hangs on the grants, the gait, the pins, what is kept without power and the
variant. -/
theorem gate_of_words {i : Init} {a : Word} {n : Nat} {w at_ : Bool} (notLane : isLane i = false)
    (grants : ∀ q, q < 0x10000 → t.tab 0x03 q = s.tab 0x03 q) (gait : t.rd 0x72 0x44 = s.rd 0x72 0x44) (pins : t.pins = s.pins)
    (keep : t.keep = s.keep) (variant : t.variant = s.variant) : t.gate i a n w at_ = s.gate i a n w at_ := by
  have granted : ∀ p, t.granted i p w = s.granted i p w := fun p => by
    rw [State.granted, grants _ (by split <;> omega), State.granted]
  have now : t.gaitNow = s.gaitNow := congrArg (fld · 0 3) gait
  have stopped : ∀ p, t.planeStopped p = s.planeStopped p := fun p => by
    simp only [State.planeStopped, State.dataPlaneUp, now, pins]
  cases i with
  | lane l => simp [isLane] at notLane
  | _ => simp only [State.gate, variant, pageHeld_congr keep, granted, stopped]

theorem SettingsKept.gate {i : Init} {a : Word} {n : Nat} {w at_ : Bool} (h : SettingsKept s t) (notLane : isLane i = false) :
    t.gate i a n w at_ = s.gate i a n w at_ :=
  gate_of_words notLane (fun q hq => h.key _ (setting_tk (by decide) hq (by omega))) (h.key _ setting_gait) h.pins h.keep h.variant

theorem SettingsKept.opens {i : Init} {p o : Nat} {w : Bool} (h : SettingsKept s t) (reach : s.Open i p o w) : t.Open i p o w :=
  ⟨reach.1, (h.gate reach.1).trans reach.2⟩

/-- The index of a page decides no access. -/
theorem open_index {i : Init} {v : Word} {p q o : Nat} {w : Bool} (reach : s.Open i q o w) : (s.wr p 0x30 v).Open i q o w := by
  have same := gate_of_words (s := s) (t := s.wr p 0x30 v) (a := addrOf q o) (n := 4) (w := w) (at_ := false) reach.1
    (fun q _ => by rw [tab_wr, if_neg (by unfold rk tk; omega)]) (rd_wr_ne _ _ _ _ _ _ (by unfold rk; omega)) rfl rfl rfl
  exact ⟨reach.1, same.trans reach.2⟩

/-! ### One write of the register bus -/

variable {i : Init} {p off : Nat} {v : Word}

/-- A word write that meets nothing leaves every setting as the word's own write leaves it: a bus error that it answers is counted
or given to the initiator, and the reintegration follows the lanes. -/
theorem put1_settings (reach : s.Open i p off true) (hp : p < 0x80) (notBox : p ≠ 0x01) (hoff : off < 0x1000) (aligned : off % 4 = 0) :
    SettingsKept (State.writeWord { s with bus := {} } i p off (addrOf p off) v) (s.put1 i p off v) := by
  obtain ⟨notLane, pass⟩ := reach
  have bus : s.put1 i p off v = (s.busWrite i (addrOf p off) 4 [v] false).reintFollow := by
    cases i with
    | lane l => simp [isLane] at notLane
    | _ => rfl
  have one : s.busWrite i (addrOf p off) 4 [v] false =
      let t := State.writePart { s with bus := {} } i (addrOf p off) 4 v false
      { t with bus := { err := t.bus.err } } := by
    unfold State.busWrite
    simp only [isRegSpace_addrOf _ _ hp hoff, accessSize, wideUnaligned, accessParts]
    rfl
  have part : SettingsKept (State.writeWord { s with bus := {} } i p off (addrOf p off) v)
      (State.writePart { s with bus := {} } i (addrOf p off) 4 v false) := by
    unfold State.writePart
    rw [gate_bus, pass, pageOf_addrOf _ _ _ hp hoff, if_neg notBox, offOf_addrOf _ _ hp hoff,
      Nat.div_mul_cancel (Nat.dvd_of_mod_eq_zero aligned)]
    have counted : ∀ x : State, SettingsKept x { x.sat16 0x03 0x44 with bus := {} } := fun x =>
      (SettingsKept.refl.wrFld fun hk => hk.2.2.2.2.1 rfl).frame
    exact .ite (counted _) .refl
  rw [bus, one]
  exact (part.frame).reintFollow

end Sys2Proof.Machine
end

section
set_option Elab.async false -- one proof after the other: each further worker thread takes its stack from the check's memory
/-! SUPPORT. A table word that takes key pairs alone: its index, value and complement (R79, R81). -/

namespace Sys2Proof.Machine

variable {s t : State} {i : Init} {p ix : Nat} {a v : Word}

/-! ### The header's words -/

section
variable (voted : i ≠ .vote)
include voted

theorem writeWord_index (notTb : p ≠ 0x05) (table : hasTable p = true) : s.writeWord i p 0x30 a v = s.wr p 0x30 (v &&& indMask p) := by
  simp [State.writeWord, voted, notTb, table]

theorem writeWord_data (notTb : p ≠ 0x05) : s.writeWord i p 0x34 a v = s.indWrite i p a v := by
  simp [State.writeWord, voted, notTb]

theorem writeWord_keyN (notTb : p ≠ 0x05) : s.writeWord i p 0x2C a v = s.keyN i p v := by
  simp [State.writeWord, voted, notTb]

variable (page : p < 0x80 ∧ p ≠ 0x01 ∧ p ≠ 0x05)
include page

theorem put1_index (table : hasTable p = true) (reach : s.Open i p 0x30 true) :
    SettingsKept (s.wr p 0x30 (v &&& indMask p)) (s.put1 i p 0x30 v) := by
  obtain ⟨lt, notBox, notTb⟩ := page
  have h := put1_settings (v := v) reach lt notBox (by decide) (by decide)
  rw [writeWord_index voted notTb table] at h
  exact .trans SettingsKept.refl.frame h

theorem put1_data (reach : s.Open i p 0x34 true) :
    SettingsKept (State.indWrite { s with bus := {} } i p (addrOf p 0x34) v) (s.put1 i p 0x34 v) := by
  obtain ⟨lt, notBox, notTb⟩ := page
  exact writeWord_data (s := { s with bus := {} }) voted notTb ▸ put1_settings reach lt notBox (by decide) (by decide)

theorem put1_keyN (reach : s.Open i p 0x2C true) : SettingsKept (State.keyN { s with bus := {} } i p v) (s.put1 i p 0x2C v) := by
  obtain ⟨lt, notBox, notTb⟩ := page
  exact writeWord_keyN (s := { s with bus := {} }) voted notTb ▸ put1_settings reach lt notBox (by decide) (by decide)

end

theorem SettingsKept.routeLock (h : SettingsKept (s.wr p 0x30 v) t) : t.rb 0x02 0x08 8 = s.rb 0x02 0x08 8 :=
  congrArg (bit · 8) ((h.key _ (setting_rk (by decide) (by decide))).trans (rd_wr_ne _ _ _ _ _ _ (by unfold rk; omega)))

/-! ### A pending pair -/

theorem kpStart_idle {k : KpPend} (noPair : s.kpPend k.page = none) :
    s.kpStart k = { s with kp := k :: s.kp.filter (fun x => x.page ≠ k.page) } := by
  unfold State.kpStart
  rw [if_neg (by simp [noPair])]
  rfl

theorem kpPend_wr {q o : Nat} : (s.wr q o v).kpPend p = s.kpPend p := by rw [State.kpPend, wr_kp, State.kpPend]

theorem kpPend_kpStart {k : KpPend} : (s.kpStart k).kpPend k.page = some k := by
  simp [State.kpStart, State.kpPend]

theorem open_kpStart {k : KpPend} {q o : Nat} {w : Bool} (noPair : s.kpPend k.page = none) (reach : s.Open i q o w) :
    (s.kpStart k).Open i q o w := by
  have eq := kpStart_idle noPair
  exact ⟨reach.1, (gate_congr (by rw [eq]) (by rw [eq]) (by rw [eq]) (by rw [eq]) i _ 4 w false).trans reach.2⟩

theorem SettingsKept.kpPend (h : SettingsKept s t) (q : Nat) : t.kpPend q = s.kpPend q := by rw [State.kpPend, h.kp, State.kpPend]

theorem SettingsKept.kpStart {k : KpPend} (h : SettingsKept s t) (noPair : s.kpPend k.page = none) :
    SettingsKept (s.kpStart k) (t.kpStart k) := by
  rw [kpStart_idle noPair, kpStart_idle ((h.kpPend _).trans noPair)]
  exact ⟨h.key, by rw [h.kp], h.shadow, h.pins, h.keep, h.variant⟩

/-! ### Route words and force words -/

/-- Word `ix` of page `p`'s table is a route word of EVR or a force word of SIG (R67, R223). -/
def RouteOrForce (p ix : Nat) : Prop := p = 0x02 ∧ ix < 0x100 ∨ p = 0x0A ∧ 0x4000 ≤ ix ∧ ix < 0x8000 ∧ ix % 4 ≠ 3

theorem keyOff_tk (hix : ix < 0x10000) : keyOff (tk p ix) = ix := by unfold keyOff tk; omega

theorem keyIsTab_tk (hix : ix < 0x10000) : keyIsTab (tk p ix) = true := by unfold keyIsTab tk; simp; omega

theorem rowOf_cons {r : Row} {rows : List Row} {x : Nat} : rowOf (r :: rows) x =
    if r.first ≤ x ∧ (x - r.first) % r.stride = 0 ∧ (x - r.first) / r.stride < r.count then some r else rowOf rows x := by
  by_cases h : r.first ≤ x ∧ (x - r.first) % r.stride = 0 ∧ (x - r.first) / r.stride < r.count
  · simp [rowOf, h]
  · rw [if_neg h, rowOf, List.find?_cons_of_neg (by simpa [and_assoc] using h), rowOf]

theorem accOf_route (hix : ix < 0x100) : accOf (tk 0x02 ix) = { rst := 0x260, kp := 0x77F, t3 := true, ts := true } := by
  have row : rowOf blkEvr.tabs ix = some (tabRun 0 256 { rst := 0x260, kp := 0x77F, t3 := true, ts := true }) := by
    simp only [blkEvr, tabRun, rowOf_cons]
    rw [if_pos (by omega)]
  have block : blockOf 0x02 = some blkEvr := rfl
  simp only [accOf, tk_page _ _ (show ix < 0x10000 by omega), keyIsTab_tk (show ix < 0x10000 by omega),
    keyOff_tk (show ix < 0x10000 by omega), block, row]
  rfl

theorem accOf_force (lo : 0x4000 ≤ ix) (hi : ix < 0x8000) (word : ix % 4 ≠ 3) :
    accOf (tk 0x0A ix) = { kp := if ix % 4 = 0 then 1 else all32 } := by
  have row : (rowOf blkSig.tabs ix).map Row.acc = some { kp := if ix % 4 = 0 then 1 else all32 } := by
    simp only [blkSig, tabRun, rowOf_cons]
    rw [if_neg (by omega)]
    obtain e | e | e : ix % 4 = 0 ∨ ix % 4 = 1 ∨ ix % 4 = 2 := by omega
    · rw [if_pos (by omega), if_pos e]
      rfl
    · rw [if_neg (by omega), if_pos (by omega), if_neg (by omega)]
      rfl
    · rw [if_neg (by omega), if_neg (by omega), if_pos (by omega), if_neg (by omega)]
      rfl
  have block : blockOf 0x0A = some blkSig := rfl
  simp only [accOf, tk_page _ _ (show ix < 0x10000 by omega), keyIsTab_tk (show ix < 0x10000 by omega),
    keyOff_tk (show ix < 0x10000 by omega), block, row]
  rfl

theorem tk_ne_rk {q o : Nat} (hix : ix < 0x10000) (ho : o < 0x10000) : tk p ix ≠ rk q o := by unfold tk rk; omega

theorem w32_and_mask {n x : Nat} (hn : n ≤ 32) (hx : x < 2 ^ n) : w32 x &&& w32 (2 ^ n - 1) = w32 x := by
  have le : 2 ^ n ≤ 2 ^ 32 := Nat.pow_le_pow_right (by decide) hn
  have pos : 0 < 2 ^ n := Nat.two_pow_pos n
  refine BitVec.eq_of_toNat_eq ?_
  rw [BitVec.toNat_and, w32, w32, BitVec.toNat_ofNat, BitVec.toNat_ofNat, Nat.mod_eq_of_lt (by omega), Nat.mod_eq_of_lt (by omega),
    Nat.and_two_pow_sub_one_eq_mod, Nat.mod_eq_of_lt hx]

namespace RouteOrForce

variable (w : RouteOrForce p ix)
include w

theorem page : p = 0x02 ∨ p = 0x0A := w.imp And.left And.left

theorem page_bounds : p < 0x80 ∧ p ≠ 0x01 ∧ p ≠ 0x05 := by have := w.page; omega

theorem lt : ix < 0x10000 := by unfold RouteOrForce at w; omega

theorem table : hasTable p = true := by obtain rfl | rfl := w.page <;> rfl

/-- The index passes IND_ADDR whole. -/
theorem index : w32 ix &&& indMask p = w32 ix := by
  obtain ⟨rfl, hix⟩ | ⟨rfl, lo, hi, word⟩ := w
  · exact w32_and_mask (n := 10) (by decide) (by omega)
  · exact w32_and_mask (n := 16) (by decide) (by omega)

theorem acc : (accOf (tk p ix)).rw = 0 ∧ (accOf (tk p ix)).w1c = 0 ∧ (accOf (tk p ix)).kp ≠ 0 ∧ (accOf (tk p ix)).rng = [] := by
  obtain ⟨rfl, hix⟩ | ⟨rfl, lo, hi, word⟩ := w
  · rw [accOf_route hix]
    exact ⟨rfl, rfl, by decide, rfl⟩
  · rw [accOf_force lo hi word]
    exact ⟨rfl, rfl, by dsimp only; split <;> decide, rfl⟩

/-- A write of the word becomes the page's pending value. -/
theorem putWord : s.putWord i (tk p ix) a v = s.kpStart ⟨p, tk p ix, a, v, initCode i⟩ := by
  obtain ⟨hrw, hw1c, hkp, _⟩ := w.acc
  have plain : mixedWord (tk p ix) = false := by
    simp [mixedWord, hrw, tk_ne_rk w.lt]
  unfold State.putWord
  simp only [hrw, hw1c, hkp, plain, tk_page _ _ w.lt, decide_true, Bool.and_self, if_true, if_false, Bool.false_and, Bool.false_eq_true]

/-- A complete pair is accepted whatever its value: the words have no ranges. -/
theorem kpAccepts {ini : Nat} : s.kpAccepts ⟨p, tk p ix, a, v, ini⟩ = true := by
  obtain ⟨_, _, _, hrng⟩ := w.acc
  have lt := w.lt
  have own : ∀ x, ownRefusal (tk p ix) x = false := fun x => by
    unfold ownRefusal
    rw [tk_page _ _ lt, keyOff_tk lt]
    unfold RouteOrForce at w
    rw [if_neg (by simp; omega), if_neg (tk_ne_rk lt (by decide)), if_neg (tk_ne_rk lt (by decide)), if_neg (tk_ne_rk lt (by decide)),
      if_neg (by simp; omega)]
  simp [State.kpAccepts, valueOk, inRange, hrng, own, tk_ne_rk w.lt]

/-- A write of IND_DATA writes the word, but for a route word while ROUTE_LOCK is 1 and a force word of a signal that may not be
forced (R66, R215). -/
theorem indWrite (voted : i ≠ .vote) (index : s.indAddr p = ix) (unlocked : p = 0x02 → s.rb 0x02 0x08 8 = false)
    (may : p = 0x0A → s.forceable ((ix - 0x4000) / 4) = true) : s.indWrite i p a v = s.putWord i (tk p ix) a v := by
  obtain ⟨_, _, pair, _⟩ := w.acc
  have alarm : tk p ix ≠ tk 0x72 1 := by have := w.lt; have := w.page; unfold tk; omega
  have vision : s.visRefuses i (tk p ix) = false := by
    obtain rfl | rfl := w.page <;> simp [State.visRefuses, tk_page _ _ w.lt]
  unfold State.indWrite
  simp only [index]
  rw [if_neg (by simp [w.table, voted])]
  obtain ⟨rfl, hix⟩ | ⟨rfl, lo, hi, word⟩ := w
  · rw [if_neg (by simp [unlocked rfl]), if_neg (by simp; omega),
      if_neg (by simp [isForceKey, tk_page _ _ (show ix < 0x10000 by omega)]), if_neg (by simp [vision]),
      if_neg (by omega), if_neg alarm, if_pos pair]
  · rw [if_neg (by simp), if_neg (by simp), if_neg (by simp [may rfl]), if_neg (by simp [vision]), if_neg (by omega), if_neg alarm,
      if_pos pair]

theorem put1_index (voted : i ≠ .vote) (reach : s.Open i p 0x30 true) :
    SettingsKept (s.wr p 0x30 (w32 ix)) (s.put1 i p 0x30 (w32 ix)) := by
  have h := Machine.put1_index (v := w32 ix) voted w.page_bounds w.table reach
  rwa [w.index] at h

section
variable (h : SettingsKept (s.wr p 0x30 (w32 ix)) t)
include h

/-! What stands once the index has been written. -/

theorem indAddr_eq : t.indAddr p = ix := by
  have word : t.rd p 0x30 = w32 ix :=
    (h.key _ (setting_rk (by have := w.page; omega) (by decide))).trans (rd_wr_self _ _ _ _)
  rw [State.indAddr, word, w32, BitVec.toNat_ofNat, Nat.mod_eq_of_lt (by have := w.lt; omega)]

theorem forceable_eq : t.forceable ((ix - 0x4000) / 4) = s.forceable ((ix - 0x4000) / 4) := by
  have lt : 4 * ((ix - 0x4000) / 4) + 0 < 0x10000 := by have := w.lt; omega
  have word : t.mapWord ((ix - 0x4000) / 4) 0 = s.mapWord ((ix - 0x4000) / 4) 0 :=
    (h.key _ (setting_tk (by decide) lt (by omega))).trans ((tab_wr ..).trans (if_neg (tk_ne_rk lt (by decide)).symm))
  rw [State.forceable, word, State.forceable]

end

/-- With nothing pending on the page and nothing that refuses the word, its index and a value make the value pending. -/
theorem putTab (voted : i ≠ .vote) (noPair : s.kpPend p = none) (atIndex : s.Open i p 0x30 true) (atData : s.Open i p 0x34 true)
    (unlocked : p = 0x02 → s.rb 0x02 0x08 8 = false) (may : p = 0x0A → s.forceable ((ix - 0x4000) / 4) = true) :
    SettingsKept ((s.wr p 0x30 (w32 ix)).kpStart ⟨p, tk p ix, addrOf p 0x34, v, initCode i⟩) (s.putTab i p ix v) := by
  have first := w.put1_index voted atIndex
  unfold State.putTab
  generalize s.put1 i p 0x30 (w32 ix) = s₁ at first
  have still : SettingsKept (s.wr p 0x30 (w32 ix)) { s₁ with bus := {} } := first.frame
  have second := put1_data (v := v) voted w.page_bounds (first.opens (open_index atData))
  rw [w.indWrite voted (w.indAddr_eq still) (fun hp => still.routeLock.trans (unlocked hp))
    (fun hp => (w.forceable_eq still).trans (may hp)), w.putWord] at second
  exact .trans (.kpStart still (kpPend_wr.trans noPair)) second

end RouteOrForce

/-! ### The complement -/

/-- The complement of the pending value of a table word, where the pair is accepted: the page has nothing pending, the pair takes
effect and the index moves on. -/
theorem keyN_complement {k : KpPend} (pend : s.kpPend p = some k) (tab : keyIsTab k.key = true)
    (ok : ((s.wr p 0x2C (~~~k.val)).kpDrop p).kpAccepts k = true) :
    s.keyN i p (~~~k.val) = (((s.wr p 0x2C (~~~k.val)).kpDrop p).kpEffect i k).indNext p := by
  have found : (s.wr p 0x2C (~~~k.val)).kpPend p = some k := kpPend_wr.trans pend
  unfold State.keyN
  simp only [found, ok, tab]
  rw [if_neg (by simp), if_pos trivial]

end Sys2Proof.Machine
end

section
set_option Elab.async false -- one proof after the other: each further worker thread takes its stack from the check's memory
/-! SUPPORT. Index, value and complement of a route word and of a force word (R66, R67, R215, R223). -/

namespace Sys2Proof.Machine

variable {s t : State} {i : Init} {p ix : Nat} {v : Word}

theorem SettingsKept.busError (h : SettingsKept s t) : SettingsKept s t.busError := h.frame

theorem SettingsKept.accessFault {a : Word} {c : Nat} (h : SettingsKept s t) : SettingsKept s (t.accessFault i a c) := h.error

theorem SettingsKept.refuse {a : Word} {c : Nat} (h : SettingsKept s t) (hc : c ≠ 0xE) : SettingsKept s (t.refuse i a c) := by
  rw [State.refuse, if_neg hc]
  exact h.accessFault.busError

theorem SettingsKept.kpFail {ini : Nat} {a : Word} (h : SettingsKept s t) : SettingsKept s (t.kpFail p ini a) := h.error

theorem tab_indNext {q : Nat} (hix : ix < 0x10000) : (s.indNext q).tab p ix = s.tab p ix := by
  rw [State.indNext, tab_wr, if_neg (tk_ne_rk hix (by decide)).symm]

/-- The pair of a route word or a force word, in the state that its index and its value left. -/
theorem RouteOrForce.pairWrite (w : RouteOrForce p ix) (voted : i ≠ .vote) (noPair : s.kpPend p = none)
    (atIndex : s.Open i p 0x30 true) (atData : s.Open i p 0x34 true) (atComplement : s.Open i p 0x2C true)
    (unlocked : p = 0x02 → s.rb 0x02 0x08 8 = false) (may : p = 0x0A → s.forceable ((ix - 0x4000) / 4) = true) :
    ∃ u, SettingsKept ((s.wr p 0x30 (w32 ix)).kpStart ⟨p, tk p ix, addrOf p 0x34, v, initCode i⟩) u ∧
      SettingsKept ((((u.wr p 0x2C (~~~v)).kpDrop p).kpEffect i ⟨p, tk p ix, addrOf p 0x34, v, initCode i⟩).indNext p)
        ((s.putTab i p ix v).put1 i p 0x2C (~~~v)) := by
  have pending := w.putTab (v := v) voted noPair atIndex atData unlocked may
  have reach := pending.opens
    (open_kpStart (k := ⟨p, tk p ix, addrOf p 0x34, v, initCode i⟩) (kpPend_wr.trans noPair) (open_index atComplement))
  generalize s.putTab i p ix v = u at pending reach
  have found : u.kpPend p = some ⟨p, tk p ix, addrOf p 0x34, v, initCode i⟩ := (pending.kpPend p).trans kpPend_kpStart
  have written := put1_keyN (v := ~~~v) voted w.page_bounds reach
  rw [keyN_complement (s := { u with bus := {} }) found (keyIsTab_tk w.lt) w.kpAccepts] at written
  exact ⟨{ u with bus := {} }, pending.frame, written⟩

/-! ### Route words -/

theorem afterWord_route (hix : ix < 0x100) : s.afterWord (tk 0x02 ix) = s := by
  have page := tk_page 0x02 ix (by omega)
  simp [State.afterWord, page, tk_ne_rk (show ix < 0x10000 by omega), offsetInput]

theorem kpEffect_route {a : Word} {ini : Nat} (hix : ix < 0x100) : s.kpEffect i ⟨0x02, tk 0x02 ix, a, v, ini⟩ =
    s.setT3 (tk 0x02 ix) (merge 0x77F (s.nextKey (tk 0x02 ix)) v) := by
  have lt : ix < 0x10000 := by omega
  have page := tk_page 0x02 ix lt
  have word : s.kpWord ⟨0x02, tk 0x02 ix, a, v, ini⟩ = merge 0x77F (s.nextKey (tk 0x02 ix)) v := by
    simp [State.kpWord, State.kpMask, accOf_route hix, tk_ne_rk lt]
    rfl
  simp [State.kpEffect, word, page, tk_ne_rk lt, isForceKey, keyIsTab_tk lt, accOf_route hix, afterWord_route hix]

theorem routeWord_eq {n : Nat} : s.routeWord n = s.tab 0x02 n ||| (if evForced n then 0x60 else 0) := by
  rw [State.routeWord]
  split
  · rfl
  · exact (BitVec.or_zero).symm

/-- The pair on a route word while ROUTE_LOCK is 0. -/
theorem routeWord_written {n : Nat} (hn : n < 0x100) (voted : i ≠ .vote) (unlocked : s.rb 0x02 0x08 8 = false)
    (noPair : s.kpPend 0x02 = none) (noShadow : s.shadowOf (tk 0x02 n) = none) (atIndex : s.Open i 0x02 0x30 true)
    (atData : s.Open i 0x02 0x34 true) (atComplement : s.Open i 0x02 0x2C true) :
    ((s.putTab i 0x02 n v).put1 i 0x02 0x2C (~~~v)).tab 0x02 n = merge 0x77F (s.tab 0x02 n) v ∧
      ((s.putTab i 0x02 n v).put1 i 0x02 0x2C (~~~v)).kpPend 0x02 = none := by
  have w : RouteOrForce 0x02 n := .inl ⟨rfl, hn⟩
  obtain ⟨u, pending, written⟩ := w.pairWrite (v := v) voted noPair atIndex atData atComplement
    (fun _ => unlocked) (fun h => absurd h (by decide))
  rw [kpEffect_route hn] at written
  have setting : Setting (tk 0x02 n) := setting_tk (by decide) w.lt (fun _ => hn)
  have value : State.nextKey ((u.wr 0x02 0x2C (~~~v)).kpDrop 0x02) (tk 0x02 n) = s.tab 0x02 n := by
    have shadow : State.shadowOf ((u.wr 0x02 0x2C (~~~v)).kpDrop 0x02) (tk 0x02 n) = none := by
      rw [← noShadow, State.shadowOf, kpDrop_shadow, wr_shadow, pending.shadow, kpStart_idle (kpPend_wr.trans noPair)]
      rfl
    rw [State.nextKey, shadow, Option.getD_none, key_congr (kpDrop_regs _ _), key_wr, if_neg (tk_ne_rk w.lt (by decide)).symm,
      pending.key _ setting, kpStart_idle (kpPend_wr.trans noPair)]
    exact (tab_wr _ _ _ _ _ _).trans (if_neg (tk_ne_rk w.lt (by decide)).symm)
  rw [value] at written
  refine ⟨(written.key _ setting).trans ((tab_indNext w.lt).trans ?_), (written.kpPend _).trans ?_⟩
  · exact (key_setKey _ _ _ _).trans (if_pos rfl)
  · simp [State.indNext, State.setT3, State.kpPend, State.kpDrop]

/-- A write to a route word while ROUTE_LOCK is 1 is refused with cause ROUTE_LOCKED. -/
theorem indWrite_locked {a : Word} (voted : i ≠ .vote) (route : s.indAddr 0x02 < 0x100) (locked : s.rb 0x02 0x08 8 = true) :
    s.indWrite i 0x02 a v = s.refuse i a 0xD := by
  unfold State.indWrite
  simp only [locked, route]
  rw [if_neg (by simp [voted]; decide), if_pos (by simp)]

/-- A complement with nothing pending is KEYPAIR_FAIL (R79). -/
theorem keyN_idle (noPair : s.kpPend p = none) : s.keyN i p v = (s.wr p 0x2C v).kpFail p (initCode i) (addrOf p 0x2C) := by
  have idle : (s.wr p 0x2C v).kpPend p = none := kpPend_wr.trans noPair
  unfold State.keyN
  simp only [idle]

/-- The same three writes while ROUTE_LOCK is 1: the value is refused, and the complement finds nothing pending. -/
theorem routeWord_locked {n : Nat} (hn : n < 0x100) (voted : i ≠ .vote) (locked : s.rb 0x02 0x08 8 = true)
    (noPair : s.kpPend 0x02 = none) (atIndex : s.Open i 0x02 0x30 true) (atData : s.Open i 0x02 0x34 true)
    (atComplement : s.Open i 0x02 0x2C true) : ((s.putTab i 0x02 n v).put1 i 0x02 0x2C (~~~v)).tab 0x02 n = s.tab 0x02 n := by
  have w : RouteOrForce 0x02 n := .inl ⟨rfl, hn⟩
  have setting : Setting (tk 0x02 n) := setting_tk (by decide) w.lt (fun _ => hn)
  have first := w.put1_index voted atIndex
  unfold State.putTab
  generalize s.put1 i 0x02 0x30 (w32 n) = s₁ at first
  have still : SettingsKept (s.wr 0x02 0x30 (w32 n)) { s₁ with bus := {} } := first.frame
  have second := put1_data (v := v) voted w.page_bounds (first.opens (open_index atData))
  rw [indWrite_locked voted (by rw [w.indAddr_eq still]; exact hn) (still.routeLock.trans locked)] at second
  have both : SettingsKept (s.wr 0x02 0x30 (w32 n)) (s₁.put1 i 0x02 0x34 v) := .trans (.refuse still (by decide)) second
  generalize s₁.put1 i 0x02 0x34 v = s₂ at both
  have third := put1_keyN (v := ~~~v) voted w.page_bounds (both.opens (open_index atComplement))
  rw [keyN_idle (s := { s₂ with bus := {} }) ((both.kpPend _).trans (kpPend_wr.trans noPair))] at third
  have last : SettingsKept (s₂.wr 0x02 0x2C (~~~v)) (s₂.put1 i 0x02 0x2C (~~~v)) := .trans (.kpFail SettingsKept.refl.frame) third
  calc (s₂.put1 i 0x02 0x2C (~~~v)).tab 0x02 n = (s₂.wr 0x02 0x2C (~~~v)).tab 0x02 n := last.key _ setting
    _ = s₂.tab 0x02 n := (tab_wr ..).trans (if_neg (tk_ne_rk w.lt (by decide)).symm)
    _ = s.tab 0x02 n := (both.key _ setting).trans ((tab_wr ..).trans (if_neg (tk_ne_rk w.lt (by decide)).symm))

/-! ### Force words -/

theorem kpEffect_force {a : Word} {ini : Nat} (w : RouteOrForce 0x0A ix) : s.kpEffect i ⟨0x0A, tk 0x0A ix, a, v, ini⟩ =
    s.forceSet ((ix - 0x4000) / 4) (ix % 4) v := by
  have page := tk_page 0x0A ix w.lt
  have force : isForceKey (tk 0x0A ix) = true := by
    unfold RouteOrForce at w
    simp [isForceKey, page, keyIsTab_tk (show ix < 0x10000 by omega), keyOff_tk (show ix < 0x10000 by omega)]
    omega
  simp [State.kpEffect, page, tk_ne_rk w.lt, force, keyOff_tk w.lt]

theorem tab_forceSet {n x : Nat} (hn : n < 0x1000) (hx : x < 3) :
    (s.forceSet n x v).tab 0x0A (0x4000 + 4 * n + x) = if x = 0 then v &&& 1 else v := by
  unfold State.forceSet
  rw [tab_wr, if_neg (tk_ne_rk (by omega) (by decide)).symm, tab_setTab, if_neg (by unfold tk; omega), tab_setTab, if_pos rfl]

/-- The pair on a force word of a signal that may be forced. -/
theorem forceWord_written {n x : Nat} (hn : n < 0x1000) (hx : x < 3) (voted : i ≠ .vote) (may : s.forceable n = true)
    (noPair : s.kpPend 0x0A = none) (atIndex : s.Open i 0x0A 0x30 true) (atData : s.Open i 0x0A 0x34 true)
    (atComplement : s.Open i 0x0A 0x2C true) :
    ((s.putTab i 0x0A (0x4000 + 4 * n + x) v).put1 i 0x0A 0x2C (~~~v)).tab 0x0A (0x4000 + 4 * n + x) = if x = 0 then v &&& 1 else v := by
  have w : RouteOrForce 0x0A (0x4000 + 4 * n + x) := .inr ⟨rfl, by omega, by omega, by omega⟩
  have sig : (0x4000 + 4 * n + x - 0x4000) / 4 = n := by omega
  have word : (0x4000 + 4 * n + x) % 4 = x := by omega
  obtain ⟨u, -, written⟩ := w.pairWrite (v := v) voted noPair atIndex atData atComplement
    (fun h => absurd h (by decide)) (fun _ => by rw [sig]; exact may)
  rw [kpEffect_force w, sig, word] at written
  exact (written.key _ (setting_tk (by decide) w.lt (by omega))).trans ((tab_indNext w.lt).trans (tab_forceSet hn hx))

end Sys2Proof.Machine
end

section
set_option Elab.async false -- one proof after the other: each further worker thread takes its stack from the check's memory
open Sys2Proof Sys2Proof.Machine

/-- Settles O10: each clause is three writes of the register bus, the index, the value and the complement. -/
theorem routeAndForceWords : Obligations.RouteAndForceWords := by
  unfold Obligations.RouteAndForceWords
  refine ⟨fun i n v s voted unlocked noPair noShadow atIndex atData atComplement => completes_of rfl (fun _ h => h) ?_,
    fun i n v s voted locked noPair atIndex atData atComplement => completes_of rfl (fun _ h => h) ?_,
    fun i sig word v s voted may noPair atIndex atData atComplement => completes_of rfl (fun _ h => h) ?_⟩
  · obtain ⟨written, done⟩ := routeWord_written (v := v) n.isLt voted unlocked noPair noShadow atIndex atData atComplement
    exact ⟨written, routeWord_eq, done⟩
  · exact routeWord_locked n.isLt voted locked noPair atIndex atData atComplement
  · exact forceWord_written sig.isLt word.isLt voted may noPair atIndex atData atComplement
end

section
set_option Elab.async false -- one proof after the other: each further worker thread takes its stack from the check's memory
/-! SUPPORT. Two writes after which a word does not stand as the write leaves it: an occurrence counter that what follows the write
counts again (R81, R192), and MOVING, which the values that a new signal map puts out recompute (R32, R85). The bits of a masked
write (R77). -/

namespace Sys2Proof.Machine

/-- IND_ADDR of EVR is at the occurrence counter of LANE_FAILED of lane A, event 53, while the reintegration of lane A finds no lane
that votes. -/
def counterWithoutVoters : State := copyWithoutVoters.wr 0x02 0x30 0x135

/-- The management core writes 0 to the counter, and the failure that follows counts it to 1. -/
theorem counterWrite_counts : (counterWithoutVoters.put1 .mgmt 0x02 0x34 0).tab 0x02 0x135 = 1 := by decide

/-- In STOP a shadow of SIG.MOVING waits beside a signal map whose one entry is an output in use. -/
def movingShadow : State :=
  { (((State.reset.wr 0x08 0x4C 3).setTab 0x0A 0 0x1A).setTab 0x0A 1 0x10).setTab 0x0A 3 1 with shadow := [(rk 0x0A 0x5C, 0)] }

/-- The management core's APPLY gives MOVING the 0 of its shadow, and the substitute value of the output then sets the bit of the
program's contribution. -/
theorem apply_recomputes_moving : (movingShadow.put1 .mgmt 0x0A 0x20 1).key (rk 0x0A 0x5C) = 4 := by decide

/-- What a row that answers with `u` completes with holds of a state that has the registers of `u`. -/
theorem of_completes {c : Instr} {s u : State} {P : State → Prop} (row : exec c s = answer s u) (h : Completes c s P) :
    ∃ t, t.regs = u.regs ∧ P t := by
  obtain ⟨t, ran, holds⟩ := h
  injection row.symm.trans ran with answered
  exact ⟨t, answered ▸ rfl, holds⟩

/-- A masked write's bits: of the low half those that the high half selects, and zero above it (R77). -/
theorem bit_wmMerge (old v : Word) (i : Nat) :
    bit (wmMerge old v) i = (decide (i < 16) && if bit v (i + 16) then bit v i else bit old i) := by
  have field (w : Word) (lo : Nat) : bit (w32 (fld w lo 16)) i = (decide (i < 16) && bit w (lo + i)) := by
    have lt : fld w lo 16 < 2 ^ 16 := fld_lt w lo 16
    simp only [bit, w32, BitVec.getLsbD_ofNat, testBit_fld]
    by_cases low : i < 16
    · simp [low, show i < 32 by omega]
    · simp [low]
  by_cases low : i < 16
  · rw [wmMerge, bit_merge _ _ _ _ (by omega), field, field, field]
    simp [low, Nat.add_comm]
  · have none (w m : Word) : bit (w32 (fld w 0 16) &&& m) i = false := by
      rw [bit, BitVec.getLsbD_and, ← bit, field]
      simp [low]
    rw [wmMerge, merge, bit, BitVec.getLsbD_or, ← bit, ← bit, none, none]
    simp [low]

end Sys2Proof.Machine
end

section
set_option Elab.async false -- one proof after the other: each further worker thread takes its stack from the check's memory
open Sys2Proof Sys2Proof.Machine

/-- Settles O7, bit by bit. -/
theorem maskedWriteSelectsBits : Obligations.MaskedWriteSelectsBits := by
  unfold Obligations.MaskedWriteSelectsBits
  exact fun old v i => ⟨fun low => by simp [bit_wmMerge, low], fun high => by simp [bit_wmMerge, Nat.not_lt.2 high]⟩

/-- Refutes O8: its second clause says that an occurrence counter stands as a write of IND_DATA leaves it, in every state. What
follows a write by R192 can count the event: in COPY with no VOTING lane the target fails, and LANE_FAILED counts one. -/
theorem not_indirectData : ¬ Obligations.IndirectData := by
  unfold Obligations.IndirectData
  rintro ⟨-, counter, -⟩
  obtain ⟨t, regs, -, written⟩ := of_completes (u := counterWithoutVoters.put1 .mgmt 0x02 0x34 0) rfl
    (counter .mgmt 0 counterWithoutVoters (by decide) (by decide) (by decide) (by decide))
  have present : evAbsent counterWithoutVoters.variant (counterWithoutVoters.indAddr 0x02 - 0x100) = false := by decide
  have index : counterWithoutVoters.indAddr 0x02 = 0x135 := by decide
  have cleared : merge 0xFFFF (counterWithoutVoters.tab 0x02 0x135) 0 = 0 := by decide
  rw [present, index, cleared] at written
  rw [if_neg Bool.false_ne_true, tab_congr regs, counterWrite_counts] at written
  exact absurd written (by decide)

/-- Refutes O11: its third clause says that APPLY leaves the one word of SIG that has a shadow at the shadow's value, whichever word
it is. Where it is MOVING, the substitute values of the new map set the bit that the program contributes. -/
theorem not_bufferedWriteAndApply : ¬ Obligations.BufferedWriteAndApply := by
  unfold Obligations.BufferedWriteAndApply
  rintro ⟨-, -, apply, -⟩
  obtain ⟨t, regs, taken, -⟩ := of_completes (u := movingShadow.put1 .mgmt 0x0A 0x20 1) rfl
    (apply .mgmt (rk 0x0A 0x5C) 0 1 movingShadow (by decide) (by decide) (by decide) rfl (by decide)
    (by decide) (by decide) (by decide))
  rw [key_congr regs, apply_recomputes_moving] at taken
  exact absurd taken (by decide)
end

section
set_option Elab.async false -- one proof after the other: each further worker thread takes its stack from the check's memory
/-! SUPPORT. One write of the register bus, exactly: what follows it (R192), a plain word (R77), and what a row that answers leaves. -/

namespace Sys2Proof.Machine

variable {s t u : State} {i : Init} {p off : Nat} {v : Word}

/-- Whatever next state a row that answers with `u` answers is `u`, with the queue and the variant as they were. -/
theorem leaves_of {c : Instr} {P : State → Prop} (row : exec c s = answer s u)
    (h : P { u with pending := s.pending, variant := s.variant }) : Leaves c s P := by
  intro t ran
  injection row.symm.trans ran with answered
  exact answered ▸ h

theorem initCode_lt : initCode i < 16 := by cases i <;> simp only [initCode] <;> omega

theorem fld_w32_low {n x : Nat} (hx : x < 2 ^ n) (hn : n ≤ 32) : fld (w32 x) 0 n = x := by
  have room : x < 2 ^ 32 := Nat.lt_of_lt_of_le hx (Nat.pow_le_pow_right (by decide) hn)
  rw [fld, w32, BitVec.toNat_ofNat, Nat.mod_eq_of_lt room, Nat.pow_zero, Nat.div_one, Nat.mod_eq_of_lt hx]

/-- A merge that takes no bit of the new word is the old word. -/
theorem merge_none (o w : Word) : merge (w32 0) o w = o := by
  refine word_ext _ _ fun j hj => ?_
  rw [bit_merge _ _ _ _ hj, if_neg (by simp [bit, w32])]

/-! ### What follows a write -/

/-- The words of the LANE page, and the progress of a reintegration. -/
def FollowWords (k : Nat) : Prop := keyPage k = 0x06 ∨ k = rk 0x07 0x60

/-- Where no reintegration is between BOOT and its end, nothing follows. -/
theorem reintFollow_idle (idle : s.reintState ∉ [2, 3, 4]) : s.reintFollow = s := by
  simp only [List.mem_cons, List.not_mem_nil, or_false, not_or] at idle
  obtain ⟨boot, copy, final⟩ := idle
  simp [State.reintFollow, boot, copy, final]

/-- What follows a change of lane states changes registers of the LANE page, the progress of the reintegration, and events. -/
theorem reintFollow_sameBut : SameBut FollowWords s s.reintFollow := by
  have progress : ∀ {x lo n y}, SameBut FollowWords s x → SameBut FollowWords s (x.wrFld 0x07 0x60 lo n y) :=
    fun h => h.wrFld (.inr rfl)
  have fail : ∀ {x r}, SameBut FollowWords s x → SameBut FollowWords s (x.reintFail r) := fun h => progress (progress h)
  unfold State.reintFollow
  extract_lets target
  refine .ite (fail .refl) ?_
  split
  · by_cases inSync : s.laneState target = 2
    · rw [if_neg (not_not_intro inSync)]
      refine .ite .refl ?_
      split
      · next d _ _ =>
        have copies : SameBut FollowWords s ((s.wrFld 0x07 0x60 0 3 3).wrFld 0x07 0x60 8 2 d) := progress (progress .refl)
        exact copies.regs
      · have lane : target < 4 := reintTarget_lt s
        obtain ⟨x, -, eq, same⟩ := failLane_idle s target 7 lane (by simp [State.voting, inSync])
        have held : SameBut FollowWords s x :=
          ⟨fun k _ _ hk => same k fun h => hk (.inl h), fun q j _ hq hj => by rwa [State.rb, State.rd, same _ fun h => hq (.inl h)]⟩
        rw [eq]
        exact fail ((held.wrFld (.inl (rk_page _ _ (by unfold laneOff; omega)))).raise)
    · rw [if_pos inSync]
      exact fail .refl
  · exact .refl

theorem reintFollow_bus : s.reintFollow.bus = s.bus := by
  obtain ⟨_, _, _, _, eq⟩ := reintFollow_rest s
  rw [eq]

/-- A word write that meets nothing and answers no bus error. -/
theorem initWrite_word (reach : s.Open i p off true) (hp : p < 0x80) (notBox : p ≠ 0x01) (hoff : off < 0x1000) (aligned : off % 4 = 0)
    (written : State.writeWord { s with bus := {} } i p off (addrOf p off) v = t) (quiet : t.bus = {}) :
    s.initWrite i (addrOf p off) 4 [v] false = t.reintFollow := by
  obtain ⟨notLane, pass⟩ := reach
  have words : State.writeWord { s with bus := {} } i (pageOf i (addrOf p off)) (offOf (addrOf p off) / 4 * 4) (addrOf p off) v = t := by
    rw [pageOf_addrOf _ _ _ hp hoff, if_neg notBox, offOf_addrOf _ _ hp hoff, Nat.div_mul_cancel (Nat.dvd_of_mod_eq_zero aligned),
      written]
  have bus : ({ t with bus := {} } : State) = t := by rw [← quiet]
  rw [initWrite_pass _ _ _ _ notLane (isRegSpace_addrOf _ _ hp hoff) pass t words (by rw [quiet]), bus]

/-! ### Plain words -/

/-- A plain word is written: its writable bits take the value. -/
def State.putPlain (s : State) (k : Nat) (v : Word) : State :=
  if (accOf k).rw = 0 then s else s.setKey k (merge (w32 (accOf k).rw) (s.key k) v)

theorem key_putPlain {k j : Nat} : (s.putPlain k v).key j = if k = j then merge (w32 (accOf k).rw) (s.key k) v else s.key j := by
  unfold State.putPlain
  split
  · next none =>
    split
    · next same => rw [none, merge_none, same]
    · rfl
  · exact key_setKey ..

theorem putPlain_only {k : Nat} : ∃ r, s.putPlain k v = { s with regs := r } := by
  unfold State.putPlain
  split
  · exact ⟨_, rfl⟩
  · exact ⟨_, rfl⟩

theorem putWord_plain {k : Nat} {a : Word} (plain : plainWord k) : s.putWord i k a v = s.putPlain k v := by
  obtain ⟨kp, w1c, ab, t3⟩ := plain
  have kept : ∀ w : Word, w &&& ~~~(v &&& w32 0) = w := fun w => by
    rw [show v &&& w32 0 = 0 from BitVec.and_zero, show ~~~(0 : Word) = BitVec.allOnes 32 from rfl, BitVec.and_allOnes]
  simp only [State.putWord, State.putPlain, kp, w1c, ab, t3, kept, Bool.false_eq_true, if_false, if_true, decide_true, Bool.and_true,
    decide_eq_true_eq]

section
variable {a : Word} (page : p ∈ [0x03, 0x08, 0x09, 0x0A])
include page

theorem afterWord_quiet (low : off < 0x10000) : s.afterWord (rk p off) = s := by
  have home : keyPage (rk p off) = p := rk_page _ _ (by omega)
  simp only [List.mem_cons, List.not_mem_nil, or_false] at page
  have input : offsetInput (rk p off) = false := by
    unfold offsetInput
    simp only [home]
    rw [if_neg (by omega), if_neg (by omega), if_neg (by omega), if_neg (by omega)]
  have other : ∀ q o, q ≠ p → o < 0x20000 → rk p off ≠ rk q o := fun q o hq ho e => hq (by rw [← home, e, rk_page _ _ ho])
  unfold State.afterWord
  simp only [home, input, Bool.false_and, Bool.false_eq_true, if_false]
  rw [if_neg (by omega), if_neg (other _ _ (by omega) (by omega)), if_neg (by simp; omega), if_neg (by omega),
    if_neg (other _ _ (by omega) (by omega)), if_neg (other _ _ (by omega) (by omega)),
    if_neg (by simp [other 0x61 0x40 (by omega) (by omega), other 0x61 0x44 (by omega) (by omega)]), if_neg (by omega)]

/-- A register of these pages above the header and below their own words takes a value by its access code alone. -/
theorem writeWord_register (lo : 0x40 ≤ off) (hi : off < 0x80) (act : rk p off ≠ rk 0x09 0x68) (voted : i = .vote → vwWord p off = true) :
    s.writeWord i p off a v = s.putWord i (rk p off) a v := by
  have quiet := afterWord_quiet (s := s.putWord i (rk p off) a v) page (by omega : off < 0x10000)
  simp only [List.mem_cons, List.not_mem_nil, or_false] at page
  have plane : pagePlane p ≠ .data ∧ pagePlane p ≠ .management := by
    obtain rfl | rfl | rfl | rfl := page <;> decide
  have reg : s.regWrite i p off a v = s.putWord i (rk p off) a v := by
    unfold State.regWrite
    simp only [quiet]
    rw [if_neg (by simp; omega), if_neg (by simp; omega), if_neg (by simp; omega), if_neg (by simp; omega), if_neg (by simp; omega),
      if_neg (by simp; unfold rk at act; omega), if_neg (by simp; omega), if_neg (by omega), if_neg plane.1, if_neg plane.2]
  unfold State.writeWord
  rw [if_neg (by simpa using voted), if_neg (by simp; omega), if_neg (by simp; omega), if_neg (by omega), if_neg (by omega),
    if_neg (by omega), if_neg (by omega), if_neg (by omega), reg]

theorem writeWord_plain (lo : 0x40 ≤ off) (hi : off < 0x80) (plain : plainWord (rk p off)) (voted : i = .vote → vwWord p off = true) :
    s.writeWord i p off a v = s.putPlain (rk p off) v := by
  have act : rk p off ≠ rk 0x09 0x68 := fun e => absurd (e ▸ plain).1 (by decide)
  rw [writeWord_register page lo hi act voted, putWord_plain plain]

end

end Sys2Proof.Machine
end

section
set_option Elab.async false -- one proof after the other: each further worker thread takes its stack from the check's memory
/-! SUPPORT. A plain word written through the bus (R77, R85). -/

namespace Sys2Proof.Machine

variable {s : State} {i : Init} {p off : Nat} {v : Word}

theorem putPlain_bus {k : Nat} : (s.putPlain k v).bus = s.bus := by
  obtain ⟨r, eq⟩ := putPlain_only (s := s) (k := k) (v := v)
  rw [eq]

section
variable (page : p ∈ [0x03, 0x08, 0x09, 0x0A]) (lo : 0x40 ≤ off) (hi : off < 0x80) (aligned : off % 4 = 0)
include page lo hi aligned

theorem initWrite_plain (plain : plainWord (rk p off)) (reach : s.Open i p off true) (voted : i = .vote → vwWord p off = true) :
    s.initWrite i (addrOf p off) 4 [v] false = (State.putPlain { s with bus := {} } (rk p off) v).reintFollow := by
  have bounds : p < 0x80 ∧ p ≠ 0x01 := by
    simp only [List.mem_cons, List.not_mem_nil, or_false] at page
    omega
  exact initWrite_word reach bounds.1 bounds.2 (by omega) aligned (writeWord_plain page lo hi plain voted) putPlain_bus

/-- The writable bits of the register take the value, and no bus error comes back. -/
theorem initWrite_plain_spec (plain : plainWord (rk p off)) (reach : s.Open i p off true) (voted : i = .vote → vwWord p off = true) :
    (s.initWrite i (addrOf p off) 4 [v] false).rd p off = merge (w32 (accOf (rk p off)).rw) (s.rd p off) v ∧
      (s.initWrite i (addrOf p off) 4 [v] false).bus.err = false := by
  rw [initWrite_plain page lo hi aligned plain reach voted]
  simp only [List.mem_cons, List.not_mem_nil, or_false] at page
  have apart : ¬FollowWords (rk p off) := by
    unfold FollowWords
    rw [rk_page _ _ (by omega)]
    unfold rk
    omega
  refine ⟨?_, by rw [reintFollow_bus, putPlain_bus]⟩
  rw [reintFollow_sameBut.rd (by omega) (by omega) (by omega) apart, State.rd, key_putPlain, if_pos rfl]
  rfl

end

end Sys2Proof.Machine
end

section
set_option Elab.async false -- one proof after the other: each further worker thread takes its stack from the check's memory
open Sys2Proof Sys2Proof.Machine

/-- Settles O6: either row is one plain write, the second of the merged word. -/
theorem plainRegisterWrite : Obligations.PlainRegisterWrite := by
  unfold Obligations.PlainRegisterWrite
  refine ⟨fun i p off v s page lo hi aligned plain reach voted => completes_of rfl (fun _ h => h) ?_,
    fun i p off v s page lo hi aligned plain reach voted => completes_of rfl (fun _ h => h) ?_⟩
  · exact initWrite_plain_spec page lo hi aligned plain reach voted
  · have bounds : p < 0x80 ∧ p ≠ 0x01 := by
      simp only [List.mem_cons, List.not_mem_nil, or_false] at page
      omega
    rw [pageOf_addrOf _ _ _ bounds.1 (by omega), if_neg bounds.2, offOf_addrOf _ _ bounds.1 (by omega)]
    exact initWrite_plain_spec page lo hi aligned plain reach voted
end

section
set_option Elab.async false -- one proof after the other: each further worker thread takes its stack from the check's memory
/-! SUPPORT. Errors and semaphores: what changes registers and the inlet queue alone, and which registers (R71, R95). -/

namespace Sys2Proof.Machine

variable {Q : Nat → Prop} {s t u : State} {i : Init} {p off : Nat} {a v : Word}

/-! ### Registers alone -/

/-- Registers and the inlet queue alone differ, and of the words outside the router's page and the pending bits only those of `Q`. -/
structure OnlyWords (Q : Nat → Prop) (s t : State) : Prop extends SameBut Q s t where
  only : OnlyRegsInlet s t

namespace OnlyWords

theorem refl : OnlyWords Q s s := ⟨.refl, .rfl' s⟩

theorem trans (h : OnlyWords Q s t) (g : OnlyWords Q t u) : OnlyWords Q s u := ⟨h.toSameBut.trans g.toSameBut, h.only.trans' g.only⟩

theorem wr {o : Nat} (h : OnlyWords Q s t) (hq : Q (rk p o) := by decide) : OnlyWords Q s (t.wr p o v) :=
  ⟨h.toSameBut.wr hq, h.only.trans' (onlyRegsInlet_wr ..)⟩

theorem wrFld {o lo n x : Nat} (h : OnlyWords Q s t) (hq : Q (rk p o) := by decide) : OnlyWords Q s (t.wrFld p o lo n x) := h.wr hq

theorem wrBit {o j : Nat} {b : Bool} (h : OnlyWords Q s t) (hq : Q (rk p o) := by decide) : OnlyWords Q s (t.wrBit p o j b) := h.wr hq

theorem raise {n : Nat} {p0 p1 p2 : Word} (h : OnlyWords Q s t) : OnlyWords Q s (t.raise n p0 p1 p2) :=
  ⟨h.toSameBut.raise, h.only.trans' (onlyRegsInlet_raise ..)⟩

theorem error {o ini cause ev : Nat} {p0 : Word} (h : OnlyWords Q s t) (hq : Q (rk p 0x38) := by decide) :
    OnlyWords Q s (t.error p o ini cause ev p0) := (h.wr hq).raise

theorem ite {c : Prop} {_ : Decidable c} {x y : State} (hx : OnlyWords Q s x) (hy : OnlyWords Q s y) :
    OnlyWords Q s (if c then x else y) := by
  split
  · exact hx
  · exact hy

end OnlyWords

/-- An access that is recorded with a cause shows it in ERRINFO of its page. -/
theorem rd_accessFault {c : Nat} (hp : p < 0x80) (notBox : p ≠ 0x01) (notEvr : p ≠ 0x02) (hoff : off < 0x1000) :
    (s.accessFault i (addrOf p off) c).rd p 0x38 = errWord off (initCode i) c (s.rf p 0x38 24 8 + 1) := by
  rw [State.accessFault, pageOf_addrOf _ _ _ hp hoff, if_neg notBox, offOf_addrOf _ _ hp hoff,
    rd_error _ _ _ _ _ _ _ _ _ notEvr (by decide) (by decide), if_pos rfl]

theorem rd_accessFault_other {c o : Nat} (hp : p < 0x80) (notBox : p ≠ 0x01) (notEvr : p ≠ 0x02) (hoff : off < 0x1000)
    (ho : o ≠ 0x18 ∧ o ≠ 0x38) (hl : o < 0x20000) : (s.accessFault i (addrOf p off) c).rd p o = s.rd p o := by
  rw [State.accessFault, pageOf_addrOf _ _ _ hp hoff, if_neg notBox, rd_error _ _ _ _ _ _ _ _ _ notEvr ho.1 hl,
    if_neg (by unfold rk; omega)]

/-! ### Semaphores -/

/-- The words of the BRIDLE page. -/
def BridleWords (k : Nat) : Prop := keyPage k = 0x03

theorem bridleWords_rk {o : Nat} (ho : o < 0x20000) : BridleWords (rk 0x03 o) := rk_page _ _ ho

section
variable {k : Nat} (hk : k < 16)
include hk

theorem writeWord_sem : s.writeWord i 0x03 (0x80 + 4 * k) a v = s.semWrite i k a v := by
  have voted : vwWord 0x03 (0x80 + 4 * k) = true := by simp [vwWord]; omega
  unfold State.writeWord State.regWrite
  rw [if_neg (by simp [voted]), if_neg (by simp), if_neg (by simp), if_neg (by omega), if_neg (by omega), if_neg (by omega),
    if_neg (by omega), if_neg (by omega), if_neg (by decide), if_neg (by simp), if_pos (by simp; omega)]
  congr 1
  omega

theorem semWrite_only : OnlyWords BridleWords s (s.semWrite i k (addrOf 0x03 (0x80 + 4 * k)) v) := by
  have sem : ∀ {x w}, OnlyWords BridleWords s x → OnlyWords BridleWords s (x.wr 0x03 (0x80 + 4 * k) w) :=
    fun h => h.wr (bridleWords_rk (by omega))
  have fault : ∀ {x}, OnlyWords BridleWords s x → OnlyWords BridleWords s (x.accessFault i (addrOf 0x03 (0x80 + 4 * k)) 0xF) := by
    intro x h
    rw [State.accessFault, pageOf_addrOf _ _ _ (by decide) (by omega), if_neg (by decide)]
    exact h.error (bridleWords_rk (by decide))
  have forced : OnlyWords BridleWords s (if bit v 10 && i = .mgmt then s.wr 0x03 (0x80 + 4 * k) 0xF else s) := .ite (sem .refl) .refl
  unfold State.semWrite
  extract_lets o me x y
  have released : OnlyWords BridleWords s y := .ite forced (.ite (sem forced) (fault forced))
  exact .ite (sem released) released

/-- A semaphore's command through the bus. -/
theorem put1_sem (reach : s.Open i 0x03 (0x80 + 4 * k) true) :
    s.put1 i 0x03 (0x80 + 4 * k) v = (State.semWrite { s with bus := {} } i k (addrOf 0x03 (0x80 + 4 * k)) v).reintFollow :=
  initWrite_word reach (by decide) (by decide) (by omega) (by omega) (writeWord_sem hk) (semWrite_only hk).only.bus_eq

/-- Each word of BRIDLE but its pending bits is after a semaphore's command through the bus what the command leaves. -/
theorem rd_put1_sem {o : Nat} (reach : s.Open i 0x03 (0x80 + 4 * k) true) (ho : o ≠ 0x18) (hl : o < 0x20000) :
    (s.put1 i 0x03 (0x80 + 4 * k) v).rd 0x03 o =
      (State.semWrite { s with bus := {} } i k (addrOf 0x03 (0x80 + 4 * k)) v).rd 0x03 o := by
  rw [put1_sem hk reach]
  have apart : ¬FollowWords (rk 0x03 o) := by
    unfold FollowWords
    rw [rk_page _ _ hl]
    unfold rk
    omega
  exact reintFollow_sameBut.rd (by decide) ho hl apart

theorem put1_sem_quiet (reach : s.Open i 0x03 (0x80 + 4 * k) true) : (s.put1 i 0x03 (0x80 + 4 * k) v).bus.err = false := by
  rw [put1_sem hk reach, reintFollow_bus, (semWrite_only hk).only.bus_eq]

end

theorem semWrite_acquire {k : Nat} (force : bit v 10 = false := by decide) (release : bit v 9 = false := by decide)
    (acquire : bit v 8 = true := by decide) : s.semWrite i k a v =
      if s.rf 0x03 (0x80 + 4 * k) 0 4 = 0xF then s.wr 0x03 (0x80 + 4 * k) (w32 (initCode i)) else s := by
  simp [State.semWrite, force, release, acquire]

theorem semWrite_release {k : Nat} (force : bit v 10 = false := by decide) (release : bit v 9 = true := by decide)
    (acquire : bit v 8 = false := by decide) : s.semWrite i k a v =
      if s.rf 0x03 (0x80 + 4 * k) 0 4 = initCode i then s.wr 0x03 (0x80 + 4 * k) 0xF else s.accessFault i a 0xF := by
  simp [State.semWrite, force, release, acquire]

theorem semWrite_force {k : Nat} (force : bit v 10 = true := by decide) (release : bit v 9 = false := by decide)
    (acquire : bit v 8 = false := by decide) : s.semWrite .mgmt k a v = s.wr 0x03 (0x80 + 4 * k) 0xF := by
  simp [State.semWrite, force, release, acquire]

theorem rd_sem_other {j k : Fin 16} (other : j ≠ k) :
    (s.wr 0x03 (0x80 + 4 * k.val) v).rd 0x03 (0x80 + 4 * j.val) = s.rd 0x03 (0x80 + 4 * j.val) :=
  rd_wr_ne _ _ _ _ _ _ fun e => other (Fin.ext (by unfold rk at e; omega))

/-- A semaphore acquired while it is free is its acquirer's, and an owned one stays its owner's (R95). -/
theorem acquire_owner {k : Nat} (hk : k < 16) (reach : s.Open i 0x03 (0x80 + 4 * k) true) :
    (s.put1 i 0x03 (0x80 + 4 * k) 0x100).rf 0x03 (0x80 + 4 * k) 0 4 =
      if s.rf 0x03 (0x80 + 4 * k) 0 4 = 0xF then initCode i else s.rf 0x03 (0x80 + 4 * k) 0 4 := by
  rw [State.rf, rd_put1_sem hk reach (by omega) (by omega), semWrite_acquire]
  have before : State.rf { s with bus := {} } 0x03 (0x80 + 4 * k) 0 4 = s.rf 0x03 (0x80 + 4 * k) 0 4 := rfl
  rw [before]
  split
  · rw [rd_wr_self, fld_w32_low initCode_lt (by decide)]
  · rfl

end Sys2Proof.Machine
end

section
set_option Elab.async false -- one proof after the other: each further worker thread takes its stack from the check's memory
open Sys2Proof Sys2Proof.Machine

/-- Settles O14: what each command does to its semaphore, through the bus. -/
theorem semaphoreCommands : Obligations.SemaphoreCommands := by
  unfold Obligations.SemaphoreCommands
  refine ⟨fun i k s reach => completes_of rfl (fun _ h => h) ?_, fun i k s reach mine => completes_of rfl (fun _ h => h) ?_,
    fun k s reach => completes_of rfl (fun _ h => h) ?_, fun i k s reach other => completes_of rfl (fun _ h => h) ?_⟩
  · refine ⟨put1_sem_quiet k.isLt reach, acquire_owner k.isLt reach, fun j hj => ?_⟩
    rw [rd_put1_sem k.isLt reach (by omega) (by omega), semWrite_acquire]
    split
    · exact rd_sem_other hj
    · rfl
  · have freed : State.semWrite { s with bus := {} } i k (addrOf 0x03 (0x80 + 4 * k)) 0x200 =
        State.wr { s with bus := {} } 0x03 (0x80 + 4 * k) 0xF := (semWrite_release ..).trans (if_pos mine)
    refine ⟨?_, put1_sem_quiet k.isLt reach, fun j hj => ?_⟩
    · rw [State.rf, rd_put1_sem k.isLt reach (by omega) (by omega), freed, rd_wr_self]
      decide
    · rw [rd_put1_sem k.isLt reach (by omega) (by omega), freed]
      exact rd_sem_other hj
  · refine ⟨?_, put1_sem_quiet k.isLt reach, fun j hj => ?_⟩
    · rw [State.rf, rd_put1_sem k.isLt reach (by omega) (by omega), semWrite_force, rd_wr_self]
      decide
    · rw [rd_put1_sem k.isLt reach (by omega) (by omega), semWrite_force]
      exact rd_sem_other hj
  · have refused : State.semWrite { s with bus := {} } i k (addrOf 0x03 (0x80 + 4 * k)) 0x200 =
        State.accessFault { s with bus := {} } i (addrOf 0x03 (0x80 + 4 * k)) 0xF := (semWrite_release ..).trans (if_neg other)
    refine ⟨?_, ?_⟩
    · rw [rd_put1_sem k.isLt reach (by omega) (by omega), refused]
      exact rd_accessFault_other (by decide) (by decide) (by decide) (by omega) (by omega) (by omega)
    · rw [rd_put1_sem k.isLt reach (by omega) (by omega), refused, rd_accessFault (by decide) (by decide) (by decide) (by omega)]
      rfl
end

section
set_option Elab.async false -- one proof after the other: each further worker thread takes its stack from the check's memory
/-! SUPPORT. What a write of the register bus leaves as it was, where no reintegration follows it (R60, R72, R77, R95). -/

namespace Sys2Proof.Machine

variable {s t u : State} {i : Init} {p off : Nat} {a v : Word}

/-- A voted write of a word that no voted write reaches changes nothing. -/
theorem writeWord_unvoted (unvoted : vwWord p off = false) : s.writeWord .vote p off a v = s := by
  rw [State.writeWord, if_pos (by simp [unvoted])]

/-! ### Plain words -/

theorem reintState_congr (word : t.rd 0x07 0x60 = s.rd 0x07 0x60) : t.reintState = s.reintState := congrArg (fld · 0 3) word

/-- A plain word written, with nothing that follows: registers and the bus answer alone differ, and of the registers that word
alone. -/
theorem initWrite_plain_frame (page : p ∈ [0x03, 0x08, 0x09, 0x0A]) (lo : 0x40 ≤ off) (hi : off < 0x80) (aligned : off % 4 = 0)
    (plain : plainWord (rk p off)) (reach : s.Open i p off true) (idle : s.reintState ∉ [2, 3, 4]) :
    ∃ r, s.initWrite i (addrOf p off) 4 [v] false = { s with regs := r, bus := {} } ∧
      ∀ k, k ≠ rk p off → State.key { s with regs := r, bus := {} } k = s.key k := by
  have notVote : p ≠ 0x07 ∧ p < 0x80 ∧ p ≠ 0x01 := by
    simp only [List.mem_cons, List.not_mem_nil, or_false] at page
    omega
  by_cases voted : i = .vote → vwWord p off = true
  · obtain ⟨r, eq⟩ := putPlain_only (s := { s with bus := {} }) (k := rk p off) (v := v)
    have others : ∀ k, k ≠ rk p off → (State.putPlain { s with bus := {} } (rk p off) v).key k = s.key k := fun k hk =>
      key_putPlain.trans (if_neg hk.symm)
    have still : (State.putPlain { s with bus := {} } (rk p off) v).reintState = s.reintState :=
      reintState_congr (others _ (by unfold rk; omega))
    refine ⟨r, ?_, eq ▸ others⟩
    rw [initWrite_plain page lo hi aligned plain reach voted, reintFollow_idle (still ▸ idle), eq]
  · obtain ⟨rfl, unvoted⟩ := Classical.not_imp.1 voted
    refine ⟨s.regs, ?_, fun k _ => rfl⟩
    rw [initWrite_word reach notVote.2.1 notVote.2.2 (by omega) aligned (writeWord_unvoted (by simpa using unvoted)) rfl]
    exact reintFollow_idle idle

/-! ### Words of EVR and BRIDLE -/

/-- The words of the EVR and BRIDLE pages. -/
def RouterWords (k : Nat) : Prop := keyPage k = 0x02 ∨ keyPage k = 0x03

/-- Registers, the inlet queue and the bus answer alone differ, and of the registers those of EVR and BRIDLE and pending bits. -/
def OnlyRouter (s t : State) : Prop := OnlyRegisters s t ∧ SamePages [0x02, 0x03] s t

theorem OnlyRouter.refl : OnlyRouter s s := ⟨rfl, fun _ _ _ => rfl⟩

theorem OnlyRouter.words (h : OnlyRouter s t) (g : OnlyWords RouterWords t u) : OnlyRouter s u := by
  obtain ⟨frame, same⟩ := h
  refine ⟨?_, fun k hk hp => ?_⟩
  · have only := g.only
    unfold OnlyRegisters OnlyRegsInlet at *
    rw [only, frame]
  · have hk' : keyPage k ≠ 0x02 ∧ keyPage k ≠ 0x03 := by simpa using hk
    exact (g.key k hk'.1 hp (not_or.2 hk')).trans (same k hk hp)

theorem OnlyRouter.bus {b : BusAnswer} (h : OnlyRouter s t) : OnlyRouter s { t with bus := b } := by
  obtain ⟨frame, same⟩ := h
  refine ⟨?_, same⟩
  unfold OnlyRegisters at *
  rw [frame]

theorem OnlyRouter.reintFollow (h : OnlyRouter s t) (idle : s.reintState ∉ [2, 3, 4]) : OnlyRouter s t.reintFollow := by
  have still : t.reintState = s.reintState :=
    reintState_congr (h.2 _ (by simp [rk_page]) fun p e => by unfold rk at e; omega)
  rwa [reintFollow_idle (still ▸ idle)]

/-- A row whose answer differs so from the state before it leaves all else. -/
theorem OnlyRouter.leaves {c : Instr} (row : exec c s = answer s u) (h : OnlyRouter s u) :
    Leaves c s fun t => OnlyRegisters s t ∧ SamePages [0x02, 0x03] s t := by
  obtain ⟨frame, same⟩ := h
  refine leaves_of row ⟨?_, same⟩
  unfold OnlyRegisters at *
  rw [frame]

/-- A word write of the register bus is one part. -/
theorem busWrite_word (hp : p < 0x80) (hoff : off < 0x1000) (part : State.writePart { s with bus := {} } i (addrOf p off) 4 v false = t) :
    s.busWrite i (addrOf p off) 4 [v] false = { t with bus := { err := t.bus.err } } := by
  subst part
  unfold State.busWrite
  simp only [isRegSpace_addrOf _ _ hp hoff, accessSize, wideUnaligned, accessParts]
  rfl

/-- A part that meets nothing is the word's own write; a bus error that it answers is counted where a posting range covers the page. -/
theorem writePart_word (pass : s.gate i (addrOf p off) 4 true false = .pass) (hp : p < 0x80) (notBox : p ≠ 0x01) (hoff : off < 0x1000)
    (aligned : off % 4 = 0) (written : s.writeWord i p off (addrOf p off) v = t) :
    s.writePart i (addrOf p off) 4 v false =
      if t.bus.err && s.posted i p then { t.sat16 0x03 0x44 with bus := s.bus } else t := by
  subst written
  unfold State.writePart
  rw [pass, pageOf_addrOf _ _ _ hp hoff, if_neg notBox, offOf_addrOf _ _ hp hoff, Nat.div_mul_cancel (Nat.dvd_of_mod_eq_zero aligned)]
  rfl

/-- A word write that meets nothing is the word's own, with a bus error counted or given to the initiator, and what follows. -/
theorem put1_written (reach : s.Open i p off true) (hp : p < 0x80) (notBox : p ≠ 0x01) (hoff : off < 0x1000) (aligned : off % 4 = 0) :
    ∃ x b, OnlyWords BridleWords (State.writeWord { s with bus := {} } i p off (addrOf p off) v) x ∧
      s.put1 i p off v = State.reintFollow { x with bus := b } := by
  obtain ⟨notLane, pass⟩ := reach
  have bus : s.put1 i p off v = (s.busWrite i (addrOf p off) 4 [v] false).reintFollow := by
    cases i with
    | lane l => simp [isLane] at notLane
    | _ => rfl
  have part := writePart_word (s := { s with bus := {} }) (v := v) ((gate_bus ..).trans pass) hp notBox hoff aligned rfl
  rw [bus, busWrite_word hp hoff part]
  generalize State.writeWord { s with bus := {} } i p off (addrOf p off) v = y
  split
  · exact ⟨y.sat16 0x03 0x44, _, OnlyWords.refl.wrFld (bridleWords_rk (by decide)), rfl⟩
  · exact ⟨y, _, .refl, rfl⟩

theorem bankWrite_only {o : Nat} (ho : o < 0x1000) : ∃ x, OnlyWords RouterWords s x ∧
    (s.bankWrite i o (addrOf 0x02 o) v = x ∨ s.bankWrite i o (addrOf 0x02 o) v = x.busError) := by
  unfold State.bankWrite
  extract_lets b own
  split
  · refine ⟨s.accessFault i (addrOf 0x02 o) 0xC, ?_, .inr (congrArg State.busError (if_neg (by decide)))⟩
    rw [State.accessFault, pageOf_addrOf _ _ _ (by decide) ho, if_neg (by decide)]
    exact OnlyWords.refl.error (.inl (rk_page _ _ (by decide)))
  · exact ⟨_, OnlyWords.refl.wr (.inl (rk_page _ _ (by omega))), .inl rfl⟩

theorem writeWord_bank (own : i ≠ .vote) (lo : 0x100 ≤ off) (hi : off < 0x1A0) :
    s.writeWord i 0x02 off a v = s.bankWrite i off a v := by
  unfold State.writeWord State.regWrite
  rw [if_neg (by simp [own]), if_neg (by simp), if_neg (by simp), if_neg (by omega), if_neg (by omega), if_neg (by omega),
    if_neg (by omega), if_neg (by omega), if_neg (by decide), if_pos (by simp; omega)]

theorem put1_bank {o : Nat} (lo : 0x100 ≤ o) (hi : o < 0x1A0) (aligned : o % 4 = 0) (reach : s.Open i 0x02 o true)
    (idle : s.reintState ∉ [2, 3, 4]) : OnlyRouter s (s.put1 i 0x02 o v) := by
  have own : OnlyRouter s (State.writeWord { s with bus := {} } i 0x02 o (addrOf 0x02 o) v) := by
    by_cases voted : i = .vote
    · subst voted
      rw [writeWord_unvoted (by simp [vwWord]; omega)]
      exact OnlyRouter.refl.bus
    · rw [writeWord_bank voted lo hi]
      obtain ⟨x, only, same | refused⟩ := bankWrite_only (s := { s with bus := {} }) (i := i) (v := v) (by omega : o < 0x1000)
      · exact same ▸ OnlyRouter.refl.bus.words only
      · exact refused ▸ (OnlyRouter.refl.bus.words only).bus
  obtain ⟨x, b, counted, eq⟩ := put1_written (v := v) reach (by decide) (by decide) (by omega) aligned
  rw [eq]
  exact ((own.words ⟨counted.mono fun _ => .inr, counted.only⟩).bus).reintFollow idle

end Sys2Proof.Machine
end

section
set_option Elab.async false -- one proof after the other: each further worker thread takes its stack from the check's memory
open Sys2Proof Sys2Proof.Machine

/-- Settles O60: what each write leaves, with nothing that follows it. -/
theorem registerWriteFrame : Obligations.RegisterWriteFrame := by
  unfold Obligations.RegisterWriteFrame
  refine ⟨fun i p off v s page lo hi aligned plain reach idle => ⟨?_, ?_⟩, fun i k c s row reach idle => ?_,
    fun i bank w v s reach idle => ?_⟩
  · obtain ⟨r, eq, others⟩ := initWrite_plain_frame (v := v) page lo hi aligned plain reach idle
    refine leaves_of rfl ⟨?_, ?_⟩
    · rw [eq]
    · exact eq ▸ others
  · obtain ⟨r, eq, others⟩ := initWrite_plain_frame (v := wmMerge (s.rd (pageOf i (addrOf p off)) (offOf (addrOf p off))) v) page lo hi
      aligned plain reach idle
    refine leaves_of rfl ⟨?_, ?_⟩
    · rw [eq]
    · exact eq ▸ others
  · have sem : ∀ v, OnlyRouter s (s.put1 i 0x03 (0x80 + 4 * k.val) v) := fun v => by
      rw [put1_sem k.isLt reach]
      have only := semWrite_only (s := { s with bus := {} }) (i := i) (v := v) k.isLt
      exact (OnlyRouter.refl.bus.words ⟨only.mono fun _ => .inr, only.only⟩).reintFollow idle
    obtain rfl | rfl | rfl := row
    · exact (sem 0x100).leaves rfl
    · exact (sem 0x200).leaves rfl
    · exact (sem 0x400).leaves rfl
  · exact (put1_bank (by omega) (by omega) (by omega) reach idle).leaves rfl
end

section
set_option Elab.async false -- one proof after the other: each further worker thread takes its stack from the check's memory
/-! SUPPORT. Key pairs on the words of a page: their start, their completion, their end without one (R79). -/

namespace Sys2Proof.Machine

variable {s t u : State} {i : Init} {p off : Nat} {a v : Word}

/-! ### What a pair's writes touch -/

/-- ERRINFO of page `p`. -/
def ErrorWord (p : Nat) (k : Nat) : Prop := k = rk p 0x38

theorem kpPend_kpDrop : (s.kpDrop p).kpPend p = none := by
  simp [State.kpPend, State.kpDrop]

theorem kpPend_setT3 {k : Nat} : (s.setT3 k v).kpPend p = s.kpPend p := rfl

theorem kpPend_error {q o ini c ev : Nat} {p0 : Word} : (s.error q o ini c ev p0).kpPend p = s.kpPend p := by
  rw [State.kpPend, error_kp, State.kpPend]

theorem kpPend_reintFollow : s.reintFollow.kpPend p = s.kpPend p := by
  obtain ⟨_, _, _, _, eq⟩ := reintFollow_rest s
  rw [eq]
  rfl

theorem kpFail_only {ini : Nat} {b : Word} : OnlyWords (ErrorWord p) s (s.kpFail p ini b) := OnlyWords.refl.error rfl

/-- The end of a pending pair without effect shows in ERRINFO of its page. -/
theorem rd_kpFail {ini : Nat} {b : Word} (notEvr : p ≠ 0x02) :
    (s.kpFail p ini b).rd p 0x38 = errWord (b.toNat % 0x1000) ini 5 (s.rf p 0x38 24 8 + 1) := by
  rw [State.kpFail, rd_error _ _ _ _ _ _ _ _ _ notEvr (by decide) (by decide), if_pos rfl]

/-- A pair's start drops what was pending on its page. -/
theorem kpStart_sameBut {k : KpPend} : SameBut (ErrorWord k.page) s (s.kpStart k) := by
  unfold State.kpStart
  have dropped : SameBut (ErrorWord k.page) s (if (s.kpPend k.page).isSome then s.kpFail k.page k.ini k.addr else s) :=
    .ite kpFail_only.toSameBut .refl
  exact dropped.regs

theorem kpStart_bus {k : KpPend} : (s.kpStart k).bus = s.bus := by
  unfold State.kpStart
  extract_lets x y
  have : x.bus = s.bus := by
    show (if _ then _ else _ : State).bus = s.bus
    split
    · exact (kpFail_only (p := k.page)).only.bus_eq
    · rfl
  exact this

/-- A word of these pages is none of those that follow a change of lane states. -/
theorem not_followWords (page : p ≠ 0x06) (ho : off < 0x20000) (word : p = 0x07 → off ≠ 0x60) : ¬FollowWords (rk p off) := by
  unfold FollowWords
  rw [rk_page _ _ ho]
  unfold rk
  omega

/-- What follows a write leaves every word of a page beside EVR, LANE and the pending bits, but for the reintegration's progress. -/
theorem rd_reintFollow (page : p ≠ 0x02 ∧ p ≠ 0x06) (ho : off < 0x20000) (notPend : off ≠ 0x18) (word : p = 0x07 → off ≠ 0x60) :
    s.reintFollow.rd p off = s.rd p off :=
  reintFollow_sameBut.rd page.1 notPend ho (not_followWords page.2 ho word)

/-! ### The value -/

/-- A word of CYC, PRG or SIG with KP fields and no plain ones takes a value as its page's pending one. -/
theorem putWord_pair {k : Nat} (pair : (accOf k).kp ≠ 0) (pure : mixedWord k = false) (plain : (accOf k).w1c = 0) :
    s.putWord i k a v = s.kpStart ⟨keyPage k, k, a, v, initCode i⟩ := by
  have rw : (accOf k).rw = 0 := by
    simp only [mixedWord, Bool.or_eq_false_iff, decide_eq_false_iff_not, not_not] at pure
    exact pure.1.1
  simp [State.putWord, pair, pure, plain, rw]

theorem pairWords_w1c : ∀ q ∈ [0x08, 0x09, 0x0A], ∀ j < 16, (accOf (rk q (0x40 + 4 * j))).kp ≠ 0 → (accOf (rk q (0x40 + 4 * j))).w1c = 0 := by
  decide

/-- The value of a pair, through the bus. -/
theorem initWrite_pair (page : p ∈ [0x08, 0x09, 0x0A]) (lo : 0x40 ≤ off) (hi : off < 0x80) (aligned : off % 4 = 0)
    (pair : (accOf (rk p off)).kp ≠ 0) (pure : mixedWord (rk p off) = false) (reach : s.Open i p off true)
    (voted : i = .vote → vwWord p off = true) :
    s.initWrite i (addrOf p off) 4 [v] false =
      (State.kpStart { s with bus := {} } ⟨p, rk p off, addrOf p off, v, initCode i⟩).reintFollow := by
  have plain : (accOf (rk p off)).w1c = 0 := by
    obtain ⟨j, rfl⟩ : ∃ j, off = 0x40 + 4 * j := ⟨(off - 0x40) / 4, by omega⟩
    exact pairWords_w1c p page j (by omega) pair
  have bounds : p < 0x80 ∧ p ≠ 0x01 := by
    simp only [List.mem_cons, List.not_mem_nil, or_false] at page
    omega
  have act : rk p off ≠ rk 0x09 0x68 := fun e => absurd (e ▸ pure) (by decide)
  refine initWrite_word reach bounds.1 bounds.2 (by omega) aligned ?_ kpStart_bus
  rw [writeWord_register (List.mem_cons_of_mem _ page) lo hi act voted, putWord_pair pair pure plain, rk_page _ _ (by omega)]

/-! ### The complement -/

/-- A word of the header that a voted write reaches too, on a page with no words of its own below 0x40. -/
theorem writeWord_key (notTb : p ≠ 0x05) : s.writeWord i p 0x28 a v = s.kpDrop p := by
  simp [State.writeWord, vwWord, notTb]

theorem writeWord_complement (notTb : p ≠ 0x05) : s.writeWord i p 0x2C a v = s.keyN i p v := by
  simp [State.writeWord, vwWord, notTb]

/-- A word of the header that completes or abandons a pair, through the bus. -/
theorem put1_header (page : p < 0x80 ∧ p ≠ 0x01) (header : off = 0x28 ∨ off = 0x2C) (reach : s.Open i p off true)
    (written : State.writeWord { s with bus := {} } i p off (addrOf p off) v = t) (quiet : t.bus = {}) :
    s.put1 i p off v = t.reintFollow :=
  initWrite_word reach page.1 page.2 (by omega) (by omega) written quiet

/-- The posting ranges of BRIDLE and the substitute word of SIG among the words that the claim names: triplicated, unbuffered, of
any value. -/
def PairWord (k : Nat) : Prop := k ∈ [rk 0x0A 0x58, rk 0x03 0xC0, rk 0x03 0xDC]

namespace PairWord

variable {k : Nat} (w : PairWord k)
include w

theorem acc : (accOf k).ab = false ∧ (accOf k).t3 = true ∧ (accOf k).rng = [] := by
  have all : ∀ j ∈ [rk 0x0A 0x58, rk 0x03 0xC0, rk 0x03 0xDC], (accOf j).ab = false ∧ (accOf j).t3 = true ∧ (accOf j).rng = [] := by decide
  exact all k w

/-- The word is a register of BRIDLE or SIG. -/
theorem register : ∃ q o, k = rk q o ∧ (q = 0x03 ∨ q = 0x0A) ∧ 0x40 < o ∧ o < 0x100 := by
  simp only [PairWord, List.mem_cons, List.not_mem_nil, or_false] at w
  obtain rfl | rfl | rfl := w
  · exact ⟨_, _, rfl, .inr rfl, by decide, by decide⟩
  · exact ⟨_, _, rfl, .inl rfl, by decide, by decide⟩
  · exact ⟨_, _, rfl, .inl rfl, by decide, by decide⟩

theorem kpAccepts {q : Nat} {b x : Word} {ini : Nat} : s.kpAccepts ⟨q, k, b, x, ini⟩ = true := by
  obtain ⟨_, _, rng⟩ := w.acc
  have own : ∀ x, ownRefusal k x = false := fun x => by
    simp only [PairWord, List.mem_cons, List.not_mem_nil, or_false] at w
    obtain rfl | rfl | rfl := w <;> rfl
  have other : k ≠ rk 0x05 0x4C := by
    obtain ⟨q, o, rfl, page, lo, hi⟩ := w.register
    unfold rk
    omega
  simp [State.kpAccepts, valueOk, inRange, rng, own, other]

theorem kpEffect {q : Nat} {b x : Word} {ini : Nat} : s.kpEffect i ⟨q, k, b, x, ini⟩ = s.setT3 k (merge (w32 (accOf k).kp) (s.nextKey k) x) := by
  obtain ⟨ab, t3, -⟩ := w.acc
  obtain ⟨q', o, rfl, page, lo, hi⟩ := w.register
  have home : keyPage (rk q' o) = q' := rk_page _ _ (by omega)
  have reg : keyIsTab (rk q' o) = false := by unfold keyIsTab rk; simp; omega
  have other : ∀ r j, r ≠ q' → j < 0x20000 → rk q' o ≠ rk r j := fun r j hr hj e => hr (by rw [← home, e, rk_page _ _ hj])
  have word : s.kpWord ⟨q, rk q' o, b, x, ini⟩ = merge (w32 (accOf (rk q' o)).kp) (s.nextKey (rk q' o)) x := by
    simp [State.kpWord, State.kpMask, other 0x02 0x08 (by omega) (by omega), other 0x61 0x40 (by omega) (by omega)]
  have quiet : ∀ y : State, y.afterWord (rk q' o) = y := fun y => afterWord_quiet (by simp; omega) (by omega)
  unfold State.kpEffect
  simp only [home, word, ab, t3, quiet, if_true, Bool.false_eq_true, if_false]
  rw [if_neg (other _ _ (by omega) (by omega)), if_neg (other _ _ (by omega) (by omega)), if_neg (other _ _ (by omega) (by omega)),
    if_neg (other _ _ (by omega) (by omega)), if_neg (by simp; omega), if_neg (by simp [isForceKey, reg]), if_neg (by simp; omega)]

/-- The complement of the pending value completes the pair. -/
theorem keyN_complete {pend : KpPend} (key : pend.key = k) (page : s.kpPend p = some pend) : s.keyN i p (~~~pend.val) =
    ((s.wr p 0x2C (~~~pend.val)).kpDrop p).setT3 k (merge (w32 (accOf k).kp) (s.nextKey k) pend.val) := by
  have found : (s.wr p 0x2C (~~~pend.val)).kpPend p = some pend := kpPend_wr.trans page
  have notTab : keyIsTab k = false := by
    obtain ⟨q, o, rfl, -, -, hi⟩ := w.register
    unfold keyIsTab rk
    simp
    omega
  have next : ((s.wr p 0x2C (~~~pend.val)).kpDrop p).nextKey k = s.nextKey k := by
    obtain ⟨q, o, rfl, -, lo, hi⟩ := w.register
    have word : ((s.wr p 0x2C (~~~pend.val)).kpDrop p).key (rk q o) = s.key (rk q o) :=
      (key_congr (kpDrop_regs _ _) _).trans (rd_wr_ne _ _ _ _ _ _ (by unfold rk; omega))
    rw [State.nextKey, word, State.shadowOf, kpDrop_shadow, wr_shadow, State.nextKey, State.shadowOf]
  subst key
  unfold State.keyN
  simp only [found, w.kpAccepts, notTab, w.kpEffect, next, Bool.not_true, Bool.or_false, ne_eq, not_true_eq_false, decide_false,
    Bool.false_eq_true, if_false]

/-- The complement through the bus: the word's KP bits take the value, and nothing is pending. -/
theorem put1_complete {pend : KpPend} (key : pend.key = k) (home : p = keyPage k) (page : s.kpPend p = some pend)
    (reach : s.Open i p 0x2C true) :
    (s.put1 i p 0x2C (~~~pend.val)).key k = merge (w32 (accOf k).kp) (s.nextKey k) pend.val ∧
      (s.put1 i p 0x2C (~~~pend.val)).kpPend p = none := by
  have complete := w.keyN_complete (s := { s with bus := {} }) (i := i) key page
  obtain ⟨q, o, rfl, bounds, lo, hi⟩ := w.register
  have own : p = q := home.trans (rk_page _ _ (by omega))
  have written := put1_header ⟨by omega, by omega⟩ (.inr rfl) reach ((writeWord_complement (by omega)).trans complete)
    (by rw [setT3_bus, kpDrop_bus, wr_bus])
  rw [written]
  constructor
  · exact (rd_reintFollow (by omega) (by omega) (by omega) (by omega)).trans ((key_setKey _ _ _ _).trans (if_pos rfl))
  · exact kpPend_reintFollow.trans (kpPend_setT3.trans kpPend_kpDrop)

end PairWord

/-- Any other value ends it. -/
theorem keyN_wrong {pend : KpPend} (page : s.kpPend p = some pend) (wrong : v ≠ ~~~pend.val) :
    s.keyN i p v = ((s.wr p 0x2C v).kpDrop p).kpFail p (initCode i) pend.addr := by
  have found : (s.wr p 0x2C v).kpPend p = some pend := kpPend_wr.trans page
  unfold State.keyN
  simp only [found, wrong, ne_eq, not_false_eq_true, decide_true, Bool.true_or, if_true]

/-- Any other value through the bus: the word stands, nothing is pending, and ERRINFO shows cause KEYPAIR. -/
theorem put1_wrong {k : KpPend} (word : PairWord k.key) (home : p = keyPage k.key) (page : s.kpPend p = some k) (wrong : v ≠ ~~~k.val)
    (reach : s.Open i p 0x2C true) :
    (s.put1 i p 0x2C v).key k.key = s.key k.key ∧ (s.put1 i p 0x2C v).kpPend p = none ∧
      (s.put1 i p 0x2C v).rd p 0x38 = errWord (k.addr.toNat % 0x1000) (initCode i) 5 (s.rf p 0x38 24 8 + 1) := by
  obtain ⟨q, o, key, bounds, lo, hi⟩ := word.register
  have own : p = q := by rw [home, key, rk_page _ _ (by omega)]
  have fails := keyN_wrong (s := { s with bus := {} }) (i := i) page wrong
  have written := put1_header ⟨by omega, by omega⟩ (.inr rfl) reach ((writeWord_complement (by omega)).trans fails)
    kpFail_only.only.bus_eq
  have count : (State.kpDrop (State.wr { s with bus := {} } p 0x2C v) p).rf p 0x38 24 8 = s.rf p 0x38 24 8 :=
    congrArg (fld · 24 8) (rd_wr_ne _ _ _ _ _ _ (by unfold rk; omega))
  rw [written, key]
  refine ⟨?_, kpPend_reintFollow.trans (kpPend_error.trans kpPend_kpDrop), ?_⟩
  · have kept := kpFail_only (s := State.kpDrop (State.wr { s with bus := {} } p 0x2C v) p) (p := p) (ini := initCode i) (b := k.addr)
    exact (rd_reintFollow (by omega) (by omega) (by omega) (by omega)).trans
      ((kept.rd (by omega) (by omega) (by omega) (by unfold ErrorWord rk; omega)).trans (rd_wr_ne _ _ _ _ _ _ (by unfold rk; omega)))
  · rw [rd_reintFollow (by omega) (by omega) (by omega) (by omega), rd_kpFail (by omega), count]

/-- The expiry of a pending value shows in ERRINFO of its page with the value's initiator. -/
theorem kpExpire_shows {k : KpPend} (pend : s.kpPend p = some k) (notEvr : p ≠ 0x02) : (s.kpExpire p).kpPend p = none ∧
    (s.kpExpire p).rd p 0x38 = errWord (k.addr.toNat % 0x1000) k.ini 5 (s.rf p 0x38 24 8 + 1) := by
  have expire : s.kpExpire p = (s.kpDrop p).kpFail p k.ini k.addr := by simp [State.kpExpire, pend]
  rw [expire]
  exact ⟨kpPend_error.trans kpPend_kpDrop, rd_kpFail notEvr⟩

end Sys2Proof.Machine
end

section
set_option Elab.async false -- one proof after the other: each further worker thread takes its stack from the check's memory
open Sys2Proof Sys2Proof.Machine

/-- Settles O9: each clause is one write of a word, or the expiry, with what follows it. -/
theorem keyPairs : Obligations.KeyPairs := by
  unfold Obligations.KeyPairs
  refine ⟨fun i p off v s page lo hi aligned pair pure reach voted => completes_of rfl (fun _ h => h) ?_,
    fun i k s word home pend reach page at_ => completes_of rfl (fun _ h => h) ?_,
    fun i k v s word home pend wrong reach page at_ => completes_of rfl (fun _ h => h) ?_,
    fun i page v s on reach => completes_of rfl (fun _ h => h) ?_,
    fun page k s pend notEvr => completes_of rfl (fun _ h => h) ?_⟩
  · rw [initWrite_pair page lo hi aligned pair pure reach voted]
    simp only [List.mem_cons, List.not_mem_nil, or_false] at page
    refine ⟨kpPend_reintFollow.trans kpPend_kpStart, ?_⟩
    rw [rd_reintFollow (by omega) (by omega) (by omega) (by omega)]
    exact kpStart_sameBut.rd (by omega) (by omega) (by omega) (by unfold ErrorWord rk; omega)
  · rw [at_]
    exact PairWord.put1_complete word rfl home pend reach
  · rw [at_]
    exact put1_wrong word home pend wrong reach
  · simp only [List.mem_cons, List.not_mem_nil, or_false] at on
    have written := put1_header (v := v) ⟨by omega, by omega⟩ (.inl rfl) reach (writeWord_key (by omega)) (kpDrop_bus _ _)
    rw [written]
    refine ⟨kpPend_reintFollow.trans kpPend_kpDrop, by rw [reintFollow_bus, kpDrop_bus], ?_⟩
    exact rd_reintFollow (by omega) (by omega) (by omega) (by omega)
  · exact kpExpire_shows pend notEvr
end

section
set_option Elab.async false -- one proof after the other: each further worker thread takes its stack from the check's memory
/-! SUPPORT. Triplicated words and the events of the scrubber (R58, R78). -/

namespace Sys2Proof.Machine

variable {s t : State} {k n : Nat} {v : Word}

/-! ### Which words are triplicated -/

/-- No pending bits and no ERRINFO of a page header are triplicated. -/
theorem header_not_t3 (p : Nat) : (accOf (rk p 0x18)).t3 = false ∧ (accOf (rk p 0x38)).t3 = false := by
  by_cases assigned : p < 0x82
  · have all : ∀ q < 0x82, (accOf (rk q 0x18)).t3 = false ∧ (accOf (rk q 0x38)).t3 = false := by decide
    exact all p assigned
  · have last : ∀ b ∈ blocks, b.page + b.inst ≤ 0x82 := by decide
    have none : blockOf p = none := List.find?_eq_none.2 fun b hb => by
      have := last b hb
      simp
      omega
    constructor
    · rw [accOf, rk_page _ _ (by decide), none]
    · rw [accOf, rk_page _ _ (by decide), none]

theorem t3_ne_header (t3 : (accOf k).t3 = true) (p : Nat) : k ≠ rk p 0x18 ∧ k ≠ rk p 0x38 := by
  refine ⟨fun e => ?_, fun e => ?_⟩
  · rw [e, (header_not_t3 p).1] at t3
    exact absurd t3 (by decide)
  · rw [e, (header_not_t3 p).2] at t3
    exact absurd t3 (by decide)

/-- The triplicated words of the event router are settings: its event mask and its route words. -/
theorem setting_of_t3 (t3 : (accOf k).t3 = true) (evr : keyPage k = 0x02) : Setting k := by
  have block : blockOf 0x02 = some blkEvr := rfl
  have low : k % 0x20000 < 0x40 ∨ 0x10000 ≤ k % 0x20000 ∧ k % 0x20000 < 0x10100 := by
    by_contra out
    refine absurd t3 (Bool.eq_false_iff.1 ?_)
    have empty : ∀ x, rowOf [] x = none := fun _ => rfl
    simp only [accOf, evr, block]
    split
    · next tab =>
      have route : 0x100 ≤ keyOff k := by
        simp only [keyIsTab, decide_eq_true_eq] at tab
        unfold keyOff
        omega
      simp only [blkEvr, tabRun, rowOf_cons, empty]
      rw [if_neg (by omega)]
      split
      · rfl
      · rfl
    · next reg =>
      have word : 0x40 ≤ keyOff k := by
        simp only [keyIsTab, decide_eq_true_eq] at reg
        unfold keyOff
        omega
      simp only [blkEvr, one, rowOf_cons, empty]
      rw [if_neg (by omega)]
      split
      · rfl
      · simp only [Option.map_none, Option.getD_none, headerAcc]
        rw [if_neg (by omega), if_neg (by omega), if_neg (by omega), if_neg (by omega), if_neg (by omega)]
        rfl
  obtain ⟨pend, info⟩ := t3_ne_header t3 0x02
  unfold Setting
  unfold keyPage at *
  unfold rk at *
  omega

/-! ### An event without a unit page -/

/-- The router's banks, vector and queue are no words of its table. -/
theorem tab_route {p0 p1 p2 : Word} (hn : n < 256) : (s.route n p0 p1 p2).tab 0x02 (0x200 + n) = s.ns := by
  obtain ⟨b0, b1, b2, b3, b4, b5, e, r, eq⟩ := route_steps s n p0 p1 p2
  have bank : ∀ {x : State} {b on}, b < 5 → (x.pendBank n b on).tab 0x02 (0x200 + n) = x.tab 0x02 (0x200 + n) := by
    intro x b on hb
    unfold State.pendBank
    split
    · exact (tab_wr ..).trans (if_neg (tk_ne_rk (by omega) (by omega)).symm)
    · rfl
  have vector : ∀ {x : State} {c : Bool}, (if c then x.wrBit 0x02 (0x60 + 4 * (n / 32)) (n % 32) true else x).tab 0x02 (0x200 + n) =
      x.tab 0x02 (0x200 + n) := by
    intro x c
    split
    · exact (tab_wr ..).trans (if_neg (tk_ne_rk (by omega) (by omega)).symm)
    · rfl
  have inlet : ∀ {x : State} {c : Bool}, (if c then x.enterInlet e else x).tab 0x02 (0x200 + n) = x.tab 0x02 (0x200 + n) := by
    intro x c
    unfold State.enterInlet
    split
    · split
      · rfl
      · exact (tab_wr ..).trans (if_neg (tk_ne_rk (by omega) (by omega)).symm)
    · rfl
  rw [eq]
  refine inlet.trans (vector.trans ?_)
  rw [bank (by omega), bank (by omega), bank (by omega), bank (by omega), bank (by omega), State.countEvent, tab_setTab, if_pos rfl]

/-- The event of a field's repair, number 20, comes from no unit's page: its time is that of its occurrence. -/
theorem tab_raise_repair {p0 p1 p2 : Word} : (s.raise 20 p0 p1 p2).tab 0x02 (0x200 + 20) = s.ns := tab_route (by decide)

/-! ### What the scrubber finds -/

/-- Copies of which none was upset depart by the upsets of the visit alone. -/
theorem scrub_eq {u : Upset} (t3 : (accOf k).t3 = true) (up : s.pageUp (keyPage k) = true) (sound : s.Sound k) :
    s.scrub k u = State.judge { s with upsets := alSet s.upsets k u } k 0xC := by
  have fresh : addUpset (s.upset k) u = u := by
    rw [State.upset, sound]
    simp [addUpset]
  rw [State.scrub, if_neg (by simp [t3, up]), fresh]

theorem scrub_other {u : Upset} (plain : (accOf k).t3 = false) : s.scrub k u = s := by
  rw [State.scrub, if_pos (by simp [plain])]

/-- An unrecoverable field of the signal map puts the map into fault state, and no register changes with it (R224). -/
theorem blockFault_sig (sig : keyPage k = 0x0A) : (s.blockFault k).regs = s.regs ∧ (s.blockFault k).prog.faultSig = true := by
  have fault : s.blockFault k = { s with prog := { s.prog with faultSig := true } } := by
    unfold State.blockFault
    simp only [sig, Nat.reduceEqDiff, decide_false, Bool.or_false, Bool.false_eq_true, if_false, if_true]
  rw [fault]
  exact ⟨rfl, rfl⟩

/-- The copies' majority as the field's value. -/
def State.majority (s : State) (k : Nat) (u : Upset) (d : Word) : State :=
  { s.setKey k (s.key k ^^^ d) with upsets := alSet s.upsets k (shiftUpset u d) }

theorem key_majority {u : Upset} {d : Word} {j : Nat} : (s.majority k u d).key j = if k = j then s.key k ^^^ d else s.key j := key_setKey ..

section
variable {u : Upset} {d : Word} {ini : Nat} (t3 : (accOf k).t3 = true) (copies : alGet s.upsets k = some u)
include t3 copies

theorem judge_sound (found : judgeT3 u = .sound d) : s.judge k ini = s.setT3 k (s.key k ^^^ d) := by
  unfold State.judge
  simp only [copies, t3, found, Bool.not_true, Bool.false_eq_true, if_false]

theorem judge_repair (found : judgeT3 u = .repair d) : s.judge k ini = (s.setT3 k (s.key k ^^^ d)).raise 20 (keyAddr k) 0 0 := by
  unfold State.judge
  simp only [copies, t3, found, Bool.not_true, Bool.false_eq_true, if_false]

/-- An unrecoverable field reads as the majority, and its block reacts. -/
theorem judge_fault (found : judgeT3 u = .fault d) (notCyc : keyPage k ≠ 0x08) :
    s.judge k ini = ((s.majority k u d).error (keyPage k) (offOf (keyAddr k)) ini 8 21 (keyAddr k)).blockFault k := by
  unfold State.judge
  simp only [copies, t3, found, notCyc, Bool.not_true, Bool.false_eq_true, if_false]
  rfl

end

theorem key_setT3 {j : Nat} : (s.setT3 k v).key j = if k = j then v else s.key j := key_setKey ..

theorem sound_setT3 : (s.setT3 k v).Sound k := (alGet_alDel _ _ _).trans (if_pos rfl)

/-- A triplicated word is as before after an event, whichever page it is of. -/
theorem key_raise_t3 {p0 p1 p2 : Word} (t3 : (accOf k).t3 = true) : (s.raise n p0 p1 p2).key k = s.key k := by
  by_cases evr : keyPage k = 0x02
  · exact (SettingsKept.refl.raise).key _ (setting_of_t3 t3 evr)
  · exact key_raise _ _ _ _ _ _ evr fun p => (t3_ne_header t3 p).1

/-- In the signal map an unrecoverable field has the majority as its value, ERRINFO shows cause 8, and the map is in fault state. -/
theorem judge_fault_sig {u : Upset} {d : Word} {ini : Nat} (t3 : (accOf k).t3 = true) (copies : alGet s.upsets k = some u)
    (found : judgeT3 u = .fault d) (sig : keyPage k = 0x0A) :
    (s.judge k ini).key k = s.key k ^^^ d ∧ (s.judge k ini).prog.faultSig = true ∧
      (s.judge k ini).rd 0x0A 0x38 = errWord (offOf (keyAddr k)) ini 8 (s.rf 0x0A 0x38 24 8 + 1) := by
  rw [judge_fault t3 copies found (by omega)]
  have count : (s.majority k u d).rf 0x0A 0x38 24 8 = s.rf 0x0A 0x38 24 8 :=
    congrArg (fld · 24 8) (key_majority.trans (if_neg (t3_ne_header t3 _).2))
  obtain ⟨regs, fault⟩ := blockFault_sig (s := (s.majority k u d).error (keyPage k) (offOf (keyAddr k)) ini 8 21 (keyAddr k)) sig
  refine ⟨?_, fault, ?_⟩
  · rw [key_congr regs, State.error, key_raise_t3 t3, key_wr, if_neg (t3_ne_header t3 _).2.symm, key_majority, if_pos rfl]
  · rw [rd_congr regs, sig, rd_error _ _ _ _ _ _ _ _ _ (by decide) (by decide) (by decide), if_pos rfl, count]

/-- A copy that has lost its parity is bad. -/
theorem judge_one {d : Word} (odd : parity d = true) {u : Upset}
    (one : u ∈ ([⟨d, 0, 0, false, false, false⟩, ⟨0, d, 0, false, false, false⟩, ⟨0, 0, d, false, false, false⟩] : List Upset)) :
    judgeT3 u = .repair 0 := by
  have even : parity 0#32 = false := by decide
  simp only [List.mem_cons, List.not_mem_nil, or_false] at one
  obtain rfl | rfl | rfl := one <;> simp [judgeT3, goodCopy, odd, even]

theorem judge_two {d e g : Word} (odd : parity d = true) (odd' : parity e = true) :
    judgeT3 ⟨d, e, g, false, false, false⟩ = .fault ((d &&& e) ||| (d &&& g) ||| (e &&& g)) := by
  simp [judgeT3, goodCopy, odd, odd']

end Sys2Proof.Machine
end

section
set_option Elab.async false -- one proof after the other: each further worker thread takes its stack from the check's memory
open Sys2Proof Sys2Proof.Machine

/-- Settles O12: what the judgement of the copies finds in each clause. -/
theorem scrubRepairsOneUpsetCopy : Obligations.ScrubRepairsOneUpsetCopy := by
  unfold Obligations.ScrubRepairsOneUpsetCopy
  refine ⟨fun k s t3 up sound => completes_of rfl (fun _ h => h) ?_, fun k d u s t3 up sound odd one => completes_of rfl (fun _ h => h) ?_,
    fun k d e g s t3 sig up sound odd odd' => completes_of rfl (fun _ h => h) ?_, fun k u s plain => ⟨_, rfl, ?_⟩⟩
  · rw [scrub_eq t3 up sound, judge_sound t3 ((alGet_alSet ..).trans (if_pos rfl)) (d := 0) (by decide)]
    exact ⟨by rw [key_setT3, if_pos rfl]; exact BitVec.xor_zero, sound_setT3, rfl⟩
  · rw [scrub_eq t3 up sound, judge_repair t3 ((alGet_alSet ..).trans (if_pos rfl)) (judge_one odd one)]
    refine ⟨?_, ?_, tab_raise_repair⟩
    · rw [key_raise_t3 t3, key_setT3, if_pos rfl]
      exact BitVec.xor_zero
    · rw [State.Sound, raise_upsets]
      exact sound_setT3
  · rw [scrub_eq t3 (sig.symm ▸ up) sound]
    exact judge_fault_sig t3 ((alGet_alSet ..).trans (if_pos rfl)) (judge_two odd odd') sig
  · rw [scrub_other plain]
end

section
set_option Elab.async false -- one proof after the other: each further worker thread takes its stack from the check's memory
/-! SUPPORT. The doorbell of a mailbox and the completions that the firmware decides (R99 to R104). -/

namespace Sys2Proof.Machine

variable {s t : State} {i : Init} {n : Nat} {v : Word}

/-! ### The doorbell -/

theorem with_bus {b : BusAnswer} (quiet : t.bus = b) : { t with bus := b } = t := by
  subst quiet
  rfl

/-- The page of the mailbox that an initiator reaches. -/
theorem mboxPage_cases (i : Init) : mboxPage i = 0x01 ∨ mboxPage i = 0x80 ∨ mboxPage i = 0x81 := by
  cases i <;> simp [mboxPage]

theorem doorbell_bus {a : Word} : (s.doorbell i n a v).bus = s.bus := by
  unfold State.doorbell
  by_cases given : bit v 0 = true
  · rw [if_neg (by simp [given])]
    by_cases busy : s.boxBusy n = true
    · rw [if_pos busy]
      exact accessFault_bus ..
    · rw [if_neg busy]
      extract_lets x
      rw [wr_bus, wrBit_bus]
      rfl
  · rw [if_pos (by simpa using given)]

/-- DOORBELL through the bus, on the page that is the initiator's own. -/
theorem put1_doorbell (reach : s.Open i 0x01 0x7C true) (own : boxPage n = mboxPage i) :
    s.put1 i 0x01 0x7C v = (State.doorbell { s with bus := {} } i n (addrOf 0x01 0x7C) v).reintFollow := by
  obtain ⟨notLane, pass⟩ := reach
  have page := mboxPage_cases i
  have at_ : pageOf i (addrOf 0x01 0x7C) = mboxPage i := (pageOf_addrOf _ _ _ (by decide) (by decide)).trans (if_pos rfl)
  have inst : (if mboxPage i = 0x01 then 0 else mboxPage i - 0x7F) = n := by
    by_cases first : n = 0
    · rw [← own, first]
      rfl
    · rw [← own, boxPage, if_neg first, if_neg (by omega)]
      omega
  have voted : i = .vote → vwWord (mboxPage i) 0x7C = true := by
    rintro rfl
    decide
  have words : State.writeWord { s with bus := {} } i (pageOf i (addrOf 0x01 0x7C)) (offOf (addrOf 0x01 0x7C) / 4 * 4) (addrOf 0x01 0x7C) v =
      State.doorbell { s with bus := {} } i n (addrOf 0x01 0x7C) v := by
    rw [at_, offOf_addrOf _ _ (by decide) (by decide)]
    unfold State.writeWord State.regWrite State.boxWrite
    simp only [inst]
    rw [if_neg (by simpa using voted), if_neg (by simp; omega), if_neg (by simp), if_neg (by decide), if_neg (by decide),
      if_neg (by decide), if_neg (by decide), if_neg (by decide), if_pos (by simp; omega), if_neg (by decide), if_pos (by decide)]
  have quiet : (State.doorbell { s with bus := {} } i n (addrOf 0x01 0x7C) v).bus = {} := doorbell_bus
  rw [State.put1, initWrite_pass _ _ _ _ notLane (isRegSpace_addrOf _ _ (by decide) (by decide)) pass _ words (by rw [quiet]), with_bus quiet]

/-- What follows a write leaves the mailboxes and their order. -/
theorem reintFollow_boxes : s.reintFollow.boxes = s.boxes ∧ s.reintFollow.bells = s.bells := by
  obtain ⟨_, _, _, _, eq⟩ := reintFollow_rest s
  rw [eq]
  exact ⟨rfl, rfl⟩

theorem box_congr (boxes : t.boxes = s.boxes) : t.box n = s.box n := congrArg (·.getD n {}) boxes

theorem box_modBox_self {f : Box → Box} (hn : n < s.boxes.length) : (s.modBox n f).box n = f (s.box n) := by
  simp [State.modBox, State.box, List.getD, hn]

/-- The command is latched, BUSY set, and the mailbox last in the order. -/
theorem doorbell_latches {a : Word} (given : bit v 0 = true) (free : s.boxBusy n = false) (hn : n < s.boxes.length) :
    (s.doorbell i n a v).boxBusy n = true ∧ ((s.doorbell i n a v).box n).cmd = s.rd (boxPage n) 0x40 ∧
      (s.doorbell i n a v).bells = s.bells.filter (fun x => x ≠ n) ++ [n] ∧
      ((s.doorbell i n a v).box n).args = (List.range 14).map (fun j => s.rd (boxPage n) (0x44 + 4 * j)) := by
  unfold State.doorbell
  rw [if_neg (by simp [given]), if_neg (by simp [free])]
  extract_lets x
  have latched : x.box n = _ := box_modBox_self hn
  refine ⟨?_, ?_, by rw [wr_bells, wrBit_bells, modBox_bells], ?_⟩
  · rw [State.boxBusy, rb_wr_ne (by unfold rk; omega)]
    exact rb_wrBit_self _ _ _ _ _ (by decide)
  · rw [box_congr (wr_boxes ..), box_congr (wrBit_boxes ..)]
    exact congrArg Box.cmd latched
  · rw [box_congr (wr_boxes ..), box_congr (wrBit_boxes ..)]
    exact congrArg Box.args latched

theorem doorbell_ignored {a : Word} (none : bit v 0 = false) : s.doorbell i n a v = s := by
  rw [State.doorbell, if_pos (by simp [none])]

theorem doorbell_busy {a : Word} (given : bit v 0 = true) (busy : s.boxBusy n = true) : s.doorbell i n a v = s.accessFault i a 0xB := by
  unfold State.doorbell
  rw [if_neg (by simp [given]), if_pos busy]

theorem boxBusy_reintFollow : s.reintFollow.boxBusy n = s.boxBusy n := by
  have page : boxPage n ≠ 0x02 ∧ boxPage n ≠ 0x06 ∧ boxPage n ≠ 0x07 := by
    unfold boxPage
    split <;> omega
  exact congrArg (bit · 0) (rd_reintFollow ⟨page.1, page.2.1⟩ (by decide) (by decide) fun e => absurd e page.2.2)

/-- DOORBELL given while the mailbox is busy is recorded with cause MBOX_BUSY on its page. -/
theorem rd_doorbell_busy (own : boxPage n = mboxPage i) :
    (s.accessFault i (addrOf 0x01 0x7C) 0xB).rd (boxPage n) 0x38 =
      errWord 0x7C (initCode i) 0xB (s.rf (boxPage n) 0x38 24 8 + 1) := by
  have page := mboxPage_cases i
  rw [State.accessFault, pageOf_addrOf _ _ _ (by decide) (by decide), if_pos rfl, offOf_addrOf _ _ (by decide) (by decide), ← own,
    rd_error _ _ _ _ _ _ _ _ _ (by omega) (by decide) (by decide), if_pos rfl]

theorem bells_of_only (h : OnlyRegsInlet s t) : t.bells = s.bells := by
  unfold OnlyRegsInlet at h
  rw [h]

/-- DOORBELL in its three cases, with what follows a write: not given, given while busy, given while free. -/
theorem doorbell_spec (hn : n < s.boxes.length) (own : boxPage n = mboxPage i) (ran : (s.doorbell i n (addrOf 0x01 0x7C) v).reintFollow = t) :
    if bit v 0 = false then t.box n = s.box n ∧ t.bells = s.bells
    else if s.boxBusy n then
      t.box n = s.box n ∧ t.bells = s.bells ∧ t.rd (mboxPage i) 0x38 = errWord 0x7C (initCode i) 0xB (s.rf (mboxPage i) 0x38 24 8 + 1)
    else
      t.boxBusy n = true ∧ (t.box n).cmd = s.rd (mboxPage i) 0x40 ∧ t.bells = s.bells.filter (fun x => x ≠ n) ++ [n] ∧
        (t.box n).args = (List.range 14).map (fun j => s.rd (mboxPage i) (0x44 + 4 * j)) := by
  subst ran
  obtain ⟨boxes, bells⟩ := reintFollow_boxes (s := s.doorbell i n (addrOf 0x01 0x7C) v)
  rw [bells, box_congr boxes]
  have page := mboxPage_cases i
  split
  · next none =>
    rw [doorbell_ignored none]
    exact ⟨rfl, rfl⟩
  · next given =>
    have given : bit v 0 = true := by simpa using given
    split
    · next busy =>
      rw [doorbell_busy given busy, ← own]
      have only := onlyRegsInlet_accessFault s i (addrOf 0x01 0x7C) 0xB
      refine ⟨box_congr only.boxes_eq, bells_of_only only, ?_⟩
      rw [rd_reintFollow (by omega) (by decide) (by decide) (by omega), rd_doorbell_busy own]
    · next free =>
      rw [boxBusy_reintFollow, ← own]
      exact doorbell_latches given (by simpa using free) hn

/-! ### Completion -/

/-- A mailbox whose command has completed is not busy. -/
theorem boxBusy_of_ended {err len : Nat} (h : s.Ended t n err len) : t.boxBusy n = false := by
  rw [State.boxBusy, State.rb, h, bit_eq_fld, decide_eq_false_iff_not, fld, w32, BitVec.toNat_ofNat]
  omega

theorem boxBusy_of_next (next : s.boxNext n = true) : s.boxBusy n = true := by
  unfold State.boxNext at next
  simp only [Bool.and_eq_true] at next
  exact next.1.1

section
variable {err : Nat} {resp : List Word} (next : s.boxNext n = true)
include next

theorem boxComplete_unknown (unknown : cmdLens (fld (s.box n).cmd 0 8) (s.box n).args = none) :
    s.boxComplete n err resp = s.boxDone n 1 [] := by
  simp [State.boxComplete, next, unknown]

variable {ls : List Nat} (known : cmdLens (fld (s.box n).cmd 0 8) (s.box n).args = some ls)
include known

theorem boxComplete_known : s.boxComplete n err resp =
    if !planeOk (fld (s.box n).cmd 0 8) n then s.boxDone n 4 []
    else if !ls.contains (fld (s.box n).cmd 16 16) then s.boxDone n 2 []
    else if fld (s.box n).cmd 0 8 = 0x52 && !(s.box n).kpDone then s.boxDone n 3 []
    else s.boxDone n err resp := by
  unfold State.boxComplete
  simp only [next, known, Bool.not_true, Bool.false_eq_true, if_false]

end

end Sys2Proof.Machine
end

section
set_option Elab.async false -- one proof after the other: each further worker thread takes its stack from the check's memory
open Sys2Proof Sys2Proof.Machine

/-- Settles O16: the doorbell's three cases through the bus, and the completion in the order of its checks. -/
theorem mailboxDoorbell : Obligations.MailboxDoorbell := by
  unfold Obligations.MailboxDoorbell
  refine ⟨fun i v s reach n hn own => completes_of rfl (fun _ h => h) ?_,
    fun inst err resp ls s next known plane len pair short => completes_of rfl (fun _ h => h) ?_,
    fun inst err resp s next unknown => completes_of rfl (fun _ h => h) ?_,
    fun inst err resp ls s next known wrong => completes_of rfl (fun _ h => h) ?_⟩
  · rw [put1_doorbell reach own]
    refine ⟨by rw [reintFollow_bus, doorbell_bus], ?_⟩
    exact doorbell_spec (s := { s with bus := {} }) hn own rfl
  · have done : s.boxComplete inst.val err.toNat resp = s.boxDone inst.val err.toNat resp := by
      rw [boxComplete_known next known, if_neg (by simp [plane]), if_neg (by simpa using len), if_neg (by simpa using pair)]
    rw [done]
    have busy := boxBusy_of_next next
    have ended := boxDone_ended (err := err.toNat) inst.isLt busy rfl short
    exact ⟨ended, boxBusy_of_ended ended, fun j h => boxDone_resp inst.isLt busy short h⟩
  · rw [boxComplete_unknown next unknown]
    exact boxDone_ended inst.isLt (boxBusy_of_next next) rfl
  · have refused : ∀ e, s.Ended (s.boxDone inst.val e []) inst.val e 0 := fun e => boxDone_ended inst.isLt (boxBusy_of_next next) rfl
    rw [boxComplete_known next known]
    by_cases plane : planeOk (fld (s.box inst.val).cmd 0 8) inst.val = false
    · rw [if_pos (by simp [plane]), if_pos plane]
      exact refused 4
    · rw [if_neg (by simpa using plane), if_neg plane]
      by_cases len : fld (s.box inst.val).cmd 16 16 ∉ ls
      · rw [if_pos (by simpa using len), if_pos len]
        exact refused 2
      · have pair := (wrong.resolve_left plane).resolve_left len
        rw [if_neg (by simpa using len), if_neg len, if_pos (by simpa using pair)]
        exact refused 3
end

section
set_option Elab.async false -- one proof after the other: each further worker thread takes its stack from the check's memory
/-! SUPPORT. The bridle: an access repeated, and one that it ends (R93, R94). -/

namespace Sys2Proof.Machine

variable {s t : State} {i : Init} {n p off o : Nat} {v : Word}

theorem wr_regs_congr (same : t.regs = s.regs) : (t.wr p o v).regs = (s.wr p o v).regs := by
  rw [State.wr, State.setKey, same, State.wr, State.setKey]

/-! ### Header words beside an event -/

/-- The router writes no header word of its own page but by its registers from 0x40 on. -/
theorem rd_route_header {p0 p1 p2 : Word} (hn : n < 256) (ho : o < 0x40) : (s.route n p0 p1 p2).rd 0x02 o = s.rd 0x02 o := by
  obtain ⟨b0, b1, b2, b3, b4, b5, e, r, eq⟩ := route_steps s n p0 p1 p2
  have bank : ∀ {x : State} {b on}, b < 5 → (x.pendBank n b on).rd 0x02 o = x.rd 0x02 o := by
    intro x b on hb
    unfold State.pendBank
    split
    · exact rd_wr_ne _ _ _ _ _ _ (by unfold rk; omega)
    · rfl
  have vector : ∀ {x : State} {c : Bool}, (if c then x.wrBit 0x02 (0x60 + 4 * (n / 32)) (n % 32) true else x).rd 0x02 o = x.rd 0x02 o := by
    intro x c
    split
    · exact rd_wr_ne _ _ _ _ _ _ (by unfold rk; omega)
    · rfl
  have inlet : ∀ {x : State} {c : Bool}, (if c then x.enterInlet e else x).rd 0x02 o = x.rd 0x02 o := by
    intro x c
    unfold State.enterInlet
    split
    · split
      · rfl
      · exact rd_wr_ne _ _ _ _ _ _ (by unfold rk; omega)
    · rfl
  have counted : (s.countEvent n).rd 0x02 o = s.rd 0x02 o := by
    rw [State.countEvent, rd_setTab, if_neg (tk_ne_rk (by omega) (by omega))]
    split
    · rfl
    · rw [rd_setTab, if_neg (tk_ne_rk (by omega) (by omega))]
  rw [eq]
  refine inlet.trans (vector.trans ?_)
  rw [bank (by omega), bank (by omega), bank (by omega), bank (by omega), bank (by omega), counted]

/-- An event changes no header word of any page but pending bits. -/
theorem rd_raise_header {p0 p1 p2 : Word} (ho : o < 0x40) (notPend : o ≠ 0x18) : (s.raise n p0 p1 p2).rd p o = s.rd p o := by
  by_cases evr : p = 0x02
  · subst evr
    unfold State.raise State.occur
    split
    · rfl
    · next real =>
      have hn := lt_of_not_evReserved real
      split
      · exact rd_route_header hn ho
      · next q b home =>
        have set : (s.wrBit q 0x18 b true).rd 0x02 o = s.rd 0x02 o := rd_wr_ne _ _ _ _ _ _ (by unfold rk; omega)
        unfold State.raiseAt
        split
        · rfl
        · split
          · exact (rd_route_header hn ho).trans set
          · exact set
  · exact rd_raise _ _ _ _ _ _ _ evr notPend (by omega)

/-- ERRINFO of a page after an error on it, whichever page it is. -/
theorem rd_error_self {ini cause ev : Nat} {p0 : Word} :
    (s.error p off ini cause ev p0).rd p 0x38 = errWord off ini cause (s.rf p 0x38 24 8 + 1) := by
  rw [State.error, rd_raise_header (by decide) (by decide), rd_wr_self]

/-! ### An access that the bridle ends -/

/-- A trap of a lane's core writes words of the LANE page. -/
theorem laneTrap_sameBut {l c : Nat} {pc : Word} (hl : l < 3) : SameBut (fun k => keyPage k = 0x06) s (s.laneTrap l c pc) := by
  unfold State.laneTrap State.coreTrap
  extract_lets x
  have core : SameBut (fun k => keyPage k = 0x06) s x := SameBut.refl.regs
  exact .ite core (((core.wr (rk_page _ _ (by unfold laneOff; omega))).wr (rk_page _ _ (by unfold laneOff; omega))).raise)

theorem laneTrap_bus {l c : Nat} {pc : Word} : (s.laneTrap l c pc).bus = s.bus := by
  unfold State.laneTrap State.coreTrap
  extract_lets x
  have core : x.bus = s.bus := rfl
  split
  · exact core
  · rw [raise_bus, wr_bus, wr_bus, core]

/-- A load that a bus error ends shows in the LANE page, and the bus answer stays. -/
theorem laneLoadFault_bus : (s.laneLoadFault i).bus = s.bus := by
  unfold State.laneLoadFault
  cases i with
  | lane l =>
    dsimp only
    split
    · exact laneTrap_bus
    · rfl
  | _ => rfl

theorem rd_laneLoadFault (own : isLane i = true → p = 0x03) (ho : o < 0x1000) (notPend : o ≠ 0x18) :
    (s.laneLoadFault i).rd p o = s.rd p o := by
  unfold State.laneLoadFault
  cases i with
  | lane l =>
    obtain rfl := own rfl
    dsimp only
    split
    · exact (laneTrap_sameBut l.isLt).rd (by decide) notPend (by omega) (by rw [rk_page _ _ (by omega)]; decide)
    · rfl
  | _ => rfl

/-- A saturating count advances by one. -/
theorem rf_sat16 : (s.sat16 p o).rf p o 0 16 = min 0xFFFF (s.rf p o 0 16 + 1) := by
  rw [State.sat16, rf_wrFld_self _ _ _ _ _ _ (by decide), Nat.mod_eq_of_lt (by omega)]

/-- The end of an access for want of an answer: one timeout more, and ERRINFO of the page. -/
theorem refuse_timeout (hp : p < 0x80) (notBox : p ≠ 0x01) (hoff : off < 0x1000) :
    (s.refuse i (addrOf p off) 0xE).bus.err = true ∧ (s.refuse i (addrOf p off) 0xE).rf 0x03 0x48 0 16 = min 0xFFFF (s.rf 0x03 0x48 0 16 + 1) ∧
      (s.refuse i (addrOf p off) 0xE).rd p 0x38 = errWord off (initCode i) 0xE (s.rf p 0x38 24 8 + 1) := by
  rw [State.refuse, if_pos rfl, pageOf_addrOf _ _ _ hp hoff, if_neg notBox, offOf_addrOf _ _ hp hoff]
  have apart : rk p 0x38 ≠ rk 0x03 0x48 := by unfold rk; omega
  refine ⟨rfl, ?_, ?_⟩
  · rw [State.rf, rd_congr (busError_regs _), State.error, rd_raise _ _ _ _ _ _ _ (by decide) (by decide) (by decide),
      rd_wr_ne _ _ _ _ _ _ apart]
    exact rf_sat16
  · have count : (s.sat16 0x03 0x48).rf p 0x38 24 8 = s.rf p 0x38 24 8 := congrArg (fld · 24 8) (rd_wr_ne _ _ _ _ _ _ apart.symm)
    rw [rd_congr (busError_regs _), rd_error_self, count]

/-- An access that the bridle ends, with the load fault of a lane. -/
theorem bridleTimeout_shows (hoff : off < 0x1000) (hp : p < 0x80) (notBox : p ≠ 0x01) (through : bridled i p = true) :
    let t := (s.refuse i (addrOf p off) 0xE).laneLoadFault i
    t.bus.err = true ∧ t.rf 0x03 0x48 0 16 = min 0xFFFF (s.rf 0x03 0x48 0 16 + 1) ∧
      t.rd p 0x38 = errWord off (initCode i) 0xE (s.rf p 0x38 24 8 + 1) := by
  obtain ⟨err, timeouts, info⟩ := refuse_timeout (s := s) (i := i) hp notBox hoff
  have own : isLane i = true → p = 0x03 := by
    cases i with
    | lane l => exact fun _ => by simpa [bridled] using through
    | _ => exact fun h => absurd h (by simp [isLane])
  refine ⟨by rw [laneLoadFault_bus, err], ?_, ?_⟩
  · rw [State.rf, rd_laneLoadFault (fun _ => rfl) (by decide) (by decide)]
    exact timeouts
  · rw [rd_laneLoadFault own (by decide) (by decide), info]

/-! ### An access repeated -/

/-- A retry of the bridle is counted and raises BRIDLE_RETRY. -/
def State.retried (s : State) : State := (s.sat16 0x03 0x40).raise 24 0 0 0

theorem bridle_fitted (x : Variant) : pageAbsent x 0x03 = false := by cases x <;> rfl

theorem rd_retried (notCount : p = 0x03 → o ≠ 0x40) (notEvr : p ≠ 0x02) (notPend : o ≠ 0x18) (ho : o < 0x1000) :
    s.retried.rd p o = s.rd p o := by
  rw [State.retried, rd_raise _ _ _ _ _ _ _ notEvr notPend (by omega)]
  exact rd_wr_ne _ _ _ _ _ _ (by unfold rk; omega)

theorem retried_only : OnlyRegsInlet s s.retried := (onlyRegsInlet_wrFld ..).trans' (onlyRegsInlet_raise ..)

theorem retried_shows : s.retried.rf 0x03 0x40 0 16 = min 0xFFFF (s.rf 0x03 0x40 0 16 + 1) ∧ s.retried.rb 0x03 0x18 0 = true := by
  refine ⟨?_, rb_raise_self rfl rfl (bridle_fitted _)⟩
  rw [State.retried, rf_raise _ _ _ _ _ _ _ _ _ (by decide) (by decide) (by decide)]
  exact rf_sat16

theorem open_retried {w : Bool} (reach : s.Open i p off w) : s.retried.Open i p off w := by
  have same := gate_of_words (s := s) (t := s.retried) (i := i) (a := addrOf p off) (n := 4) (w := w) (at_ := false) reach.1
    (fun q hq => by
      rw [State.retried, tab_raise _ _ _ _ _ _ _ (by decide) hq]
      exact (tab_wr ..).trans (if_neg (tk_ne_rk hq (by decide)).symm))
    (rd_retried (by decide) (by decide) (by decide) (by decide)) retried_only.pins_eq retried_only.keep_eq retried_only.variant_eq
  exact ⟨reach.1, same.trans reach.2⟩

/-- A semaphore acquired in a repeated access: the retry shows, and the semaphore is its acquirer's. -/
theorem retried_acquire {k : Nat} (hk : k < 16) (reach : s.Open i 0x03 (0x80 + 4 * k) true) (free : s.rf 0x03 (0x80 + 4 * k) 0 4 = 0xF) :
    let t := s.retried.put1 i 0x03 (0x80 + 4 * k) 0x100
    t.rf 0x03 0x40 0 16 = min 0xFFFF (s.rf 0x03 0x40 0 16 + 1) ∧ t.rb 0x03 0x18 0 = true ∧ t.rf 0x03 (0x80 + 4 * k) 0 4 = initCode i := by
  have again := open_retried reach
  have still : s.retried.rf 0x03 (0x80 + 4 * k) 0 4 = 0xF :=
    (congrArg (fld · 0 4) (rd_retried (by omega) (by decide) (by omega) (by omega))).trans free
  have acquired : State.semWrite { s.retried with bus := {} } i k (addrOf 0x03 (0x80 + 4 * k)) 0x100 =
      State.wr { s.retried with bus := {} } 0x03 (0x80 + 4 * k) (w32 (initCode i)) := (semWrite_acquire ..).trans (if_pos still)
  obtain ⟨retries, raised⟩ := retried_shows (s := s)
  refine ⟨?_, ?_, ?_⟩
  · rw [State.rf, rd_put1_sem hk again (by decide) (by decide), acquired, rd_wr_ne _ _ _ _ _ _ (by unfold rk; omega)]
    exact retries
  · rw [put1_sem hk again, acquired]
    refine reintFollow_sameBut.pend _ _ (by decide) (not_followWords (by decide) (by decide) (by decide)) ?_
    rw [rb_wr_ne (by unfold rk; omega)]
    exact raised
  · rw [acquire_owner hk again, if_pos still]

/-! ### The write vote -/

theorem reintFollow_vw : s.reintFollow.vw = s.vw := by
  obtain ⟨_, _, _, _, eq⟩ := reintFollow_rest s
  rw [eq]

/-- Resolved numbers at the front that are none: nothing is settled, but for numbers that no lane can still add to. -/
theorem vwSettle_open (open_ : ∀ k ∈ s.vw.slots, k.num = s.vw.base → k.dropped = false) :
    s.vwSettle = { s with vw := { s.vw with slots := s.vw.slots.filter (fun k => s.vw.base ≤ k.num || !s.vwAllIn k.num) } } := by
  have none : s.vw.slots.any (fun k => k.num = s.vw.base && k.dropped) = false := by
    simpa using open_
  have still : ∀ m, State.vwSettleN m s = s := fun m => by
    cases m with
    | zero => rfl
    | succ m => rw [State.vwSettleN, if_neg (by simp [none])]
  unfold State.vwSettle
  rw [still]

/-- Numbers that are all ahead and not dropped stay. -/
theorem vwSettle_ahead (ahead : ∀ k ∈ s.vw.slots, s.vw.base ≤ k.num ∧ k.dropped = false) : s.vwSettle = s := by
  rw [vwSettle_open fun k hk _ => (ahead k hk).2, List.filter_eq_self.2 fun k hk => by simp [(ahead k hk).1]]

section
variable {k : Nat} (hk : k < 16)
include hk

/-- The address of a semaphore is a word's, of the write vote, and neither DONE's nor LANE_SAFE's. -/
theorem semAddr_voted : isRegSpace (addrOf 0x03 (0x80 + 4 * k)) = true ∧ (addrOf 0x03 (0x80 + 4 * k)).toNat % 4 = 0 ∧
    addrOf 0x03 (0x80 + 4 * k) ≠ addrOf 0x07 0x54 ∧ addrOf 0x03 (0x80 + 4 * k) ≠ addrOf 0x07 0x80 ∧
      votedTarget (addrOf 0x03 (0x80 + 4 * k)) = true := by
  have at_ := addrOf_toNat 0x03 (0x80 + 4 * k) (by decide) (by omega)
  have done := addrOf_toNat 0x07 0x54 (by decide) (by decide)
  have safe := addrOf_toNat 0x07 0x80 (by decide) (by decide)
  have page : rawPage (addrOf 0x03 (0x80 + 4 * k)) = 0x03 := rawPage_addrOf _ _ (by decide) (by omega)
  refine ⟨isRegSpace_addrOf _ _ (by decide) (by omega), by omega, fun e => ?_, fun e => ?_, ?_⟩
  · rw [e] at at_
    omega
  · rw [e] at at_
    omega
  · unfold votedTarget
    rw [page, offOf_addrOf _ _ (by decide) (by omega)]
    simp [vwPage]
    omega

/-- A lane's store to a semaphore that its gate passes enters the write vote. -/
theorem laneStore_sem {l : Fin 3} (pass : s.gate (.lane l) (addrOf 0x03 (0x80 + 4 * k)) 4 true false = .pass) :
    s.laneStore l (addrOf 0x03 (0x80 + 4 * k)) 4 v false =
      State.vwArrive { s with bus := {} } l.val (addrOf 0x03 (0x80 + 4 * k)) v := by
  obtain ⟨space, aligned, notDone, notSafe, voted⟩ := semAddr_voted hk
  unfold State.laneStore
  extract_lets x
  have pass' : x.gate (.lane l) (addrOf 0x03 (0x80 + 4 * k)) 4 true false = .pass := (gate_bus ..).trans pass
  rw [if_neg (by simp [space, accessSize]), if_neg (by simp [aligned]), pass']
  dsimp only
  rw [if_neg notDone, if_neg notSafe, if_pos voted]

end

/-- One lane's write alone is no match. -/
theorem vwMatch_single {x : VwSlot} {l : Nat} {a : Word} (single : x.got = [(l, a, v)]) : s.vwMatch x = none := by
  simp [State.vwMatch, single]

theorem setSlot_first {x : VwSlot} (none : s.vw.slots = []) : s.setSlot x = { s with vw := { s.vw with slots := [x] } } := by
  simp [State.setSlot, none, putSlot]

/-- The first arrival opens its number (R87). -/
theorem vwArrive_first {l : Nat} {a : Word} (votes : s.voting l = true) (two : 2 ≤ s.votingCount) (none : s.vw.slots = [])
    (front : s.vw.issued.getD l 0 = s.vw.base) :
    s.vwArrive l a v = { s with vw := { s.vw with
      slots := [{ num := s.vw.base, got := [(l, a, v)] }], issued := s.vw.issued.set l (s.vw.base + 1) } } := by
  have few : ∀ w : WriteVote, State.votingCount { s with vw := w } = s.votingCount := fun _ => rfl
  have alone : ∀ w : WriteVote, State.vwMatch { s with vw := w } { num := s.vw.base, got := [(l, a, v)] } = .none := fun _ =>
    vwMatch_single rfl
  unfold State.vwArrive
  simp only [front, votes, none, List.find?_nil, Option.isNone_none, Option.getD_none, List.nil_append, alone, few,
    Bool.not_true, Bool.false_or, Bool.false_eq_true, if_false, Nat.not_lt.2 two, Nat.lt_irrefl, decide_false, Bool.and_false,
    Nat.not_le.2 (Nat.lt_add_of_pos_right (by decide : 0 < 16))]
  rw [setSlot_first rfl]
  exact vwSettle_ahead (by simp)

/-- The one slot is replaced in its place. -/
theorem setSlot_only {x y : VwSlot} (only : s.vw.slots = [x]) (number : y.num = x.num) :
    s.setSlot y = { s with vw := { s.vw with slots := [y] } } := by
  simp [State.setSlot, only, putSlot, number]

/-- A semaphore's command by the register bus. -/
theorem busWrite_sem {k : Nat} (hk : k < 16) (pass : s.gate i (addrOf 0x03 (0x80 + 4 * k)) 4 true false = .pass) :
    s.busWrite i (addrOf 0x03 (0x80 + 4 * k)) 4 [v] false =
      State.semWrite { s with bus := {} } i k (addrOf 0x03 (0x80 + 4 * k)) v := by
  have quiet : (State.semWrite { s with bus := {} } i k (addrOf 0x03 (0x80 + 4 * k)) v).bus = {} := (semWrite_only hk).only.bus_eq
  have part := writePart_word (s := { s with bus := {} }) ((gate_bus ..).trans pass) (by decide) (by decide) (by omega) (by omega)
    (writeWord_sem (v := v) hk)
  rw [if_neg (by rw [quiet]; simp)] at part
  rw [busWrite_word (by decide) (by omega) part]
  exact with_bus (by rw [quiet])

theorem busWrite_acquire {k : Nat} (hk : k < 16) (pass : s.gate .vote (addrOf 0x03 (0x80 + 4 * k)) 4 true false = .pass)
    (free : s.rf 0x03 (0x80 + 4 * k) 0 4 = 0xF) : s.busWrite .vote (addrOf 0x03 (0x80 + 4 * k)) 4 [0x100] false =
      State.wr { s with bus := {} } 0x03 (0x80 + 4 * k) (w32 3) :=
  (busWrite_sem hk pass).trans ((semWrite_acquire ..).trans (if_pos free))

/-- What the write vote does with the number at the front, where its one slot has matched. -/
theorem vwExecute_matched {x : VwSlot} {a : Word} (only : s.vw.slots = [x]) (front : x.num = s.vw.base) (kept : x.dropped = false)
    (agreed : x.matched = some (a, v)) : s.vwExecute =
      State.vwSettle { ((s.setSlot { x with executed := true }).busWrite .vote a 4 [v] false).retireSlot x.num with bus := s.bus } := by
  have settled : s.vwSettle = s := vwSettle_ahead (by simp [only, front, kept])
  have found : s.vw.slots.find? (fun j => j.num = s.vw.base) = some x := by simp [only, front]
  unfold State.vwExecute
  rw [settled]
  simp only [found]
  split
  · next none => exact absurd (none.symm.trans agreed) (by simp)
  · next a' v' same =>
    obtain ⟨rfl, rfl⟩ : a = a' ∧ v = v' := by simpa using agreed.symm.trans same
    rfl

theorem vwSettle_words (open_ : ∀ k ∈ s.vw.slots, k.num = s.vw.base → k.dropped = false) :
    s.vwSettle.regs = s.regs ∧ s.vwSettle.vw.base = s.vw.base := by
  rw [vwSettle_open open_]
  exact ⟨rfl, rfl⟩

/-- A matched acquire of a free semaphore at the front is performed for the write vote, and the number is resolved (R87, R95). -/
theorem vwExecute_acquire {x : VwSlot} {k : Nat} (hk : k < 16) (only : s.vw.slots = [x]) (front : x.num = s.vw.base)
    (kept : x.dropped = false) (agreed : x.matched = some (addrOf 0x03 (0x80 + 4 * k), 0x100))
    (pass : s.gate .vote (addrOf 0x03 (0x80 + 4 * k)) 4 true false = .pass) (free : s.rf 0x03 (0x80 + 4 * k) 0 4 = 0xF) :
    s.vwExecute.regs = ((s.wr 0x03 (0x80 + 4 * k) (w32 3)).wr 0x07 0x58 (w32 ((s.rf 0x07 0x58 0 16 + 1) % 0x1_0000))).regs ∧
      s.vwExecute.vw.base = s.vw.base + 1 := by
  obtain ⟨y, regs, slots, written⟩ : ∃ y : State, y.regs = (s.wr 0x03 (0x80 + 4 * k) (w32 3)).regs ∧
      y.vw.slots = [{ x with executed := true }] ∧
      (s.setSlot { x with executed := true }).busWrite .vote (addrOf 0x03 (0x80 + 4 * k)) 4 [0x100] false = y := by
    have placed := setSlot_only (y := { x with executed := true }) only rfl
    have same : (s.setSlot { x with executed := true }).regs = s.regs := by rw [placed]
    have pass' := (gate_congr (s := s) (t := s.setSlot { x with executed := true }) same (by rw [placed]) (by rw [placed])
      (by rw [placed]) .vote (addrOf 0x03 (0x80 + 4 * k)) 4 true false).trans pass
    refine ⟨_, ?_, ?_, busWrite_acquire hk pass' ((congrArg (fld · 0 4) (rd_congr same _ _)).trans free)⟩
    · exact wr_regs_congr same
    · rw [wr_vw, placed]
  rw [vwExecute_matched only front kept agreed, written]
  have seq : y.rf 0x07 0x58 0 16 = s.rf 0x07 0x58 0 16 :=
    congrArg (fld · 0 16) ((rd_congr regs _ _).trans (rd_wr_ne _ _ _ _ _ _ (by unfold rk; omega)))
  obtain ⟨same, base⟩ := vwSettle_words (s := { y.retireSlot x.num with bus := s.bus })
    fun j hj _ => by
      have one : j ∈ y.vw.slots := hj
      rw [slots, List.mem_singleton] at one
      rw [one]
      exact kept
  refine ⟨same.trans ?_, base.trans (congrArg (· + 1) front)⟩
  rw [← seq]
  exact wr_regs_congr regs

/-- The same with what follows the row. -/
theorem vwExecute_acquire_shows {x : VwSlot} {k : Nat} (hk : k < 16) (only : s.vw.slots = [x]) (front : x.num = s.vw.base)
    (kept : x.dropped = false) (agreed : x.matched = some (addrOf 0x03 (0x80 + 4 * k), 0x100))
    (pass : s.gate .vote (addrOf 0x03 (0x80 + 4 * k)) 4 true false = .pass) (free : s.rf 0x03 (0x80 + 4 * k) 0 4 = 0xF) :
    s.vwExecute.reintFollow.rf 0x03 (0x80 + 4 * k) 0 4 = 3 ∧ s.vwExecute.reintFollow.vw.base = s.vw.base + 1 ∧
      s.vwExecute.reintFollow.rf 0x07 0x58 0 16 = (s.rf 0x07 0x58 0 16 + 1) % 0x1_0000 := by
  obtain ⟨regs, base⟩ := vwExecute_acquire hk only front kept agreed pass free
  refine ⟨?_, (congrArg WriteVote.base reintFollow_vw).trans base, ?_⟩
  · rw [State.rf, rd_reintFollow (by decide) (by omega) (by omega) (by omega), rd_congr regs, rd_wr_ne _ _ _ _ _ _ (by unfold rk; omega),
      rd_wr_self]
    decide
  · rw [State.rf, rd_reintFollow (by decide) (by decide) (by decide) (by decide), rd_congr regs, rd_wr_self,
      fld_w32_low (by omega) (by decide)]

/-- The state that the arrival of a voted store leaves. -/
def State.voteArrived (s : State) (l : Fin 3) (a v : Word) : State :=
  let u := s.laneStore l a 4 v false
  if votedTarget a && u.vw.issued = s.vw.issued && s.voting l.val then u
  else u.dropIo l.val (fun e => e.write && e.addr = a && e.data = v)

theorem exec_votedWriteArrival {l : Fin 3} {a : Word} : exec (.votedWriteArrival l a v) s = answer s (s.voteArrived l a v) := rfl

theorem voteArrived_vw {l : Fin 3} {a : Word} : (s.voteArrived l a v).vw = (s.laneStore l a 4 v false).vw := by
  unfold State.voteArrived
  extract_lets u
  split
  · rfl
  · rfl

/-- The first arrival of a VOTING lane's store to a semaphore opens its number. -/
theorem votedArrival_opens {l : Fin 3} {k : Nat} (hk : k < 16) (votes : s.voting l.val = true) (two : 2 ≤ s.votingCount)
    (none : s.vw.slots = []) (front : s.vw.issued.getD l.val 0 = s.vw.base)
    (pass : s.gate (.lane l) (addrOf 0x03 (0x80 + 4 * k)) 4 true false = .pass) :
    (s.voteArrived l (addrOf 0x03 (0x80 + 4 * k)) v).vw = { s.vw with
      slots := [{ num := s.vw.base, got := [(l.val, addrOf 0x03 (0x80 + 4 * k), v)] }], issued := s.vw.issued.set l.val (s.vw.base + 1) } := by
  rw [voteArrived_vw, laneStore_sem hk pass]
  exact congrArg State.vw (vwArrive_first (s := { s with bus := {} }) votes two none front)

/-- A dropped number at the front is resolved (R89). -/
theorem vwSettle_front {x : VwSlot} (only : s.vw.slots = [x]) (front : x.num = s.vw.base) (dropped : x.dropped = true) :
    (∃ w, s.vwSettle.regs = (s.wr 0x07 0x58 w).regs) ∧ s.vwSettle.vw.base = s.vw.base + 1 := by
  have resolved : State.vwSettleN s.vw.slots.length s = s.retireSlot s.vw.base := by
    rw [only, List.length_singleton, State.vwSettleN, if_pos (by simp [only, front, dropped]), State.vwSettleN]
  unfold State.vwSettle
  rw [resolved]
  exact ⟨⟨_, rfl⟩, rfl⟩

theorem vwTimeout_single {x : VwSlot} (only : s.vw.slots = [x]) (kept : x.dropped = false) (unmatched : x.matched = none) :
    s.vwTimeout = (s.vwDrop x).vwSettle := by
  unfold State.vwTimeout
  simp [only, kept, unmatched]

/-- A number dropped for want of a match: VWRITE_FAIL on the page of its first arrival, and the number is resolved (R87, R89). -/
theorem vwTimeout_drops {x : VwSlot} {l : Nat} (only : s.vw.slots = [x]) (kept : x.dropped = false) (unmatched : x.matched = none)
    (got : x.got = [(l, addrOf 0x08 off, v)]) (hoff : off < 0x1000) (front : x.num = s.vw.base) :
    s.vwTimeout.vw.base = s.vw.base + 1 ∧ s.vwTimeout.rd 0x08 0x38 = errWord off 3 7 (s.rf 0x08 0x38 24 8 + 1) := by
  obtain ⟨y, regs, slots, base, drop⟩ : ∃ y : State, y.regs = s.regs ∧ y.vw.slots = [{ x with dropped := true }] ∧
      y.vw.base = s.vw.base ∧ s.vwDrop x = y.error 0x08 off 3 7 29 (addrOf 0x08 off) := by
    refine ⟨{ s with vw := { s.vw with slots := s.vw.slots.map (fun j => if j.num = x.num then { j with dropped := true } else j) } },
      rfl, by simp [only], rfl, ?_⟩
    unfold State.vwDrop State.vwError
    simp only [got, pageOf_addrOf _ _ _ (by decide : 0x08 < 0x80) hoff, offOf_addrOf _ _ (by decide : 0x08 < 0x80) hoff]
    rfl
  rw [vwTimeout_single only kept unmatched, drop]
  obtain ⟨⟨w, same⟩, next⟩ := vwSettle_front (s := y.error 0x08 off 3 7 29 (addrOf 0x08 off)) (x := { x with dropped := true })
    (by rw [error_vw, slots]) (by rw [error_vw, base, front]) rfl
  refine ⟨next.trans (by rw [error_vw, base]), ?_⟩
  have count : y.rf 0x08 0x38 24 8 = s.rf 0x08 0x38 24 8 := congrArg (fld · 24 8) (rd_congr regs _ _)
  rw [rd_congr same, rd_wr_ne _ _ _ _ _ _ (by decide), rd_error_self, count]

end Sys2Proof.Machine
end

section
set_option Elab.async false -- one proof after the other: each further worker thread takes its stack from the check's memory
open Sys2Proof Sys2Proof.Machine

/-- Settles O15: the three happenings of the write vote, and the two of the bridle. -/
theorem bridleAndWriteVote : Obligations.BridleAndWriteVote := by
  unfold Obligations.BridleAndWriteVote
  refine ⟨fun l k v s votes two none front inRange pass => completes_of exec_votedWriteArrival (fun _ h => h) ?_,
    fun k x s only front kept agreed pass free => completes_of rfl (fun _ h => h) ?_,
    fun x l off v s only kept unmatched got hoff front => completes_of rfl (fun _ h => h) ?_,
    fun i k s through reach free => completes_of rfl (fun _ h => h) ?_,
    fun i page off s hoff notBox real fitted through => completes_of rfl (fun _ h => h) ?_⟩
  · rw [votedArrival_opens k.isLt votes two none front pass]
    exact ⟨rfl, by simp [List.getD, inRange], rfl⟩
  · exact vwExecute_acquire_shows k.isLt only front kept agreed pass free
  · exact vwTimeout_drops only kept unmatched got hoff front
  · have space := isRegSpace_addrOf 0x03 (0x80 + 4 * k.val) (by decide) (by omega)
    have page := pageOf_addrOf i 0x03 (0x80 + 4 * k.val) (by decide) (by omega)
    rw [if_neg (by decide)] at page
    rw [if_neg (by simp [space, page, through])]
    exact retried_acquire k.isLt reach free
  · have space := isRegSpace_addrOf page.val off page.isLt hoff
    have own : rawPage (addrOf page.val off) = page.val := rawPage_addrOf _ _ page.isLt hoff
    have home := pageOf_addrOf i page.val off page.isLt hoff
    rw [if_neg notBox] at home
    extract_lets p
    rw [show p = page.val from home, if_neg (by simp [space, own, real, fitted, through]), if_neg (by simp), if_pos (by simp)]
    exact bridleTimeout_shows hoff page.isLt notBox through
end

section
set_option Elab.async false -- one proof after the other: each further worker thread takes its stack from the check's memory
/-! SUPPORT. What the answer to a mailbox command changes (R99), and what the recorder changes by itself (R449 to R464). -/

namespace Sys2Proof.Machine

variable {s t u : State} {n err p o : Nat} {v : Word}

/-! ### Mailbox answers -/

/-- Registers, the inlet queue and the mailbox instances with their order differ at most. -/
def OnlyAnswer (s t : State) : Prop := t = { s with regs := t.regs, inlet := t.inlet, boxes := t.boxes, bells := t.bells }

namespace OnlyAnswer

theorem refl : OnlyAnswer s s := rfl

theorem trans (h : OnlyAnswer s t) (g : OnlyAnswer t u) : OnlyAnswer s u := by
  unfold OnlyAnswer at *
  rw [g, h]

theorem registers (h : OnlyAnswer s t) (only : OnlyRegsInlet t u) : OnlyAnswer s u := by
  refine h.trans ?_
  unfold OnlyAnswer OnlyRegsInlet at *
  rw [only]

theorem wr (h : OnlyAnswer s t) : OnlyAnswer s (t.wr p o v) := h.registers (onlyRegsInlet_wr ..)

theorem foldl {α : Type} {f : State → α → State} {l : List α} (h : OnlyAnswer s t) (hf : ∀ x y, OnlyAnswer y (f y x)) :
    OnlyAnswer s (l.foldl f t) := by
  induction l generalizing t with
  | nil => exact h
  | cons a l ih => exact ih (h.trans (hf a t))

theorem modBox {f : Box → Box} (h : OnlyAnswer s t) : OnlyAnswer s (t.modBox n f) := h.trans rfl

theorem order {l : List Nat} (h : OnlyAnswer s t) : OnlyAnswer s { t with bells := l } := h.trans rfl

/-- A completion. -/
theorem boxDone {resp : List Word} (h : OnlyAnswer s t) : OnlyAnswer s (t.boxDone n err resp) := by
  unfold State.boxDone
  extract_lets p r s₁ s₂ s₃ s₄ s₅
  have h₁ : OnlyAnswer s s₁ := h.foldl fun _ _ => refl.wr
  have h₂ : OnlyAnswer s s₂ := h₁.wr
  have h₃ : OnlyAnswer s s₃ := h₂.wr.modBox
  have h₄ : OnlyAnswer s s₄ := h₃.order
  have h₅ : OnlyAnswer s s₅ := h₄.registers (onlyRegsInlet_raiseAt ..)
  split
  · exact h
  · unfold State.when
    split
    · exact h₅.registers (onlyRegsInlet_raiseAt ..)
    · exact h₅

theorem ite {c : Prop} {_ : Decidable c} {x y : State} (hx : OnlyAnswer s x) (hy : OnlyAnswer s y) : OnlyAnswer s (if c then x else y) := by
  split
  · exact hx
  · exact hy

/-- The firmware serves a command: it refuses it, or acts. -/
theorem serve {code : Nat} {sel : List Word → Bool} {lens : List Nat} {f : State → State} (hf : OnlyAnswer s (f s)) :
    OnlyAnswer s (s.serve n code sel lens f) :=
  .ite refl (.ite refl.boxDone (.ite refl.boxDone (.ite refl.boxDone hf)))

theorem boxComplete {resp : List Word} : OnlyAnswer s (s.boxComplete n err resp) := by
  unfold State.boxComplete
  refine .ite refl ?_
  split
  · exact refl.boxDone
  · exact .ite refl.boxDone (.ite refl.boxDone (.ite refl.boxDone refl.boxDone))

theorem duplexInhibit {b : Bool} : OnlyAnswer s (s.duplexInhibit n b) := .ite refl.boxDone refl.wr.boxDone

theorem profQuery : OnlyAnswer s (s.profQuery n) := by
  unfold State.profQuery
  exact refl.boxDone

theorem updStatus : OnlyAnswer s (s.updStatus n) := by
  unfold State.updStatus
  exact refl.boxDone

theorem duplexAnswer : OnlyAnswer s (s.duplexAnswer n) := by
  unfold State.duplexAnswer
  exact refl.boxDone

theorem recRead : OnlyAnswer s (s.recRead n) := .ite refl.boxDone (refl.foldl fun _ _ => refl.wr).boxDone

theorem setWall : OnlyAnswer s (s.setWall n) := .ite refl.boxDone (refl.wr.wr.wr.registers (onlyRegsInlet_raise ..)).boxDone

theorem bytes (h : OnlyAnswer s t) : SameBytes s t := fun a => by
  unfold OnlyAnswer at h
  rw [h]
  rfl

/-- A row whose answer differs so from the state before it. -/
theorem leaves {c : Instr} (row : exec c s = answer s u) (h : OnlyAnswer s u) :
    Leaves c s fun t => t = { s with regs := t.regs, inlet := t.inlet, boxes := t.boxes, bells := t.bells } ∧ SameBytes s t := by
  refine leaves_of row ⟨?_, h.bytes⟩
  unfold OnlyAnswer at h
  rw [h]

end OnlyAnswer

/-! ### The recorder -/

/-- The words of the timebase, the lanes and the recorder. -/
abbrev RecorderWords (k : Nat) : Prop := keyPage k = 0x05 ∨ keyPage k = 0x06 ∨ keyPage k = 0x70

/-- Registers of the timebase, the lanes, the recorder and the router with the pending bits, the inlet queue, the recorder, what is
kept without power, the time and the count of free values differ at most. -/
structure OnlyRecorder (s t : State) : Prop extends SameBut RecorderWords s t where
  only : t = { s with regs := t.regs, inlet := t.inlet, recd := t.recd, keep := t.keep, freeIx := t.freeIx, tb := t.tb }

namespace OnlyRecorder

theorem refl : OnlyRecorder s s := ⟨.refl, rfl⟩

theorem trans (h : OnlyRecorder s t) (g : OnlyRecorder t u) : OnlyRecorder s u :=
  ⟨h.toSameBut.trans g.toSameBut, by rw [g.only, h.only]⟩

/-- A step of registers and the inlet queue alone. -/
theorem words (h : OnlyRecorder s t) (only : OnlyRegsInlet t u) (same : SameBut RecorderWords t u) : OnlyRecorder s u :=
  h.trans ⟨same, by unfold OnlyRegsInlet at only; rw [only]⟩

/-- A step of the recorder's own state. -/
theorem frame (h : OnlyRecorder s t) (regs : u.regs = t.regs := by rfl)
    (only : u = { t with inlet := u.inlet, recd := u.recd, keep := u.keep, freeIx := u.freeIx } := by rfl) : OnlyRecorder s u :=
  h.trans ⟨SameBut.refl.regs regs, by rw [only]⟩

theorem wr (h : OnlyRecorder s t) (hq : RecorderWords (rk p o) := by decide) : OnlyRecorder s (t.wr p o v) :=
  h.words (onlyRegsInlet_wr ..) (SameBut.refl.wr hq)

theorem sat16 (h : OnlyRecorder s t) (hq : RecorderWords (rk p o) := by decide) : OnlyRecorder s (t.sat16 p o) := h.wr hq

theorem sat16by {x : Nat} (h : OnlyRecorder s t) (hq : RecorderWords (rk p o) := by decide) : OnlyRecorder s (t.sat16by p o x) := h.wr hq

theorem inc32 (h : OnlyRecorder s t) (hq : RecorderWords (rk p o) := by decide) : OnlyRecorder s (t.inc32 p o) := h.wr hq

theorem raise {e : Nat} {p0 p1 p2 : Word} (h : OnlyRecorder s t) : OnlyRecorder s (t.raise e p0 p1 p2) :=
  h.words (onlyRegsInlet_raise ..) SameBut.refl.raise

theorem draw (h : OnlyRecorder s t) : OnlyRecorder s t.draw := h.frame

theorem ite {c : Prop} {_ : Decidable c} {x y : State} (hx : OnlyRecorder s x) (hy : OnlyRecorder s y) :
    OnlyRecorder s (if c then x else y) := by
  split
  · exact hx
  · exact hy

theorem when {c : Bool} {f : State → State} (h : OnlyRecorder s t) (hf : ∀ x, OnlyRecorder s x → OnlyRecorder s (f x)) :
    OnlyRecorder s (t.when c f) := .ite (hf t h) h

theorem foldl {α : Type} {f : State → α → State} {l : List α} (h : OnlyRecorder s t)
    (hf : ∀ x y, OnlyRecorder s y → OnlyRecorder s (f y x)) : OnlyRecorder s (l.foldl f t) := by
  induction l generalizing t with
  | nil => exact h
  | cons a l ih => exact ih (hf a t h)

theorem advanceTo {c : Nat} (h : OnlyRecorder s t) : OnlyRecorder s (t.advanceTo c) := by
  obtain ⟨fr, only⟩ := advanceTo_only t c
  refine h.trans ⟨advanceTo_sameBut.mono ?_, ?_⟩
  · rintro k (lanes | rfl)
    · exact .inr (.inl lanes)
    · exact .inl rfl
  · unfold OnlyRegsInlet at only
    rw [only]

theorem stagePut {r : Rec} (h : OnlyRecorder s t) : OnlyRecorder s (t.stagePut r) := h.frame

theorem ringPut {r : Rec} (h : OnlyRecorder s t) : OnlyRecorder s (t.ringPut r) := h.frame

theorem stageGap (h : OnlyRecorder s t) : OnlyRecorder s t.stageGap := .ite h (.stagePut (.draw h.frame))

theorem stageRec {r : Rec} (h : OnlyRecorder s t) : OnlyRecorder s (t.stageRec r) :=
  .ite h.stageGap (.ite h.stageGap.stagePut (.raise (.sat16 h.stageGap.frame)))

theorem suppress {r : Rec} (h : OnlyRecorder s t) : OnlyRecorder s (t.suppress r) := h.frame

theorem accept {r : Rec} (h : OnlyRecorder s t) : OnlyRecorder s (t.accept r) := by
  refine .ite h.stageRec (.ite h.suppress ?_)
  cases t.recd.buckets.find? (fun b => b.code = r.code) with
  | none => exact .ite h.frame.suppress h.frame.frame.stageRec
  | some _ => exact .ite h.frame.suppress h.frame.frame.stageRec

theorem takeInlet (h : OnlyRecorder s t) : OnlyRecorder s t.takeInlet := by
  unfold State.takeInlet
  split
  · exact h
  · exact h.frame.accept

theorem secondEnd (h : OnlyRecorder s t) : OnlyRecorder s t.secondEnd := by
  unfold State.secondEnd
  extract_lets l _ s₁ total s₂ more s₃
  have h₁ : OnlyRecorder s s₁ := h.frame
  have h₂ : OnlyRecorder s s₂ := h₁.foldl fun _ _ h' => h'.draw.accept
  have h₃ : OnlyRecorder s s₃ := h₂.when fun _ h' => h'.draw.draw.accept
  exact .ite h₁ h₃.sat16by.raise

theorem writeRec {ring stud : Bool} {r : Rec} (h : OnlyRecorder s t) : OnlyRecorder s (t.writeRec ring stud r) := by
  unfold State.writeRec
  extract_lets room r' gen _ s₁ s₂ _
  have h₁ : OnlyRecorder s s₁ := .ite h.frame h
  have h₂ : OnlyRecorder s s₂ := .ite h₁.ringPut h₁
  exact .ite (.raise h₂.frame) h₂

theorem recError (h : OnlyRecorder s t) : OnlyRecorder s t.recError := h.raise.draw

theorem flush {ring stud : Bool} (h : OnlyRecorder s t) : OnlyRecorder s (t.flush ring stud) := by
  unfold State.flush
  split
  · exact h
  · extract_lets l _ s₁ s₂ s₃ s₄ s₅
    have h₁ : OnlyRecorder s s₁ := h.frame
    have h₂ : OnlyRecorder s s₂ := h₁.foldl fun _ _ h' => h'.writeRec
    have h₃ : OnlyRecorder s s₃ := h₂.when fun _ => recError
    have h₄ : OnlyRecorder s s₄ := h₃.when fun _ => recError
    have h₅ : OnlyRecorder s s₅ := h₄.inc32.raise
    exact h₅.stageGap

theorem recd {r : Recorder} (h : OnlyRecorder s t) : OnlyRecorder s { t with recd := r } := h.frame

theorem flushFor {trig : Nat} (h : OnlyRecorder s t) : OnlyRecorder s (t.flushFor trig) := h.frame

theorem bytes (h : OnlyRecorder s t) : SameBytes s t := fun a => by
  rw [h.only]
  rfl

theorem pages (h : OnlyRecorder s t) : SamePages [0x02, 0x05, 0x06, 0x70] s t := fun k hk hp => by
  simp only [List.mem_cons, List.not_mem_nil, or_false, not_or] at hk
  exact h.key k hk.1 hp (by simp [RecorderWords, hk])

/-- A row whose answer differs so from the state before it. -/
theorem leaves {c : Instr} (row : exec c s = answer s u) (h : OnlyRecorder s u) : Leaves c s fun t =>
    t = { s with regs := t.regs, inlet := t.inlet, recd := t.recd, keep := t.keep, freeIx := t.freeIx, tb := t.tb } ∧
      SamePages [0x02, 0x05, 0x06, 0x70] s t ∧ SameBytes s t :=
  leaves_of row ⟨by rw [h.only], h.pages, h.bytes⟩

end OnlyRecorder

/-! ### Pins -/

/-- A row whose answer differs from the state before it in the pins. -/
theorem leaves_pins {c : Instr} (row : exec c s = answer s u) (h : u = { s with pins := u.pins }) :
    Leaves c s fun t => t = { s with pins := t.pins } ∧ SameBytes s t :=
  leaves_of row ⟨by rw [h], fun a => by rw [h]; rfl⟩

end Sys2Proof.Machine
end

section
set_option Elab.async false -- one proof after the other: each further worker thread takes its stack from the check's memory
open Sys2Proof Sys2Proof.Machine

/-- Settles O58: each row of a family through what its functions change. -/
theorem mailboxRecorderAndPinFrame : Obligations.MailboxRecorderAndPinFrame := by
  unfold Obligations.MailboxRecorderAndPinFrame
  refine ⟨fun c s row => ?_, fun c s row => ?_, fun c s row => ?_⟩
  · cases c with
    | bistResult | getId | ping => exact OnlyAnswer.leaves rfl (.serve OnlyAnswer.refl.boxDone)
    | profileQuery => exact OnlyAnswer.leaves rfl (.serve .profQuery)
    | updStatus => exact OnlyAnswer.leaves rfl (.serve .updStatus)
    | duplexRoleQuery => exact OnlyAnswer.leaves rfl (.serve (.ite OnlyAnswer.refl.boxDone .duplexAnswer))
    | gaitQuery | ownerLockQuery =>
      exact OnlyAnswer.leaves rfl (.serve (.ite OnlyAnswer.refl.boxDone OnlyAnswer.refl.boxDone))
    | duplexRoleSetInhibit | duplexRoleClearInhibit => exact OnlyAnswer.leaves rfl (.serve .duplexInhibit)
    | mboxCommandComplete => exact OnlyAnswer.leaves rfl .boxComplete
    | recRead => exact OnlyAnswer.leaves rfl (.serve .recRead)
    | timeSetWall => exact OnlyAnswer.leaves rfl (.serve .setWall)
    | _ => cases row
  · have timed : ∀ {x : State}, OnlyRecorder s x → OnlyRecorder s (if !s.recTimed then s else x) := .ite .refl
    cases c with
    | martingaleRefill => exact OnlyRecorder.leaves rfl (timed OnlyRecorder.refl.advanceTo.recd)
    | martingaleSecondEnd => exact OnlyRecorder.leaves rfl (timed OnlyRecorder.refl.advanceTo.recd.secondEnd)
    | recFlushInterval =>
      exact OnlyRecorder.leaves rfl (timed (.ite OnlyRecorder.refl.advanceTo.recd OnlyRecorder.refl.advanceTo.recd.flushFor))
    | recFlush => exact OnlyRecorder.leaves rfl OnlyRecorder.refl.flush
    | recordAccept vendor =>
      refine OnlyRecorder.leaves rfl (.ite .refl ?_)
      cases vendor with
      | none => exact OnlyRecorder.refl.takeInlet
      | some _ => exact OnlyRecorder.refl.accept
    | recExportTimeout =>
      refine OnlyRecorder.leaves rfl ?_
      split
      · exact .refl
      · exact OnlyRecorder.refl.advanceTo.recd
    | _ => cases row
  · cases c with
    | movingFilterMoving | movingFilterStationary | usbVbusChange => exact leaves_pins rfl rfl
    | logicInReturn =>
      refine leaves_pins rfl ?_
      split_ifs
      · rfl
      · rfl
      · rfl
    | holdupCharged =>
      refine leaves_pins rfl ?_
      split_ifs
      · rfl
      · rfl
    | _ => cases row
end

section
set_option Elab.async false -- one proof after the other: each further worker thread takes its stack from the check's memory
/-! SUPPORT. The selected tack set stays shown while what it loads takes effect (R110, R279). -/

namespace Sys2Proof.Machine

variable {s t u : State}

/-- The word that shows the selected and the loaded tack set is as before. -/
def SameSelection (s t : State) : Prop := t.rd 0x00 0x48 = s.rd 0x00 0x48

namespace SameSelection

theorem refl : SameSelection s s := rfl

theorem trans (h : SameSelection s t) (g : SameSelection t u) : SameSelection s u := Eq.trans g h

theorem same {Q : Nat → Prop} (h : SameSelection s t) (k : SameBut Q t u) (hq : ¬Q (rk 0x00 0x48) := by decide) : SameSelection s u :=
  h.trans (k.rd (hq := hq))

/-- A state with the same registers. -/
theorem regs (h : SameSelection s t) (e : u.regs = t.regs := by rfl) : SameSelection s u := h.trans (rd_congr e _ _)

theorem setKey {k : Nat} {v : Word} (h : SameSelection s t) (hk : k ≠ rk 0x00 0x48) : SameSelection s (t.setKey k v) :=
  h.trans (by rw [SameSelection, State.rd, key_setKey, if_neg hk, State.rd])

/-- A register of another page. -/
theorem rk_ne {p o : Nat} (hp : p ≠ 0x00) (ho : o < 0x20000 := by decide) : rk p o ≠ rk 0x00 0x48 := by unfold rk; omega

theorem wr {p o : Nat} {v : Word} (h : SameSelection s t) (hk : rk p o ≠ rk 0x00 0x48 := by decide) : SameSelection s (t.wr p o v) :=
  h.setKey hk

theorem wrFld {p o lo n x : Nat} (h : SameSelection s t) (hk : rk p o ≠ rk 0x00 0x48 := by decide) :
    SameSelection s (t.wrFld p o lo n x) := h.wr hk

theorem wrBit {p o i : Nat} {b : Bool} (h : SameSelection s t) (hk : rk p o ≠ rk 0x00 0x48 := by decide) :
    SameSelection s (t.wrBit p o i b) := h.wr hk

theorem setTab {p o : Nat} {v : Word} (h : SameSelection s t) (ho : o < 0x10000) : SameSelection s (t.setTab p o v) :=
  h.setKey (by unfold tk rk; omega)

theorem setT3 {k : Nat} {v : Word} (h : SameSelection s t) (hk : k ≠ rk 0x00 0x48) : SameSelection s (t.setT3 k v) := (h.setKey hk).regs

theorem raise {n : Nat} {p0 p1 p2 : Word} (h : SameSelection s t) : SameSelection s (t.raise n p0 p1 p2) :=
  h.same (SameBut.refl (Q := fun _ => False)).raise

theorem accessFault {i : Init} {a : Word} {cause : Nat} (h : SameSelection s t) : SameSelection s (t.accessFault i a cause) :=
  raise (h.wr (by unfold rk; omega))

theorem ite {c : Prop} {_ : Decidable c} {a b : State} (ha : SameSelection s a) (hb : SameSelection s b) :
    SameSelection s (if c then a else b) := by
  split
  · exact ha
  · exact hb

theorem when {c : Bool} {f : State → State} (h : SameSelection s t) (hf : ∀ x, SameSelection s x → SameSelection s (f x)) :
    SameSelection s (t.when c f) := .ite (hf t h) h

theorem foldl {α : Type} {f : State → α → State} {l : List α} (h : SameSelection s t)
    (hf : ∀ x ∈ l, ∀ y, SameSelection s y → SameSelection s (f y x)) : SameSelection s (l.foldl f t) := by
  induction l generalizing t with
  | nil => exact h
  | cons a l ih => exact ih (hf a List.mem_cons_self t h) fun x hx => hf x (List.mem_cons_of_mem a hx)

theorem refresh (h : SameSelection s t) : SameSelection s t.refresh := h.same refresh_kept.toSameBut

theorem setLink {m : Nat} (h : SameSelection s t) : SameSelection s (t.setLink m) := by
  unfold State.setLink
  extract_lets s₁ _ s₂
  have h₁ : SameSelection s s₁ := h.wrFld.raise
  have h₂ : SameSelection s s₂ := h₁.regs
  exact .ite h h₂.refresh

/-! ### Units that start -/

theorem applyShadows {p : Nat} {sel : Nat → Bool} (h : SameSelection s t) (hp : p ≠ 0x00) : SameSelection s (t.applyShadows p sel) := by
  have taken : SameSelection s (t.takeShadows p sel) := by
    unfold State.takeShadows
    extract_lets l s₁ s₂
    have h₁ : SameSelection s s₁ := h.foldl fun c hc _ h' => h'.setT3 fun e => by
      have home := (List.mem_filter.1 hc).2
      simp only [Bool.and_eq_true, decide_eq_true_eq, e] at home
      exact hp home.1.symm
    have h₂ : SameSelection s s₂ := h₁.regs
    exact h₂.wrBit (rk_ne hp)
  exact .ite h ((taken.wrFld (rk_ne hp)).wrBit (rk_ne hp))

theorem offsetsStale (h : SameSelection s t) : SameSelection s t.offsetsStale := h.regs

theorem modCam {c : Nat} {f : Cam → Cam} (h : SameSelection s t) : SameSelection s (t.modCam c f) := h.regs

theorem cam_ne {c o : Nat} (ho : o < 0x20000 := by decide) : rk (camPage c) o ≠ rk 0x00 0x48 := rk_ne (by unfold camPage; omega) ho

theorem setCam {c st : Nat} (h : SameSelection s t) : SameSelection s (t.setCam c st) := by
  unfold State.setCam
  extract_lets _ _ s₁
  have h₁ : SameSelection s s₁ := ((h.wrFld cam_ne).wrBit cam_ne).wr.wr
  exact .ite h₁ h₁.raise

theorem i2cAbort {c : Nat} (h : SameSelection s t) : SameSelection s (t.i2cAbort c) := .ite (h.wr cam_ne) h

theorem camStop {c : Nat} (h : SameSelection s t) : SameSelection s (t.camStop c) := .ite h h.setCam.modCam.i2cAbort

theorem camRetime {c : Nat} (h : SameSelection s t) : SameSelection s (t.camRetime c) := by
  unfold State.camRetime
  extract_lets s₁
  have h₁ : SameSelection s s₁ := h.foldl fun _ _ _ h' => .ite h'.regs h'
  exact .ite h (h₁.applyShadows (by decide)).offsetsStale

theorem camLinking {c : Nat} (h : SameSelection s t) : SameSelection s (t.camLinking c) := by
  unfold State.camLinking
  extract_lets _ s₁ s₂ s₃
  have h₁ : SameSelection s s₁ := .ite h (h.applyShadows (by unfold camPage; omega)).offsetsStale
  have h₂ : SameSelection s s₂ := h₁.camRetime
  have h₃ : SameSelection s s₃ := h₂.wrFld cam_ne
  exact .ite h₃.setCam.modCam (.camStop (.raise (h.wr cam_ne)))

theorem dsp_ne {d o : Nat} (ho : o < 0x20000 := by decide) : rk (dspPage d) o ≠ rk 0x00 0x48 := rk_ne (by unfold dspPage; omega) ho

theorem setDsp {d st : Nat} (h : SameSelection s t) : SameSelection s (t.setDsp d st) := by
  unfold State.setDsp
  extract_lets _ s₁ s₂ s₃
  have h₁ : SameSelection s s₁ := h.wrFld dsp_ne
  have h₂ : SameSelection s s₂ := h₁.when fun _ h' => h'.wrFld dsp_ne
  have h₃ : SameSelection s s₃ := h₂.when fun _ h' => h'.wrBit dsp_ne
  exact .ite h₃.raise (.ite h₃.raise h₃)

theorem dspTrain {d : Nat} (h : SameSelection s t) : SameSelection s (t.dspTrain d) := by
  unfold State.dspTrain
  extract_lets s₁ s₂
  have h₁ : SameSelection s s₁ := (h.applyShadows (by decide)).offsetsStale
  have h₂ : SameSelection s s₂ := h₁.regs
  exact h₂.setDsp

theorem dspStart {d : Nat} (h : SameSelection s t) : SameSelection s (t.dspStart d) := by
  unfold State.dspStart
  extract_lets _ s₁
  have h₁ : SameSelection s s₁ := h.applyShadows (by unfold dspPage; omega)
  exact .ite h (.ite h₁ (.ite h₁.dspTrain h₁.raise))

theorem setMvbRole {r : Nat} (h : SameSelection s t) : SameSelection s (t.setMvbRole r) := by
  unfold State.setMvbRole
  extract_lets _ s₁ _ s₂
  have h₁ : SameSelection s s₁ := h.wrFld
  have h₂ : SameSelection s s₂ := h₁.regs
  have h₃ : SameSelection s s₂.mvbCalm := h₂.regs
  exact .ite h₂.raise (.ite h₃.raise h₂)

theorem startUnits (h : SameSelection s t) : SameSelection s t.startUnits := by
  unfold State.startUnits
  extract_lets s₁ s₂ s₃
  have h₁ : SameSelection s s₁ := h.foldl fun _ _ _ h' => .ite h'.camLinking h'
  have h₂ : SameSelection s s₂ := h₁.foldl fun _ _ _ h' => .ite h'.dspStart h'
  have h₃ : SameSelection s s₃ := h₂.foldl fun _ _ _ h' => .ite h'.regs h'
  exact .ite h₃ (.ite (.ite h₃.setMvbRole h₃) (.ite h₃.setMvbRole h₃))

/-! ### Outputs and time -/

theorem setTabBytes {p ix n : Nat} {d : List Byte} (h : SameSelection s t) (hix : ix + n ≤ 0x10000) :
    SameSelection s (t.setTabBytes p ix n d) :=
  h.foldl fun j hj _ h' => h'.setTab (by have := List.mem_range.1 hj; omega)

theorem substOutputs (h : SameSelection s t) : SameSelection s t.substOutputs := by
  have can : ∀ {x : State} {i v : Nat}, SameSelection s x → SameSelection s (x.putCan i v) := fun h' =>
    .ite h'.accessFault (h'.setTabBytes (by unfold objBase; omega))
  have mvb : ∀ {x : State} {i v : Nat}, SameSelection s x → SameSelection s (x.putMvb i v) := fun {x i _} h' =>
    h'.setTabBytes (by have := fld_lt (x.mapWord i 2) 0 8; omega)
  have ds : ∀ {x : State} {i v : Nat}, SameSelection s x → SameSelection s (x.putDs i v) := fun h' => h'.regs
  have view : ∀ {x : State} {i v : Nat}, SameSelection s x → SameSelection s (x.putView true i v) := fun h' => h'.regs
  unfold State.substOutputs
  extract_lets _ _ s₁ s₂ s₃ _ s₄ s₅
  have h₁ : SameSelection s s₁ := h.foldl fun _ _ _ => can
  have h₂ : SameSelection s s₂ := .ite h₁ (h₁.foldl fun _ _ _ => mvb)
  have h₃ : SameSelection s s₃ := h₂.foldl fun _ _ _ => ds
  have h₄ : SameSelection s s₄ := h₃.regs
  have h₅ : SameSelection s s₅ := h₄.foldl fun _ _ _ => view
  exact h₅.foldl fun _ _ _ h' => h'.wrBit

theorem setRate {f p : Int} (h : SameSelection s t) : SameSelection s (t.setRate f p) := by
  unfold State.setRate
  exact (regs (h.wr (p := 0x05) (o := 0x4C))).wr

theorem tbSelect (h : SameSelection s t) : SameSelection s t.tbSelect := by
  unfold State.tbSelect
  extract_lets _ _ s₁ _ s₂ s₃ _ s₄
  have h₁ : SameSelection s s₁ := h.wrFld.raise
  have h₂ : SameSelection s s₂ := h₁.regs
  have h₃ : SameSelection s s₃ := h₂.setRate
  have h₄ : SameSelection s s₄ := h₃.regs
  exact .ite h (.ite h₄.wrFld.wr.raise (.ite h₂.wrFld h₂))

theorem substitute {src : Nat} (h : SameSelection s t) : SameSelection s (t.substitute src) :=
  h.same (Kept.refl (Q := fun _ => False)).substitute.toSameBut

theorem updService (h : SameSelection s t) : SameSelection s t.updService := .ite h.wr h

theorem boxDone {n err : Nat} {resp : List Word} (h : SameSelection s t) (hn : n < 3) : SameSelection s (t.boxDone n err resp) :=
  h.same (Kept.boxDone (Q := BoxWords n) .refl fun _ hk => hk).toSameBut (by
    have := boxPage_ne hn
    rw [BoxWords, rk_page _ _ (by decide)]
    omega)

end SameSelection

/-- The word that shows the selection, once a set is loaded: its number, and that one is loaded. -/
theorem takeSet_selection {n : Nat} {src imm : Bool} {ts : TackSet} :
    ∃ r, (s.takeSet n src imm ts).rd 0x00 0x48 = w32 (n + 0x10 * b2n src + 0x100 + 0x1000 * r) := by
  unfold State.takeSet
  extract_lets _ _ s₁ s₂ _ s₃ s₄ s₅ s₆ s₇ s₈ s₉ s₁₀ s₁₁
  have h₅ : SameSelection s₄ s₅ := SameSelection.refl.wrBit.wrBit.offsetsStale
  have h₆ : SameSelection s₄ s₆ := h₅.regs
  have h₇ : SameSelection s₄ s₇ := h₆.foldl fun _ _ _ h' => h'.wrBit (SameSelection.rk_ne (by unfold viewPage; omega))
  have h₈ : SameSelection s₄ s₈ := .ite h₇.setLink h₇
  have h₉ : SameSelection s₄ s₉ := .ite h₈ h₈.substOutputs
  have h₁₀ : SameSelection s₄ s₁₀ := h₉.startUnits.tbSelect
  have h₁₁ : SameSelection s₄ s₁₁ := .ite h₁₀.substitute h₁₀
  exact ⟨s₃.rf 0x00 0x48 12 4, Eq.trans h₁₁.refresh.raise (rd_wr_self ..)⟩

end Sys2Proof.Machine
end

section
set_option Elab.async false -- one proof after the other: each further worker thread takes its stack from the check's memory
/-! SUPPORT. The commands of start-up and time: the tack set's word and the query's answer (R110, R111), the start of a test run
(R121), and the wall clock (R139). -/

namespace Sys2Proof.Machine

variable {s t u : State} {n : Nat}

/-! ### Words from numbers -/

theorem fld_w32_zero {x m : Nat} (hm : m ≤ 32) : fld (w32 x) 0 m = x % 2 ^ m := by
  rw [fld, w32, BitVec.toNat_ofNat, Nat.pow_zero, Nat.div_one, Nat.mod_mod_of_dvd _ (Nat.pow_dvd_pow 2 hm)]

theorem bit_w32 {x j : Nat} (hj : j < 32) : bit (w32 x) j = decide (x / 2 ^ j % 2 = 1) := by
  rw [bit, w32, BitVec.getLsbD_ofNat, decide_eq_true hj, Bool.true_and, Nat.testBit_eq_decide_div_mod_eq]

/-! ### Completion -/

/-- However a command ends, its mailbox is free. -/
theorem boxBusy_boxDone {err : Nat} {resp : List Word} (hn : n < 3) : (s.boxDone n err resp).boxBusy n = false := by
  by_cases busy : s.boxBusy n = true
  · have short : (resp.take 14).length ≤ 14 := by rw [List.length_take]; omega
    have cut : s.boxDone n err resp = s.boxDone n err (resp.take 14) := by
      unfold State.boxDone
      rw [List.take_take, Nat.min_self]
    rw [cut]
    exact boxBusy_of_ended (boxDone_ended hn busy rfl short)
  · unfold State.boxDone
    rw [if_pos (by simpa using busy)]
    simpa using busy

/-! ### Tack-set selection -/

theorem profGuard_pass {f : State → State} (booted : s.booted = true) (fields : s.boxArg n 0 &&& 0xFFFF_FEEC = 0) :
    s.profGuard n f = f s := by
  unfold State.profGuard
  rw [if_neg (by simp [booted]), if_neg (not_not_intro fields)]

/-- A command that changes what is kept without power alone, and ends without an error. -/
theorem boxDone_keep {k : Keep} (hn : n < 3) (busy : s.boxBusy n = true) (kept : u = { s with keep := k }) :
    s.Ended (u.boxDone n 0 []) n 0 0 ∧ (u.boxDone n 0 []).keep = k := by
  have boxes : s.boxes = u.boxes := by rw [kept]
  have regs : u.regs = s.regs := by rw [kept]
  have keep : u.keep = k := by rw [kept]
  exact ⟨ended_congr boxes (boxDone_ended hn ((boxBusy_congr regs).trans busy) rfl),
    (Kept.boxDone (Q := BoxWords n) .refl fun _ hk => hk).keep.trans keep⟩

/-- A set that is not refused is loaded at once in STOP at standstill. -/
theorem profNow_loads (hn : n < 3) (stop : s.progMode = modeStop) (still : s.starting = false) (stands : s.moving = false)
    (good : s.setRefusal (s.tackSet (fld (s.boxArg n 0) 0 2)) = 0) :
    (s.profNow n).boxBusy n = false ∧ (s.profNow n).loaded = true ∧ (s.profNow n).rf 0x00 0x48 0 2 = fld (s.boxArg n 0) 0 2 := by
  have set : fld (s.boxArg n 0) 0 2 < 4 := fld_lt ..
  have loads : ∀ x, x = fld (s.boxArg n 0) 0 2 → s.profNow n =
      (s.takeSet x (s.keep.stored = some (Fin.ofNat 4 x)) true (s.tackSet x)).updService.boxDone n 0 [] := by
    rintro _ rfl
    unfold State.profNow
    rw [if_neg (by simp [stop, still, stands])]
    exact if_pos good
  generalize fld (s.boxArg n 0) 0 2 = x at set loads
  have eq := loads x rfl
  generalize decide (s.keep.stored = some (Fin.ofNat 4 x)) = src at eq
  obtain ⟨r, word⟩ := takeSet_selection (s := s) (n := x) (src := src) (imm := true) (ts := s.tackSet x)
  have shown : (s.profNow n).rd 0x00 0x48 = w32 (x + 0x10 * b2n src + 0x100 + 0x1000 * r) :=
    eq ▸ Eq.trans ((SameSelection.refl.updService).boxDone hn) word
  have source : b2n src ≤ 1 := by cases src <;> decide
  refine ⟨eq ▸ boxBusy_boxDone hn, ?_, ?_⟩
  · rw [State.loaded, State.rb, shown, bit_w32 (by decide)]
    exact decide_eq_true (by omega)
  · rw [State.rf, shown, fld_w32_zero (by decide)]
    omega

/-- PROFILE_QUERY. -/
theorem profQuery_answers (hn : n < 3) (busy : s.boxBusy n = true) : s.Ended (s.profQuery n) n 0 2 ∧
    fld ((s.profQuery n).resp n 0) 0 2 = s.rf 0x00 0x48 0 2 ∧ bit ((s.profQuery n).resp n 0) 12 = s.keep.stored.isSome ∧
      (s.profQuery n).resp n 1 = s.prog.build := by
  have set : s.rf 0x00 0x48 0 2 < 4 := fld_lt ..
  have source : s.rf 0x00 0x48 4 1 < 2 := fld_lt ..
  unfold State.profQuery
  extract_lets st
  have first : (s.boxDone n 0 [w32 (s.rf 0x00 0x48 0 2 + 0x10 * s.rf 0x00 0x48 4 1 + st), s.prog.build]).resp n 0 = _ :=
    boxDone_resp hn busy (by simp) (by simp)
  have second : (s.boxDone n 0 [w32 (s.rf 0x00 0x48 0 2 + 0x10 * s.rf 0x00 0x48 4 1 + st), s.prog.build]).resp n 1 = _ :=
    boxDone_resp hn busy (by simp) (by simp)
  rw [first, second]
  refine ⟨boxDone_ended hn busy rfl, ?_, ?_, rfl⟩
  · rw [List.getElem_cons_zero, fld_w32_zero (by decide)]
    unfold st
    split
    · omega
    · omega
  · rw [List.getElem_cons_zero, bit_w32 (by decide)]
    unfold st
    split
    · next k stored =>
      rw [stored]
      exact decide_eq_true (by have := k.isLt; omega)
    · next none =>
      rw [none]
      exact decide_eq_false (by omega)

/-! ### Test runs -/

/-- The words of the farrier, the link to the partner and the field I/O board. -/
abbrev TestWords (k : Nat) : Prop := keyPage k = 0x04 ∨ keyPage k = 0x50 ∨ FieldWords k

@[simp] theorem setLink_farr {m : Nat} : (s.setLink m).farr = s.farr := by
  unfold State.setLink
  split
  · rfl
  · rw [refresh_only]
    exact (onlyRegsInlet_raise ..).farr_eq.trans (wrFld_farr ..)

theorem SameBut.setLink {m : Nat} (h : SameBut TestWords s t) : SameBut TestWords s (t.setLink m) := by
  unfold State.setLink
  extract_lets s₁ _ s₂
  have h₁ : SameBut TestWords s s₁ := h.wrFld.raise
  have h₂ : SameBut TestWords s s₂ := h₁.regs
  exact .ite h (h₂.trans (refresh_kept.toSameBut.mono fun _ field => Or.inr (Or.inr field)))

theorem resWords_eq : s.resWords = (List.range 4).map fun j => s.rd 0x04 (0x40 + 4 * j) := rfl

/-- The run stands, and no mailbox word changes as it starts. -/
theorem startRun_starts {run : FarrRun} {blocks : List Nat} :
    (s.startRun run blocks).farr = { run := run, left := blocks, started := s.tb.count } ∧ SameBut TestWords s (s.startRun run blocks) := by
  unfold State.startRun
  extract_lets s₁ m s₂ s₃
  have h₃ : SameBut TestWords s s₃ := (((SameBut.refl.regs (u := s₁)).wr.wr.wrFld).wrFld)
  have f₃ : s₃.farr = s₁.farr := by unfold s₃ s₂; simp
  have partner : s₃.xlinkTestStarts.farr = s₁.farr ∧ SameBut TestWords s s₃.xlinkTestStarts := by
    unfold State.xlinkTestStarts
    split
    · exact ⟨((onlyRegsInlet_raise ..).farr_eq.trans (wrBit_farr ..)).trans f₃, h₃.wrBit.raise⟩
    · exact ⟨f₃, h₃⟩
  obtain ⟨f₄, h₄⟩ := partner
  unfold State.fioTestStarts
  split
  · exact ⟨(setLink_farr ..).trans f₄, h₄.setLink⟩
  · exact ⟨f₄, h₄⟩

/-- BIST_RUN of blocks that may be tested. -/
theorem bistRun_starts {bs : List Nat} (hn : n < 3) (busy : s.boxBusy n = true) (idle : s.farr.run = .idle)
    (blocks : bs = (List.range 64).filter fun b => bit (s.boxArg n (b / 32)) (b % 32)) (some : bs ≠ [])
    (may : ∀ b ∈ bs, blockAbsent s.variant b = false ∧ s.mayTest b = true) :
    (s.bistRun n).farr.run = .runtime (Fin.ofNat 3 n) ∧ (s.bistRun n).farr.left = bs ∧ (s.bistRun n).boxBusy n = true := by
  have starts : s.bistRun n = (s.startRun (.runtime (Fin.ofNat 3 n)) bs).boxRun n := by
    have present : bs.any (blockAbsent s.variant) = false := List.any_eq_false.2 fun b hb => by simp [(may b hb).1]
    have tested : bs.any (fun b => !s.mayTest b) = false := List.any_eq_false.2 fun b hb => by simp [(may b hb).2]
    unfold State.bistRun
    rw [← blocks]
    rw [if_neg (not_not_intro idle), if_neg (by simp [present]), if_neg (by simp [tested]), if_neg (by simpa using some)]
  obtain ⟨run, same⟩ := startRun_starts (s := s) (run := .runtime (Fin.ofNat 3 n)) (blocks := bs)
  have page := boxPage_ne hn
  have still : (s.startRun (.runtime (Fin.ofNat 3 n)) bs).boxBusy n = s.boxBusy n :=
    same.rb (by omega) (by decide) (by decide) (by rw [TestWords, FieldWords, rk_page _ _ (by decide)]; omega)
  rw [starts]
  generalize s.startRun (.runtime (Fin.ofNat 3 n)) bs = u at run still
  have kept : (u.boxRun n).farr = u.farr := rfl
  rw [kept, run]
  exact ⟨rfl, rfl, Eq.trans (boxBusy_congr rfl) (still.trans busy)⟩

/-! ### The wall clock -/

/-- TIME_SET_WALL at an instant that has passed. -/
theorem setWall_sets {at_ wall : Nat} (hn : n < 3) (busy : s.boxBusy n = true) (ns : (s.boxArg n 1).toNat ≤ 999_999_999)
    (instant : at_ = (s.boxArg n 2).toNat + 2 ^ 32 * (s.boxArg n 3).toNat) (past : at_ ≤ s.tb.count)
    (value : wall = (s.boxArg n 0).toNat * 1_000_000_000 + (s.boxArg n 1).toNat) :
    s.Ended (s.setWall n) n 0 0 ∧ (s.setWall n).rd 0x05 0x74 = wInt ((wall : Int) - at_) ∧
      (s.setWall n).rd 0x05 0x78 = wInt (((wall : Int) - at_) / 2 ^ 32) ∧ (s.setWall n).rb 0x05 0x7C 0 = true := by
  have page := boxPage_ne hn
  unfold State.setWall
  rw [← instant, ← value, if_neg (by simp; omega)]
  extract_lets old o s₁
  generalize hu : s₁.raise 39 old (s₁.wallSeconds s₁.tb.count) 0 = u
  have only : OnlyRegsInlet s u := hu ▸ (((onlyRegsInlet_wr ..).trans' (onlyRegsInlet_wr ..)).trans' (onlyRegsInlet_wr ..)).trans'
    (onlyRegsInlet_raise ..)
  have raised : SameBut (fun _ => False) s₁ u := hu ▸ SameBut.refl.raise
  have written : SameBut (fun k => keyPage k = 0x05) s s₁ := SameBut.refl.wr.wr.wr
  have still : u.boxBusy n = true := by
    rw [← busy]
    exact (raised.rb (by omega) (by decide) (by decide) id).trans
      (written.rb (by omega) (by decide) (by decide) (by rw [rk_page _ _ (by decide)]; omega))
  have shown : ∀ q, q ≠ 0x18 → q < 0x20000 → (u.boxDone n 0 []).rd 0x05 q = s₁.rd 0x05 q := fun q h0 hq =>
    ((Kept.boxDone (Q := BoxWords n) .refl fun _ hk => hk).toSameBut.rd (by decide) h0 hq
      (by rw [BoxWords, rk_page _ _ hq]; omega)).trans (raised.rd (by decide) h0 hq id)
  refine ⟨ended_congr only.boxes_eq.symm (boxDone_ended hn still rfl), ?_, ?_, ?_⟩
  · rw [shown _ (by decide) (by decide), rd_wr_ne _ _ _ _ _ _ (by decide), rd_wr_ne _ _ _ _ _ _ (by decide), rd_wr_self]
  · rw [shown _ (by decide) (by decide), rd_wr_ne _ _ _ _ _ _ (by decide), rd_wr_self]
  · rw [State.rb, shown _ (by decide) (by decide), rd_wr_self, bit_w32 (by decide)]
    exact decide_eq_true (by omega)

end Sys2Proof.Machine
end

section
set_option Elab.async false -- one proof after the other: each further worker thread takes its stack from the check's memory
open Sys2Proof Sys2Proof.Machine

/-- Settles O35: the firmware serves each command as it stands first, and its answer completes it. -/
theorem startUpCommands : Obligations.StartUpCommands := by
  unfold Obligations.StartUpCommands
  refine ⟨fun inst s held n hn => ?_, fun inst s held => ?_, fun inst s held kind booted fields good => ?_,
    fun inst s held kind booted fields stop still stands good => ?_, fun inst s held kind booted fields => ?_, fun inst s held => ?_,
    fun inst s held idle bs blocks some may => ?_, fun inst s held => ?_, fun inst at_ wall s held ns instant past value => ?_⟩
  · have len : fld (s.box inst.val).cmd 16 16 < 57 := by obtain ⟨-, -, -, mem, -⟩ := held; exact List.mem_range.1 mem
    have count : ((List.range ((fld (s.box inst.val).cmd 16 16 + 3) / 4)).map (s.boxArg inst.val)).length = n := by simp [hn]
    refine completes_serve rfl (fun _ h => h) held rfl
      ⟨boxDone_ended inst.isLt (boxBusy_of_holds held) count (by omega), fun j hj => ?_⟩
    rw [boxDone_resp inst.isLt (boxBusy_of_holds held) (by omega) (by omega), List.getElem_map, List.getElem_range]
  · have word {j} := boxDone_resp (err := 0) (j := j) inst.isLt (boxBusy_of_holds held)
      (resp := [variantLetter s.variant, Config.serialLo, Config.serialHi, Config.hwRev, s.fwVersion]) (by simp)
    exact completes_serve rfl (fun _ h => h) held rfl
      ⟨boxDone_ended inst.isLt (boxBusy_of_holds held) rfl, word (by simp), word (by simp), word (by simp), word (by simp), word (by simp)⟩
  · refine completes_serve rfl (fun _ h => h) held (decide_eq_true kind) ?_
    rw [profGuard_pass booted fields, State.profStore, if_pos good]
    exact boxDone_keep inst.isLt (boxBusy_of_holds held) rfl
  · refine completes_serve rfl (fun _ h => h) held (decide_eq_true kind) ?_
    rw [profGuard_pass booted fields]
    exact profNow_loads inst.isLt stop still stands good
  · refine completes_serve rfl (fun _ h => h) held (decide_eq_true kind) ?_
    rw [profGuard_pass booted fields]
    exact boxDone_keep inst.isLt (boxBusy_of_holds held) rfl
  · exact completes_serve rfl (fun _ h => h) held rfl (profQuery_answers inst.isLt (boxBusy_of_holds held))
  · refine completes_serve rfl (fun _ h => h) held rfl ?_
    have starts := bistRun_starts inst.isLt (boxBusy_of_holds held) idle blocks some may
    rwa [show Fin.ofNat 3 inst.val = inst from Fin.ext (Nat.mod_eq_of_lt inst.isLt)] at starts
  · have count : (s.resWords ++ [s.farrStat]).length = 5 := by simp [resWords_eq]
    refine completes_serve rfl (fun _ h => h) held rfl ⟨boxDone_ended inst.isLt (boxBusy_of_holds held) count, fun j hj => ?_⟩
    rw [boxDone_resp inst.isLt (boxBusy_of_holds held) (by omega) (by omega),
      List.getElem_append_left (by simpa [resWords_eq] using hj)]
    simp [resWords_eq]
  · exact completes_serve rfl (fun _ h => h) held rfl (setWall_sets inst.isLt (boxBusy_of_holds held) ns instant past value)
end

section
set_option Elab.async false -- one proof after the other: each further worker thread takes its stack from the check's memory
/-! SUPPORT. What start-up, lanes that change and units that start leave as it was: words, the farrier's run, and what is kept without
power of the resets, of the OTP, of failed blocks and of the customer root. -/

namespace Sys2Proof.Machine

variable {Q R : Nat → Prop} {r : Prop} {s t u : State} {p o : Nat}

/-- Beside the words of `Q`, the pending bits and the router's page every word reads as before; the run of the farrier stands; and of
what is kept without power the count of resets, the OTP's check and the UNUSABLE marks are as before, with the customer root where `r`
says that nothing is erased. -/
structure Steady (Q : Nat → Prop) (r : Prop) (s t : State) : Prop extends SameBut Q s t where
  farr : t.farr = s.farr
  boots : t.keep.boots = s.keep.boots
  otpOk : t.keep.otpOk = s.keep.otpOk
  unusable : t.keep.unusable = s.keep.unusable
  root : r → t.keep.customerRoot = s.keep.customerRoot

/-- What a lane that changes its state may write beside its own register set: the voter but REINT_STAT, semaphores, the outputs, the
online change's result, and ERRINFO of any page. -/
abbrev LeaveWords (k : Nat) : Prop :=
  (keyPage k = 0x07 ∧ k ≠ rk 0x07 0x60) ∨ FieldWords k ∨ keyPage k = 0x03 ∨ k = rk 0x09 0x6C ∨ k % 0x20000 = 0x38
/-- These with the register set of lane `l`. -/
abbrev LaneWords (l k : Nat) : Prop := LeaveWords k ∨ laneKey l k = true

namespace Steady

theorem refl : Steady Q r s s := ⟨.refl, rfl, rfl, rfl, rfl, fun _ => rfl⟩

theorem trans (h : Steady Q r s t) (g : Steady Q r t u) : Steady Q r s u :=
  ⟨h.toSameBut.trans g.toSameBut, g.farr.trans h.farr, g.boots.trans h.boots, g.otpOk.trans h.otpOk, g.unusable.trans h.unusable,
    fun hr => (g.root hr).trans (h.root hr)⟩

theorem mono (h : Steady Q r s t) (sub : ∀ k, Q k → R k) : Steady R r s t :=
  ⟨h.toSameBut.mono sub, h.farr, h.boots, h.otpOk, h.unusable, h.root⟩

/-- A further step that leaves more words as they were. -/
theorem step (h : Steady Q r s t) (g : Steady R r t u) (sub : ∀ k, R k → Q k) : Steady Q r s u := h.trans (g.mono sub)

/-- A state that agrees with a steady one in every field that `Steady` speaks of. -/
theorem frame (h : Steady Q r s t) (regs : u.regs = t.regs := by rfl) (farr : u.farr = t.farr := by rfl)
    (boots : u.keep.boots = t.keep.boots := by rfl) (otpOk : u.keep.otpOk = t.keep.otpOk := by rfl)
    (unusable : u.keep.unusable = t.keep.unusable := by rfl) (root : u.keep.customerRoot = t.keep.customerRoot := by rfl) :
    Steady Q r s u :=
  h.trans ⟨SameBut.refl.regs regs, farr, boots, otpOk, unusable, fun _ => root⟩

/-- What leaves the fields behind the pins as they were, and the farrier's run. -/
theorem kept (h : Steady Q r s t) (k : Kept Q t u) (farr : u.farr = t.farr := by rfl) : Steady Q r s u :=
  h.trans ⟨k.toSameBut, farr, by rw [k.keep], by rw [k.keep], by rw [k.keep], fun _ => by rw [k.keep]⟩

/-- What changes registers and the inlet queue alone. -/
theorem words (h : Steady Q r s t) (only : OnlyRegsInlet t u) (same : SameBut Q t u) : Steady Q r s u :=
  h.trans ⟨same, only.farr_eq, by rw [only.keep_eq], by rw [only.keep_eq], by rw [only.keep_eq], fun _ => by rw [only.keep_eq]⟩

theorem setKey {k : Nat} {v : Word} (h : Steady Q r s t) (hk : Q k) : Steady Q r s (t.setKey k v) :=
  h.words (onlyRegsInlet_setKey ..) (SameBut.refl.setKey hk)

theorem wr {v : Word} (h : Steady Q r s t) (hq : Q (rk p o) := by decide) : Steady Q r s (t.wr p o v) := h.setKey hq

theorem wrFld {lo n x : Nat} (h : Steady Q r s t) (hq : Q (rk p o) := by decide) : Steady Q r s (t.wrFld p o lo n x) := h.wr hq

theorem wrBit {i : Nat} {b : Bool} (h : Steady Q r s t) (hq : Q (rk p o) := by decide) : Steady Q r s (t.wrBit p o i b) := h.wr hq

theorem sat16 (h : Steady Q r s t) (hq : Q (rk p o) := by decide) : Steady Q r s (t.sat16 p o) := h.wrFld hq

theorem inc32 (h : Steady Q r s t) (hq : Q (rk p o) := by decide) : Steady Q r s (t.inc32 p o) := h.wr hq

theorem setTab {v : Word} (h : Steady Q r s t) (hq : Q (tk p o) := by decide) : Steady Q r s (t.setTab p o v) := h.setKey hq

theorem setT3 {k : Nat} {v : Word} (h : Steady Q r s t) (hk : Q k) : Steady Q r s (t.setT3 k v) := (h.setKey hk).frame

theorem raise {n : Nat} {p0 p1 p2 : Word} (h : Steady Q r s t) : Steady Q r s (t.raise n p0 p1 p2) :=
  h.words (onlyRegsInlet_raise ..) SameBut.refl.raise

theorem ite {c : Prop} {_ : Decidable c} {a b : State} (ha : Steady Q r s a) (hb : Steady Q r s b) : Steady Q r s (if c then a else b) := by
  split
  · exact ha
  · exact hb

theorem when {c : Bool} {f : State → State} (h : Steady Q r s t) (hf : ∀ x, Steady Q r s x → Steady Q r s (f x)) :
    Steady Q r s (t.when c f) := .ite (hf t h) h

theorem foldl {α : Type} {f : State → α → State} {l : List α} (h : Steady Q r s t)
    (hf : ∀ x ∈ l, ∀ y, Steady Q r s y → Steady Q r s (f y x)) : Steady Q r s (l.foldl f t) := by
  induction l generalizing t with
  | nil => exact h
  | cons a l ih => exact ih (hf a List.mem_cons_self t h) fun x hx => hf x (List.mem_cons_of_mem a hx)

/-- Cells are dropped, but none of a word that stays. -/
theorem filtered {f : Nat → Bool} (h : Steady Q r s t) (hf : ∀ k, ¬Q k → f k = true)
    (regs : u.regs = t.regs.filter (fun c => f c.1) := by rfl) (farr : u.farr = t.farr := by rfl) (keep : u.keep = t.keep := by rfl) :
    Steady Q r s u := by
  have key : ∀ k, ¬Q k → u.key k = t.key k := fun k hk => by
    rw [State.key, regs, stGet, alGet_filter, if_pos (hf k hk)]
    rfl
  refine h.trans ⟨⟨fun k _ _ hk => key k hk, fun q i _ hq hi => ?_⟩, farr, by rw [keep], by rw [keep], by rw [keep], fun _ => by rw [keep]⟩
  rw [State.rb, State.rd, key _ hq]
  exact hi

theorem modLane {l : Nat} {f : Lane → Lane} (h : Steady Q r s t) : Steady Q r s (t.modLane l f) := h.frame

theorem setByte {a : Nat} {b : Byte} (h : Steady Q r s t) : Steady Q r s (t.setByte a b) := h.frame

theorem draw (h : Steady Q r s t) : Steady Q r s t.draw := h.frame

/-- A word of ERRINFO. -/
theorem error_word : rk p 0x38 % 0x20000 = 0x38 := by unfold rk; omega

theorem error {off ini cause ev : Nat} {p0 : Word} (h : Steady Q r s t) (hQ : ∀ k, k % 0x20000 = 0x38 → Q k) :
    Steady Q r s (t.error p off ini cause ev p0) := (h.wr (hQ _ error_word)).raise

/-- The update of the command register. -/
theorem refresh (h : Steady Q r s t) (hQ : ∀ k, FieldWords k → Q k) : Steady Q r s t.refresh :=
  h.kept (refresh_kept.mono hQ) (by rw [refresh_only])

theorem setLink {m : Nat} (h : Steady Q r s t) (hQ : ∀ k, FieldWords k → Q k) : Steady Q r s (t.setLink m) := by
  unfold State.setLink
  extract_lets s₁ _ s₂
  have h₁ : Steady Q r s s₁ := (h.wrFld (hQ _ (by decide))).raise
  have h₂ : Steady Q r s s₂ := h₁.frame
  exact .ite h (h₂.refresh hQ)

theorem putImage_farr {id : Nat} {l : List (Nat × DWord)} : (s.putImage id l).farr = s.farr := by
  unfold State.putImage
  induction l generalizing s with
  | nil => rfl
  | cons c l ih => exact ih

theorem substitute {src : Nat} (h : Steady Q r s t) : Steady Q r s (t.substitute src) :=
  h.kept Kept.refl.substitute (putImage_farr.trans putImage_farr)

/-! ### Lanes -/

theorem leaveWords_field : ∀ k, FieldWords k → LeaveWords k := fun _ h => .inr (.inl h)

theorem laneKey_rk {l : Nat} (hl : l < 4) (ho : o < 0x40 := by decide) : laneKey l (rk 0x06 (laneOff l o)) = true := by
  have page : keyPage (rk 0x06 (laneOff l o)) = 0x06 := rk_page _ _ (by unfold laneOff; omega)
  have off : keyOff (rk 0x06 (laneOff l o)) = laneOff l o := by unfold keyOff rk laneOff; omega
  have word : keyIsTab (rk 0x06 (laneOff l o)) = false := decide_eq_false (by unfold rk laneOff; omega)
  unfold laneKey
  rw [page, off, word, decide_eq_true (show 0x80 + 0x40 * l ≤ laneOff l o by unfold laneOff; omega),
    decide_eq_true (show laneOff l o < 0xC0 + 0x40 * l by unfold laneOff; omega)]
  rfl

theorem laneWords_rk {l : Nat} (hl : l < 4) (ho : o < 0x40 := by decide) : LaneWords l (rk 0x06 (laneOff l o)) := .inr (laneKey_rk hl ho)

theorem freeSems {c : Nat} (h : Steady LeaveWords r s t) : Steady LeaveWords r s (t.freeSems c) :=
  h.foldl fun k hk _ h' => .ite (h'.wr (.inr (.inr (.inl (rk_page _ _ (by have := List.mem_range.1 hk; omega)))))) h'

theorem vwDrop {k : VwSlot} (h : Steady LeaveWords r s t) : Steady LeaveWords r s (t.vwDrop k) := by
  unfold State.vwDrop
  extract_lets _ s₁
  have h₁ : Steady LeaveWords r s s₁ := h.frame
  split
  · exact h₁
  · exact h₁.error fun _ hk => .inr (.inr (.inr (.inr hk)))

theorem vwSettleN {n : Nat} (h : Steady LeaveWords r s t) : Steady LeaveWords r s (State.vwSettleN n t) := by
  induction n generalizing t with
  | zero => exact h
  | succ n ih =>
    have retired : Steady LeaveWords r s (t.retireSlot t.vw.base) := frame (h.wr (p := 0x07) (o := 0x58))
    exact .ite (ih retired) h

theorem vwLaneLeft {l : Nat} (h : Steady LeaveWords r s t) : Steady LeaveWords r s (t.vwLaneLeft l) := by
  unfold State.vwLaneLeft
  extract_lets _ _ s₁
  have h₁ : Steady LeaveWords r s s₁ := h.frame
  have dropped := (h₁.foldl (f := State.vwDrop) (l := s₁.vw.slots.filter fun k => k.matched.isNone && !k.dropped)
    fun _ _ _ h' => h'.vwDrop).freeSems (c := 3)
  exact .ite (frame dropped.vwSettleN) h₁

theorem voterUpdate (h : Steady LeaveWords r s t) : Steady LeaveWords r s t.voterUpdate := by
  unfold State.voterUpdate
  extract_lets _ _ s₁
  have h₁ : Steady LeaveWords r s s₁ := h.wrFld.wrFld
  exact h₁.when fun _ h' => h'.raise

theorem limpEnd {was : Bool} (h : Steady LeaveWords r s t) : Steady LeaveWords r s (t.limpEnd was) :=
  .ite (h.substitute.refresh leaveWords_field) h

theorem safeCause {c : Nat} (h : Steady LeaveWords r s t) : Steady LeaveWords r s (t.safeCause c) := by
  unfold State.safeCause
  extract_lets s₁ s₂ s₃ s₄
  have h₂ : Steady LeaveWords r s s₂ := h.wrBit.wr.sat16.raise
  have h₃ : Steady LeaveWords r s s₃ := substitute (h₂.kept Kept.refl.copyImage putImage_farr)
  have h₄ : Steady LeaveWords r s s₄ := h₃.when fun _ h' => h'.frame
  exact .ite (limpEnd h.wrBit) (h₄.refresh leaveWords_field)

theorem lineCauses (h : Steady LeaveWords r s t) : Steady LeaveWords r s t.lineCauses := by
  unfold State.lineCauses
  extract_lets s₁ s₂ s₃ s₄
  have h₁ : Steady LeaveWords r s s₁ := h.when fun _ h' => h'.frame
  have h₂ : Steady LeaveWords r s s₂ := h₁.when fun _ h' => h'.safeCause
  have h₃ : Steady LeaveWords r s s₃ := h₂.when fun _ h' => h'.safeCause
  have h₄ : Steady LeaveWords r s s₄ := h₃.when fun _ h' => h'.safeCause
  exact h₄.when fun _ h' => h'.safeCause

theorem ocEnd {n : Nat} (h : Steady LeaveWords r s t) : Steady LeaveWords r s (t.ocEnd n) := .ite h.wrFld.wrFld h

/-- What follows once a lane's state code has been written. -/
theorem setLane_follows {l code : Nat} : Steady LeaveWords r (s.wrFld 0x06 (laneOff l 4) 0 3 code) (s.setLane l code) := by
  unfold State.setLane
  extract_lets _ _ s₁ s₂ s₃
  have h₂ : Steady LeaveWords r s₁ s₂ := vwLaneLeft .refl
  have h₃ : Steady LeaveWords r s₁ s₃ := h₂.voterUpdate
  exact .ite (limpEnd (h₃.when fun _ h' => h'.safeCause.ocEnd)) (.ite (limpEnd .refl) .refl)

theorem setLane {l code : Nat} (h : Steady (LaneWords l) r s t) (hl : l < 4) : Steady (LaneWords l) r s (t.setLane l code) :=
  (h.wrFld (laneWords_rk hl)).step setLane_follows fun _ => .inl

theorem endSplit {l : Nat} (h : Steady (LaneWords l) r s t) (hl : l < 4) : Steady (LaneWords l) r s (t.endSplit l) :=
  .ite ((h.wrBit (laneWords_rk hl)).wrBit (laneWords_rk hl)).modLane h

theorem offLane {l : Nat} (h : Steady (LaneWords l) r s t) (hl : l < 4) : Steady (LaneWords l) r s (t.offLane l) :=
  modLane (setLane ((h.endSplit hl).wrBit (.inl (by decide))) hl)

theorem resetLane {l : Nat} (h : Steady (LaneWords l) r s t) (hl : l < 4) : Steady (LaneWords l) r s (t.resetLane l) := by
  unfold State.resetLane
  extract_lets _ s₁ s₂ s₃ s₄
  have h₁ : Steady (LaneWords l) r s s₁ := (h.endSplit hl).wrBit (.inl (by decide))
  have h₂ : Steady (LaneWords l) r s s₂ := .ite (h₁.setT3 (laneWords_rk hl)) h₁
  have h₄ : Steady (LaneWords l) r s s₄ := (h₂.setLane hl).modLane
  exact h₄.when fun _ h' => h'.raise

theorem failLane {l cause : Nat} (h : Steady (LaneWords l) r s t) (hl : l < 4) : Steady (LaneWords l) r s (t.failLane l cause) := by
  unfold State.failLane
  extract_lets s₁ s₂ s₃ s₄ s₅ s₆
  have h₃ : Steady (LaneWords l) r s s₃ := ((h.wrFld (laneWords_rk hl)).wr (laneWords_rk hl)).sat16 (laneWords_rk hl)
  have h₅ : Steady (LaneWords l) r s s₅ := h₃.modLane.wrBit (laneWords_rk hl)
  exact (h₅.setLane hl).raise

end Steady

/-- The word of a lane's state code is not written as a lane leaves its state. -/
theorem not_leaveWords_state {l : Nat} (hl : l < 3) : ¬LeaveWords (rk 0x06 (laneOff l 4)) := by
  match l, hl with
  | 0, _ | 1, _ | 2, _ => decide

theorem laneState_setLane {l code : Nat} (hl : l < 3) (hc : code < 8) : (s.setLane l code).laneState l = code := by
  have follows := (Steady.setLane_follows (r := True) (s := s) (l := l) (code := code)).rf (p := 0x06) (o := laneOff l 4) (lo := 0) (n := 3)
    (by decide) (by unfold laneOff; omega) (by unfold laneOff; omega) (not_leaveWords_state hl)
  rw [State.laneState, follows, rf_wrFld_self _ _ _ _ _ _ (by decide)]
  exact Nat.mod_eq_of_lt hc

theorem laneState_offLane {l : Nat} (hl : l < 3) : (s.offLane l).laneState l = 0 :=
  Eq.trans (laneState_congr (modLane_regs ..) l) (laneState_setLane hl (by decide))

theorem laneState_failLane {l cause : Nat} (hl : l < 3) : (s.failLane l cause).laneState l = 6 := by
  unfold State.failLane
  extract_lets s₁ s₂ s₃ s₄ s₅ s₆
  have raised : SameBut (fun _ => False) s₆ (s₆.raise (laneEv l 5) (w32 cause) 0 0) := SameBut.refl.raise
  rw [State.laneState, raised.rf (by decide) (by unfold laneOff; omega) (by unfold laneOff; omega) id]
  exact laneState_setLane hl (by decide)

end Sys2Proof.Machine
end

section
set_option Elab.async false -- one proof after the other: each further worker thread takes its stack from the check's memory
/-! SUPPORT. Units that start, and a tack set that is loaded or left out (R110, R112 to R114): the words of SYS and FARR stay. -/

namespace Sys2Proof.Machine

variable {Q : Nat → Prop} {r : Prop} {s t u : State} {p o : Nat}

/-- Every word outside SYS and FARR, and ERRINFO of every page. -/
abbrev Elsewhere (k : Nat) : Prop := (keyPage k ≠ 0x00 ∧ keyPage k ≠ 0x04) ∨ k % 0x20000 = 0x38

theorem elsewhere_rk (hp : p ≠ 0x00 ∧ p ≠ 0x04) (ho : o < 0x20000 := by decide) : Elsewhere (rk p o) :=
  .inl (by rw [rk_page _ _ ho]; exact hp)

/-- A register of SYS or FARR that is neither ERRINFO nor beyond its page stays. -/
theorem not_elsewhere_rk (hp : p = 0x00 ∨ p = 0x04) (ho : o ≠ 0x38) (hl : o < 0x20000) : ¬Elsewhere (rk p o) := by
  rintro (h | h)
  · rw [rk_page _ _ hl] at h; omega
  · unfold rk at h; omega

theorem elsewhere_field : ∀ k, FieldWords k → Elsewhere k := fun k h => .inl (by rcases h with h | h <;> omega)

theorem elsewhere_lane {l : Nat} : ∀ k, LaneWords l k → Elsewhere k := by
  rintro k ((h | h | h | h | h) | h)
  · exact .inl (by omega)
  · exact elsewhere_field k h
  · exact .inl (by omega)
  · exact .inl (by rw [h]; decide)
  · exact .inr h
  · simp only [laneKey, Bool.and_eq_true, decide_eq_true_eq] at h
    exact .inl (by omega)

theorem elsewhere_cam {c : Nat} (ho : o < 0x20000 := by decide) : Elsewhere (rk (camPage c) o) := elsewhere_rk (by unfold camPage; omega) ho

theorem elsewhere_dsp {d : Nat} (ho : o < 0x20000 := by decide) : Elsewhere (rk (dspPage d) o) := elsewhere_rk (by unfold dspPage; omega) ho

namespace Steady

/-! ### Cameras, display ports, the MVB controller -/

theorem applyShadows {sel : Nat → Bool} (h : Steady Elsewhere r s t) (hp : p ≠ 0x00 ∧ p ≠ 0x04) :
    Steady Elsewhere r s (t.applyShadows p sel) := by
  have taken : Steady Elsewhere r s (t.takeShadows p sel) := by
    unfold State.takeShadows
    extract_lets l s₁ s₂
    have h₁ : Steady Elsewhere r s s₁ := h.foldl fun c hc _ h' => by
      have home := (List.mem_filter.1 hc).2
      simp only [Bool.and_eq_true, decide_eq_true_eq] at home
      exact h'.setT3 (.inl (by rw [home.1]; exact hp))
    have h₂ : Steady Elsewhere r s s₂ := h₁.frame
    exact h₂.wrBit (elsewhere_rk hp)
  exact .ite h ((taken.wrFld (elsewhere_rk hp)).wrBit (elsewhere_rk hp))

theorem offsetsStale (h : Steady Q r s t) : Steady Q r s t.offsetsStale := h.frame

theorem modCam {c : Nat} {f : Cam → Cam} (h : Steady Q r s t) : Steady Q r s (t.modCam c f) := h.frame

theorem setCam {c st : Nat} (h : Steady Elsewhere r s t) : Steady Elsewhere r s (t.setCam c st) := by
  unfold State.setCam
  extract_lets _ _ s₁
  have h₁ : Steady Elsewhere r s s₁ := ((h.wrFld elsewhere_cam).wrBit elsewhere_cam).wr.wr
  exact .ite h₁ h₁.raise

theorem i2cAbort {c : Nat} (h : Steady Elsewhere r s t) : Steady Elsewhere r s (t.i2cAbort c) := .ite (h.wr elsewhere_cam) h

theorem camStop {c : Nat} (h : Steady Elsewhere r s t) : Steady Elsewhere r s (t.camStop c) := .ite h h.setCam.modCam.i2cAbort

theorem camRetime {c : Nat} (h : Steady Elsewhere r s t) : Steady Elsewhere r s (t.camRetime c) := by
  unfold State.camRetime
  extract_lets s₁
  have h₁ : Steady Elsewhere r s s₁ := h.foldl fun _ _ _ h' => .ite h'.frame h'
  exact .ite h (h₁.applyShadows (by decide)).offsetsStale

theorem camLinking {c : Nat} (h : Steady Elsewhere r s t) : Steady Elsewhere r s (t.camLinking c) := by
  unfold State.camLinking
  extract_lets _ s₁ s₂ s₃
  have h₁ : Steady Elsewhere r s s₁ := .ite h (h.applyShadows (by unfold camPage; omega)).offsetsStale
  have h₃ : Steady Elsewhere r s s₃ := h₁.camRetime.wrFld elsewhere_cam
  exact .ite h₃.setCam.modCam (.camStop (.raise (h.wr elsewhere_cam)))

theorem setDsp {d st : Nat} (h : Steady Elsewhere r s t) : Steady Elsewhere r s (t.setDsp d st) := by
  unfold State.setDsp
  extract_lets _ s₁ s₂ s₃
  have h₁ : Steady Elsewhere r s s₁ := h.wrFld elsewhere_dsp
  have h₂ : Steady Elsewhere r s s₂ := h₁.when fun _ h' => h'.wrFld elsewhere_dsp
  have h₃ : Steady Elsewhere r s s₃ := h₂.when fun _ h' => h'.wrBit elsewhere_dsp
  exact .ite h₃.raise (.ite h₃.raise h₃)

theorem dspStart {d : Nat} (h : Steady Elsewhere r s t) : Steady Elsewhere r s (t.dspStart d) := by
  unfold State.dspStart State.dspTrain
  extract_lets _ s₁ s₂ s₃
  have h₁ : Steady Elsewhere r s s₁ := h.applyShadows (by unfold dspPage; omega)
  have h₂ : Steady Elsewhere r s s₂ := (h₁.applyShadows (by decide)).offsetsStale
  have h₃ : Steady Elsewhere r s s₃ := h₂.frame
  exact .ite h (.ite h₁ (.ite h₃.setDsp h₁.raise))

theorem setMvbRole {n : Nat} (h : Steady Elsewhere r s t) : Steady Elsewhere r s (t.setMvbRole n) := by
  unfold State.setMvbRole
  extract_lets _ s₁ _ s₂
  have h₁ : Steady Elsewhere r s s₁ := h.wrFld
  have h₂ : Steady Elsewhere r s s₂ := h₁.frame
  have h₃ : Steady Elsewhere r s s₂.mvbCalm := h₂.frame
  exact .ite h₂.raise (.ite h₃.raise h₂)

theorem startUnits (h : Steady Elsewhere r s t) : Steady Elsewhere r s t.startUnits := by
  unfold State.startUnits
  extract_lets s₁ s₂ s₃
  have h₁ : Steady Elsewhere r s s₁ := h.foldl fun _ _ _ h' => .ite h'.camLinking h'
  have h₂ : Steady Elsewhere r s s₂ := h₁.foldl fun _ _ _ h' => .ite h'.dspStart h'
  have h₃ : Steady Elsewhere r s s₃ := h₂.foldl fun _ _ _ h' => .ite h'.frame h'
  exact .ite h₃ (.ite (.ite h₃.setMvbRole h₃) (.ite h₃.setMvbRole h₃))

/-! ### Contents -/

theorem clearTs {sel : Nat → Bool} (h : Steady Q r s t) (hs : ∀ k, ¬Q k → ((accOf k).ts && sel k) = false) :
    Steady Q r s (t.clearTs sel) :=
  h.filtered (f := fun k => !((accOf k).ts && sel k)) fun k hk => by rw [hs k hk]; rfl

/-- Contents put into words that may change: those that `sel` chooses, or those that a set may name. -/
theorem putContents {ts : TackSet} {sel : Nat → Bool} (h : Steady Q r s t) (hs : ∀ k, ¬Q k → ((accOf k).ts && sel k) = false)
    (hc : ∀ c ∈ ts.contents, sel (contentKey c) = true → Q (contentKey c)) : Steady Q r s (t.putContents ts sel) :=
  (h.clearTs hs).foldl fun c mem _ h' => h'.setT3 (hc c (List.mem_filter.1 mem).1 (List.mem_filter.1 mem).2)

/-- The contents of pages loaded again. -/
theorem reloadPages {sel : Nat → Bool} (h : Steady Elsewhere r s t) (hs : ∀ k, sel k = true → Elsewhere k) :
    Steady Elsewhere r s (t.reloadPages sel) :=
  have off : ∀ k, ¬Elsewhere k → ((accOf k).ts && sel k) = false := fun k hk => by
    rw [Bool.eq_false_iff.2 fun e => hk (hs k e), Bool.and_false]
  .ite ((h.putContents off fun _ _ e => hs _ e).startUnits.refresh elsewhere_field) h

end Steady

end Sys2Proof.Machine
end

section
set_option Elab.async false -- one proof after the other: each further worker thread takes its stack from the check's memory
/-! SUPPORT. Runs of the farrier (R115 to R120): the comparison of a block, the report, and the rotation of a lane (R397). -/

namespace Sys2Proof.Machine

variable {Q : Nat → Prop} {r : Prop} {s t u : State} {p o b : Nat}

/-! ### Tests that take a link out of service -/

theorem Steady.xlinkTestStarts (h : Steady Elsewhere r s t) : Steady Elsewhere r s t.xlinkTestStarts := .ite h.wrBit.raise h

theorem Steady.fioTestStarts (h : Steady Elsewhere r s t) : Steady Elsewhere r s t.fioTestStarts := .ite (h.setLink elsewhere_field) h

theorem Steady.fioRelease (h : Steady Q r s t) (hQ : ∀ k, FieldWords k → Q k) : Steady Q r s t.fioRelease := .ite (h.setLink hQ) h

/-! ### The comparison of a block -/

theorem blockRes_setRes {n : Nat} (hn : n < 4) : (s.setRes b n).blockRes b = n := by
  rw [State.blockRes, State.setRes, rf_wrFld_self _ _ _ _ _ _ (by omega)]
  exact Nat.mod_eq_of_lt hn

/-- `t` shows result `n` of block `b`, whose word in the table and whose run's list of blocks are those of `s`. -/
structure Judged (b n : Nat) (s t : State) : Prop where
  left : t.farr.left = s.farr.left
  sig : t.tab 0x04 b = s.tab 0x04 b
  res : t.blockRes b = n

theorem Judged.step {n : Nat} (h : Judged b n s t) (g : Steady Elsewhere r t u) (hb : b < 64) : Judged b n s u := by
  refine ⟨(congrArg (·.left) g.farr).trans h.left, ?_, ?_⟩
  · have word : ¬Elsewhere (tk 0x04 b) := by unfold Elsewhere keyPage tk; omega
    have page : keyPage (tk 0x04 b) ≠ 0x02 := by unfold keyPage tk; omega
    exact (g.key _ page (fun q e => by unfold tk rk at e; omega) word).trans h.sig
  · exact (g.rf (by decide) (by omega) (by omega) (not_elsewhere_rk (.inr rfl) (by omega) (by omega))).trans h.res

/-- The result is written, with whatever changes beside the registers. -/
theorem judged_setRes {n : Nat} (hn : n < 4) (h : Steady Elsewhere r s t) (hb : b < 64) (regs : u.regs = (t.setRes b n).regs := by rfl)
    (farr : u.farr = t.farr := by rfl) : Judged b n s u := by
  have before : Judged b (s.blockRes b) s t := Judged.step ⟨rfl, rfl, rfl⟩ h hb
  have word : (t.setRes b n).tab 0x04 b = t.tab 0x04 b := (tab_wr ..).trans (if_neg (by unfold rk tk; omega))
  have res : u.blockRes b = (t.setRes b n).blockRes b := by rw [State.blockRes, State.rf, rd_congr regs]; rfl
  exact ⟨(congrArg (·.left) farr).trans before.left, (tab_congr regs ..).trans (word.trans before.sig), res.trans (blockRes_setRes hn)⟩

/-- A block's pages are not those of SYS or of the farrier. -/
theorem elsewhere_blockHolds {k : Nat} (h : blockHolds b (keyPage k) = true) : Elsewhere k := by
  refine .inl ⟨fun e => ?_, fun e => ?_⟩
  · rw [e] at h; exact Bool.noConfusion h
  · rw [e] at h; exact Bool.noConfusion h

theorem elsewhere_laneKey {l k : Nat} (h : laneKey l k = true) : Elsewhere k := elsewhere_lane (l := l) k (.inr h)

theorem laneState_word {l : Nat} (hl : l < 3) : Elsewhere (rk 0x06 (laneOff l 4)) := elsewhere_rk (by decide) (by unfold laneOff; omega)

/-- A block that passes. -/
theorem passBlock_judged (hb : b < 64) : Judged b 1 s (s.passBlock b) := by
  unfold State.passBlock
  extract_lets was _ _ s₁ s₂
  have h₁ : Judged b 1 s s₁ := judged_setRes (r := True) (n := 1) (by decide) .refl hb
  have h₂ : Steady Elsewhere True s₁ s₂ := by
    unfold s₂
    split
    · next lane => exact Steady.refl.wrBit (laneState_word lane)
    · exact .refl
  refine h₁.step (r := True) ?_ hb
  refine .ite (((h₂.reloadPages fun k chosen => ?_).fioRelease elsewhere_field).refresh elsewhere_field) h₂
  simp only [Bool.or_eq_true, Bool.and_eq_true] at chosen
  rcases chosen with chosen | chosen
  · exact elsewhere_blockHolds chosen.1
  · exact elsewhere_laneKey chosen.2

/-- A block that fails is held in reset with its pages (R118). -/
theorem failBlock_judged (hb : b < 64) : Judged b 2 s (s.failBlock b) := by
  unfold State.failBlock
  extract_lets s₁ _ _ s₂ s₃ _ s₄
  have pages : Steady Elsewhere True s (s.resetPages (blockHolds b)) :=
    Steady.refl.filtered (f := fun k => !blockHolds b (keyPage k)) fun k hk => by
      rw [Bool.eq_false_iff.2 fun held => hk (elsewhere_blockHolds held)]; rfl
  have h₁ : Steady Elsewhere True s s₁ := pages.frame
  have h₂ : Judged b 2 s s₂ := judged_setRes (n := 2) (by decide) h₁ hb
  have h₃ : Steady Elsewhere True s₂ s₃ := by
    unfold s₃
    split
    · next lane =>
      have cleared : Steady Elsewhere True s₂ (s₂.clearTs (laneKey b)) := Steady.refl.clearTs fun k hk => by
        rw [Bool.eq_false_iff.2 fun own => hk (elsewhere_laneKey own), Bool.and_false]
      exact (cleared.step (Steady.refl.offLane (by omega)) elsewhere_lane).wrBit (laneState_word lane)
    · exact .refl
  have counted : Judged b 2 s { s₃ with farr := { s₃.farr with anyFail := true } } := by
    obtain ⟨left, sig, res⟩ := h₂.step h₃ hb
    exact ⟨left, sig, res⟩
  have h₄ : Steady Elsewhere True { s₃ with farr := { s₃.farr with anyFail := true } } s₄ := Steady.refl.raise
  exact counted.step (h₄.refresh elsewhere_field) hb

/-- COMPARE: the block's signature stands in the table, its result shows whether that is the golden one, and the run has the blocks
left (R117, R120). -/
theorem compareBlock_shows {sig : Word} {rest : List Nat} (hb : b < 64) (left : s.farr.left = b :: rest) :
    (s.compareBlock sig).farr.left = rest ∧ (s.compareBlock sig).tab 0x04 b = sig ∧
      (s.compareBlock sig).blockRes b = if sig = stGet 0 s.keep.golden b then 1 else 2 := by
  unfold State.compareBlock
  simp -zeta only [left]
  extract_lets s₁ _ s₂ s₃ s₄
  have written : s₂.tab 0x04 b = sig :=
    (tab_setTab ..).trans ((if_neg (by unfold tk; omega)).trans ((tab_setTab ..).trans (if_pos rfl)))
  have judged : Judged b (if sig = stGet 0 s.keep.golden b then 1 else 2) s₂ s₃ := by
    have golden : s₂.keep.golden = s.keep.golden := rfl
    unfold s₃
    rw [golden]
    split
    · exact passBlock_judged hb
    · exact failBlock_judged hb
  have h₄ : Steady Elsewhere True s₃ s₄ := Steady.refl.xlinkTestStarts
  have started : Steady Elsewhere True s₃ (if s₄.fioTested then s₄.fioTestStarts else s₄) := .ite h₄.fioTestStarts h₄
  obtain ⟨l, w, res⟩ := judged.step started hb
  exact ⟨l, w.trans written, res⟩

/-! ### The end of a run -/

/-- Every word but PSTAT of the farrier. -/
abbrev BesideStat (k : Nat) : Prop := k ≠ rk 0x04 0x0C

theorem besideStat_field : ∀ k, FieldWords k → BesideStat k := by
  rintro k h rfl
  revert h
  decide

theorem Steady.boxDone {n err : Nat} {resp : List Word} (h : Steady Q r s t) (hQ : ∀ k, BoxWords n k → Q k) :
    Steady Q r s (t.boxDone n err resp) := by
  have only : OnlyAnswer t (t.boxDone n err resp) := OnlyAnswer.refl.boxDone
  refine h.kept (Kept.refl.boxDone hQ) ?_
  unfold OnlyAnswer at only
  rw [only]

theorem Steady.updService (h : Steady Q r s t) (hq : Q (rk 0x00 0x58) := by decide) : Steady Q r s t.updService := .ite (h.wr hq) h

/-- REPORT: no run stands any more, and PSTAT shows none beside what it showed (R120). -/
theorem report_ends : s.report.farr = {} ∧ s.report.rd 0x04 0x0C = setFld (s.rd 0x04 0x0C) 0 2 0 := by
  unfold State.report State.showRes
  extract_lets f s₁ s₂ s₃ _ s₄ s₅ s₆ s₇
  have results : Steady BesideStat True s s₁ := Steady.refl.foldl fun _ _ _ h' => h'.wrFld (by unfold BesideStat rk; omega)
  have numbers : Steady BesideStat True s₂ ((s₂.wrFld 0x04 0x58 0 24 (min 0xFF_FFFF ((s₂.tb.count - f.started) / 1000))).sat16 0x04 0x5C) :=
    Steady.refl.wrFld.sat16
  have h₄ : Steady BesideStat True s₃ s₄ := Steady.refl.wrBit
  have h₅ : Steady BesideStat True s₃ s₅ := h₄.when fun _ h' => h'.raise
  have h₆ : Steady BesideStat True s₃ s₆ := h₅.when fun _ h' => h'.raise
  have h₇ : Steady BesideStat True s₃ s₇ := h₆.when fun _ h' => h'.raise
  have shown : Steady BesideStat True s₃ s₇.tryParallel.updService := .updService (.ite (h₇.setLink besideStat_field) h₇)
  refine ⟨shown.farr.trans ((wrFld_farr ..).trans numbers.farr), shown.rd.trans ?_⟩
  have before : s₂.rd 0x04 0x0C = s.rd 0x04 0x0C := results.rd
  exact (rd_wrFld_self ..).trans (congrArg (setFld · 0 2 0) (numbers.rd.trans before))

/-- A bit of a field that has been set. -/
theorem bit_setFld_in {w : Word} {lo n x j : Nat} (h : lo + n ≤ 32) (hj : j < n) : bit (setFld w lo n x) (lo + j) = x.testBit j := by
  rw [bit, getLsbD_setFld _ _ _ _ _ h, if_pos (by omega), Nat.add_sub_cancel_left]

/-- The preconditions that failed are shown with the end of the run. -/
theorem preFail_shows {supplyOk clockOk tempOk : Bool} : (s.preFail supplyOk clockOk tempOk).farr = {} ∧
    (s.preFail supplyOk clockOk tempOk).rf 0x04 0x0C 0 2 = 0 ∧ (s.preFail supplyOk clockOk tempOk).rb 0x04 0x0C 8 = !supplyOk ∧
      (s.preFail supplyOk clockOk tempOk).rb 0x04 0x0C 9 = !clockOk ∧ (s.preFail supplyOk clockOk tempOk).rb 0x04 0x0C 10 = !tempOk := by
  have ends := report_ends (s := s.wrFld 0x04 0x0C 8 3 (b2n (!supplyOk) + 2 * b2n (!clockOk) + 4 * b2n (!tempOk)))
  obtain ⟨idle, word⟩ := ends
  rw [rd_wrFld_self] at word
  have flag : ∀ j, j < 3 → (s.preFail supplyOk clockOk tempOk).rb 0x04 0x0C (8 + j) =
      (b2n (!supplyOk) + 2 * b2n (!clockOk) + 4 * b2n (!tempOk)).testBit j := fun j hj => by
    rw [State.rb, State.preFail, word, bit_setFld_ne _ _ _ _ _ (by decide) (by omega), bit_setFld_in (by decide) hj]
  have flags : ∀ a b c : Bool, (b2n a + 2 * b2n b + 4 * b2n c).testBit 0 = a ∧ (b2n a + 2 * b2n b + 4 * b2n c).testBit 1 = b ∧
      (b2n a + 2 * b2n b + 4 * b2n c).testBit 2 = c := by decide
  refine ⟨idle, ?_, (flag 0 (by decide)).trans ?_, (flag 1 (by decide)).trans ?_, (flag 2 (by decide)).trans ?_⟩
  · rw [State.rf, State.preFail, word, fld_setFld_self _ _ _ _ (by decide)]; rfl
  · exact (flags _ _ _).1
  · exact (flags _ _ _).2.1
  · exact (flags _ _ _).2.2

/-! ### The rotation of a lane -/

/-- Beside registers and the inlet queue, a change of the link's mode changes the board's own state. -/
theorem setLink_only (s : State) (m : Nat) :
    s.setLink m = { s with regs := (s.setLink m).regs, inlet := (s.setLink m).inlet, field := (s.setLink m).field } := by
  unfold State.setLink
  split
  · rfl
  · extract_lets s₁ _ s₂
    have only : OnlyRegsInlet s s₁ := (onlyRegsInlet_wrFld ..).trans' (onlyRegsInlet_raise ..)
    have put : s₂ = { s with regs := s₂.regs, inlet := s₂.inlet, field := s₂.field } := by
      unfold OnlyRegsInlet at only
      unfold s₂
      rw [only]
    rw [refresh_only, put]

/-- Beside these, the start of a run changes the farrier's own state. -/
theorem startRun_only {run : FarrRun} {blocks : List Nat} :
    s.startRun run blocks = { s with regs := (s.startRun run blocks).regs, inlet := (s.startRun run blocks).inlet,
                                     field := (s.startRun run blocks).field, farr := (s.startRun run blocks).farr } := by
  unfold State.startRun
  extract_lets s₁ m s₂ s₃
  have written : OnlyRegsInlet s₁ s₃ := (((onlyRegsInlet_wr ..).trans' (onlyRegsInlet_wr ..)).trans' (onlyRegsInlet_wrFld ..)).trans'
    (onlyRegsInlet_wrFld ..)
  have partner : OnlyRegsInlet s₃ s₃.xlinkTestStarts := .ite ((onlyRegsInlet_wrBit ..).trans' (onlyRegsInlet_raise ..)) (.rfl' _)
  have words := written.trans' partner
  unfold OnlyRegsInlet at words
  unfold State.fioTestStarts
  split
  · rw [setLink_only, words]
  · rw [words]

/-- With three lanes VOTING every lane is. -/
theorem voting_of_count {l : Nat} (h : s.votingCount = 3) (hl : l < 3) : s.laneState l = 3 := by
  have all := List.length_filter_eq_length_iff.1 (show ([0, 1, 2].filter s.voting).length = [0, 1, 2].length from h)
  exact of_decide_eq_true (all l (by simp; omega))

/-- What follows a change of lane states is of the LANE page and the reintegration. -/
theorem Steady.reintFollow (h : Steady Elsewhere r s t) : Steady Elsewhere r s t.reintFollow := by
  have same : SameBut Elsewhere t t.reintFollow := reintFollow_sameBut.mono fun k hk => .inl (by
    rcases hk with hk | rfl
    · omega
    · decide)
  obtain ⟨_, _, _, _, eq⟩ := reintFollow_rest t
  exact h.trans ⟨same, by rw [eq], by rw [eq], by rw [eq], by rw [eq], fun _ => by rw [eq]⟩

/-- The rotation fails the lane that is next and starts its test (R397). -/
theorem rotate_starts (on : s.rb 0x50 0x40 2 = true) (out : s.role = 2) (three : s.votingCount = 3) (idle : s.farr.run = .idle)
    (none : s.dup.rotating = Option.none) :
    s.rotate.farr.run = .rotation (Fin.ofNat 3 (s.dup.rotNext % 3)) ∧ s.rotate.farr.left = [s.dup.rotNext % 3] ∧
      s.rotate.dup.rotNext = (s.dup.rotNext % 3 + 1) % 3 ∧ s.rotate.laneState (s.dup.rotNext % 3) = 6 ∧
      s.rotate.reintState = s.reintState := by
  unfold State.rotate
  rw [if_neg (by simp [on, out, three, idle, none])]
  extract_lets l s₁ _ s₂
  have lt : l < 3 := Nat.mod_lt _ (by decide)
  have fails : s₁ = s.failLane l 9 := if_pos (by simp [voting_of_count three lt])
  have failed : Steady (LaneWords l) True s s₁ := fails ▸ Steady.refl.failLane (by omega)
  have reint : s₂.rd 0x07 0x60 = s.rd 0x07 0x60 := failed.rd (hq := by
    rintro (h | h)
    · exact absurd h (by decide)
    · exact Bool.noConfusion h)
  obtain ⟨run, tested⟩ := startRun_starts (s := s₂) (run := .rotation (Fin.ofNat 3 l)) (blocks := [l])
  have lane : ¬TestWords (rk 0x06 (laneOff l 4)) := by
    rw [TestWords, FieldWords, rk_page _ _ (by unfold laneOff; omega)]; decide
  refine ⟨by rw [run], by rw [run], by rw [startRun_only], ?_, ?_⟩
  · exact (tested.rf (by decide) (by unfold laneOff; omega) (by unfold laneOff; omega) lane).trans
      (fails ▸ laneState_failLane (s := s) (cause := 9) lt : s₁.laneState l = 6)
  · exact congrArg (fld · 0 3) (tested.rd.trans reint)

end Sys2Proof.Machine
end

section
set_option Elab.async false -- one proof after the other: each further worker thread takes its stack from the check's memory
open Sys2Proof Sys2Proof.Machine

/-- Settles O38: the precheck by its branches, the comparison of a block, the report of a run that a precondition ends, and the rotation. -/
theorem farrierRuns : Obligations.FarrierRuns := by
  unfold Obligations.FarrierRuns
  refine ⟨fun expired s runs unchecked => ?_, fun sOk cOk tOk s boot unchecked bad => ?_, fun sig b c rest s runs left hb _ => ?_,
    fun sOk cOk tOk inst s run bad => ?_, fun s on out three idle none free => ?_⟩
  · have passes : s.precheck true true true expired = { s with farr := { s.farr with checked := true } } := by
      unfold State.precheck
      rw [if_neg (by simp [runs, unchecked])]
      rfl
    exact completes_of rfl (fun _ h => by rw [h]) passes
  · have waits : s.precheck sOk cOk tOk false = s := by
      unfold State.precheck
      rw [if_neg (by simp [boot, unchecked]), if_neg (by simp [bad]), if_pos (by simp [boot])]
    exact completes_of rfl (fun _ h => by rw [h]) waits
  · obtain ⟨remains, word, result⟩ := compareBlock_shows (sig := sig) hb left
    have goesOn : s.blockDone sig true true true = s.compareBlock sig := by
      unfold State.blockDone
      extract_lets run t
      rw [if_neg runs, if_neg (by decide), if_neg (by simp [t, remains])]
    refine completes_of rfl (fun _ h => h) ?_
    rw [goesOn]
    obtain ⟨l, w, res⟩ := Judged.step (b := b) ⟨rfl, rfl, rfl⟩ (Steady.refl (r := True)).reintFollow hb
    exact ⟨l.trans remains, w.trans word, res.trans result⟩
  · refine completes_of rfl (fun _ h => h) ?_
    rw [if_neg (by simp [run, bad]), run]
    have ended : Steady BesideStat True (s.preFail sOk cOk tOk) ((s.preFail sOk cOk tOk).runEnded (.runtime inst)) :=
      .ite (Steady.refl.boxDone fun k hk e => by
        have page := boxPage_ne inst.isLt
        rw [e] at hk
        have : boxPage inst.val = 0x04 := hk.symm
        omega) .refl
    obtain ⟨idle, running, supply, clock, temp⟩ := preFail_shows (s := s) (supplyOk := sOk) (clockOk := cOk) (tempOk := tOk)
    exact ⟨by rw [ended.farr, idle], ended.rf.trans running, ended.rb.trans supply, ended.rb.trans clock, ended.rb.trans temp⟩
  · obtain ⟨run, left, next, lane, reint⟩ := rotate_starts on out three idle none
    have still : s.rotate.reintState ∉ [2, 3, 4] := by
      simp only [State.reintBusy, Bool.and_eq_false_iff, decide_eq_false_iff_not] at free
      rw [reint]
      simp only [List.mem_cons, List.not_mem_nil, or_false]
      omega
    refine completes_of rfl (fun _ h => h) ?_
    rw [reintFollow_idle still]
    exact ⟨run, left, next, lane⟩
end

section
set_option Elab.async false -- one proof after the other: each further worker thread takes its stack from the check's memory
/-! SUPPORT. Phases 5 to 8 of the boot (R107): the tack set, the lane image and the restart leave RESET_CAUSE as it was. -/

namespace Sys2Proof.Machine

variable {Q : Nat → Prop} {r : Prop} {s t u : State} {p o : Nat}

/-- Every word but RESET_CAUSE. -/
abbrev BesideCause (k : Nat) : Prop := k ≠ rk 0x00 0x40

theorem besideCause_rk (h : p ≠ 0x00) : BesideCause (rk p o) := by unfold BesideCause rk; omega

theorem besideCause_page {k : Nat} (h : p ≠ 0x00) (hk : keyPage k = p) : BesideCause k := fun e => h (by rw [← hk, e]; rfl)

theorem besideCause_tk : BesideCause (tk p o) := by unfold BesideCause tk rk; omega

theorem besideCause_elsewhere : ∀ k, Elsewhere k → BesideCause k := fun _ h e =>
  not_elsewhere_rk (.inl rfl) (by decide) (by decide) (e ▸ h)

theorem besideCause_field : ∀ k, FieldWords k → BesideCause k := fun k h => besideCause_elsewhere k (elsewhere_field k h)

/-- A tack set loads no word of those that stay. -/
abbrev StaysOut (Q : Nat → Prop) : Prop := ∀ k, ¬Q k → (accOf k).ts = false

theorem besideCause_out : StaysOut BesideCause := fun k hk => by
  rw [Decidable.not_not.1 hk]
  decide

namespace Steady

/-! ### Tack set -/

theorem clearTs_of (h : Steady Q r s t) (out : StaysOut Q) {sel : Nat → Bool} : Steady Q r s (t.clearTs sel) :=
  h.clearTs fun k hk => by rw [out k hk, Bool.false_and]

theorem fioChanged {old : State} (h : Steady BesideCause r s t) : Steady BesideCause r s (t.fioChanged old) := by
  unfold State.fioChanged
  extract_lets s₁
  have h₁ : Steady BesideCause r s s₁ := h.foldl fun _ _ _ h' => .ite (h'.setTab besideCause_tk) h'
  exact h₁.foldl fun _ _ _ h' => .ite h' (h'.wr (besideCause_rk (by decide)))

theorem setTabBytes {n : Nat} {d : List Byte} (h : Steady BesideCause r s t) : Steady BesideCause r s (t.setTabBytes p o n d) :=
  h.foldl fun _ _ _ h' => h'.setTab besideCause_tk

theorem putCan {i x : Nat} (h : Steady BesideCause r s t) : Steady BesideCause r s (t.putCan i x) :=
  .ite (h.error fun _ hk => besideCause_elsewhere _ (.inr hk)) h.setTabBytes

theorem putMvb {i x : Nat} (h : Steady BesideCause r s t) : Steady BesideCause r s (t.putMvb i x) := h.setTabBytes

theorem putDs {i x : Nat} (h : Steady Q r s t) : Steady Q r s (t.putDs i x) := h.frame

theorem putView {up : Bool} {i x : Nat} (h : Steady Q r s t) : Steady Q r s (t.putView up i x) := h.frame

theorem substOutputs (h : Steady BesideCause r s t) : Steady BesideCause r s t.substOutputs := by
  unfold State.substOutputs
  extract_lets _ _ s₁ s₂ s₃ _ s₄ s₅
  have h₁ : Steady BesideCause r s s₁ := h.foldl fun _ _ _ h' => h'.putCan
  have h₂ : Steady BesideCause r s s₂ := .ite h₁ (h₁.foldl fun _ _ _ h' => h'.putMvb)
  have h₃ : Steady BesideCause r s s₃ := h₂.foldl fun _ _ _ h' => h'.putDs
  have h₄ : Steady BesideCause r s s₄ := h₃.frame
  have h₅ : Steady BesideCause r s s₅ := h₄.foldl fun _ _ _ h' => h'.putView
  exact h₅.foldl fun _ _ _ h' => h'.wrBit

theorem setRate {f x : Int} (h : Steady BesideCause r s t) : Steady BesideCause r s (t.setRate f x) := by
  unfold State.setRate
  exact (frame (h.wr (p := 0x05) (o := 0x4C))).wr

theorem tbSelect (h : Steady BesideCause r s t) : Steady BesideCause r s t.tbSelect := by
  unfold State.tbSelect
  extract_lets _ _ s₁ _ s₂ s₃ _ s₄
  have h₁ : Steady BesideCause r s s₁ := h.wrFld.raise
  have h₂ : Steady BesideCause r s s₂ := h₁.frame
  have h₃ : Steady BesideCause r s s₃ := h₂.setRate
  have h₄ : Steady BesideCause r s s₄ := h₃.frame
  exact .ite h (.ite h₄.wrFld.wr.raise (.ite h₂.wrFld h₂))

theorem takeSet {n : Nat} {src : Bool} {ts : TackSet} (h : Steady BesideCause r s t)
    (hts : ∀ c ∈ ts.contents, (accOf (contentKey c)).ts = true) : Steady BesideCause r s (t.takeSet n src false ts) := by
  unfold State.takeSet
  extract_lets sel _ s₁ s₂ _ s₃ s₄ s₅ s₆ s₇ s₈ s₉ s₁₀ s₁₁
  have put : Steady BesideCause r s (t.putContents ts sel) := h.putContents (fun k hk => by rw [besideCause_out k hk, Bool.false_and])
    fun c mem _ e => by
      have loaded := hts c mem
      rw [besideCause_out _ (not_not_intro e)] at loaded
      exact Bool.noConfusion loaded
  have h₁ : Steady BesideCause r s s₁ := put.fioChanged
  have h₂ : Steady BesideCause r s s₂ := h₁.frame
  have h₃ : Steady BesideCause r s s₃ := h₂.frame
  have h₅ : Steady BesideCause r s s₅ := h₃.wr.wrBit.wrBit.offsetsStale
  have h₆ : Steady BesideCause r s s₆ := h₅.frame
  have h₇ : Steady BesideCause r s s₇ := h₆.foldl fun _ _ _ h' => h'.wrBit (besideCause_rk (by unfold viewPage; omega))
  have h₈ : Steady BesideCause r s s₈ := .ite (h₇.setLink besideCause_field) h₇
  have h₉ : Steady BesideCause r s s₉ := .ite h₈ h₈.substOutputs
  have h₁₀ : Steady BesideCause r s s₁₀ := (h₉.step (startUnits .refl) besideCause_elsewhere).tbSelect
  have h₁₁ : Steady BesideCause r s s₁₁ := .ite h₁₀.substitute h₁₀
  exact (h₁₁.refresh besideCause_field).raise

theorem noSet {n : Nat} {src : Bool} (h : Steady Q r s t) (out : StaysOut Q) (selection : Q (rk 0x00 0x48) := by decide)
    (stat : Q (rk 0x00 0x0C) := by decide) (routes : Q (rk 0x02 0x0C) := by decide) : Steady Q r s (t.noSet n src) := by
  unfold State.noSet
  extract_lets s₁
  have h₁ : Steady Q r s s₁ := (h.clearTs_of out).wr selection
  exact (h₁.wrBit stat).wrBit routes

theorem bootLoad (h : Steady BesideCause r s t) : Steady BesideCause r s t.bootLoad := by
  unfold State.bootLoad
  extract_lets _ s₁ n src ts why
  have h₁ : Steady BesideCause r s s₁ := by
    unfold s₁
    split
    · split
      · exact h.frame
      · exact h.frame
    · exact h
  split
  · next taken => exact h₁.takeSet (contents_ts_of_setRefusal taken)
  · exact ((h₁.noSet besideCause_out).wrFld).raise

/-! ### Restart -/

theorem fillLane {l base n : Nat} {cells : List (Nat × Byte)} (h : Steady Q r s t) : Steady Q r s (t.fillLane l base n cells) := by
  unfold State.fillLane
  extract_lets clear
  have cleared : Steady Q r s clear := h.frame
  exact cleared.foldl fun _ _ _ h' => h'.setByte

theorem not_isForceKey {k : Nat} (hk : ¬BesideCause k) : isForceKey k = false := by
  rw [Decidable.not_not.1 hk]
  decide

theorem clearForces (h : Steady BesideCause r s t) : Steady BesideCause r s t.clearForces := by
  unfold State.clearForces
  exact (h.filtered (f := fun k => !isForceKey k) fun k hk => by rw [not_isForceKey hk]; rfl).wr

theorem keepForces {was : Nat → Word} (h : Steady BesideCause r s t) : Steady BesideCause r s (t.keepForces was) := by
  unfold State.keepForces
  extract_lets ids s₁
  have h₁ : Steady BesideCause r s s₁ := h.foldl fun i _ _ h' =>
    .ite h' (.when (h'.foldl fun _ _ _ h'' => h''.setTab besideCause_tk) fun _ h'' => h''.raise)
  exact h₁.wr

theorem restoreForces (h : Steady BesideCause r s t) : Steady BesideCause r s t.restoreForces := by
  unfold State.restoreForces
  extract_lets _ s₁
  have h₁ : Steady BesideCause r s s₁ := h.clearForces.foldl fun c hc _ h' => h'.setKey fun e => by
    have force := (List.mem_filter.1 hc).2
    rw [not_isForceKey (not_not_intro e)] at force
    exact Bool.noConfusion force
  exact h₁.keepForces

theorem showRetain (h : Steady Q r s t) (flags : Q (rk 0x09 0x5C) := by decide) (cycle : Q (rk 0x09 0x60) := by decide) :
    Steady Q r s t.showRetain := by
  unfold State.showRetain
  exact (h.wr flags).wr cycle

theorem restart {cold : Bool} (h : Steady BesideCause r s t) : Steady BesideCause r s (t.restart cold) := by
  unfold State.restart
  extract_lets _ _ _ _ s₁ s₂ _ s₃ s₄ _ s₅
  have h₁ : Steady BesideCause r s s₁ := h.foldl fun _ _ _ h' => .ite h'.fillLane.fillLane h'.fillLane
  have h₂ : Steady BesideCause r s s₂ := .ite h₁.restoreForces h₁.clearForces
  have h₃ : Steady BesideCause r s s₃ := .ite h₂.frame h₂
  have h₄ : Steady BesideCause r s s₄ := h₃.wr
  have h₅ : Steady BesideCause r s s₅ := h₄.frame
  exact h₅.showRetain.wr

/-! ### The lane image and the end of the boot -/

theorem bootLaneImage {which : Nat → Bool} (h : Steady BesideCause r s t) : Steady BesideCause r s (t.bootLaneImage which) := by
  unfold State.bootLaneImage
  split
  · exact h.frame
  · extract_lets _ _ s₁ s₂ s₃
    have h₁ : Steady BesideCause r s s₁ := h.frame
    have h₂ : Steady BesideCause r s s₂ := h.frame
    have h₃ : Steady BesideCause r s s₃ := h₂.wrBit
    refine .ite (h₁.when fun _ h' => h'.raise) (h₃.foldl fun l hl _ h' =>
      h'.fillLane.step (resetLane .refl (l := l) ?_) fun k hk => besideCause_elsewhere k (elsewhere_lane k hk))
    have mem := (List.mem_filter.1 hl).1
    simp only [List.mem_cons, List.not_mem_nil, or_false] at mem
    omega

theorem bootService (h : Steady Q r s t) : Steady Q r s t.bootService := by
  unfold State.bootService
  split
  · exact h.frame
  · extract_lets _ _ s₁
    have h₁ : Steady Q r s s₁ := h.frame
    exact h₁.when fun _ h' => h'.raise

theorem setPhase {n : Nat} (h : Steady Q r s t) (hq : Q (rk 0x00 0x50) := by decide) : Steady Q r s (t.setPhase n) := h.wrFld hq

/-- Phases 5 to 8. -/
theorem bootOn (h : Steady BesideCause r s t) : Steady BesideCause r s t.bootOn := by
  unfold State.bootOn
  extract_lets s₁ s₂ s₃
  have h₁ : Steady BesideCause r s s₁ := h.setPhase.bootLoad
  have h₂ : Steady BesideCause r s s₂ := h₁.setPhase.bootLaneImage.bootService
  have h₃ : Steady BesideCause r s s₃ := h₂.setPhase.restart
  exact h₃.setPhase.updService

end Steady

end Sys2Proof.Machine
end

section
set_option Elab.async false -- one proof after the other: each further worker thread takes its stack from the check's memory
/-! SUPPORT. Resets of the module and the boot up to the farrier (R105, R107): the cause shown, the straps, and the count of resets. -/

namespace Sys2Proof.Machine

variable {Q : Nat → Prop} {r : Prop} {s t u : State} {p o : Nat}

/-- Every word but PSTAT, RESET_CAUSE and STRAPS of SYS. -/
abbrev BesideStart (k : Nat) : Prop := k ≠ rk 0x00 0x0C ∧ k ≠ rk 0x00 0x40 ∧ k ≠ rk 0x00 0x44

theorem besideStart_cause : ∀ k, BesideStart k → BesideCause k := fun _ h => h.2.1

theorem besideStart_rk (h : p ≠ 0x00) : BesideStart (rk p o) := by unfold BesideStart rk; omega

theorem besideStart_elsewhere : ∀ k, Elsewhere k → BesideStart k := fun _ h =>
  have other : ∀ {q}, q ≠ 0x38 → q < 0x20000 → _ ≠ rk 0x00 q := fun hq hl e => not_elsewhere_rk (.inl rfl) hq hl (e ▸ h)
  ⟨other (by decide) (by decide), other (by decide) (by decide), other (by decide) (by decide)⟩

namespace Steady

/-! ### The recorder -/

theorem stagePut {x : Rec} (h : Steady Q r s t) : Steady Q r s (t.stagePut x) := h.frame

theorem stageGap (h : Steady Q r s t) : Steady Q r s t.stageGap := .ite h (.stagePut (.draw h.frame))

theorem stageRec {x : Rec} (h : Steady Q r s t) (hq : Q (rk 0x70 0x58) := by decide) : Steady Q r s (t.stageRec x) :=
  .ite h.stageGap (.ite h.stageGap.stagePut (.raise (.sat16 h.stageGap.frame hq)))

theorem accept {x : Rec} (h : Steady Q r s t) (hq : Q (rk 0x70 0x58) := by decide) : Steady Q r s (t.accept x) := by
  have suppress : ∀ {y}, Steady Q r s y → Steady Q r s (y.suppress x) := fun hy => hy.frame
  refine .ite (h.stageRec hq) (.ite (suppress h) ?_)
  cases t.recd.buckets.find? (fun b => b.code = x.code) with
  | none => exact .ite (suppress h.frame) (.stageRec h.frame.frame hq)
  | some _ => exact .ite (suppress h.frame) (.stageRec h.frame.frame hq)

theorem findSeq (h : Steady Q r s t) : Steady Q r s t.findSeq := by
  unfold State.findSeq
  split
  · exact h.frame
  · exact h.frame

theorem recStart {kept : Bool} (h : Steady Q r s t) (hq : Q (rk 0x70 0x58) := by decide) : Steady Q r s (t.recStart kept) :=
  .stageRec (.draw (.ite h.frame h.frame.findSeq)) hq

/-! ### The spook alarm -/

theorem lockTack (h : Steady BesideStart r s t) : Steady BesideStart r s t.lockTack := h.wrBit.raise

theorem opEnd {op err n : Nat} (h : Steady BesideStart r s t) : Steady BesideStart r s (t.opEnd op err n) := by
  have ended : Steady BesideStart r s { t with sec := { t.sec with op := none } } := h.frame
  exact (ended.wr (p := 0x60) (o := 0x4C)).inc32.raise

theorem zeroWin (h : Steady BesideStart r s t) : Steady BesideStart r s t.zeroWin :=
  h.filtered (f := fun k => !(keyPage k = 0x60 && !keyIsTab k && 0x800 ≤ keyOff k)) fun k hk => by
    have sys : keyPage k ≠ 0x60 := fun e => hk (by unfold BesideStart rk; unfold keyPage at e; omega)
    rw [decide_eq_false sys]
    rfl

theorem alarmRecord {a b : Nat} (h : Steady Q r s t) : Steady Q r s (t.alarmRecord a b) := by
  have ring : ∀ {y x}, Steady Q r s y → Steady Q r s (y.ringPut x) := fun hy => hy.frame
  exact ring (.ite h.draw.frame.frame h.draw.frame)

/-- The erase sequence takes the customer root. -/
theorem erase {a b : Nat} (h : Steady BesideStart r s t) (erased : ¬r) : Steady BesideStart r s (t.erase a b) := by
  unfold State.erase
  extract_lets s₁ s₂ s₃ _ _ _ s₄
  have h₁ : Steady BesideStart r s s₁ := h.lockTack
  have h₂ : Steady BesideStart r s s₂ := by
    unfold s₂
    split
    · exact h₁.zeroWin.opEnd
    · exact h₁.zeroWin
  have h₃ : Steady BesideStart r s s₃ := h₂.alarmRecord.frame
  have h₄ : Steady BesideStart r s s₄ := h₃.trans ⟨SameBut.refl.regs, rfl, rfl, rfl, rfl, fun hr => absurd hr erased⟩
  exact h₄.raise

theorem spookOne {k : Nat} (h : Steady BesideStart r s t) : Steady BesideStart r s (t.spookOne k) := by
  unfold State.spookOne
  extract_lets s₁ _ s₂ _
  have h₁ : Steady BesideStart r s s₁ := h.sat16 (besideStart_rk (by decide))
  have h₂ : Steady BesideStart r s s₂ := h₁.wrBit.wr.wr
  exact .ite h₁ (.ite h₂.frame h₂.raise)

theorem spookFire {ks : List Nat} (h : Steady BesideStart r s t) (erased : ¬r) : Steady BesideStart r s (t.spookFire ks) := by
  unfold State.spookFire
  extract_lets _ erasing _ s₁
  have fired := h.foldl (f := State.spookOne) (l := ks) fun k _ _ h' => h'.spookOne
  have h₁ : Steady BesideStart r s s₁ := (frame fired).step (lineCauses .refl) fun k hk =>
    besideStart_elsewhere k (elsewhere_lane (l := 0) k (.inl hk))
  split
  · exact h₁
  · clear_value erasing
    split
    · exact h₁.erase erased
    · exact .ite h₁.lockTack h₁

/-! ### Phases 1 and 2 -/

theorem bootTrial (h : Steady BesideStart r s t) : Steady BesideStart r s t.bootTrial := by
  unfold State.bootTrial
  extract_lets _ _ s₁
  have h₁ : Steady BesideStart r s s₁ := h.frame
  exact .ite h₁.wrFld.wrBit.sat16 (.ite (wrFld h.frame) h)

theorem bootFirmware (h : Steady Q r s t) : Steady Q r s t.bootFirmware := by
  unfold State.bootFirmware
  extract_lets _ s₁ _ s₂ _ s₃
  have h₁ : Steady Q r s s₁ := h.raise
  have h₂ : Steady Q r s s₂ := h₁.frame
  have h₃ : Steady Q r s s₃ := h₂.raise
  exact .ite h (.ite h₂ h₃.frame)

theorem raiseHeld (h : Steady Q r s t) : Steady Q r s t.raiseHeld := .foldl h.frame fun _ _ _ h' => h'.raise

end Steady

/-! ### The boot -/

/-- RESET_CAUSE, the count of resets and the OTP's check are as before, with the customer root where nothing is erased. -/
structure SameReset (r : Prop) (s t : State) : Prop where
  cause : t.rd 0x00 0x40 = s.rd 0x00 0x40
  boots : t.keep.boots = s.keep.boots
  otpOk : t.keep.otpOk = s.keep.otpOk
  root : r → t.keep.customerRoot = s.keep.customerRoot

theorem Steady.reset (h : Steady BesideCause r s t) : SameReset r s t := ⟨h.rd, h.boots, h.otpOk, h.root⟩

theorem SameReset.trans (h : SameReset r s t) (g : SameReset r t u) : SameReset r s u :=
  ⟨g.cause.trans h.cause, g.boots.trans h.boots, g.otpOk.trans h.otpOk, fun hr => (g.root hr).trans (h.root hr)⟩

/-- The straps as sampled, and service start. -/
structure SameStraps (s t : State) : Prop where
  slot : t.rb 0x00 0x44 4 = s.rb 0x00 0x44 4
  service : t.svcStart = s.svcStart

theorem SameStraps.trans (h : SameStraps s t) (g : SameStraps t u) : SameStraps s u := ⟨g.slot.trans h.slot, g.service.trans h.service⟩

theorem Steady.straps (h : Steady BesideStart r s t) : SameStraps s t := ⟨h.rb, h.rb⟩

/-- SLOT_ID and service start as the pins stand (R29, R38). -/
theorem sampleStraps_shows : s.sampleStraps.rb 0x00 0x44 4 = s.pins.slotId ∧
    s.sampleStraps.svcStart = (s.pins.svcModeLow && !s.pins.movingNLow) := by
  unfold State.sampleStraps
  extract_lets pins s₁
  have strap : ∀ i j (x : State) (b : Bool), i < 32 → j ≠ i → (x.wrBit 0x00 0x44 i b).rb 0x00 0x44 j = x.rb 0x00 0x44 j :=
    fun i j x b hi hj => by rw [State.rb, rd_wrBit_self, bit_setBit_ne _ _ _ _ hi hj, State.rb]
  refine ⟨?_, rb_wrBit_self _ _ _ _ _ (by decide)⟩
  rw [rb_wrBit_ne (by decide), strap _ _ _ _ (by decide) (by decide), strap _ _ _ _ (by decide) (by decide)]
  exact rb_wrBit_self _ _ _ _ _ (by decide)

/-- Phases 3 and 4 show the selection's straps beside the module's (R30), and start the farrier's run. -/
theorem bootFarrier_spec {x : State} (hx : x = (((s.setPhase 3).bootSelect.fioRelease).setPhase 4).clearRes) {blocks : List Nat} :
    SameReset r s (x.startRun .boot blocks) ∧ SameStraps s (x.startRun .boot blocks) := by
  have selected : SameReset r s (s.setPhase 3).bootSelect ∧ SameStraps s (s.setPhase 3).bootSelect := by
    have phase : Steady BesideStart r s (s.setPhase 3) := Steady.refl.setPhase
    have strapped : SameReset r (s.setPhase 3) (s.setPhase 3).bootSelect ∧ SameStraps (s.setPhase 3) (s.setPhase 3).bootSelect := by
      unfold State.bootSelect
      extract_lets s₁
      have written : SameReset r (s.setPhase 3) s₁ ∧ SameStraps (s.setPhase 3) s₁ := by
        refine ⟨Steady.refl.wrFld.reset, ?_, rb_wr_ne (by decide)⟩
        exact (congrArg (bit · 4) (rd_wrFld_self ..)).trans (bit_setFld_ne _ _ _ _ _ (by decide) (by decide))
      have number : ∀ v, SameReset r s₁ (s₁.wr 0x00 0x48 v) ∧ SameStraps s₁ (s₁.wr 0x00 0x48 v) := fun v =>
        have h : Steady BesideStart r s₁ (s₁.wr 0x00 0x48 v) := Steady.refl.wr
        ⟨(h.mono besideStart_cause).reset, h.straps⟩
      split
      · exact ⟨written.1.trans (number _).1, written.2.trans (number _).2⟩
      · exact ⟨written.1.trans (number _).1, written.2.trans (number _).2⟩
    exact ⟨(phase.mono besideStart_cause).reset.trans strapped.1, phase.straps.trans strapped.2⟩
  have cleared : Steady BesideStart r (s.setPhase 3).bootSelect x := by
    rw [hx]
    have released := (Steady.refl (Q := BesideStart) (r := r) (s := (s.setPhase 3).bootSelect)).fioRelease fun k h =>
      besideStart_elsewhere k (elsewhere_field k h)
    exact released.setPhase.foldl fun _ _ _ h' => h'.wrFld (besideStart_rk (by decide))
  obtain ⟨-, tested⟩ := startRun_starts (s := x) (run := .boot) (blocks := blocks)
  have kept : (x.startRun .boot blocks).keep = x.keep := by rw [startRun_only]
  have started : SameReset r x (x.startRun .boot blocks) := ⟨tested.rd, by rw [kept], by rw [kept], fun _ => by rw [kept]⟩
  have straps : SameStraps x (x.startRun .boot blocks) := ⟨tested.rb, tested.rb⟩
  exact ⟨(selected.1.trans (cleared.mono besideStart_cause).reset).trans started, (selected.2.trans cleared.straps).trans straps⟩

/-- The boot keeps the cause shown and the count of resets; at a power-on reset it shows the straps (R107). -/
theorem boot_spec {cause : Nat} {recStarts : Bool}
    (quiet : r → s.keep.otpOk = true ∧ (cause = 1 → fld (s.rd 0x61 0x48) 0 12 = 0)) :
    SameReset r s (s.boot cause recStarts) ∧ (cause = 1 → (s.boot cause recStarts).rb 0x00 0x44 4 = s.pins.slotId ∧
      (s.boot cause recStarts).svcStart = (s.pins.svcModeLow && !s.pins.movingNLow)) := by
  unfold State.boot
  extract_lets full s₁ s₂ found₁ found₂ s₃ _ s₄ s₅ s₆ s₇ s₈ s₉
  have h₁ : Steady BesideStart r s s₁ := Steady.refl.setPhase
  have h₂ : Steady (fun k => keyPage k = 0x00) r s s₂ := .ite Steady.refl.wrFld.wrBit.wrBit.wrBit.wrBit Steady.refl.wrFld
  have cause₂ : SameReset r s s₂ := by
    refine ⟨?_, h₂.boots, h₂.otpOk, h₂.root⟩
    have sampled : Steady BesideCause r s s₂ := .ite Steady.refl.wrFld.wrBit.wrBit.wrBit.wrBit Steady.refl.wrFld
    exact sampled.rd
  have straps₂ : cause = 1 → s₂.rb 0x00 0x44 4 = s.pins.slotId ∧ s₂.svcStart = (s.pins.svcModeLow && !s.pins.movingNLow) := by
    intro power
    have pins : s₁.pins = s.pins := wrFld_pins ..
    rw [← pins, show s₂ = s₁.sampleStraps from if_pos power]
    exact sampleStraps_shows
  have h₃ : Steady BesideStart r s₂ s₃ := by
    by_cases hr : r
    · have otp : s₂.keep.otpOk = true := h₂.otpOk.trans (quiet hr).1
      have none : found₂ = [] := by
        unfold found₂ found₁
        rw [if_pos otp]
        split
        · next power =>
          rw [List.filter_eq_nil_iff]
          intro k hk
          have word : s₂.rd 0x61 0x48 = s.rd 0x61 0x48 := h₂.rd
          have zero := testBit_fld (s.rd 0x61 0x48) 0 12 k
          rw [(quiet hr).2 power, decide_eq_true (List.mem_range.1 hk), Bool.true_and, Nat.zero_testBit, Nat.zero_add] at zero
          rw [State.rb, word, bit, ← zero]
          decide
        · rfl
      rw [show s₃ = s₂ from if_pos (by rw [none]; rfl)]
      exact .refl
    · exact .ite .refl (Steady.refl.spookFire hr)
  have h₄ : Steady BesideStart r s₂ s₄ := h₃.setPhase.bootTrial.bootFirmware
  have h₅ : Steady BesideStart r s₂ s₅ := .ite h₄.recStart h₄
  have h₆ : Steady BesideStart r s₂ s₆ := h₅.raise
  have h₇ : Steady BesideStart r s₂ s₇ := .raiseHeld (h₆.when fun _ h' => h'.raise)
  have h₈ : Steady BesideStart r s₂ s₈ := h₇.when fun _ h' => .accept h'.frame
  have early : ∀ {x}, Steady BesideStart r s₂ x → SameReset r s x := fun h => cause₂.trans (h.mono besideStart_cause).reset
  split
  · exact ⟨early h₄, fun power => ⟨h₄.straps.slot.trans (straps₂ power).1, h₄.straps.service.trans (straps₂ power).2⟩⟩
  · split
    · obtain ⟨reset, straps⟩ := bootFarrier_spec (r := r) (s := s₈) (x := s₉) rfl (blocks := s₉.bootBlocks)
      have all := h₈.straps.trans straps
      exact ⟨(early h₈).trans reset, fun power => ⟨all.slot.trans (straps₂ power).1, all.service.trans (straps₂ power).2⟩⟩
    · next short =>
      have released : Steady BesideCause r s₈ s₈.fioRelease.bootOn := (Steady.refl.fioRelease besideCause_field).bootOn
      refine ⟨(early h₈).trans released.reset, fun power => absurd ?_ short⟩
      rw [show full = true from by simp [full, power]]

end Sys2Proof.Machine
end

section
set_option Elab.async false -- one proof after the other: each further worker thread takes its stack from the check's memory
/-! SUPPORT. The reset of the whole module (R105), the warm restart (R106), the management watchdog, and a boot phase that overruns. -/

namespace Sys2Proof.Machine

variable {Q : Nat → Prop} {r : Prop} {s t u : State} {cause n : Nat}

/-! ### The reset of the whole module -/

/-- RESET_CAUSE shows the cause. -/
theorem setCause_shows (hc : cause < 256) : (s.setCause cause).rf 0x00 0x40 0 8 = cause := by
  rw [State.rf, State.setCause, rd_wr_self, fld_w32_zero (by decide)]
  omega

theorem Kept.stickyTack {por : Bool} {old : State} (h : Kept Q s t) (hQ : ∀ k, keyPage k = 0x60 → Q k) :
    Kept Q s (t.stickyTack old por) := by
  unfold State.stickyTack
  extract_lets s₁
  have h₁ : Kept Q s s₁ := .ite h (((h.wrBit (hQ _ rfl)).wrBit (hQ _ rfl)).wr (hQ _ rfl))
  exact h₁.wrBit (hQ _ rfl)

theorem Kept.laneFlags (h : Kept Q s t) (hQ : ∀ k, keyPage k = 0x06 → Q k) : Kept Q s t.laneFlags :=
  h.foldl fun l hl _ h' => by
    have own : Q (rk 0x06 (laneOff l 4)) := hQ _ (rk_page _ _ (by
      simp only [List.mem_cons, List.not_mem_nil, or_false] at hl
      unfold laneOff; omega))
    exact (h'.wrBit own).wrBit own

theorem Kept.freeSems (h : Kept Q s t) (hQ : ∀ k, keyPage k = 0x03 → Q k) : Kept Q s (t.freeSems n) :=
  h.foldl fun k hk _ h' => .ite (h'.wr (hQ _ (rk_page _ _ (by have := List.mem_range.1 hk; omega)))) h'

/-- The time base starts anew: words of its own. -/
theorem tbReset_sameBut {a : Bool} {e : Nat} : SameBut (fun k => keyPage k = 0x05) s (s.tbReset a e) := by
  unfold State.tbReset State.setRate
  extract_lets _ s₁
  have h₁ : SameBut (fun k => keyPage k = 0x05) s s₁ := SameBut.refl.regs
  have h₂ : SameBut (fun k => keyPage k = 0x05) s { s₁.wr 0x05 0x4C (wInt (signed 32 s.keep.freqSaved.toNat)) with tb := { s₁.tb with p := 0 } } :=
    SameBut.regs (h₁.wr (p := 0x05) (o := 0x4C))
  exact h₂.wr

/-- A reset shows its cause and counts; the OTP's check, the customer root, the sources of the spook alarm and the straps as the pins
stand outlast it. -/
structure WholeReset (cause : Nat) (s t : State) : Prop where
  cause : t.rf 0x00 0x40 0 8 = cause
  boots : t.keep.boots = min 0xFFFF (s.keep.boots + 1)
  otpOk : t.keep.otpOk = s.keep.otpOk
  root : t.keep.customerRoot = s.keep.customerRoot
  sources : t.rd 0x61 0x48 = s.rd 0x61 0x48
  straps : t.pins.slotId = s.pins.slotId ∧ t.pins.svcModeLow = s.pins.svcModeLow ∧ t.pins.movingNLow = s.pins.movingNLow

theorem wholeReset_spec {a : Bool} {e : Nat} (hc : cause < 256) : WholeReset cause s (s.wholeReset cause a e) := by
  unfold State.wholeReset
  extract_lets por _ _ _ t₀ t₁ t₂ t₃ t₄ t₅ t₆ t₇
  have boots : t₀.keep.boots = min 0xFFFF (s.keep.boots + 1) := rfl
  have kept : t₀.keep.otpOk = s.keep.otpOk ∧ t₀.keep.customerRoot = s.keep.customerRoot := ⟨rfl, rfl⟩
  have straps : t₀.pins.slotId = s.pins.slotId ∧ t₀.pins.svcModeLow = s.pins.svcModeLow ∧ t₀.pins.movingNLow = s.pins.movingNLow :=
    ⟨rfl, rfl, rfl⟩
  clear_value t₀
  have h₁ : Kept BesideCause (t₀.setCause cause) t₁ := Kept.refl.stickyTack fun _ => besideCause_page (by decide)
  have h₃ : Kept BesideCause (t₀.setCause cause) t₃ := h₁.wr.wr.wrBit.wrBit
  have h₄ : Kept BesideCause (t₀.setCause cause) t₄ := (Kept.ite h₃ h₃.wr).wr
  have h₅ : Kept BesideCause t₄ t₆ := Kept.laneFlags (Kept.refl.wrBit) fun _ => besideCause_page (by decide)
  have lanes : SameBut (fun k => keyPage k = 0x50 ∨ keyPage k = 0x06) t₄ t₆ :=
    (Kept.laneFlags (Kept.refl.wrBit (Q := fun k => keyPage k = 0x50 ∨ keyPage k = 0x06)) fun _ => .inr).toSameBut
  have time : SameBut (fun k => keyPage k = 0x05) t₆ t₇ := tbReset_sameBut
  have sources : t₄.rd 0x61 0x48 = s.rd 0x61 0x48 := rd_wr_self ..
  clear_value t₄ t₆
  have keep : t₇.keep = t₀.keep := tbReset_keep.trans (h₅.keep.trans h₄.keep)
  have pins : t₇.pins = t₀.pins := (show t₇.pins = t₆.pins from rfl).trans (h₅.pins.trans h₄.pins)
  refine ⟨?_, ?_, ?_, ?_, ?_, ?_⟩
  · exact (time.rf.trans (h₅.rf.trans h₄.rf)).trans (setCause_shows hc)
  · exact (congrArg (·.boots) keep).trans boots
  · exact (congrArg (·.otpOk) keep).trans kept.1
  · exact (congrArg (·.customerRoot) keep).trans kept.2
  · exact (time.rd.trans lanes.rd).trans sources
  · rw [← pins] at straps
    exact straps

/-- A reset and the boot that follows (R105, R107): the cause is shown and one reset counted, a power-on reset samples the straps, and
the customer root stays where nothing sets off an erase. -/
theorem resetBoot_spec {a : Bool} {e : Nat} (hc : cause < 256)
    (quiet : r → s.keep.otpOk = true ∧ (cause = 1 → fld (s.rd 0x61 0x48) 0 12 = 0)) :
    ((s.resetBoot cause a e).rf 0x00 0x40 0 8 = cause ∧ (s.resetBoot cause a e).keep.boots = min 0xFFFF (s.keep.boots + 1) ∧
      (s.resetBoot cause a e).keep.otpOk = s.keep.otpOk ∧ (r → (s.resetBoot cause a e).keep.customerRoot = s.keep.customerRoot)) ∧
    (cause = 1 → (s.resetBoot cause a e).rb 0x00 0x44 4 = s.pins.slotId ∧
      (s.resetBoot cause a e).svcStart = (s.pins.svcModeLow && !s.pins.movingNLow)) := by
  have whole := wholeReset_spec (s := s) (a := a) (e := e) hc
  unfold State.resetBoot
  generalize s.wholeReset cause a e = x at whole
  obtain ⟨shown, boots, otp, root, sources, slot, service, moving⟩ := whole
  have lines : Kept SafeWords x x.lineCauses := Kept.refl.lineCauses
  obtain ⟨reset, straps⟩ := boot_spec (r := r) (s := x.lineCauses) (cause := cause) (recStarts := true) fun hr => by
    rw [lines.keep, otp, lines.rd, sources]
    exact quiet hr
  refine ⟨⟨?_, ?_, ?_, fun hr => ?_⟩, fun power => ?_⟩
  · rw [State.rf, reset.cause, lines.rd]
    exact shown
  · rw [reset.boots, lines.keep, boots]
  · rw [reset.otpOk, lines.keep, otp]
  · rw [reset.root hr, lines.keep, root]
  · obtain ⟨sampled, start⟩ := straps power
    rw [sampled, start, lines.pins, slot, service, moving]
    exact ⟨rfl, rfl⟩

/-! ### The warm restart -/

/-- The reset of the planes shows cause 4 and counts (R106). -/
theorem warmReset_spec : s.warmReset.rf 0x00 0x40 0 8 = 4 ∧ s.warmReset.keep.boots = min 0xFFFF (s.keep.boots + 1) := by
  unfold State.warmReset
  extract_lets _ s₁ roleIn low s₂ _ s₃ s₄ s₅ s₆
  have h₂ : s₂.keep = s₁.keep := (Kept.cutRun (s := s₁) .refl).keep
  have h₅ : Kept (fun _ => True) s₃ s₅ := Kept.laneFlags (Kept.refl.foldl fun _ _ _ h' => h'.freeSems fun _ _ => trivial) fun _ _ => trivial
  have kept : s₅.keep = s₁.keep := h₅.keep.trans h₂
  clear_value s₅
  have shown : Kept BesideCause (s₅.setCause 4) s₆ := Kept.refl.wr.wrBit
  have lines : Kept SafeWords s₆ s₆.lineCauses := Kept.refl.lineCauses
  obtain ⟨reset, -⟩ := boot_spec (r := False) (s := s₆.lineCauses) (cause := 4) (recStarts := false) False.elim
  refine ⟨?_, ?_⟩
  · rw [State.rf, reset.cause, lines.rd, shown.rd]
    exact setCause_shows (by decide)
  · rw [reset.boots, lines.keep, shown.keep]
    exact congrArg (·.boots) kept

theorem writeRetain_boots {done mramOk : Bool} : (s.writeRetain done mramOk).keep.boots = s.keep.boots := by
  unfold State.writeRetain
  split
  · exact congrArg (·.boots) (wrFld_keep ..)
  · next l c _ =>
    split
    · exact congrArg (·.boots) (wrFld_keep ..)
    · split
      · exact congrArg (·.boots) (wrFld_keep ..)
      · extract_lets _ s₁
        have shown : Steady (fun _ => True) True s₁ ((s₁.wrFld 0x09 0x5C 2 2 l).wrFld 0x09 0x5C 4 4 1).showRetain :=
          ((Steady.refl.wrFld trivial).wrFld trivial).showRetain trivial trivial
        exact shown.boots

/-- A warm RESTART at standstill, with nothing to wait for, resets the planes. -/
theorem restartWarm_resets (stands : s.moving = false) (free : s.awaitsDone = false) :
    (s.restartWarm n).rf 0x00 0x40 0 8 = 4 ∧ (s.restartWarm n).keep.boots = min 0xFFFF (s.keep.boots + 1) := by
  have restarted : ∀ {x : State}, x.keep.boots = s.keep.boots →
      x.warmRestart.rf 0x00 0x40 0 8 = 4 ∧ x.warmRestart.keep.boots = min 0xFFFF (s.keep.boots + 1) := by
    intro x same
    obtain ⟨shown, boots⟩ := warmReset_spec (s := x)
    rw [same] at boots
    unfold State.warmRestart
    extract_lets t
    have answered : Steady BesideCause True t (t.boxDone 2 0 []) := Steady.refl.boxDone fun _ => besideCause_page (by decide)
    split
    · exact ⟨answered.rf.trans shown, answered.boots.trans boots⟩
    · exact ⟨shown, boots⟩
  unfold State.restartWarm
  extract_lets t
  have waits : t.awaitsDone = false := free
  rw [if_neg (by simp [stands]), if_neg (by simp [waits])]
  split
  · exact restarted rfl
  · exact restarted writeRetain_boots

/-- In a cycle that its source lane has not completed it waits for that (R208). -/
theorem restartWarm_waits (stands : s.moving = false) (waits : s.awaitsDone = true) :
    s.restartWarm n = { s.boxRun n with prog := { s.prog with retainTrig := some .restart } } := by
  unfold State.restartWarm
  extract_lets t
  have same : t.awaitsDone = true := waits
  rw [if_neg (by simp [stands]), if_pos same]
  rfl

/-! ### The management watchdog -/

theorem boxPage_injective {m n : Nat} (hm : m < 3) (hn : n < 3) (h : boxPage m = boxPage n) : m = n := by
  unfold boxPage at h
  split at h <;> split at h <;> omega

/-- A mailbox that is free stays free as another's command ends. -/
theorem boxBusy_boxDone_free {m err : Nat} {resp : List Word} (hm : m < 3) (hn : n < 3) (free : s.boxBusy n = false) :
    (s.boxDone m err resp).boxBusy n = false := by
  by_cases e : m = n
  · rw [e]
    exact boxBusy_boxDone hn
  · have page := boxPage_ne hn
    have others : Kept (BoxWords m) s (s.boxDone m err resp) := Kept.refl.boxDone fun _ hk => hk
    have word : ¬BoxWords m (rk (boxPage n) 0x80) := fun hk => e (boxPage_injective hm hn (hk.symm.trans (rk_page _ _ (by decide))))
    exact (others.rb (by omega) (by decide) (by decide) word).trans free

/-- What one step of a fold establishes, and every step keeps, holds after it. -/
theorem foldl_establishes {f : State → Nat → State} {P : State → Prop} {l : List Nat} (own : ∀ x, P (f x n))
    (kept : ∀ m ∈ l, ∀ x, P x → P (f x m)) (start : P s ∨ n ∈ l) : P (l.foldl f s) := by
  induction l generalizing s with
  | nil => exact start.resolve_right List.not_mem_nil
  | cons m l ih =>
    refine ih (fun k hk => kept k (List.mem_cons_of_mem m hk)) ?_
    rcases start with before | mem
    · exact .inl (kept m List.mem_cons_self s before)
    · rcases List.mem_cons.1 mem with rfl | later
      · exact .inl (own s)
      · exact .inr later

theorem mem_three {m : Nat} : m ∈ [0, 1, 2] ↔ m < 3 := by
  simp only [List.mem_cons, List.not_mem_nil, or_false]
  omega

/-- The management plane alone is reset: cause 6 is shown, one reset counts, and no command is in progress (R101, R105). -/
theorem mgmtReset_spec : s.mgmtReset.rf 0x00 0x40 0 8 = 6 ∧ s.mgmtReset.keep.boots = min 0xFFFF (s.keep.boots + 1) ∧
    ∀ n, n < 3 → s.mgmtReset.boxBusy n = false := by
  unfold State.mgmtReset
  extract_lets old _ s₁ drop _ s₂ s₃ s₄ s₅ s₆ s₇ s₈
  have counted : s₃.keep = s₁.keep := (Kept.ite (.refl (Q := fun _ => True)) (Kept.refl.wrFld trivial)).keep
  clear_value s₃
  have shown : Kept BesideCause (s₃.setCause 6) s₆ :=
    (Kept.stickyTack .refl fun _ => besideCause_page (by decide)).wr.wrFld.wrFld
  have freed : Kept BesideCause (s₃.setCause 6) (s₆.freeSems 8) := shown.freeSems fun _ => besideCause_page (by decide)
  have h₇ : Steady BesideCause True (s₆.freeSems 8) s₇ := Steady.refl.recStart
  have h₈ : Steady BesideCause True (s₆.freeSems 8) s₈ := h₇.foldl fun m hm _ h' => h'.boxDone fun _ => besideCause_page (by
    have page := boxPage_ne (n := m) (by simp only [List.mem_cons, List.not_mem_nil, or_false] at hm; omega)
    omega)
  have raised : SameBut (fun _ => False) s₈ (s₈.raise 0 6 0 0) := SameBut.refl.raise
  refine ⟨?_, ?_, fun n hn => ?_⟩
  · exact h₈.raise.rf.trans (freed.rf.trans (setCause_shows (by decide)))
  · exact h₈.raise.boots.trans (congrArg (·.boots) (freed.keep.trans counted))
  · have page := boxPage_ne hn
    refine (raised.rb (by omega) (by decide) (by decide) id).trans ?_
    exact foldl_establishes (f := fun t n => t.boxDone n 9 []) (P := fun t => t.boxBusy n = false) (fun _ => boxBusy_boxDone hn)
      (fun _ hm _ free => boxBusy_boxDone_free (mem_three.1 hm) hn free) (.inr (mem_three.2 hn))

/-! ### A boot phase that overruns -/

/-- The words that an overrun leaves: the results of the farrier's first blocks, and the lanes' states. -/
abbrev OverrunWords (k : Nat) : Prop := k ≠ rk 0x04 0x40 ∧ ∀ l < 3, k ≠ rk 0x06 (laneOff l 4)

theorem overrunWords_out : StaysOut OverrunWords := fun k hk => by
  by_cases result : k = rk 0x04 0x40
  · rw [result]
    decide
  · have lane : ∃ l < 3, k = rk 0x06 (laneOff l 4) := by
      by_contra none
      exact hk ⟨result, fun l hl e => none ⟨l, hl, e⟩⟩
    obtain ⟨l, hl, rfl⟩ := lane
    match l, hl with
    | 0, _ | 1, _ | 2, _ => decide

theorem overrunWords_field : ∀ k, FieldWords k → OverrunWords k := fun k h => by
  refine ⟨fun e => ?_, fun l hl e => ?_⟩
  · rw [e] at h
    exact absurd h (by decide)
  · have page : keyPage k = 0x06 := e ▸ rk_page _ _ (by unfold laneOff; omega)
    omega

/-- A lane that goes OFF leaves the states of the others. -/
theorem laneState_offLane_ne {l m : Nat} (hl : l < 3) (hm : m < 3) (other : l ≠ m) : (s.offLane m).laneState l = s.laneState l := by
  have off : Steady (LaneWords m) True s (s.offLane m) := Steady.refl.offLane (by omega)
  have word : ¬LaneWords m (rk 0x06 (laneOff l 4)) := by
    rintro (h | h)
    · exact not_leaveWords_state hl h
    · simp only [laneKey, Bool.and_eq_true, decide_eq_true_eq] at h
      unfold keyOff rk laneOff at h
      omega
  exact off.rf (by decide) (by unfold laneOff; omega) (by unfold laneOff; omega) word

theorem laneState_lanesOff {l : Nat} (hl : l < 3) : ([0, 1, 2].foldl State.offLane s).laneState l = 0 :=
  foldl_establishes (P := fun t => t.laneState l = 0) (fun _ => laneState_offLane hl)
    (fun m hm _ off => by
      by_cases e : l = m
      · rw [e]
        exact laneState_offLane (mem_three.1 hm)
      · exact (laneState_offLane_ne hl (mem_three.1 hm) e).trans off)
    (.inr (mem_three.2 hl))

/-- A boot test that is cut off leaves its results and what is kept without power. -/
theorem cutRun_kept : Kept (fun k => k = rk 0x04 0x0C ∨ k = rk 0x00 0x0C) s s.cutRun := by
  unfold State.cutRun State.showRes
  have h₁ : Kept (fun k => k = rk 0x04 0x0C ∨ k = rk 0x00 0x0C) s { s with farr := {} } := Kept.refl.frame
  exact .ite h₁.wrFld.wrBit .refl

/-- The lanes stay OFF, and block 11 reads as it did, whatever the overrun does to the other words. -/
theorem overrun_leaves {z : State} (h : Steady OverrunWords True ([0, 1, 2].foldl State.offLane s.cutRun) z) :
    (∀ l, l < 3 → z.laneState l = 0) ∧ z.blockNotFail 11 = s.blockNotFail 11 := by
  have off : Steady Elsewhere True s.cutRun ([0, 1, 2].foldl State.offLane s.cutRun) := Steady.refl.foldl fun l hl _ h' =>
    h'.step (Steady.offLane .refl (l := l) (by have := mem_three.1 hl; omega)) elsewhere_lane
  have cut := cutRun_kept (s := s)
  refine ⟨fun l hl => ?_, ?_⟩
  · exact (h.rf (by decide) (by unfold laneOff; omega) (by unfold laneOff; omega) fun words => words.2 l hl rfl).trans
      (laneState_lanesOff hl)
  · have res : z.blockRes 11 = s.blockRes 11 := h.rf.trans (off.rf.trans cut.rf)
    have bad : z.blockBad 11 = s.blockBad 11 := by
      rw [State.blockBad, h.unusable, off.unusable, cut.keep, State.blockBad]
    rw [State.blockNotFail, res, bad, State.blockNotFail]

/-- The phase that overran stays in BOOT_PHASE, and block 11 says whether maintenance service is there. -/
theorem overrun_phase {z : State} {p : Nat} (hp : p < 9) :
    ((z.setPhase p).wr 0x00 0x58 (w32 (b2n (z.blockNotFail 11)))).bootPhase = p ∧
      ((z.setPhase p).wr 0x00 0x58 (w32 (b2n (z.blockNotFail 11)))).rd 0x00 0x58 = (if z.blockNotFail 11 then 1 else 0) ∧
      ∀ l, l < 3 → ((z.setPhase p).wr 0x00 0x58 (w32 (b2n (z.blockNotFail 11)))).laneState l = z.laneState l := by
  refine ⟨?_, ?_, fun l hl => ?_⟩
  · rw [State.bootPhase, State.rf, rd_wr_ne _ _ _ _ _ _ (by decide), ← State.rf, State.setPhase, rf_wrFld_self _ _ _ _ _ _ (by decide)]
    exact Nat.mod_eq_of_lt (by omega)
  · rw [rd_wr_self]
    cases z.blockNotFail 11 <;> rfl
  · have other : ∀ o, o < 0x20000 → rk 0x00 o ≠ rk 0x06 (laneOff l 4) := fun o ho => by unfold rk laneOff; omega
    exact (laneState_wr _ _ _ _ _ (other _ (by decide))).trans (laneState_wr _ _ _ _ _ (other _ (by decide)))

end Sys2Proof.Machine
end

section
set_option Elab.async false -- one proof after the other: each further worker thread takes its stack from the check's memory
open Sys2Proof Sys2Proof.Machine

/-- Settles O36: each reset through the boot that follows it, the watchdog's own reset, and the overrun of a phase. -/
theorem resetsOfTheModule : Obligations.ResetsOfTheModule := by
  unfold Obligations.ResetsOfTheModule
  refine ⟨fun x elapsed s => ?_, fun s => ?_, fun x s held cold stands => ?_, fun inst s held warm stands free => ?_,
    fun inst s held warm stands waits => ?_, fun s runs normal few => ?_, fun phase s overruns => ?_,
    fun h s recovery usb evopel digest epochs otp none => ?_⟩
  · obtain ⟨⟨cause, boots, otp, -⟩, straps⟩ := resetBoot_spec (r := False) (s := s.setStraps x) (cause := 1) (a := x.aonKept) (e := elapsed)
      (by decide) False.elim
    exact completes_of rfl (fun _ h => h) ⟨cause, boots, (straps rfl).1, (straps rfl).2, otp⟩
  · obtain ⟨⟨cause, boots, -, -⟩, -⟩ := resetBoot_spec (r := False) (s := s) (cause := 5) (a := true) (e := s.sinceSave) (by decide) False.elim
    exact completes_of rfl (fun _ h => h) ⟨cause, boots⟩
  · obtain ⟨⟨cause, boots, -, -⟩, -⟩ := resetBoot_spec (r := False) (s := s.setProf x.prof) (cause := 3) (a := true) (e := s.sinceSave)
      (by decide) False.elim
    refine completes_serve rfl (fun _ h => h) held cold ?_
    rw [if_neg (by simp [stands])]
    exact ⟨cause, boots⟩
  · exact completes_serve rfl (fun _ h => h) held (congrArg not warm) (restartWarm_resets stands free)
  · refine completes_serve rfl (fun _ h => h) held (congrArg not warm) ?_
    rw [restartWarm_waits stands waits]
    exact ⟨rfl, (boxBusy_congr (s := s) rfl).trans (boxBusy_of_holds held), rfl, rfl⟩
  · have alone : s.watchdog = State.mgmtReset { s with keep := { s.keep with
        wdTimes := (s.tb.count :: s.keep.wdTimes.filter fun t => s.tb.count < t + 10_000_000_000).take 2 } } := by
      unfold State.watchdog
      extract_lets recent _ t
      rw [if_neg (by simp [recent]; omega)]
    refine completes_of rfl (fun _ h => h) ?_
    rw [if_pos (by simp [runs, normal]), alone]
    exact mgmtReset_spec
  · refine completes_of rfl (fun _ h => h) ?_
    rw [if_neg (by
      obtain ⟨run, one, four⟩ | ⟨last, before, one, full⟩ := overruns
      · simp [run, one, four]
      · simp only [List.mem_cons, List.not_mem_nil, or_false, not_or] at full
        have skipped : s.rf 0x00 0x40 0 8 = 2 ∨ s.rf 0x00 0x40 0 8 = 4 → ¬phase.val = 3 ∧ ¬phase.val = 4 := fun warm =>
          full.resolve_left fun cold => warm.elim cold.1 cold.2
        simpa [last, before, one] using fun _ => skipped)]
    extract_lets x _ _ y z
    have shown : Steady OverrunWords True x y := Steady.refl.frame
    have steady : Steady OverrunWords True x z :=
      .ite ((shown.noSet overrunWords_out).refresh overrunWords_field) shown
    obtain ⟨off, block⟩ := overrun_leaves steady
    obtain ⟨stays, maint, lanes⟩ := overrun_phase (z := z) phase.isLt
    exact ⟨stays, block ▸ maint, fun l hl => (lanes l hl).trans (off l hl)⟩
  · obtain ⟨⟨-, boots, -, root⟩, -⟩ := resetBoot_spec (r := True) (s := { s with keep := { s.keep with customerRoot := true } }) (cause := 1)
      (a := true) (e := s.sinceSave) (by decide) fun _ => ⟨otp, fun _ => none⟩
    refine completes_of rfl (fun _ h => h) ?_
    rw [if_neg (by simp [recovery, usb]), if_pos rfl, if_pos (by simp [evopel, digest, epochs])]
    exact ⟨root trivial, boots⟩
end

section
set_option Elab.async false -- one proof after the other: each further worker thread takes its stack from the check's memory
/-! SUPPORT. What a measurement and the loss of a source leave: the validity of the sources as the measurement itself set it (R133,
R134). -/

namespace Sys2Proof.Machine

variable {s t u : State}

/-- The validity of the sources and their runs are as before, and so is all state but registers, inlet queue, time base, and the
frames that a step cuts. -/
structure Served (s t : State) : Prop where
  only : t = { s with regs := t.regs, inlet := t.inlet, tb := t.tb, cams := t.cams, dsps := t.dsps }
  valid : t.rd 0x05 0x5C = s.rd 0x05 0x5C
  consec : t.tb.consec = s.tb.consec

namespace Served

theorem refl : Served s s := ⟨rfl, rfl, rfl⟩

theorem trans (h : Served s t) (g : Served t u) : Served s u :=
  ⟨by rw [g.only, h.only], g.valid.trans h.valid, g.consec.trans h.consec⟩

/-- A change of the registers and the inlet queue that spares the validity of the sources. -/
theorem registers (h : Served s t) (only : OnlyRegsInlet t u) (valid : u.rd 0x05 0x5C = t.rd 0x05 0x5C) : Served s u :=
  h.trans ⟨by rw [only], valid, by rw [only.tb_eq]⟩

/-- A change of the time base's state and the frames. -/
theorem frame (h : Served s t) (only : u = { t with tb := u.tb, cams := u.cams, dsps := u.dsps } := by rfl)
    (consec : u.tb.consec = t.tb.consec := by rfl) : Served s u :=
  h.trans ⟨by rw [only], by rw [only]; exact rd_congr rfl _ _, consec⟩

theorem wr {p o : Nat} {v : Word} (h : Served s t) (ne : rk p o ≠ rk 0x05 0x5C := by decide) : Served s (t.wr p o v) :=
  h.registers (onlyRegsInlet_wr t p o v) (rd_wr_ne _ _ _ _ _ _ ne)

theorem wrFld {p o lo n x : Nat} (h : Served s t) (ne : rk p o ≠ rk 0x05 0x5C := by decide) : Served s (t.wrFld p o lo n x) := h.wr ne

theorem raise {n : Nat} {p0 p1 p2 : Word} (h : Served s t) : Served s (t.raise n p0 p1 p2) :=
  h.registers (onlyRegsInlet_raise t n p0 p1 p2) (SameBut.raise (Q := fun _ => False) .refl).rd

theorem ite {c : Prop} {_ : Decidable c} {a b : State} (ha : Served s a) (hb : Served s b) : Served s (if c then a else b) := by
  split
  · exact ha
  · exact hb

theorem when {c : Bool} {f : State → State} (h : Served s t) (hf : ∀ x, Served s x → Served s (f x)) :
    Served s (t.when c f) := .ite (hf t h) h

theorem setCount {c fr : Nat} (h : Served s t) : Served s (t.setCount c fr) := by
  have only := setCount_only (s := t) (c := c) (fr := fr)
  exact h.trans ⟨by rw [only], setCount_sameBut.rd, by rw [only.tb_eq]⟩

theorem advanceTo {c : Nat} (h : Served s t) : Served s (t.advanceTo c) := .ite h.setCount h

theorem setRate {f p : Int} (h : Served s t) : Served s (t.setRate f p) := by
  have rated : Served s { (t.wr 0x05 0x4C (wInt f)) with tb := { t.tb with p := p } } := (h.wr (p := 0x05) (o := 0x4C)).frame
  exact rated.wr

theorem modCam {c : Nat} {f : Cam → Cam} (h : Served s t) : Served s (t.modCam c f) := h.frame

theorem camBad {c code : Nat} (h : Served s t) (hc : c < 8) : Served s (t.camBad c code) := by
  have page {o : Nat} (ho : o < 0x20000) : rk (camPage c) o ≠ rk 0x05 0x5C := by unfold rk camPage; omega
  exact .ite h ((modCam (h.wrFld (page (by decide)))).wr (page (by decide))).raise

theorem cutFrames (h : Served s t) : Served s t.cutFrames := by
  unfold State.cutFrames
  extract_lets s₁
  have cams : Served s s₁ := List.foldlRecOn (List.range 8) _ h fun _ h' _ hc => h'.camBad (List.mem_range.1 hc)
  clear_value s₁
  exact cams.frame

theorem tbSelect (h : Served s t) : Served s t.tbSelect := by
  unfold State.tbSelect
  extract_lets _ _ s₁ _ s₂ s₃ _ s₄
  have h₁ : Served s s₁ := h.wrFld.raise
  have h₂ : Served s s₂ := h₁.frame
  have h₃ : Served s s₃ := h₂.setRate
  have h₄ : Served s s₄ := h₃.frame
  exact .ite h (.ite h₄.wrFld.wr.raise (.ite h₂.wrFld h₂))

theorem tbJudge {theta : Int} (h : Served s t) : Served s (t.tbJudge theta) := by
  unfold State.tbJudge
  extract_lets _ _ _ _ s₁
  have h₁ : Served s s₁ := h.frame
  exact .ite h₁.wrFld (.ite (frame (h₁.wrFld (p := 0x05) (o := 0x0C))) h₁)

theorem tbStep {theta : Int} (h : Served s t) : Served s (t.tbStep theta) := by
  unfold State.tbStep
  extract_lets _ _ s₁ s₂ _ s₃
  have h₂ : Served s s₂ := h.setCount.wr
  have h₃ : Served s s₃ := h₂.frame
  exact h₃.cutFrames.raise

theorem prev {c : Nat} {theta : Int} {again : Bool} (h : Served s t) :
    Served s { t with tb := { t.tb with first := again, thetaPrev := theta, tPrev := c } } := h.frame

theorem tbServo {c : Nat} {theta : Int} (h : Served s t) : Served s (t.tbServo c theta) := by
  unfold State.tbServo
  extract_lets s₁ _ _ _ _ _ _ _ _ _ s₂ s₃
  have h₁ : Served s s₁ := h.wr
  have h₃ : Served s s₃ := h₁.setRate.when fun _ h' => h'.raise
  exact .ite h₁.tbJudge.prev (.ite h₁.setRate.tbJudge.prev (.ite h₁.setRate.tbStep.prev h₃.tbJudge.prev))

end Served

/-! ### Runs (R133, R134) -/

/-- The run of source `src` is `n` long, its last measurement came at `c`, and its valid bit shows a run of four. -/
def State.setRun (s : State) (src n c : Nat) : State :=
  ({ s with tb := { s.tb with lastT := s.tb.lastT.set (src - 1) c, consec := s.tb.consec.set (src - 1) n } } : State).wrBit
    0x05 0x5C src (4 ≤ n)

/-- The run of source `src` with a measurement at `c` counted: it starts again after TIMEOUT_MS. -/
def State.runAt (s : State) (src c : Nat) : Nat :=
  if s.tb.consec.getD (src - 1) 0 = 0 ∨ c < s.tb.lastT.getD (src - 1) 0 + s.tbTimeout then s.tb.consec.getD (src - 1) 0 + 1 else 1

theorem setRun_run {src n c : Nat} (hs : 1 ≤ src ∧ src ≤ 4) (slots : s.tb.consec.length = 4) :
    (s.setRun src n c).tb.consec.getD (src - 1) 0 = n ∧ (s.setRun src n c).rb 0x05 0x5C src = decide (4 ≤ n) := by
  refine ⟨?_, rb_wrBit_self _ _ _ _ _ (by omega)⟩
  show (s.tb.consec.set (src - 1) n).getD (src - 1) 0 = n
  rw [List.getD_eq_getElem _ _ (by rw [List.length_set]; omega), List.getElem_set_self]

/-- The run and the valid bit of another source stay. -/
theorem setRun_other {src other n c : Nat} (hs : 1 ≤ src) (ho : 1 ≤ other ∧ other ≤ 4) (ne : other ≠ src) :
    (s.setRun other n c).tb.consec.getD (src - 1) 0 = s.tb.consec.getD (src - 1) 0 ∧
      (s.setRun other n c).rb 0x05 0x5C src = s.rb 0x05 0x5C src := by
  constructor
  · show (s.tb.consec.set (other - 1) n).getD (src - 1) 0 = _
    rw [List.getD_eq_getElem?_getD, List.getElem?_set_ne (by omega), List.getD_eq_getElem?_getD]
  · exact (congrArg (bit · src) (rd_wr_self _ _ _ _)).trans (bit_setBit_ne _ _ _ _ (by omega) ne.symm)

/-- A measurement of a source that REF_CFG does not name is discarded. -/
theorem tbMeasure_unnamed {src c : Nat} {theta : Int} (h : s.tbPrios.contains src = false) : s.tbMeasure src c theta = s := by
  rw [State.tbMeasure, if_pos (by rw [h]; simp)]

/-- A measurement that is not discarded counts in the run of its source; then the active source is chosen and served. -/
theorem tbMeasure_served {src c : Nat} {theta : Int} (hs : 1 ≤ src ∧ src ≤ 4) (named : s.tbPrios.contains src = true)
    (fresh : s.tb.lastStep ≤ c) : Served (s.setRun src (s.runAt src c) c) (s.tbMeasure src c theta) := by
  unfold State.tbMeasure
  extract_lets prev n₀ n _ s₁ s₂ s₃
  rw [if_neg (by simp only [named, Bool.not_true, Bool.or_false, Bool.or_eq_true, decide_eq_true_eq]; omega)]
  have run : n = s.runAt src c := by
    unfold n State.runAt
    simp only [Bool.or_eq_true, decide_eq_true_eq]
    rfl
  have counted : s₂ = s.setRun src (s.runAt src c) c := by rw [← run]; rfl
  have h₃ : Served s₂ s₃ := Served.refl.tbSelect
  rw [← counted]
  exact .ite h₃.tbServo h₃

/-- A measurement is discarded, or counted and served. -/
theorem tbMeasure_dropped_or_served {src c : Nat} {theta : Int} : s.tbMeasure src c theta = s ∨
    (1 ≤ src ∧ src ≤ 4) ∧ Served (s.setRun src (s.runAt src c) c) (s.tbMeasure src c theta) := by
  by_cases dropped : (src = 0 || 4 < src || !s.tbPrios.contains src || c < s.tb.lastStep) = true
  · exact .inl (by rw [State.tbMeasure, if_pos dropped])
  · simp only [Bool.or_eq_true, Bool.not_eq_true', decide_eq_true_eq, not_or, Bool.not_eq_false] at dropped
    obtain ⟨⟨⟨low, high⟩, named⟩, fresh⟩ := dropped
    have range : 1 ≤ src ∧ src ≤ 4 := by omega
    exact .inr ⟨range, tbMeasure_served range named (Nat.not_lt.1 fresh)⟩

/-- A measurement of one source leaves the run and the valid bit of another. -/
theorem tbMeasure_other {src other c : Nat} {theta : Int} (hs : 1 ≤ src) (ne : other ≠ src) :
    (s.tbMeasure other c theta).tb.consec.getD (src - 1) 0 = s.tb.consec.getD (src - 1) 0 ∧
      (s.tbMeasure other c theta).rb 0x05 0x5C src = s.rb 0x05 0x5C src := by
  rcases tbMeasure_dropped_or_served (s := s) (src := other) (c := c) (theta := theta) with dropped | ⟨range, served⟩
  · rw [dropped]
    exact ⟨rfl, rfl⟩
  · obtain ⟨run, valid⟩ := setRun_other (s := s) (n := s.runAt other c) (c := c) hs range ne
    exact ⟨(congrArg (·.getD (src - 1) 0) served.consec).trans run, (congrArg (bit · src) served.valid).trans valid⟩

/-- The run of source `src` is broken, and its valid bit with it. -/
def State.dropRun (s : State) (src : Nat) : State :=
  ({ s with tb := { s.tb with consec := s.tb.consec.set (src - 1) 0 } } : State).wrBit 0x05 0x5C src false

theorem dropRun_run {src : Nat} (hs : 1 ≤ src ∧ src ≤ 4) :
    (s.dropRun src).tb.consec.getD (src - 1) 0 = 0 ∧ (s.dropRun src).rb 0x05 0x5C src = false := by
  refine ⟨?_, rb_wrBit_self _ _ _ _ _ (by omega)⟩
  show (s.tb.consec.set (src - 1) 0).getD (src - 1) 0 = 0
  rw [List.getD_eq_getElem?_getD, List.getElem?_set_self']
  cases s.tb.consec[src - 1]? <;> rfl

/-- A lost source has no run and is not valid, whatever measurement of another came in the same cycle (R134). -/
theorem tbLose_run {src : Nat} {also : Option (Fin 5 × Nat × Int)} (hs : 1 ≤ src ∧ src ≤ 4) :
    (s.tbLose src also).tb.consec.getD (src - 1) 0 = 0 ∧ (s.tbLose src also).rb 0x05 0x5C src = false := by
  have lost : (s.dropRun src).tb.consec.getD (src - 1) 0 = 0 ∧ (s.dropRun src).rb 0x05 0x5C src = false := dropRun_run hs
  have select {u : State} (h : u.tb.consec.getD (src - 1) 0 = 0 ∧ u.rb 0x05 0x5C src = false) :
      u.tbSelect.tb.consec.getD (src - 1) 0 = 0 ∧ u.tbSelect.rb 0x05 0x5C src = false :=
    have served : Served u u.tbSelect := Served.refl.tbSelect
    ⟨(congrArg (·.getD (src - 1) 0) served.consec).trans h.1, (congrArg (bit · src) served.valid).trans h.2⟩
  unfold State.tbLose
  extract_lets _ s₁
  have dropped : s₁ = s.dropRun src := if_neg (by simp only [Bool.or_eq_true, decide_eq_true_eq]; omega)
  rw [dropped]
  refine select ?_
  cases also with
  | none => exact lost
  | some m =>
    obtain ⟨other, c, theta⟩ := m
    dsimp only
    split
    · exact lost
    · next ne =>
      obtain ⟨run, valid⟩ := tbMeasure_other (s := s.dropRun src) (c := c) (theta := theta) hs.1 ne
      exact ⟨run.trans lost.1, valid.trans lost.2⟩

/-! ### One cycle (R128) -/

/-- The count and fraction of a time in units of 2^-32 ns, advanced by one cycle of the rate. -/
theorem tbCycle_count (gait : s.gaitNow < 3) (running : s.pins.running = true) (rate : 0 ≤ (4 * 2 ^ 32 + (s.tbF + s.tb.p) : Int)) :
    (s.tbCycle.tb.count : Int) * 2 ^ 32 + s.tbCycle.tb.frac = s.tb.count * 2 ^ 32 + s.tb.frac + 4 * 2 ^ 32 + (s.tbF + s.tb.p) ∧
      s.tbCycle.tb.frac < 2 ^ 32 := by
  rw [State.tbCycle, if_neg (by simp [running, Nat.not_le.2 gait])]
  extract_lets x
  rw [setCount_only.tb_eq]
  dsimp only
  have pos : 0 ≤ x := by unfold x; omega
  have eq : x = s.tb.frac + 4 * 2 ^ 32 + (s.tbF + s.tb.p) := rfl
  clear_value x
  omega

end Sys2Proof.Machine
end

section
set_option Elab.async false -- one proof after the other: each further worker thread takes its stack from the check's memory
open Sys2Proof Sys2Proof.Machine

/-- Settles O3: the step is one cycle of the clock, and the cycle's count and fraction are the sum cut into whole nanoseconds and
the rest. -/
theorem emptyQueueIsOneClockCycle : Obligations.EmptyQueueIsOneClockCycle := by
  unfold Obligations.EmptyQueueIsOneClockCycle
  intro s empty gait running rate
  refine ⟨s.tbCycle, ?_, tbCycle_count gait running rate⟩
  rw [step, empty]

/-- Settles O17: a measurement counts in the run of its source, and what follows spares runs and validity. -/
theorem timeBaseMeasurement : Obligations.TimeBaseMeasurement := by
  unfold Obligations.TimeBaseMeasurement
  refine ⟨fun src t theta s some named fresh slots n hn => completes_of rfl (fun _ h => h) ?_,
    fun src t theta s unnamed => completes_of rfl (fun _ h => by rw [h]) ?_, fun x s some => completes_of rfl (fun _ h => h) ?_⟩
  · have range : 1 ≤ src.val ∧ src.val ≤ 4 := by omega
    obtain ⟨run, valid⟩ := setRun_run (n := n) (c := t) range slots
    have served := tbMeasure_served (theta := theta) range named fresh
    rw [← show n = s.runAt src.val t from hn] at served
    exact ⟨(congrArg (·.getD (src.val - 1) 0) served.consec).trans run, (congrArg (bit · src.val) served.valid).trans valid⟩
  · exact tbMeasure_unnamed unnamed
  · exact (tbLose_run (by omega)).symm
end

section
set_option Elab.async false -- one proof after the other: each further worker thread takes its stack from the check's memory
/-! SUPPORT. A state in which a new DOFS does not take effect (R305). -/

namespace Sys2Proof.Machine

/-- The key of DOFS of display 0. -/
def dofsKey : Nat := rk 0x48 (vtD 0 0x14)

/-- The period of display 0 is not zero, and DOFS of display 0 stands twice among the shadows. -/
def doubledDofs : State := { State.reset.wr 0x48 0x40 1 with shadow := [(dofsKey, 1), (dofsKey, 1)] }

/-- The new DOFS replaces the first of the two entries, and the second is applied after it. -/
theorem dofsChange_of_doubled : Leaves (.dofsChange 0 0) doubledDofs fun t => t.key dofsKey = 1 :=
  leaves_of rfl (by decide)

end Sys2Proof.Machine
end

section
set_option Elab.async false -- one proof after the other: each further worker thread takes its stack from the check's memory
open Sys2Proof Sys2Proof.Machine

/-- Refutes O44: its last clause says that a new DOFS below the frame period takes effect in every state. Where the shadows list the
word twice, the write replaces the first entry, and the second is applied after it. No state with canonical stores lists a word twice,
but the clause does not ask for one. -/
theorem not_viewsAndDisplays : ¬ Obligations.ViewsAndDisplays := by
  unfold Obligations.ViewsAndDisplays
  rintro ⟨-, -, -, -, -, -, -, -, -, -, -, -, -, change⟩
  obtain ⟨t, ran, taken, -⟩ := (change 0 0 doubledDofs (by decide)).1 (by decide)
  have kept : t.key dofsKey = 1 := dofsChange_of_doubled t ran
  exact absurd (kept.symm.trans taken) (by decide)
end

section
set_option Elab.async false -- one proof after the other: each further worker thread takes its stack from the check's memory
/-! SUPPORT. What the field I/O board changes (R226 to R248), and what the time base's rows change (R129 to R143). -/

namespace Sys2Proof.Machine

variable {s t u : State}

/-! ### The field I/O board -/

/-- The words of the time base, whose capture slots an input serves, of the field I/O board and of the interlock table. -/
abbrev BoardWords (k : Nat) : Prop := keyPage k = 0x05 ∨ FieldWords k

theorem boardWords_rk {o : Nat} (ho : o < 0x20000) : BoardWords (rk 0x0B o) := .inr (.inl (rk_page _ _ ho))

theorem boardWords_stat {n : Nat} (hn : n < 24) : BoardWords (rk 0x0B (foStat n)) := boardWords_rk (by unfold foStat; omega)

theorem boardWords_tk {o : Nat} (ho : o < 0x10000) : BoardWords (tk 0x0B o) := .inr (fieldWords_tk (.inl rfl) ho)

/-- A capture changes registers and the inlet queue alone. -/
theorem capture_only {src c : Nat} : OnlyRegsInlet s (s.capture src c) := by
  have latched : OnlyRegsInlet s (s.latchSlots c (s.slotsFor src)) := (OnlyRegsInlet.rfl' s).foldl fun _ y =>
    ((onlyRegsInlet_wr y _ _ _).trans' (onlyRegsInlet_wr _ _ _ _)).trans' (onlyRegsInlet_wrBit _ _ _ _ _)
  rcases capture_eq (s := s) (src := src) (c := c) with eq | ⟨k, eq⟩
  · rw [eq]; exact latched
  · rw [eq]; exact latched.trans' (onlyRegsInlet_raise ..)

/-- Registers of the time base, the field I/O board and the interlock table, the pending bits, the inlet queue and the board's own
state differ at most. -/
structure OnlyField (s t : State) : Prop extends SameBut BoardWords s t where
  only : t = { s with regs := t.regs, inlet := t.inlet, field := t.field }

namespace OnlyField

theorem refl : OnlyField s s := ⟨.refl, rfl⟩

theorem trans (h : OnlyField s t) (g : OnlyField t u) : OnlyField s u :=
  ⟨h.toSameBut.trans g.toSameBut, by rw [g.only, h.only]⟩

/-- A step of registers and the inlet queue alone. -/
theorem words (h : OnlyField s t) (only : OnlyRegsInlet t u) (same : SameBut BoardWords t u) : OnlyField s u :=
  h.trans ⟨same, by unfold OnlyRegsInlet at only; rw [only]⟩

/-- A step of the board's own state. -/
theorem frame (h : OnlyField s t) (only : u = { t with field := u.field } := by rfl) : OnlyField s u :=
  h.trans ⟨SameBut.refl.regs (by rw [only]), by rw [only]⟩

theorem board {f : Field} (h : OnlyField s t) : OnlyField s { t with field := f } := h.frame

theorem setTab {p o : Nat} {v : Word} (h : OnlyField s t) (hq : BoardWords (tk p o)) : OnlyField s (t.setTab p o v) :=
  h.words (onlyRegsInlet_setKey ..) (SameBut.refl.setKey hq)

theorem wr {p o : Nat} {v : Word} (h : OnlyField s t) (hq : BoardWords (rk p o) := by decide) : OnlyField s (t.wr p o v) :=
  h.words (onlyRegsInlet_wr ..) (SameBut.refl.wr hq)

theorem wrFld {p o lo n x : Nat} (h : OnlyField s t) (hq : BoardWords (rk p o) := by decide) : OnlyField s (t.wrFld p o lo n x) :=
  h.wr hq

theorem wrBit {p o i : Nat} {b : Bool} (h : OnlyField s t) (hq : BoardWords (rk p o) := by decide) : OnlyField s (t.wrBit p o i b) :=
  h.wr hq

theorem sat16 {p o : Nat} (h : OnlyField s t) (hq : BoardWords (rk p o) := by decide) : OnlyField s (t.sat16 p o) := h.wr hq

theorem inc32 {p o : Nat} (h : OnlyField s t) (hq : BoardWords (rk p o) := by decide) : OnlyField s (t.inc32 p o) := h.wr hq

theorem raise {e : Nat} {p0 p1 p2 : Word} (h : OnlyField s t) : OnlyField s (t.raise e p0 p1 p2) :=
  h.words (onlyRegsInlet_raise ..) SameBut.refl.raise

theorem ite {c : Prop} {_ : Decidable c} {x y : State} (hx : OnlyField s x) (hy : OnlyField s y) : OnlyField s (if c then x else y) := by
  split
  · exact hx
  · exact hy

theorem when {c : Bool} {f : State → State} (h : OnlyField s t) (hf : ∀ x, OnlyField s x → OnlyField s (f x)) :
    OnlyField s (t.when c f) := .ite (hf t h) h

/-- The same step for the first `n` inputs or outputs. -/
theorem each {n : Nat} {f : State → Nat → State} (h : OnlyField s t) (hf : ∀ i < n, ∀ y, OnlyField s y → OnlyField s (f y i)) :
    OnlyField s ((List.range n).foldl f t) :=
  List.foldlRecOn _ _ h fun y hy i hi => hf i (List.mem_range.1 hi) y hy

theorem refresh (h : OnlyField s t) : OnlyField s t.refresh :=
  h.trans ⟨refresh_kept.toSameBut.mono fun _ => .inr, refresh_only t⟩

theorem capture {src c : Nat} (h : OnlyField s t) : OnlyField s (t.capture src c) :=
  h.words capture_only (capture_words.toSameBut.mono fun _ slot => .inl slot.1)

theorem setLink {m : Nat} (h : OnlyField s t) : OnlyField s (t.setLink m) := by
  unfold State.setLink
  extract_lets s₁ _ s₂
  have h₁ : OnlyField s s₁ := h.wrFld.raise
  have h₂ : OnlyField s s₂ := h₁.frame
  exact .ite h h₂.refresh

/-- PARALLEL falls back to SERIAL where the supply is lost. -/
theorem fallback (h : OnlyField s t) : OnlyField s (if t.linkMode = 2 then t.setLink 1 else t).refresh := .refresh (.ite h.setLink h)

theorem tryParallel (h : OnlyField s t) : OnlyField s t.tryParallel := .ite h.setLink h

theorem latchMask {m : Word} (h : OnlyField s t) : OnlyField s (t.latchMask m) := h.board.wr

theorem latchFo {n : Nat} (h : OnlyField s t) : OnlyField s (t.latchFo n) := h.latchMask

theorem couplerFault {ch : Nat} (h : OnlyField s t) : OnlyField s (t.couplerFault ch) := .ite h.wrBit (.ite h.wrBit h.wrBit.latchMask)

theorem compareCoupler {ch : Nat} {b : Bool} (h : OnlyField s t) : OnlyField s (t.compareCoupler ch b) :=
  .ite h (.ite h.board (.ite h.board h.board.couplerFault.raise))

theorem compareFrame {f : IsoFrame} (h : OnlyField s t) : OnlyField s (t.compareFrame f) :=
  ((h.each fun _ _ _ h' => h'.compareCoupler).each fun _ _ _ h' => h'.compareCoupler).each fun _ _ _ h' => h'.compareCoupler

theorem markMismatch {n : Nat} (h : OnlyField s t) (hn : n < 24) : OnlyField s (t.markMismatch n) :=
  (h.wrBit (boardWords_stat hn)).when fun _ h' => h'.wrBit (boardWords_stat hn)

theorem refreshStat {f : IsoFrame} {n : Nat} (h : OnlyField s t) (hn : n < 24) : OnlyField s (t.refreshStat f n) := by
  have stat := boardWords_stat hn
  exact (((h.wrFld stat).when fun _ h' => h'.wrBit stat).when fun _ h' => (h'.wrBit stat).wrBit stat).markMismatch hn

theorem frameDiag {f : IsoFrame} (h : OnlyField s t) : OnlyField s (t.frameDiag f) := by
  unfold State.frameDiag
  extract_lets s₁
  have h₁ : OnlyField s s₁ := h.wr.refresh
  exact h₁.wr.each fun _ hn _ h' => h'.refreshStat hn

theorem isoFrame {f : IsoFrame} (h : OnlyField s t) : OnlyField s (t.isoFrame f) := by
  unfold State.isoFrame
  extract_lets _ s₁ s₂ s₃ s₄
  have h₂ : OnlyField s s₂ := h.board.sat16.raise
  have h₃ : OnlyField s s₃ := h.board
  have h₄ : OnlyField s s₄ := .ite h₃.compareFrame h₃
  exact .ite h (.ite (.ite h₂.setLink h₂) h₄.frameDiag)

theorem filterInput {n : Nat} {b : Bool} (h : OnlyField s t) (hn : n < 32) : OnlyField s (t.filterInput n b) := by
  unfold State.filterInput
  split_ifs
  · exact h
  · extract_lets old
    split
    extract_lets s₁ s₂
    have h₁ : OnlyField s s₁ := (h.setTab (boardWords_tk (by omega))).wrBit
    have h₂ : OnlyField s s₂ := (h₁.setTab (boardWords_tk (by omega))).capture
    exact .ite h₁ (h₂.when fun _ h' => h'.raise)

theorem filterRb {n : Nat} {b : Bool} (h : OnlyField s t) : OnlyField s (t.filterRb n b) := by
  unfold State.filterRb
  split_ifs
  · exact h
  · split
    exact h.board.wrBit

theorem sampleInputs {fi rb : Word} (h : OnlyField s t) : OnlyField s (t.sampleInputs fi rb) := by
  unfold State.sampleInputs
  extract_lets _ s₁ s₂ s₃ s₄
  have h₁ : OnlyField s s₁ := h.board
  have h₂ : OnlyField s s₂ := h₁.each fun _ hn _ h' => h'.filterInput hn
  have h₃ : OnlyField s s₃ := h₂.each fun _ _ _ h' => h'.filterRb
  have h₄ : OnlyField s s₄ := h₃.refresh
  exact .ite h (h₄.each fun _ hn _ h' => h'.markMismatch hn)

theorem counterEdge {c : Nat} {rising : Bool} (h : OnlyField s t) (hc : c < 8) : OnlyField s (t.counterEdge c rising) :=
  .ite ((h.inc32 (boardWords_rk (by omega))).when fun _ h' => h'.raise) h

theorem setSupply {x mv : Nat} (h : OnlyField s t) : OnlyField s (t.setSupply x mv) := h.wr.wrFld

theorem bytes (h : OnlyField s t) : SameBytes s t := fun a => by
  rw [h.only]
  rfl

theorem pages (h : OnlyField s t) : SamePages [0x02, 0x05, 0x0B, 0x0C] s t := fun k hk hp => by
  simp only [List.mem_cons, List.not_mem_nil, or_false, not_or] at hk
  exact h.key k hk.1 hp (by simp [BoardWords, FieldWords, hk])

/-- A row whose answer differs so from the state before it. -/
theorem leaves {c : Instr} (row : exec c s = answer s u) (h : OnlyField s u) : Leaves c s fun t =>
    t = { s with regs := t.regs, inlet := t.inlet, field := t.field } ∧ SamePages [0x02, 0x05, 0x0B, 0x0C] s t ∧ SameBytes s t :=
  leaves_of row ⟨by rw [h.only], h.pages, h.bytes⟩

end OnlyField

/-! ### The time base -/

/-- The words of a measurement and of the capture slots. -/
abbrev TimeBaseWords (k : Nat) : Prop := keyPage k = 0x05 ∨ TbWords k

/-- Registers of the time base, the lanes and the camera ports with the pending bits, the inlet queue, the time base's state and the
frames that a step cuts differ at most. -/
structure OnlyTime (s t : State) : Prop extends SameBut TimeBaseWords s t where
  only : t = { s with regs := t.regs, inlet := t.inlet, tb := t.tb, cams := t.cams, dsps := t.dsps }

namespace OnlyTime

theorem refl : OnlyTime s s := ⟨.refl, rfl⟩

theorem trans (h : OnlyTime s t) (g : OnlyTime t u) : OnlyTime s u :=
  ⟨h.toSameBut.trans g.toSameBut, by rw [g.only, h.only]⟩

theorem words (h : OnlyTime s t) (only : OnlyRegsInlet t u) (same : SameBut TimeBaseWords t u) : OnlyTime s u :=
  h.trans ⟨same, by unfold OnlyRegsInlet at only; rw [only]⟩

theorem ite {c : Prop} {_ : Decidable c} {x y : State} (hx : OnlyTime s x) (hy : OnlyTime s y) : OnlyTime s (if c then x else y) := by
  split
  · exact hx
  · exact hy

theorem raise {e : Nat} {p0 p1 p2 : Word} (h : OnlyTime s t) : OnlyTime s (t.raise e p0 p1 p2) :=
  h.words (onlyRegsInlet_raise ..) SameBut.refl.raise

theorem capture {src c : Nat} (h : OnlyTime s t) : OnlyTime s (t.capture src c) :=
  h.words capture_only (capture_words.toSameBut.mono fun _ slot => .inl slot.1)

theorem advanceTo {c : Nat} (h : OnlyTime s t) : OnlyTime s (t.advanceTo c) :=
  h.trans ⟨advanceTo_sameBut.mono fun k hk => .inr (timeWords_tb k hk), Served.refl.advanceTo.only⟩

theorem dropRun {src : Nat} (h : OnlyTime s t) : OnlyTime s (t.dropRun src) := by
  have cleared : SameBut TimeBaseWords t { t with tb := { t.tb with consec := t.tb.consec.set (src - 1) 0 } } := SameBut.refl.regs
  exact h.trans ⟨cleared.wrBit, rfl⟩

/-- A measurement. -/
theorem tbMeasure {src c : Nat} {theta : Int} (h : OnlyTime s t) : OnlyTime s (t.tbMeasure src c theta) := by
  refine h.trans ⟨tbMeasure_sameBut.mono fun _ => .inr, ?_⟩
  rcases tbMeasure_dropped_or_served (s := t) (src := src) (c := c) (theta := theta) with dropped | ⟨-, served⟩
  · rw [dropped]
  · exact served.only

theorem tbSelect (h : OnlyTime s t) : OnlyTime s t.tbSelect :=
  h.trans ⟨Measured.refl.tbSelect.toSameBut.mono fun _ => .inr, Served.refl.tbSelect.only⟩

theorem tbLose {src : Nat} {also : Option (Fin 5 × Nat × Int)} (h : OnlyTime s t) : OnlyTime s (t.tbLose src also) := by
  unfold State.tbLose
  extract_lets _ s₁
  have h₁ : OnlyTime s s₁ := .ite h h.dropRun
  refine tbSelect ?_
  cases also with
  | none => exact h₁
  | some m => exact .ite h₁ h₁.tbMeasure

theorem bytes (h : OnlyTime s t) : SameBytes s t := fun a => by
  rw [h.only]
  rfl

theorem pages (h : OnlyTime s t) : SamePages [0x02, 0x05, 0x06, 0x31, 0x32, 0x33, 0x34, 0x35, 0x36, 0x37, 0x38] s t := fun k hk hp => by
  simp only [List.mem_cons, List.not_mem_nil, or_false, not_or] at hk
  obtain ⟨router, tb, lanes, cams⟩ := hk
  refine h.key k router hp ?_
  rintro (page | page | page | word)
  · exact tb page
  · exact lanes page
  · omega
  · refine tb ?_
    simp only [List.mem_cons, List.not_mem_nil, or_false] at word
    rcases word with rfl | rfl | rfl | rfl | rfl | rfl | rfl <;> rfl

/-- A row whose answer differs so from the state before it. -/
theorem leaves {c : Instr} (row : exec c s = answer s u) (h : OnlyTime s u) : Leaves c s fun t =>
    t = { s with regs := t.regs, inlet := t.inlet, tb := t.tb, cams := t.cams, dsps := t.dsps } ∧
      SamePages [0x02, 0x05, 0x06, 0x31, 0x32, 0x33, 0x34, 0x35, 0x36, 0x37, 0x38] s t ∧ SameBytes s t :=
  leaves_of row ⟨by rw [h.only], h.pages, h.bytes⟩

end OnlyTime

end Sys2Proof.Machine
end

section
set_option Elab.async false -- one proof after the other: each further worker thread takes its stack from the check's memory
open Sys2Proof Sys2Proof.Machine

/-- Settles O55: each row through what its functions change. -/
theorem fieldAndTimeFrame : Obligations.FieldAndTimeFrame := by
  unfold Obligations.FieldAndTimeFrame
  refine ⟨fun c s row => ?_, fun c s row => ?_⟩
  · cases c with
    | isoLinkFrame => exact OnlyField.leaves rfl OnlyField.refl.isoFrame
    | fieldSideLinkTimeout => exact OnlyField.leaves rfl (.ite OnlyField.refl.frame .refl)
    | linkSyncTimeout => exact OnlyField.leaves rfl (.ite OnlyField.refl.setLink .refl)
    | couplerCheckDone => exact OnlyField.leaves rfl (.ite OnlyField.refl.wr.wr.wr.latchMask.board.tryParallel.refresh .refl)
    | inputSample => exact OnlyField.leaves rfl OnlyField.refl.sampleInputs
    | fieldCounterEdge c => exact OnlyField.leaves rfl (OnlyField.refl.counterEdge c.isLt)
    | foShort n => exact OnlyField.leaves rfl (.ite (OnlyField.refl.latchFo.wrBit (boardWords_stat n.isLt)).raise .refl)
    | foOvertemp n =>
      exact OnlyField.leaves rfl (.ite (OnlyField.refl.board.latchFo.wrBit (boardWords_stat n.isLt)).raise .refl)
    | foOpenLoad n => exact OnlyField.leaves rfl (.ite (OnlyField.refl.wrBit (boardWords_stat n.isLt)).raise .refl)
    | foReadback n =>
      exact OnlyField.leaves rfl (.ite (.ite OnlyField.refl.raise (.ite (OnlyField.refl.wrBit (boardWords_stat n.isLt)) .refl)) .refl)
    | foDriverCooled => exact OnlyField.leaves rfl (.ite OnlyField.refl.board.refresh .refl)
    | outputSwitchOff n =>
      exact OnlyField.leaves rfl (.ite ((OnlyField.refl.wrFld (boardWords_stat n.isLt)).when fun _ h => h.raise) .refl)
    | fieldWarn => exact OnlyField.leaves rfl (.ite OnlyField.refl.setSupply.raise.refresh .refl)
    | fieldNormal => exact OnlyField.leaves rfl (.ite OnlyField.refl.setSupply.refresh .refl)
    | fieldSag => exact OnlyField.leaves rfl (.ite OnlyField.refl.setSupply.sat16.board.raise.refresh .refl)
    | fieldLost => exact OnlyField.leaves rfl (.ite OnlyField.refl.setSupply.sat16.board.raise.fallback .refl)
    | fieldOk =>
      exact OnlyField.leaves rfl (.ite
        ((OnlyField.refl.setSupply.board.each fun _ hn _ h => h.wrBit (boardWords_stat hn)).raise.refresh) .refl)
    | ilkCrcCheck =>
      have shown {w : Word} : OnlyField s (s.wr 0x0C 0x4C w) := OnlyField.refl.wr
      exact OnlyField.leaves rfl (.ite .refl (.ite shown.raise.board.refresh shown))
    | _ => cases row
  · cases c with
    | tbMeasurement => exact OnlyTime.leaves rfl OnlyTime.refl.tbMeasure
    | tbCapture => exact OnlyTime.leaves rfl OnlyTime.refl.capture
    | refSourceTimeout => exact OnlyTime.leaves rfl OnlyTime.refl.tbLose
    | ppsIn => exact OnlyTime.leaves rfl OnlyTime.refl.capture.raise.tbMeasure
    | tbWrap => exact OnlyTime.leaves rfl OnlyTime.refl.advanceTo
    | _ => cases row
end

section
set_option Elab.async false -- one proof after the other: each further worker thread takes its stack from the check's memory
/-! SUPPORT. Camera ports: what the steps of a port leave, its link's state, a frame in progress, and the writes that act (R255 to
R260). -/

namespace Sys2Proof.Machine

variable {s t u : State} {Q R : Nat → Prop} {c code st : Nat}

/-! ### Words beside the cameras' own state -/

/-- Beside the words of `Q` the registers are as before, and so are the cameras' own state and the time base's. -/
structure CamsKept (Q : Nat → Prop) (s t : State) : Prop extends SameBut Q s t where
  cams : t.cams = s.cams
  tb : t.tb = s.tb

namespace CamsKept

theorem refl : CamsKept Q s s := ⟨.refl, rfl, rfl⟩

theorem trans (h : CamsKept Q s t) (g : CamsKept Q t u) : CamsKept Q s u :=
  ⟨h.toSameBut.trans g.toSameBut, g.cams.trans h.cams, g.tb.trans h.tb⟩

theorem mono (h : CamsKept Q s t) (sub : ∀ k, Q k → R k) : CamsKept R s t := ⟨h.toSameBut.mono sub, h.cams, h.tb⟩

theorem frame (h : CamsKept Q s t) (regs : u.regs = t.regs := by rfl) (cams : u.cams = t.cams := by rfl)
    (tb : u.tb = t.tb := by rfl) : CamsKept Q s u :=
  ⟨h.toSameBut.regs regs, cams.trans h.cams, tb.trans h.tb⟩

theorem words (h : CamsKept Q s t) (only : OnlyRegsInlet t u) (same : SameBut Q t u) : CamsKept Q s u :=
  h.trans ⟨same, only.cams_eq, only.tb_eq⟩

theorem setKey {k : Nat} {v : Word} (h : CamsKept Q s t) (hq : Q k) : CamsKept Q s (t.setKey k v) :=
  h.words (onlyRegsInlet_setKey ..) (SameBut.refl.setKey hq)

theorem wr {p o : Nat} {v : Word} (h : CamsKept Q s t) (hq : Q (rk p o) := by decide) : CamsKept Q s (t.wr p o v) := h.setKey hq

theorem wrFld {p o lo n x : Nat} (h : CamsKept Q s t) (hq : Q (rk p o) := by decide) : CamsKept Q s (t.wrFld p o lo n x) := h.wr hq

theorem wrBit {p o i : Nat} {b : Bool} (h : CamsKept Q s t) (hq : Q (rk p o) := by decide) : CamsKept Q s (t.wrBit p o i b) := h.wr hq

theorem sat16 {p o : Nat} (h : CamsKept Q s t) (hq : Q (rk p o) := by decide) : CamsKept Q s (t.sat16 p o) := h.wr hq

theorem raise {e : Nat} {p0 p1 p2 : Word} (h : CamsKept Q s t) : CamsKept Q s (t.raise e p0 p1 p2) :=
  h.words (onlyRegsInlet_raise ..) SameBut.refl.raise

theorem ite {b : Prop} {_ : Decidable b} {x y : State} (hx : CamsKept Q s x) (hy : CamsKept Q s y) : CamsKept Q s (if b then x else y) := by
  split
  · exact hx
  · exact hy

theorem when {b : Bool} {f : State → State} (h : CamsKept Q s t) (hf : ∀ x, CamsKept Q s x → CamsKept Q s (f x)) :
    CamsKept Q s (t.when b f) := .ite (hf t h) h

theorem foldl {α : Type} {f : State → α → State} {l : List α} (h : CamsKept Q s t)
    (hf : ∀ x ∈ l, ∀ y, CamsKept Q s y → CamsKept Q s (f y x)) : CamsKept Q s (l.foldl f t) :=
  List.foldlRecOn l f h fun y hy x hx => hf x hx y hy

theorem applyShadows {p : Nat} {sel : Nat → Bool} (h : CamsKept Q s t) (taken : ∀ k, keyPage k = p → sel k = true → Q k)
    (status : Q (rk p 0x24)) : CamsKept Q s (t.applyShadows p sel) := by
  have took : CamsKept Q s (t.takeShadows p sel) := by
    unfold State.takeShadows
    extract_lets l s₁ s₂
    have h₁ : CamsKept Q s s₁ := h.foldl fun e he _ h' => by
      have home := (List.mem_filter.1 he).2
      simp only [Bool.and_eq_true, decide_eq_true_eq] at home
      exact (h'.setKey (taken _ home.1 home.2)).frame
    have h₂ : CamsKept Q s s₂ := h₁.frame
    exact h₂.wrBit status
  exact .ite h ((took.wrFld status).wrBit status)

theorem camErr (h : CamsKept Q s t) (hq : Q (rk (camPage c) 0xBC)) : CamsKept Q s (t.camErr c code) := (h.wr hq).raise

/-- A capture. -/
theorem capture {src n : Nat} (h : CamsKept Q s t) (hq : ∀ k, SlotWords k → Q k) : CamsKept Q s (t.capture src n) :=
  h.words capture_only (capture_words.toSameBut.mono hq)

end CamsKept

/-! ### A camera's own state -/

/-- A change of a camera's state that keeps what `g` reads of it. -/
theorem modCam_keeps {α : Type} {g : Cam → α} {f : Cam → Cam} {x : Nat} (keeps : ∀ y, g (f y) = g y) :
    g ((s.modCam x f).cam c) = g (s.cam c) := by
  simp only [State.cam, State.modCam, List.getD_eq_getElem?_getD, List.getElem?_modify]
  cases s.cams[c]? with
  | none => rfl
  | some y =>
    simp only [Option.getD_some]
    split
    · exact keeps y
    · rfl

theorem modCam_self {f : Cam → Cam} (hc : c < s.cams.length) : (s.modCam c f).cam c = f (s.cam c) := by
  simp [State.cam, State.modCam, List.getD_eq_getElem?_getD, hc]

theorem modCam_length {f : Cam → Cam} {x : Nat} : (s.modCam x f).cams.length = s.cams.length := List.length_modify ..

theorem cam_congr (h : t.cams = s.cams) : t.cam c = s.cam c := by rw [State.cam, State.cam, h]

/-! ### The link's state (R260) -/

/-- LINK_STAT of the port, and the load of the vision path. -/
abbrev LinkWords (c k : Nat) : Prop := k = rk (camPage c) 0xA8 ∨ keyPage k = 0x30

theorem setCam_kept : CamsKept (LinkWords c) s (s.setCam c st) := by
  unfold State.setCam
  extract_lets up was s₁
  have h₁ : CamsKept (LinkWords c) s s₁ :=
    (((CamsKept.refl.wrFld (.inl rfl)).wrBit (.inl rfl)).wr (.inr rfl)).wr (.inr rfl)
  exact .ite h₁ h₁.raise

/-- LINK_STAT shows the state and the link. -/
theorem setCam_state (hc : c < 8) (hst : st < 8) : (s.setCam c st).camState c = st ∧ (s.setCam c st).camLinkUp c = decide (2 ≤ st) := by
  unfold State.setCam
  extract_lets up was s₁
  have shown : s₁.rd (camPage c) 0xA8 = setBit (setFld (s.rd (camPage c) 0xA8) 0 3 st) 8 up :=
    (rd_wr_ne _ _ _ _ _ _ (by unfold rk camPage; omega)).trans ((rd_wr_ne _ _ _ _ _ _ (by unfold rk camPage; omega)).trans
      ((rd_wrBit_self _ _ _ _ _).trans (by rw [rd_wrFld_self])))
  have raised : (if up = was then s₁ else s₁.raise (128 + 2 * c) (w32 c) (w32 (b2n up)) 0).rd (camPage c) 0xA8 =
      setBit (setFld (s.rd (camPage c) 0xA8) 0 3 st) 8 up := by
    split
    · exact shown
    · exact ((SameBut.raise (Q := fun _ => False) .refl).rd (by unfold camPage; omega)).trans shown
  rw [State.camState, State.camLinkUp, State.rf, State.rb, raised]
  refine ⟨?_, bit_setBit_self _ _ _ (by decide)⟩
  rw [fld_setBit_ne _ _ _ _ _ (by decide) (by decide), fld_setFld_self _ _ _ _ (by decide)]
  exact Nat.mod_eq_of_lt hst

theorem camState_congr (h : t.rd (camPage c) 0xA8 = s.rd (camPage c) 0xA8) : t.camState c = s.camState c ∧ t.camLinkUp c = s.camLinkUp c := by
  rw [State.camState, State.camLinkUp, State.rf, State.rb, h]
  exact ⟨rfl, rfl⟩

theorem camState_modCam {x : Nat} {f : Cam → Cam} : (s.modCam x f).camState c = s.camState c ∧ (s.modCam x f).camLinkUp c = s.camLinkUp c :=
  camState_congr (rd_congr (modCam_regs ..) _ _)

theorem i2cAbort_kept : CamsKept (· = rk (camPage c) 0xA4) s (s.i2cAbort c) := .ite (CamsKept.refl.wr rfl) .refl

theorem i2cAbort_state (hc : c < 8) : (s.i2cAbort c).camState c = s.camState c ∧ (s.i2cAbort c).camLinkUp c = s.camLinkUp c :=
  camState_congr (i2cAbort_kept.rd (by unfold camPage; omega) (by decide) (by decide) (by unfold rk camPage; omega))

/-- A stopped port is STOPPED, and one that ran has no link. -/
theorem camStop_state (hc : c < 8) : (s.camStop c).camState c = 0 ∧ (s.camState c ≠ 0 → (s.camStop c).camLinkUp c = false) := by
  unfold State.camStop
  split
  · next stopped => exact ⟨stopped, fun h => absurd stopped h⟩
  · have off := i2cAbort_state (s := (s.setCam c 0).modCam c fun x => { x with opened := false, raw := [] }) hc
    obtain ⟨state, link⟩ := setCam_state (s := s) (st := 0) hc (by decide)
    exact ⟨(off.1.trans camState_modCam.1).trans state, fun _ => (off.2.trans camState_modCam.2).trans link⟩

/-- A port whose configuration passes its check is LINKING. -/
theorem camLinking_passes (hc : c < 8) (ok : s.camConfigOk c = true) : (s.camLinking c).camState c = 1 ∧ (s.camLinking c).camLinkUp c = false := by
  rw [State.camLinking, if_pos ok]
  extract_lets _ _ _ s₃
  obtain ⟨state, link⟩ := setCam_state (s := s₃) (st := 1) hc (by decide)
  exact ⟨camState_modCam.1.trans state, camState_modCam.2.trans link⟩

/-- A port that links again has no link: it is LINKING, or STOPPED where its check fails. -/
theorem camLinking_down (hc : c < 8) (on : s.camState c ≠ 0) : (s.camLinking c).camState c ≤ 1 ∧ (s.camLinking c).camLinkUp c = false := by
  by_cases ok : s.camConfigOk c = true
  · obtain ⟨state, link⟩ := camLinking_passes hc ok
    exact ⟨by omega, link⟩
  · rw [State.camLinking, if_neg ok]
    have err : (s.camErr c 7).camState c = s.camState c :=
      (camState_congr ((CamsKept.camErr (Q := (· = rk (camPage c) 0xBC)) .refl rfl).rd (by unfold camPage; omega) (by decide) (by decide)
        (by unfold rk; omega))).1
    obtain ⟨state, link⟩ := camStop_state (s := s.camErr c 7) hc
    exact ⟨by omega, link (by rwa [err])⟩

/-! ### The writes of CTRL and I2C_CMD -/

theorem isStructural_ctrl {p : Nat} : isStructural (rk p 0x40) = false := by
  have off : keyOff (rk p 0x40) = 0x40 := by unfold keyOff rk; omega
  simp [isStructural, off]

/-- Every word but CTRL of the port. -/
abbrev NotCtrl (c k : Nat) : Prop := k ≠ rk (camPage c) 0x40

/-- Entering LINKING leaves CTRL. -/
theorem camLinking_ctrl (hc : c < 8) (ok : s.camConfigOk c = true) : (s.camLinking c).rd (camPage c) 0x40 = s.rd (camPage c) 0x40 := by
  have page {p o : Nat} (hp : p ≠ camPage c) (ho : o < 0x20000) : rk p o ≠ rk (camPage c) 0x40 := fun e => by
    have := congrArg keyPage e
    rw [rk_page _ _ ho, rk_page _ _ (by decide)] at this
    exact hp this
  have own {o : Nat} (ho : o ≠ 0x40) : rk (camPage c) o ≠ rk (camPage c) 0x40 := by unfold rk; omega
  have vtim : camPage c ≠ 0x48 := by unfold camPage; omega
  have structural : CamsKept (NotCtrl c) s (s.applyShadows (camPage c) isStructural).offsetsStale :=
    CamsKept.frame (t := s.applyShadows (camPage c) isStructural) (CamsKept.refl.applyShadows
      (fun k _ chosen e => by rw [e, isStructural_ctrl] at chosen; exact absurd chosen (by decide)) (own (by decide)))
  have retimed {x : State} (h : CamsKept (NotCtrl c) s x) : CamsKept (NotCtrl c) s (x.camRetime c) := by
    unfold State.camRetime
    extract_lets y
    have noted : CamsKept (NotCtrl c) s y := h.foldl fun _ _ _ h' => .ite h'.frame h'
    exact .ite h (CamsKept.applyShadows noted (fun k hk _ e => vtim (by rw [← rk_page (camPage c) 0x40 (by decide), ← e, hk]))
      (page (by omega) (by decide))).frame
  rw [State.camLinking, if_pos ok]
  extract_lets keep s₁ s₂ s₃
  have h₁ : CamsKept (NotCtrl c) s s₁ := .ite .refl structural
  have h₃ : CamsKept (NotCtrl c) s s₃ := (retimed h₁).wrFld (own (by decide))
  have linking : CamsKept (NotCtrl c) s (s₃.setCam c 1) := h₃.trans (setCam_kept.mono (by
    rintro k (rfl | vis)
    · exact own (by decide)
    · rintro rfl
      rw [rk_page _ _ (by decide), camPage] at vis
      omega))
  exact (rd_congr (modCam_regs ..) _ _).trans (linking.rd (by unfold camPage; omega) (by decide) (by decide) fun h => h rfl)

/-- The check of a port's configuration does not look at its CTRL. -/
theorem camConfigOk_congr (hc : c < 8) (shadow : t.shadow = s.shadow) (keys : ∀ k, k ≠ rk (camPage c) 0x40 → t.key k = s.key k) :
    t.camConfigOk c = s.camConfigOk c := by
  have cams (x o : Nat) (ho : o ≠ 0x40) (hl : o < 0x20000) : t.rd (camPage x) o = s.rd (camPage x) o :=
    keys _ (by unfold rk camPage; omega)
  have vtim (o : Nat) : t.rd 0x48 o = s.rd 0x48 o := keys _ (by unfold rk camPage; omega)
  have nextCam (x o : Nat) (ho : o ≠ 0x40) (hl : o < 0x20000) : t.camNext x o = s.camNext x o := by
    rw [State.camNext, State.camNext, State.nextKey, State.nextKey, State.shadowOf, State.shadowOf, shadow]
    exact congrArg _ (cams x o ho hl)
  have nextVtim (o : Nat) : t.nextKey (rk 0x48 o) = s.nextKey (rk 0x48 o) := by
    rw [State.nextKey, State.nextKey, State.shadowOf, State.shadowOf, shadow]
    exact congrArg _ (vtim o)
  have words (b : Bool) (x o : Nat) (ho : o ≠ 0x40) (hl : o < 0x20000) : t.camWord b x o = s.camWord b x o := by
    rw [State.camWord, State.camWord, nextCam x o ho hl, cams x o ho hl]
  have rings : t.ringOf = s.ringOf := by
    funext b x
    simp only [State.ringOf, words b x 0x54 (by decide) (by decide), words b x 0x4C (by decide) (by decide)]
  have period : t.camPeriod = s.camPeriod := by
    funext x
    simp only [State.camPeriod, State.rf, vtim]
  have periodNext : t.camPeriodNext = s.camPeriodNext := by
    funext x
    simp only [State.camPeriodNext, nextVtim]
  have rates : t.pixRate = s.pixRate := by
    funext b x
    simp only [State.pixRate, words b x 0x4C (by decide) (by decide), words b x 0x50 (by decide) (by decide), period, periodNext]
  have others : t.othersRunning = s.othersRunning := by
    funext x
    simp only [State.othersRunning, State.camRunning, (camState_congr (cams _ 0xA8 (by decide) (by decide))).1]
  have load : t.pixLoad = s.pixLoad := by
    funext l
    rw [State.pixLoad, State.pixLoad, rates]
  have next (o : Nat) (ho : o ≠ 0x40) (hl : o < 0x20000) := nextCam c o ho hl
  simp only [State.camConfigOk, rings, rates, others, load, periodNext, nextVtim, next 0x44 (by decide) (by decide),
    next 0x48 (by decide) (by decide), next 0x4C (by decide) (by decide), next 0x50 (by decide) (by decide),
    next 0x54 (by decide) (by decide)]

theorem dataPlaneUp_congr (gait : t.gaitNow = s.gaitNow) (pins : t.pins = s.pins) : t.dataPlaneUp = s.dataPlaneUp := by
  rw [State.dataPlaneUp, State.dataPlaneUp, gait, pins]

theorem camUp_congr (gait : t.gaitNow = s.gaitNow) (pins : t.pins = s.pins) (variant : t.variant = s.variant) (keep : t.keep = s.keep) :
    t.camUp c = s.camUp c := by
  simp only [State.camUp, State.pageUp, pageHeld_congr keep, variant, dataPlaneUp_congr gait pins]

/-- RUN starts a stopped port whose configuration passes its check (R260). -/
theorem camCtrl_starts {v : Word} (hc : c < 8) (off : s.rb (camPage c) 0x40 0 = false) (run : bit v 0 = true) (stopped : s.camState c = 0)
    (up : s.camUp c = true) (ok : s.camConfigOk c = true) :
    (s.camCtrl c v).camState c = 1 ∧ (s.camCtrl c v).rd (camPage c) 0x40 = v &&& 3 := by
  have written : OnlyRegsInlet s (s.wr (camPage c) 0x40 (v &&& 3)) := onlyRegsInlet_wr ..
  have state : (s.wr (camPage c) 0x40 (v &&& 3)).camState c = 0 :=
    (camState_congr (rd_wr_ne _ _ _ _ _ _ (by unfold rk; omega))).1.trans stopped
  have up' : (s.wr (camPage c) 0x40 (v &&& 3)).camUp c = true :=
    (camUp_congr (congrArg (fld · 0 3) (rd_wr_ne _ _ _ _ _ _ (by unfold rk camPage; omega))) written.pins_eq written.variant_eq
      written.keep_eq).trans up
  have ok' : (s.wr (camPage c) 0x40 (v &&& 3)).camConfigOk c = true :=
    (camConfigOk_congr hc written.shadow_eq fun k hk => (key_wr ..).trans (if_neg (Ne.symm hk))).trans ok
  rw [State.camCtrl, if_pos (by rw [off, run, state, up']; rfl)]
  exact ⟨(camLinking_passes hc ok').1, (camLinking_ctrl hc ok').trans (rd_wr_self ..)⟩

/-- RUN at 0 stops a port that runs (R260). -/
theorem camCtrl_stops {v : Word} (hc : c < 8) (on : s.rb (camPage c) 0x40 0 = true) (stop : bit v 0 = false) :
    (s.camCtrl c v).camState c = 0 := by
  rw [State.camCtrl, if_neg (by simp [on]), if_pos (by simp [on, stop])]
  exact (camStop_state hc).1

/-- START begins a transaction where none is in progress (R258). -/
theorem i2cCmd_starts {v : Word} (idle : s.rb (camPage c) 0xA4 0 = false) :
    (s.i2cCmd c (v ||| 0x1_0000)).rb (camPage c) 0xA4 0 = true ∧ (s.i2cCmd c (v ||| 0x1_0000)).rd (camPage c) 0x94 = v &&& 0x3FFF := by
  have start : bit (v ||| 0x1_0000) 16 = true := by
    rw [bit, BitVec.getLsbD_or]
    simp
  have low : (v ||| 0x1_0000) &&& 0x3FFF = v &&& 0x3FFF := by
    rw [BitVec.and_or_distrib_right, show (0x1_0000 &&& 0x3FFF : Word) = 0 from rfl]
    exact BitVec.or_zero
  rw [State.i2cCmd]
  rw [idle, start, low]
  refine ⟨?_, (rd_wr_ne _ _ _ _ _ _ (by unfold rk; omega)).trans (rd_wr_self ..)⟩
  rw [if_neg (by simp), if_pos rfl, State.rb, rd_wr_self]
  exact bit_setFld_in (lo := 0) (n := 1) (x := 1) (j := 0) (by decide) (by decide)

theorem camPage_data (hc : c < 8) : pagePlane (camPage c) = .data := by
  match c, hc with
  | 0, _ | 1, _ | 2, _ | 3, _ | 4, _ | 5, _ | 6, _ | 7, _ => rfl

/-- CTRL and I2C_CMD of a port are words of the data plane. -/
theorem writeWord_cam {i : Init} {off : Nat} {a v : Word} (hc : c < 8) (own : i ≠ .vote) (acts : off = 0x40 ∨ off = 0x94) :
    s.writeWord i (camPage c) off a v = s.dataWrite i (camPage c) off a v := by
  have page : camPage c = 0x31 + c := rfl
  unfold State.writeWord
  rw [if_neg (by simp [own]), if_neg (by simp; omega), if_neg (by simp; omega), if_neg (by omega), if_neg (by omega), if_neg (by omega),
    if_neg (by omega), if_neg (by omega)]
  unfold State.regWrite
  rw [if_neg (by simp; omega), if_neg (by simp; omega), if_neg (by simp; omega), if_neg (by simp; omega), if_neg (by simp; omega),
    if_neg (by simp; omega), if_neg (by simp; omega), if_neg (by omega), if_pos (camPage_data hc)]

theorem dataWrite_ctrl {i : Init} {a v : Word} (hc : c < 8) (may : s.visRefuses i (rk (camPage c) 0x40) = false) :
    s.dataWrite i (camPage c) 0x40 a v = s.camCtrl c v := by
  have page : camPage c = 0x31 + c := rfl
  unfold State.dataWrite
  rw [if_neg (by rw [may]; decide), if_neg (by simp), if_neg (by simp), if_neg (by simp; omega), if_pos (by simp; omega), page,
    Nat.add_sub_cancel_left]

theorem dataWrite_i2c {i : Init} {a v : Word} (hc : c < 8) (may : s.visRefuses i (rk (camPage c) 0x94) = false) :
    s.dataWrite i (camPage c) 0x94 a v = s.i2cCmd c v := by
  have page : camPage c = 0x31 + c := rfl
  unfold State.dataWrite
  rw [if_neg (by rw [may]; decide), if_neg (by simp), if_neg (by simp), if_neg (by simp; omega), if_neg (by simp), if_pos (by simp; omega),
    page, Nat.add_sub_cancel_left]

/-- What a write of a port's word that acts shows in the port's words. -/
theorem put1_cam {i : Init} {off o : Nat} {v : Word} (hc : c < 8) (own : i ≠ .vote) (acts : off = 0x40 ∨ off = 0x94)
    (reach : s.Open i (camPage c) off true) (ho : o ≠ 0x18) (hl : o < 0x20000) :
    (s.put1 i (camPage c) off v).rd (camPage c) o =
      (State.dataWrite { s with bus := {} } i (camPage c) off (addrOf (camPage c) off) v).rd (camPage c) o := by
  have page : camPage c = 0x31 + c := rfl
  obtain ⟨x, b, counted, eq⟩ := put1_written (v := v) reach (by omega) (by omega) (by omega) (by omega)
  rw [eq, ← writeWord_cam hc own acts]
  refine (reintFollow_sameBut.rd (by omega) ho hl ?_).trans (Eq.trans (rd_congr rfl _ _) (counted.rd (by omega) ho hl ?_))
  · unfold FollowWords
    rw [rk_page _ _ hl]
    unfold rk
    omega
  · rw [BridleWords, rk_page _ _ hl]
    omega

theorem put1_ctrl {i : Init} {o : Nat} {v : Word} (hc : c < 8) (own : i ≠ .vote) (reach : s.Open i (camPage c) 0x40 true)
    (may : s.visRefuses i (rk (camPage c) 0x40) = false) (ho : o ≠ 0x18) (hl : o < 0x20000) :
    (s.put1 i (camPage c) 0x40 v).rd (camPage c) o = (State.camCtrl { s with bus := {} } c v).rd (camPage c) o := by
  rw [put1_cam hc own (.inl rfl) reach ho hl, dataWrite_ctrl (s := { s with bus := {} }) hc may]

theorem put1_i2c {i : Init} {o : Nat} {v : Word} (hc : c < 8) (own : i ≠ .vote) (reach : s.Open i (camPage c) 0x94 true)
    (may : s.visRefuses i (rk (camPage c) 0x94) = false) (ho : o ≠ 0x18) (hl : o < 0x20000) :
    (s.put1 i (camPage c) 0x94 v).rd (camPage c) o = (State.i2cCmd { s with bus := {} } c v).rd (camPage c) o := by
  rw [put1_cam hc own (.inr rfl) reach ho hl, dataWrite_i2c (s := { s with bus := {} }) hc may]

end Sys2Proof.Machine
end

section
set_option Elab.async false -- one proof after the other: each further worker thread takes its stack from the check's memory
/-! SUPPORT. Camera ports: frames, lines, packets, the sync generator and the I2C channel (R255 to R259, R293, R308). -/

namespace Sys2Proof.Machine

variable {s t u : State} {c code : Nat}

/-! ### Frames -/

theorem camPage_ne (hc : c < 8) :
    camPage c ≠ 0x02 ∧ camPage c ≠ 0x05 ∧ camPage c ≠ 0x06 ∧ camPage c ≠ 0x30 ∧ camPage c ≠ 0x48 ∧ camPage c ≠ 0x49 := by
  unfold camPage
  omega

theorem camErr_kept : CamsKept (· = rk (camPage c) 0xBC) s (s.camErr c code) := CamsKept.refl.camErr rfl

/-- A frame in progress that was good is bad, and counts as such (R256). -/
theorem camBad_marks (hc : c < 8) (held : c < s.cams.length) (opened : (s.cam c).opened = true) (good : (s.cam c).bad = false) :
    ((s.camBad c code).cam c).bad = true ∧ (s.camBad c code).rf (camPage c) 0xB8 0 16 = min 0xFFFF (s.rf (camPage c) 0xB8 0 16 + 1) := by
  rw [State.camBad, if_neg (by simp [opened, good])]
  generalize hx : (s.sat16 (camPage c) 0xB8).modCam c (fun x => { x with bad := true }) = x
  have counts : OnlyRegsInlet s (s.sat16 (camPage c) 0xB8) := onlyRegsInlet_wrFld ..
  have marked : (x.cam c).bad = true := by
    rw [← hx, modCam_self (by rw [counts.cams_eq]; exact held)]
  have counted : x.rf (camPage c) 0xB8 0 16 = min 0xFFFF (s.rf (camPage c) 0xB8 0 16 + 1) := by
    rw [← hx]
    exact (rf_congr (modCam_regs ..)).trans rf_sat16
  have err : CamsKept (· = rk (camPage c) 0xBC) x (x.camErr c code) := camErr_kept
  refine ⟨by rw [cam_congr err.cams, marked], (err.rf ?_ (by decide) (by decide) ?_).trans counted⟩
  · exact (camPage_ne hc).1
  · unfold rk; omega

theorem camBad_rest : (s.camBad c code).tb = s.tb ∧ (s.camBad c code).cams.length = s.cams.length := by
  unfold State.camBad
  split
  · exact ⟨rfl, rfl⟩
  · have counts : OnlyRegsInlet s (s.sat16 (camPage c) 0xB8) := onlyRegsInlet_wrFld ..
    exact ⟨(camErr_kept.tb.trans (modCam_tb ..)).trans counts.tb_eq, by rw [camErr_kept.cams, modCam_length, counts.cams_eq]⟩

/-- A frame start shows its number and the time, and a frame is in progress (R259, R260). -/
theorem camFrameStart_spec {no : Nat} (hc : c < 8) (held : c < s.cams.length) (up : s.camUp c = true) (on : 2 ≤ s.camState c) :
    letI t := s.camFrameStart c no
    t.rd (camPage c) 0xAC = w32 no ∧ t.rd (camPage c) 0xB0 = s.ns ∧
      (t.cam c).opened = true ∧ (t.cam c).bad = false ∧ (t.cam c).nextLine = 0 := by
  obtain ⟨router, slots, -, vis, -⟩ := camPage_ne hc
  unfold State.camFrameStart
  rw [if_neg (by simp [up, Nat.not_lt.2 on])]
  extract_lets p s₁ s₂ s₃ enter s₄
  have rest₁ : s₁.tb = s.tb ∧ s₁.cams.length = s.cams.length := by
    unfold s₁ State.when
    split
    · exact camBad_rest
    · exact ⟨rfl, rfl⟩
  have h₂ : CamsKept (fun k => keyPage k = p) s₁ s₂ :=
    CamsKept.refl.applyShadows (fun _ hk _ => hk) (rk_page _ _ (by decide))
  have h₃ : CamsKept SlotWords ((s₂.wr p 0xAC (w32 no)).wr p 0xB0 s₂.ns) s₃ := CamsKept.refl.capture fun _ h => h
  have h₄ : CamsKept (LinkWords c) s₃ s₄ := CamsKept.ite setCam_kept .refl
  have wrote : CamsKept (fun _ => True) s₂ ((s₂.wr p 0xAC (w32 no)).wr p 0xB0 s₂.ns) := (CamsKept.refl.wr trivial).wr trivial
  have shown {o : Nat} (ho : o = 0xAC ∨ o = 0xB0) : s₄.rd p o = ((s₂.wr p 0xAC (w32 no)).wr p 0xB0 s₂.ns).rd p o := by
    have page {x : Nat} : keyPage (rk p x) = p ∨ 0x20000 ≤ x := (Nat.lt_or_ge x 0x20000).imp_left (rk_page _ _)
    refine (h₄.rd router (by omega) (by omega) ?_).trans (h₃.rd router (by omega) (by omega) ?_)
    · rintro (e | e)
      · unfold rk at e; omega
      · rw [rk_page _ _ (by omega)] at e; exact vis e
    · rintro ⟨e, -⟩
      rw [rk_page _ _ (by omega)] at e
      exact slots e
  have length : s₄.cams.length = s.cams.length := by
    rw [h₄.cams, h₃.cams, wrote.cams, h₂.cams]
    exact rest₁.2
  have time : s₂.ns = s.ns := congrArg (fun x : TimeBase => w32 x.count) (h₂.tb.trans rest₁.1)
  have still {o : Nat} {f : Cam → Cam} : (s₄.modCam c f).rd p o = s₄.rd p o := rd_congr (modCam_regs ..) _ _
  refine ⟨(still.trans (shown (.inl rfl))).trans ?_, ((still.trans (shown (.inr rfl))).trans (rd_wr_self ..)).trans time, ?_⟩
  · exact (rd_wr_ne _ _ _ _ _ _ (by unfold rk; omega)).trans (rd_wr_self ..)
  · rw [modCam_self (by rw [length]; exact held)]
    exact ⟨rfl, rfl, rfl⟩

/-! ### Lines -/

/-- The registers are as before, and of camera `c` its frame's progress. -/
structure SameProgress (c : Nat) (s t : State) : Prop where
  regs : t.regs = s.regs
  length : t.cams.length = s.cams.length
  opened : (t.cam c).opened = (s.cam c).opened
  bad : (t.cam c).bad = (s.cam c).bad
  nextLine : (t.cam c).nextLine = (s.cam c).nextLine

namespace SameProgress

theorem refl : SameProgress c s s := ⟨rfl, rfl, rfl, rfl, rfl⟩

/-- A change of a camera's state that spares the frame's progress. -/
theorem modCam {x : Nat} {f : Cam → Cam} (h : SameProgress c s t) (opened : ∀ y, (f y).opened = y.opened := by intro; rfl)
    (bad : ∀ y, (f y).bad = y.bad := by intro; rfl) (nextLine : ∀ y, (f y).nextLine = y.nextLine := by intro; rfl) :
    SameProgress c s (t.modCam x f) :=
  ⟨h.regs, modCam_length.trans h.length, (modCam_keeps opened).trans h.opened, (modCam_keeps bad).trans h.bad,
    (modCam_keeps nextLine).trans h.nextLine⟩

theorem ite {b : Prop} {_ : Decidable b} {x y : State} (hx : SameProgress c s x) (hy : SameProgress c s y) :
    SameProgress c s (if b then x else y) := by
  split
  · exact hx
  · exact hy

theorem writeSlot {y : Nat} (h : SameProgress c s t) : SameProgress c s (t.writeSlot c y) := h.modCam

theorem startSlot {y : Nat} (h : SameProgress c s t) : SameProgress c s (t.startSlot c y) := h.modCam

theorem stampLine {y at_ : Nat} {good : Bool} (h : SameProgress c s t) : SameProgress c s (t.stampLine c y at_ good) := by
  unfold State.stampLine
  extract_lets k
  exact List.foldlRecOn _ _ h fun _ h' _ _ => .ite h'.modCam h'

end SameProgress

/-- A line that joins the windows is taken, and the frame stays as good as it was. -/
theorem takeLine_takes {y : Nat} {px : List Nat} (held : c < s.cams.length) :
    ((s.takeLine c y px).cam c).nextLine = y + 1 ∧ ((s.takeLine c y px).cam c).bad = (s.cam c).bad := by
  unfold State.takeLine
  extract_lets s₁ s₂
  have next : s₁.cam c = { s.cam c with nextLine := y + 1, raw := ((y, px) :: (s.cam c).raw).take 13 } := modCam_self held
  have h₂ : SameProgress c s₁ s₂ := .ite SameProgress.refl.writeSlot .refl
  have h₃ : SameProgress c s₁ (if 3 ≤ y then s₂.startSlot c (y - 3) else s₂) := .ite h₂.startSlot h₂
  exact ⟨h₃.nextLine.trans (by rw [next]), h₃.bad.trans (by rw [next])⟩

/-- Line 0 writes its deviation alone, and spares the frame's progress. -/
theorem lineZero_spec {at_ : Nat} : (s.lineZero c at_).cams.length = s.cams.length ∧ ((s.lineZero c at_).cam c).opened = (s.cam c).opened ∧
    ((s.lineZero c at_).cam c).bad = (s.cam c).bad ∧ ((s.lineZero c at_).cam c).nextLine = (s.cam c).nextLine ∧
    ∀ p o, rk 0x48 (0x54 + 0x20 * c) ≠ rk p o → (s.lineZero c at_).rd p o = s.rd p o := by
  generalize hw : s.wr 0x48 (0x54 + 0x20 * c) (wInt (sat32 (s.lineDev c at_))) = w
  have planned : SameProgress c w (s.lineZero c at_) := by
    rw [State.lineZero, hw]
    exact SameProgress.refl.modCam
  have cams : w.cams = s.cams := by rw [← hw]; rfl
  have cam : w.cam c = s.cam c := cam_congr cams
  refine ⟨planned.length.trans (congrArg List.length cams), planned.opened.trans (by rw [cam]), planned.bad.trans (by rw [cam]),
    planned.nextLine.trans (by rw [cam]), fun p o ne => (rd_congr planned.regs _ _).trans ?_⟩
  rw [← hw]
  exact rd_wr_ne _ _ _ _ _ _ ne

/-- The expected line of a good frame: taken where it has the right length, else the frame is bad (R256). -/
theorem camLine_spec {px : List Nat} {y at_ : Nat} (hc : c < 8) (held : c < s.cams.length) (up : s.camUp c = true)
    (streaming : s.camState c = 3) (opened : (s.cam c).opened = true) (good : (s.cam c).bad = false) (expected : y = (s.cam c).nextLine)
    (inside : y < s.camHeight c) :
    (px.length = s.camWidth c → ((s.camLine c y px false at_).cam c).nextLine = y + 1 ∧ ((s.camLine c y px false at_).cam c).bad = false) ∧
      (px.length ≠ s.camWidth c → ((s.camLine c y px false at_).cam c).bad = true ∧
        (s.camLine c y px false at_).rf (camPage c) 0xB8 0 16 = min 0xFFFF (s.rf (camPage c) 0xB8 0 16 + 1)) := by
  unfold State.camLine
  rw [if_neg (by simp [up, streaming, opened])]
  extract_lets s₁
  have spec : s₁.cams.length = s.cams.length ∧ (s₁.cam c).opened = (s.cam c).opened ∧ (s₁.cam c).bad = (s.cam c).bad ∧
      (s₁.cam c).nextLine = (s.cam c).nextLine ∧ ∀ p o, rk 0x48 (0x54 + 0x20 * c) ≠ rk p o → s₁.rd p o = s.rd p o := by
    unfold s₁
    split
    · exact lineZero_spec
    · exact ⟨rfl, rfl, rfl, rfl, fun _ _ _ => rfl⟩
  clear_value s₁
  obtain ⟨length, opened₁, bad₁, next₁, words⟩ := spec
  have size : s₁.rd (camPage c) 0x4C = s.rd (camPage c) 0x4C := words _ _ (by unfold rk camPage; omega)
  have width : s₁.camWidth c = s.camWidth c := congrArg (fld · 0 12) size
  have height : s₁.camHeight c = s.camHeight c := congrArg (fld · 16 12) size
  have order : (decide (s₁.camHeight c ≤ y) || decide (y ≠ (s₁.cam c).nextLine)) = false := by
    rw [height, next₁, ← expected]
    simpa using inside
  have good₁ : (s₁.cam c).bad = false := bad₁.trans good
  rw [if_neg (by simp [good₁]), if_neg (by decide), order, if_neg (by decide), width]
  refine ⟨fun right => ?_, fun wrong => ?_⟩
  · rw [if_neg (not_not_intro right)]
    obtain ⟨next, bad⟩ := takeLine_takes (s := s₁) (y := y) (px := px) (by rw [length]; exact held)
    have stamped : SameProgress c (s₁.takeLine c y px) ((s₁.takeLine c y px).stampLine c y at_ true) := SameProgress.refl.stampLine
    exact ⟨stamped.nextLine.trans next, (stamped.bad.trans bad).trans good₁⟩
  · rw [if_pos wrong]
    obtain ⟨bad, count⟩ := camBad_marks (s := s₁) (code := 3) hc (by rw [length]; exact held) (opened₁.trans opened) good₁
    have stamped : SameProgress c (s₁.camBad c 3) ((s₁.camBad c 3).stampLine c y at_ false) := SameProgress.refl.stampLine
    refine ⟨stamped.bad.trans bad, ((rf_congr stamped.regs).trans count).trans ?_⟩
    rw [State.rf, words _ _ (by unfold rk camPage; omega), State.rf]

/-- A good frame that ends after its last line counts, and no frame is in progress (R256). -/
theorem camFrameEnd_counts (held : c < s.cams.length) (good : (s.cam c).bad = false) (whole : (s.cam c).nextLine = s.camHeight c) :
    (s.camFrameEnd c).rd (camPage c) 0xB4 = s.rd (camPage c) 0xB4 + 1 ∧ ((s.camFrameEnd c).cam c).opened = false := by
  unfold State.camFrameEnd
  extract_lets h s₁ s₂ s₃ s₄
  have same : s₁ = s := if_neg (by simp [whole, h])
  have slots : SameProgress c s s₂ := by
    unfold s₂
    rw [same]
    exact List.foldlRecOn _ _ .refl fun _ h' _ _ => h'.startSlot.writeSlot
  have counted : s₃ = s₂.inc32 (camPage c) 0xB4 := if_neg (by rw [same, good]; decide)
  have only : OnlyRegsInlet s₂ s₄ := by
    unfold s₄
    rw [counted]
    exact (onlyRegsInlet_wr ..).trans' (onlyRegsInlet_wr ..)
  have count : s₄.rd (camPage c) 0xB4 = s₂.rd (camPage c) 0xB4 + 1 := by
    unfold s₄
    rw [counted, rd_wr_ne _ _ _ _ _ _ (by unfold rk; omega), State.inc32, rd_wr_self]
  refine ⟨(rd_congr (modCam_regs ..) _ _).trans (count.trans (by rw [rd_congr slots.regs])), ?_⟩
  rw [modCam_self (by rw [only.cams_eq, slots.length]; exact held)]

/-! ### The judgement of a frame (R308) -/

/-- The words of the frame watch. -/
abbrev WatchWords (k : Nat) : Prop := keyPage k = 0x49

theorem watchWords_rk {o : Nat} (ho : o < 0x20000) : WatchWords (rk 0x49 o) := rk_page _ _ ho

theorem watchWords_fw {v o : Nat} (hv : v < 6) (ho : o < 0x40 := by decide) : WatchWords (rk 0x49 (fwOff v o)) :=
  watchWords_rk (by unfold fwOff; omega)

namespace CamsKept

variable {v : Nat}

theorem modWatch {f : Watch → Watch} (h : CamsKept WatchWords s t) : CamsKept WatchWords s (t.modWatch v f) := h.frame

theorem showVerdict (h : CamsKept WatchWords s t) (hv : v < 6) : CamsKept WatchWords s (t.showVerdict v) := h.wr (watchWords_fw hv)

theorem setWatch {st : Nat} (h : CamsKept WatchWords s t) (hv : v < 6) : CamsKept WatchWords s (t.setWatch v st) := h.wr (watchWords_fw hv)

theorem watchFailed (h : CamsKept WatchWords s t) (hv : v < 6) : CamsKept WatchWords s (t.watchFailed v) :=
  (((h.setWatch hv).sat16 (watchWords_fw hv)).when fun _ h' => h'.modWatch.raise).showVerdict hv

theorem watchFail {k : Nat} (h : CamsKept WatchWords s t) (hv : v < 6) : CamsKept WatchWords s (t.watchFail v k) := by
  have bad : CamsKept WatchWords s ((t.modWatch v fun w => { w with bad := true }).setWatch v (t.watchState v)) := h.modWatch.setWatch hv
  exact .ite (h.showVerdict hv) (.ite (bad.watchFailed hv) (.ite ((bad.setWatch hv).showVerdict hv) (bad.showVerdict hv)))

theorem judgeView {isA : Bool} {why no : Nat} {dev : Option Int} (h : CamsKept WatchWords s t) (hv : v < 6) :
    CamsKept WatchWords s (t.judgeView c v isA why no dev) := by
  unfold State.judgeView
  extract_lets tol expOk s₁ s₂ s₃ s₄ s₅
  have h₂ : CamsKept WatchWords s s₂ := (h.wrFld (watchWords_fw hv)).modWatch
  have h₃ : CamsKept WatchWords s s₃ := h₂.when fun _ h' => (h'.sat16 (watchWords_fw hv)).raise
  have h₄ : CamsKept WatchWords s s₄ := h₃.when fun _ h' => (h'.sat16 (watchWords_fw hv)).raise
  have h₅ : CamsKept WatchWords s s₅ := h₄.when fun _ h' => h'.watchFail hv
  exact .ite h ((h₅.when fun _ h' => h'.watchFail hv).showVerdict hv)

end CamsKept

theorem viewsOf_lt {x : Nat × Bool} (h : x ∈ s.viewsOf c) : x.1 < 6 := by
  obtain ⟨v, hv, hx⟩ := List.mem_flatMap.1 h
  have lt := List.mem_range.1 hv
  rcases List.mem_append.1 hx with hx | hx
  · split at hx <;> simp_all
  · split at hx <;> simp_all

/-- The judgement of a camera's frame spares the frame's progress and the words of the port. -/
theorem judgeCam_spec {missing : Bool} : SameBut WatchWords s (s.judgeCam c missing) ∧
    ((s.judgeCam c missing).cam c).opened = (s.cam c).opened := by
  unfold State.judgeCam
  extract_lets x no why dev s₁
  have judged : CamsKept WatchWords s s₁ := CamsKept.refl.foldl fun _ hx _ h' => h'.judgeView (viewsOf_lt hx)
  have cam : s₁.cam c = s.cam c := cam_congr judged.cams
  split
  · exact ⟨judged.toSameBut, by rw [cam]⟩
  · exact ⟨judged.toSameBut.regs,
      (modCam_keeps (g := Cam.opened) (f := fun x => { x with firstFrame := false, prevNo := no }) fun _ => rfl).trans (by rw [cam])⟩

/-- A missing frame start is reported with code 8 (R260). -/
theorem camErr_reports (hc : c < 8) (up : s.camUp c = true) (hcode : code < 0x1_0000) :
    (s.camErr c code).rf (camPage c) 0xBC 0 16 = code ∧ (s.camErr c code).rb (camPage c) 0x18 1 = true := by
  have word : (s.camErr c code).rd (camPage c) 0xBC = w32 (code + 0x1_0000 * ((s.cam c).nextLine % 4096)) :=
    ((SameBut.raise (Q := fun _ => False) .refl).rd (camPage_ne hc).1).trans (rd_wr_self ..)
  constructor
  · rw [State.rf, word, fld_w32_zero (by decide)]
    omega
  · have fitted : pageAbsent s.variant (camPage c) = false := by
      simp only [State.camUp, State.pageUp, Bool.and_eq_true, Bool.not_eq_true'] at up
      exact up.1.1.1
    have home : ∀ c : Fin 8, evHome (129 + 2 * c.val) = some (camPage c.val, 1) ∧ evReserved (129 + 2 * c.val) = false := by decide
    obtain ⟨page, used⟩ := home ⟨c, hc⟩
    exact rb_raise_self page used (by rw [(onlyRegsInlet_wr ..).variant_eq, fitted])

/-! ### Packets (R255 to R257) -/

/-- A packet without a header error: it is of another virtual channel, short, of another type, out of place, bad, embedded, or image. -/
theorem camPacket_clean {vc dt : Nat} {crcOk : Bool} {d : List Byte} (up : s.camUp c = true) (linked : 2 ≤ s.camState c) :
    s.camPacket c vc dt .clean crcOk d =
      if vc ≠ s.rf (camPage c) 0x44 4 4 then s.sat16 (camPage c) 0xC4
      else if dt < 4 then s
      else if dt ≠ 0x12 && dt ≠ s.rf (camPage c) 0x48 0 6 then s.sat16 (camPage c) 0xC4
      else if dt = 0x12 && !s.embTakes c then s.sat16 (camPage c) 0xC4
      else if !crcOk then s.camCheckFail c 2
      else if dt = 0x12 then s.embLine c d
      else s := by
  unfold State.camPacket
  rw [if_neg (by simp [up, Nat.not_lt.2 linked])]
  extract_lets s₁
  have same : s₁ = s := if_neg (by decide)
  rw [same, if_neg (by decide)]

/-- An embedded line's bytes follow those before it. -/
theorem embLine_takes {d : List Byte} (held : c < s.cams.length) :
    ((s.embLine c d).cam c).embBytes = min 4096 ((s.cam c).embBytes + d.length) := by
  unfold State.embLine
  extract_lets p n s₁
  have only : OnlyRegsInlet s s₁ := List.foldlRecOn _ _ (.rfl' s) fun _ h' _ _ => h'.trans' (onlyRegsInlet_setKey ..)
  rw [modCam_self (by rw [only.cams_eq]; exact held)]

/-! ### The sync generator (R259, R293) -/

/-- Time comes to `n` and generator `g` is due at `due`: registers but those of time stay, and all else but the time base's state. -/
theorem strobeFor_spec {g n due : Nat} (hg : g < s.tb.strobes.length) :
    (((s.advanceTo n).strobeFor g due).tb.strobes.getD g {}).due = some due ∧ SameBut TimeWords s ((s.advanceTo n).strobeFor g due) ∧
      ∃ tb regs inlet, (s.advanceTo n).strobeFor g due = { s with tb := tb, regs := regs, inlet := inlet } := by
  obtain ⟨fr, only⟩ := advanceTo_only s n
  have same : SameBut TimeWords s (s.advanceTo n) := advanceTo_sameBut
  generalize s.advanceTo n = x at only same ⊢
  have strobed : ((x.strobeFor g due).tb.strobes.getD g {}).due = some due := by
    rw [State.strobeFor, List.getD_eq_getElem _ _ (by rw [List.length_set, only.tb_eq]; exact hg), List.getElem_set_self]
  refine ⟨strobed, same.regs, ?_⟩
  unfold OnlyRegsInlet at only
  exact ⟨_, _, _, by rw [State.strobeFor, only]⟩

/-- Generator `g` fires at its next due instant. -/
theorem fire_spec {g phi p : Nat} (hg : g < s.tb.strobes.length) :
    ((s.fire g phi p).tb.strobes.getD g {}).due = some (nextInstant phi p (s.tb.count * 65536) (s.tb.strobes.getD g {}).due) ∧
      SameBut TimeWords s (s.fire g phi p) ∧ ∃ tb regs inlet, s.fire g phi p = { s with tb := tb, regs := regs, inlet := inlet } := by
  rw [State.fire]
  exact strobeFor_spec hg

/-- An edge goes to the sensor of a port that runs in sync, where its link is up. -/
def State.syncEdge (s : State) (c : Nat) : State :=
  if s.camUp c && s.rb (camPage c) 0x40 1 && s.camLinkUp c then s.modCam c (fun y => { y with strobes := y.strobes + 1 }) else s

theorem exec_cameraSyncStrobe {c : Fin 8} (runs : s.camGenerators = true) :
    exec (.cameraSyncStrobe c) s = answer s ((s.fire (1 + c.val) (s.camPhase c.val) (s.camPeriod c.val)).syncEdge c.val) :=
  congrArg (answer s) (if_neg (by simp [runs]))

/-- The sync generator stands at its next due instant, and an edge goes to a sensor whose link is up. -/
theorem syncStrobe_spec {phi p : Nat} (hc : c < 8) (held : c < s.cams.length) (hg : 1 + c < s.tb.strobes.length) :
    letI t := (s.fire (1 + c) phi p).syncEdge c
    (t.tb.strobes.getD (1 + c) {}).due = some (nextInstant phi p (s.tb.count * 65536) (s.tb.strobes.getD (1 + c) {}).due) ∧
      (s.camUp c = true → s.rb (camPage c) 0x40 1 = true → s.camLinkUp c = true → (t.cam c).strobes = (s.cam c).strobes + 1) := by
  obtain ⟨fired, same, tb, regs, inlet, rest⟩ := fire_spec (phi := phi) (p := p) hg
  generalize s.fire (1 + c) phi p = x at fired same rest ⊢
  have port {o : Nat} (ho : o ≠ 0x18) (hl : o < 0x20000) : x.rd (camPage c) o = s.rd (camPage c) o := by
    obtain ⟨router, tbPage, lanes, -⟩ := camPage_ne hc
    refine same.rd router ho hl ?_
    rintro (e | e)
    · rw [rk_page _ _ hl] at e; exact lanes e
    · have := congrArg keyPage e
      rw [rk_page _ _ hl] at this
      exact tbPage this
  have gait : x.gaitNow = s.gaitNow := same.rf
  have up : x.camUp c = s.camUp c := camUp_congr gait (by rw [rest]) (by rw [rest]) (by rw [rest])
  have edge : x.rb (camPage c) 0x40 1 = s.rb (camPage c) 0x40 1 := congrArg (bit · 1) (port (by decide) (by decide))
  have link : x.camLinkUp c = s.camLinkUp c := (camState_congr (port (by decide) (by decide))).2
  have cams : x.cams = s.cams := by rw [rest]
  rw [State.syncEdge, up, edge, link]
  split
  · refine ⟨by rw [modCam_tb]; exact fired, fun _ _ _ => ?_⟩
    rw [modCam_self (by rw [cams]; exact held), cam_congr cams]
  · next quiet => exact ⟨fired, fun hu he hl => absurd (by simp [hu, he, hl]) quiet⟩

/-! ### I2C (R258) -/

/-- A transaction that completes shows its result. -/
theorem i2cComplete_shows {ack answered : Bool} {d : List Byte} (busy : s.rb (camPage c) 0xA4 0 = true) :
    (s.i2cComplete c ack answered d).rd (camPage c) 0xA4 =
      w32 (2 + 4 * b2n ((answered && s.camLinkUp c) && !ack) + 8 * b2n (!(answered && s.camLinkUp c))) := by
  unfold State.i2cComplete
  rw [if_neg (by rw [busy]; decide)]
  extract_lets a s₁ _ _ _
  have shown : s₁.rd (camPage c) 0xA4 = w32 (2 + 4 * b2n (a && !ack) + 8 * b2n (!a)) := rd_wr_self ..
  split
  · exact (rd_wr_ne _ _ _ _ _ _ (by unfold rk; omega)).trans ((rd_wr_ne _ _ _ _ _ _ (by unfold rk; omega)).trans shown)
  · exact shown

theorem i2cStat_bits (a b : Bool) : bit (w32 (2 + 4 * b2n a + 8 * b2n b)) 0 = false ∧ bit (w32 (2 + 4 * b2n a + 8 * b2n b)) 1 = true ∧
    bit (w32 (2 + 4 * b2n a + 8 * b2n b)) 2 = a ∧ bit (w32 (2 + 4 * b2n a + 8 * b2n b)) 3 = b := by
  revert a b
  decide

end Sys2Proof.Machine
end

section
set_option Elab.async false -- one proof after the other: each further worker thread takes its stack from the check's memory
open Sys2Proof Sys2Proof.Machine

/-- Settles O43: each row through what its functions do to the port, and the writes through the bus. -/
theorem cameraPorts : Obligations.CameraPorts := by
  unfold Obligations.CameraPorts
  refine ⟨fun c i v s own reach may off run stopped up ok => completes_of rfl (fun _ h => h) ?_,
    fun c i v s own reach may on stop => completes_of rfl (fun _ h => h) ?_,
    fun c s up training => completes_of rfl (fun _ h => h) ?_, fun c s up training => completes_of rfl (fun _ h => h) ?_,
    fun c s up linked => completes_of rfl (fun _ h => h) ?_,
    fun c vc dt crcOk d s up linked other => completes_of rfl (fun _ h => h) ?_,
    fun c d s held up linked => ⟨fun takes => completes_of rfl (fun _ h => h) ?_, fun full => completes_of rfl (fun _ h => h) ?_⟩,
    fun c no s held up linked => completes_of rfl (fun _ h => h) ?_,
    fun c px back s held up streaming opened good y expected inside =>
      ⟨fun right => completes_of rfl (fun _ h => h) ?_, fun wrong => completes_of rfl (fun _ h => h) ?_⟩,
    fun c no s held up opened good whole => completes_of rfl (fun _ h => h) ?_,
    fun c s up linked => completes_of rfl (fun _ h => h) ?_,
    fun c s held strobes runs => completes_of (exec_cameraSyncStrobe runs) (fun _ h => h) ?_,
    fun c i v s own reach may idle => completes_of rfl (fun _ h => h) ?_,
    fun c ack answered d s busy => completes_of rfl (fun _ h => h) ?_⟩
  · have ctrl := put1_ctrl (v := v) c.isLt own reach may (o := 0x40) (by decide) (by decide)
    have stat := put1_ctrl (v := v) c.isLt own reach may (o := 0xA8) (by decide) (by decide)
    obtain ⟨state, word⟩ := camCtrl_starts (s := { s with bus := {} }) c.isLt off run stopped up ok
    exact ⟨(camState_congr stat).1.trans state, ctrl.trans word⟩
  · have stat := put1_ctrl (v := v) c.isLt own reach may (o := 0xA8) (by decide) (by decide)
    exact (camState_congr stat).1.trans (camCtrl_stops (s := { s with bus := {} }) c.isLt on stop)
  · rw [if_pos (by simp [up, training])]
    exact setCam_state c.isLt (by decide)
  · rw [if_pos (by simp [up, training])]
    exact rf_sat16
  · rw [if_pos (by simp [up, linked])]
    have again := setCam_state (s := s.camBad c.val 6) (st := 1) c.isLt (by decide)
    have aborted := i2cAbort_state (s := (s.camBad c.val 6).setCam c.val 1) c.isLt
    exact (camLinking_down c.isLt (by rw [aborted.1, again.1]; decide)).symm
  · rw [camPacket_clean up linked, if_pos other]
    exact rf_sat16
  · rw [camPacket_clean up linked, if_neg (by simp), if_neg (by decide), if_neg (by simp), if_neg (by simp [takes]), if_neg (by decide),
      if_pos rfl]
    exact embLine_takes (by omega)
  · rw [camPacket_clean up linked, if_neg (by simp), if_neg (by decide), if_neg (by simp), if_pos (by simp [full])]
    exact rf_sat16
  · exact camFrameStart_spec c.isLt (by omega) up linked
  · exact (camLine_spec c.isLt (by omega) up streaming opened good expected inside).1 right
  · exact (camLine_spec c.isLt (by omega) up streaming opened good expected inside).2 wrong
  · rw [if_neg (by simp [up, opened])]
    obtain ⟨count, ended⟩ := camFrameEnd_counts (by omega) good whole
    obtain ⟨same, still⟩ := judgeCam_spec (s := s.camFrameEnd c.val) (c := c.val) (missing := false)
    have page := camPage_ne c.isLt
    exact ⟨(same.rd page.1 (by decide) (by decide) (by rw [WatchWords, rk_page _ _ (by decide)]; exact page.2.2.2.2.2)).trans count,
      still.trans ended⟩
  · rw [if_neg (by simp [up, Nat.not_lt.2 linked])]
    obtain ⟨code, pend⟩ := camErr_reports (code := 8) c.isLt up (by decide)
    have page := camPage_ne c.isLt
    have judged := (judgeCam_spec (s := s.camErr c.val 8) (c := c.val) (missing := true)).1
    have own {o : Nat} (ho : o < 0x20000) : ¬WatchWords (rk (camPage c.val) o) := by
      rw [WatchWords, rk_page _ _ ho]
      exact page.2.2.2.2.2
    dsimp only
    split
    · exact ⟨(judged.rf page.1 (by decide) (by decide) (own (by decide))).trans code, judged.pend _ _ page.1 (own (by decide)) pend⟩
    · exact ⟨code, pend⟩
  · exact syncStrobe_spec c.isLt (by omega) (by omega)
  · have word := put1_i2c (v := v ||| 0x1_0000) c.isLt own reach may (o := 0x94) (by decide) (by decide)
    have stat := put1_i2c (v := v ||| 0x1_0000) c.isLt own reach may (o := 0xA4) (by decide) (by decide)
    obtain ⟨busy, taken⟩ := i2cCmd_starts (s := { s with bus := {} }) (v := v) idle
    exact ⟨(congrArg (bit · 0) stat).trans busy, word.trans taken⟩
  · have word := i2cComplete_shows (ack := ack) (answered := answered) (d := d) busy
    obtain ⟨idle, done, nack, lost⟩ := i2cStat_bits ((answered && s.camLinkUp c.val) && !ack) (!(answered && s.camLinkUp c.val))
    rw [← word] at idle done nack lost
    exact ⟨idle, done, nack, lost⟩
end

section
set_option Elab.async false -- one proof after the other: each further worker thread takes its stack from the check's memory
/-! SUPPORT. The functions that store no byte: they leave the cells of memory as they were (R146). -/

namespace Sys2Proof.Machine

variable {s t : State} {m : List Host.Cell}

/-- The cells of memory are `m`. -/
structure State.MemIs (s : State) (m : List Host.Cell) : Prop where
  mem : s.mem = m

/-- Whatever the other fields are. -/
theorem State.MemIs.frame {pending variant regs shadow upsets img kp bus freeIx pins tb inlet vw lanes tro reint prog keep boxes bells farr field
    cams views dsps watches cans mvb net dup sec upd recd gait} (h : s.MemIs m) :
    State.MemIs { pending, variant, regs, shadow, upsets, img, mem := s.mem, kp, bus, freeIx, pins, tb, inlet, vw, lanes, tro, reint, prog,
                  keep, boxes, bells, farr, field, cams, views, dsps, watches, cans, mvb, net, dup, sec, upd, recd, gait } m :=
  ⟨h.mem⟩

theorem State.MemIs.of_eq (h : s.MemIs m) (mem : t.mem = s.mem) : t.MemIs m := ⟨mem.trans h.mem⟩

/-! ### Branches, folds, and what other families cover -/

theorem State.MemIs.ite {c : Prop} {_ : Decidable c} {a b : State} (ha : a.MemIs m) (hb : b.MemIs m) : (if c then a else b).MemIs m := by
  split
  · exact ha
  · exact hb

theorem State.MemIs.when {c f} (h : s.MemIs m) (hf : ∀ t, t.MemIs m → (f t).MemIs m) : (s.when c f).MemIs m := .ite (hf s h) h

theorem State.MemIs.foldl {α : Type} {f : State → α → State} {l : List α} (h : s.MemIs m) (hf : ∀ x t, t.MemIs m → (f t x).MemIs m) :
    (l.foldl f s).MemIs m :=
  List.foldlRecOn l f h fun t ht x _ => hf x t ht

/-- What changes registers and the inlet queue alone. -/
theorem State.MemIs.words (h : s.MemIs m) (only : OnlyRegsInlet s t) : t.MemIs m := h.of_eq only.mem_eq

theorem State.MemIs.board (h : s.MemIs m) (only : OnlyField s t) : t.MemIs m := h.of_eq (by rw [only.only])

theorem State.MemIs.time (h : s.MemIs m) (only : OnlyTime s t) : t.MemIs m := h.of_eq (by rw [only.only])

theorem State.MemIs.recorder (h : s.MemIs m) (only : OnlyRecorder s t) : t.MemIs m := h.of_eq (by rw [only.only])

theorem State.MemIs.answer (h : s.MemIs m) (only : OnlyAnswer s t) : t.MemIs m := h.of_eq (by rw [only])

theorem State.MemIs.setKey {k v} (h : s.MemIs m) : (s.setKey k v).MemIs m := h.words (onlyRegsInlet_setKey ..)

theorem State.MemIs.wr {p o v} (h : s.MemIs m) : (s.wr p o v).MemIs m := h.setKey

theorem State.MemIs.setTab {p ix v} (h : s.MemIs m) : (s.setTab p ix v).MemIs m := h.setKey

theorem State.MemIs.wrFld {p o lo n x} (h : s.MemIs m) : (s.wrFld p o lo n x).MemIs m := h.wr

theorem State.MemIs.wrBit {p o i b} (h : s.MemIs m) : (s.wrBit p o i b).MemIs m := h.wr

theorem State.MemIs.sat16 {p o} (h : s.MemIs m) : (s.sat16 p o).MemIs m := h.wr

theorem State.MemIs.sat16hi {p o} (h : s.MemIs m) : (s.sat16hi p o).MemIs m := h.wr

theorem State.MemIs.inc32 {p o} (h : s.MemIs m) : (s.inc32 p o).MemIs m := h.wr

theorem State.MemIs.enterInlet {e} (h : s.MemIs m) : (s.enterInlet e).MemIs m := h.words (onlyRegsInlet_enterInlet ..)

theorem State.MemIs.occur {n p0 p1 p2} (h : s.MemIs m) : (s.occur n p0 p1 p2).MemIs m := h.words (onlyRegsInlet_occur ..)

theorem State.MemIs.raise {n p0 p1 p2} (h : s.MemIs m) : (s.raise n p0 p1 p2).MemIs m := h.occur

theorem State.MemIs.error {p off ini cause ev p0} (h : s.MemIs m) : (s.error p off ini cause ev p0).MemIs m := h.wr.raise

theorem State.MemIs.accessFault {i addr cause} (h : s.MemIs m) : (s.accessFault i addr cause).MemIs m := h.error

theorem State.MemIs.kpFail {p ini p0} (h : s.MemIs m) : (s.kpFail p ini p0).MemIs m := h.error

theorem State.MemIs.capture {src c} (h : s.MemIs m) : (s.capture src c).MemIs m := h.words capture_only

theorem State.MemIs.refresh (h : s.MemIs m) : s.refresh.MemIs m := h.board OnlyField.refl.refresh

theorem State.MemIs.setLink {x} (h : s.MemIs m) : (s.setLink x).MemIs m := h.board OnlyField.refl.setLink

theorem State.MemIs.advanceTo {c} (h : s.MemIs m) : (s.advanceTo c).MemIs m := h.time OnlyTime.refl.advanceTo

theorem State.MemIs.tbSelect (h : s.MemIs m) : s.tbSelect.MemIs m := h.time OnlyTime.refl.tbSelect

theorem State.MemIs.tbMeasure {src c theta} (h : s.MemIs m) : (s.tbMeasure src c theta).MemIs m := h.time OnlyTime.refl.tbMeasure

theorem State.MemIs.draw (h : s.MemIs m) : s.draw.MemIs m := h.frame

theorem State.MemIs.accept {r} (h : s.MemIs m) : (s.accept r).MemIs m := h.recorder OnlyRecorder.refl.accept

theorem State.MemIs.ringPut {r} (h : s.MemIs m) : (s.ringPut r).MemIs m := h.frame

theorem State.MemIs.recError (h : s.MemIs m) : s.recError.MemIs m := h.raise.draw

theorem State.MemIs.modBox {n f} (h : s.MemIs m) : (s.modBox n f).MemIs m := h.frame

theorem State.MemIs.boxDone {n err resp} (h : s.MemIs m) : (s.boxDone n err resp).MemIs m := h.answer OnlyAnswer.refl.boxDone

theorem State.MemIs.serve {n code sel lens f} (h : s.MemIs m) (hf : (f s).MemIs m) : (s.serve n code sel lens f).MemIs m :=
  .ite h (.ite h.boxDone (.ite h.boxDone (.ite h.boxDone hf)))

theorem State.MemIs.reintFollow (h : s.MemIs m) : s.reintFollow.MemIs m := by
  obtain ⟨_, _, _, _, eq⟩ := reintFollow_rest s
  exact h.of_eq (by rw [eq])

theorem State.MemIs.takeShadows {p sel} (h : s.MemIs m) : (s.takeShadows p sel).MemIs m :=
  .wrBit (.frame (.foldl h fun _ _ h' => h'.setKey.frame))

theorem State.MemIs.applyShadows {p sel} (h : s.MemIs m) : (s.applyShadows p sel).MemIs m := .ite h h.takeShadows.wrFld.wrBit

theorem State.MemIs.camErr {c code} (h : s.MemIs m) : (s.camErr c code).MemIs m := h.wr.raise

theorem State.MemIs.setCam {c st} (h : s.MemIs m) : (s.setCam c st).MemIs m := .ite h.wrFld.wrBit.wr.wr h.wrFld.wrBit.wr.wr.raise

theorem State.MemIs.i2cAbort {c} (h : s.MemIs m) : (s.i2cAbort c).MemIs m := .ite h.wr h

theorem State.MemIs.showVerdict {v} (h : s.MemIs m) : (s.showVerdict v).MemIs m := h.wr

theorem State.MemIs.setWatch {v st} (h : s.MemIs m) : (s.setWatch v st).MemIs m := h.wr

theorem State.MemIs.setImage {id w v} (h : s.MemIs m) : (s.setImage id w v).MemIs m := h.frame

theorem State.MemIs.clearImage {id} (h : s.MemIs m) : (s.clearImage id).MemIs m := h.frame

theorem State.MemIs.putImage {id cells} (h : s.MemIs m) : (s.putImage id cells).MemIs m := .foldl h fun _ _ h' => h'.setImage

theorem State.MemIs.copyImage {src dst} (h : s.MemIs m) : (s.copyImage src dst).MemIs m := h.clearImage.putImage

theorem State.MemIs.modLane {l f} (h : s.MemIs m) : (s.modLane l f).MemIs m := h.frame

theorem State.MemIs.modCam {c f} (h : s.MemIs m) : (s.modCam c f).MemIs m := h.frame

theorem State.MemIs.modView {v f} (h : s.MemIs m) : (s.modView v f).MemIs m := h.frame

theorem State.MemIs.modDsp {d f} (h : s.MemIs m) : (s.modDsp d f).MemIs m := h.frame

theorem State.MemIs.modWatch {v f} (h : s.MemIs m) : (s.modWatch v f).MemIs m := h.frame

theorem State.MemIs.modCan {n f} (h : s.MemIs m) : (s.modCan n f).MemIs m := h.frame

theorem State.MemIs.camBad {c code} (h : s.MemIs m) : (s.camBad c code).MemIs m := .ite h h.sat16.modCam.camErr

theorem State.MemIs.watchFailed {v} (h : s.MemIs m) : (s.watchFailed v).MemIs m :=
  .showVerdict (.when h.setWatch.sat16 fun _ h' => h'.modWatch.raise)

theorem State.MemIs.watchFail {v k} (h : s.MemIs m) : (s.watchFail v k).MemIs m :=
  .ite h.showVerdict (.ite h.modWatch.setWatch.watchFailed (.ite h.modWatch.setWatch.setWatch.showVerdict h.modWatch.setWatch.showVerdict))

theorem State.MemIs.judgeView {c v isA why no dev} (h : s.MemIs m) : (s.judgeView c v isA why no dev).MemIs m := by
  unfold State.judgeView
  exact .ite h (.showVerdict (.when (.when (.when (.when h.wrFld.modWatch fun _ h' => h'.sat16.raise) fun _ h' =>
    h'.sat16.raise) fun _ h' => h'.watchFail) fun _ h' => h'.watchFail))

theorem State.MemIs.oneCycle {f} (hf : ∀ t, t.MemIs m → (f t).MemIs m) (h : s.MemIs m) : (s.oneCycle f).MemIs m :=
  have cycle : (f { s with inlet := [] }).MemIs m := hf _ h.frame
  .foldl cycle.frame fun _ _ h' => h'.enterInlet

theorem State.MemIs.busError (h : s.MemIs m) : s.busError.MemIs m := h.frame

theorem State.MemIs.kpDrop {p} (h : s.MemIs m) : (s.kpDrop p).MemIs m := h.frame

theorem State.MemIs.setT3 {k v} (h : s.MemIs m) : (s.setT3 k v).MemIs m := h.setKey.frame

theorem State.MemIs.setShadow {k v} (h : s.MemIs m) : (s.setShadow k v).MemIs m := h.frame.wrBit

theorem State.MemIs.dropShadows {p sel} (h : s.MemIs m) : (s.dropShadows p sel).MemIs m := h.frame.wrBit

theorem State.MemIs.clearTs {sel} (h : s.MemIs m) : (s.clearTs sel).MemIs m := h.frame

theorem State.MemIs.setImgBits {id pos n x} (h : s.MemIs m) : (s.setImgBits id pos n x).MemIs m := h.setImage

theorem State.MemIs.substitute {src} (h : s.MemIs m) : (s.substitute src).MemIs m := h.clearImage.putImage.putImage.setImage

theorem State.MemIs.limpEnd {was} (h : s.MemIs m) : (s.limpEnd was).MemIs m := .ite h.substitute.refresh h

theorem State.MemIs.safeCause {c} (h : s.MemIs m) : (s.safeCause c).MemIs m := by
  unfold State.safeCause
  exact .ite h.wrBit.limpEnd (.refresh (.when h.wrBit.wr.sat16.raise.copyImage.substitute fun _ h' => h'.frame))

theorem State.MemIs.lineCauses (h : s.MemIs m) : s.lineCauses.MemIs m := by
  unfold State.lineCauses
  extract_lets s₁ s₂ s₃ s₄
  have h₁ : s₁.MemIs m := .when h fun _ h' => h'.frame
  have h₂ : s₂.MemIs m := .when h₁ fun _ h' => h'.safeCause
  have h₃ : s₃.MemIs m := .when h₂ fun _ h' => h'.safeCause
  have h₄ : s₄.MemIs m := .when h₃ fun _ h' => h'.safeCause
  exact .when h₄ fun _ h' => h'.safeCause

theorem State.MemIs.freeSems {code} (h : s.MemIs m) : (s.freeSems code).MemIs m := .foldl h fun _ _ h' => .ite h'.wr h'

theorem State.MemIs.retireSlot {num} (h : s.MemIs m) : (s.retireSlot num).MemIs m := h.wr.frame

theorem State.MemIs.vwError {cause ev addr} (h : s.MemIs m) : (s.vwError cause ev addr).MemIs m := h.error

theorem State.MemIs.vwDrop {k} (h : s.MemIs m) : (s.vwDrop k).MemIs m := by
  unfold State.vwDrop
  extract_lets _ s₁
  have h₁ : s₁.MemIs m := h.frame
  split
  · exact h₁
  · exact h₁.vwError

theorem State.MemIs.vwSettleN {n} (h : s.MemIs m) : (State.vwSettleN n s).MemIs m := by
  induction n generalizing s with
  | zero => exact h
  | succ n ih => exact .ite (ih h.retireSlot) h

theorem State.MemIs.vwSettle (h : s.MemIs m) : s.vwSettle.MemIs m := h.vwSettleN.frame

theorem State.MemIs.vwLaneLeft {l} (h : s.MemIs m) : (s.vwLaneLeft l).MemIs m :=
  .ite (.vwSettle (.freeSems (.foldl h.frame fun _ _ h' => h'.vwDrop))) h.frame

theorem State.MemIs.voterUpdate (h : s.MemIs m) : s.voterUpdate.MemIs m := .when h.wrFld.wrFld fun _ h' => h'.raise

theorem State.MemIs.ocEnd {result} (h : s.MemIs m) : (s.ocEnd result).MemIs m := .ite h.wrFld.wrFld h

theorem State.MemIs.setLane {l code} (h : s.MemIs m) : (s.setLane l code).MemIs m := by
  unfold State.setLane
  extract_lets _ _ s₁ s₂ s₃
  have h₁ : s₁.MemIs m := h.wrFld
  have h₂ : s₂.MemIs m := h₁.vwLaneLeft
  have h₃ : s₃.MemIs m := h₂.voterUpdate
  exact .ite (.limpEnd (.when h₃ fun _ h' => h'.safeCause.ocEnd)) (.ite h₁.limpEnd h₁)

theorem State.MemIs.failLane {l cause} (h : s.MemIs m) : (s.failLane l cause).MemIs m :=
  h.wrFld.wr.sat16.modLane.wrBit.setLane.raise

theorem State.MemIs.strobeFor {g due} (h : s.MemIs m) : (s.strobeFor g due).MemIs m := h.frame

theorem State.MemIs.fire {g phi p} (h : s.MemIs m) : (s.fire g phi p).MemIs m := h.advanceTo.strobeFor

theorem State.MemIs.secondMarkNow (h : s.MemIs m) : s.secondMarkNow.MemIs m := .when h.advanceTo.frame fun _ h' => h'.frame.capture

theorem State.MemIs.modCore {l sh f} (h : s.MemIs m) : (s.modCore l sh f).MemIs m := h.modLane

theorem State.MemIs.coreTrap {l sh c pc} (h : s.MemIs m) : (s.coreTrap l sh c pc).MemIs m :=
  .ite h.modCore.draw h.modCore.draw.wr.wr.raise

theorem State.MemIs.laneTrap {l c pc} (h : s.MemIs m) : (s.laneTrap l c pc).MemIs m := h.coreTrap

theorem State.MemIs.laneEcc {l a e} (h : s.MemIs m) : (s.laneEcc l a e).MemIs m := by
  unfold State.laneEcc
  split
  · exact h
  · exact h.sat16.wr.raise
  · extract_lets s₁
    have h₁ : s₁.MemIs m := h.wr.raise
    exact .ite h₁.failLane h₁

theorem State.MemIs.refuseSplit {l} (h : s.MemIs m) : (s.refuseSplit l).MemIs m := h.wrBit.wrBit.modLane

theorem State.MemIs.endSplit {l} (h : s.MemIs m) : (s.endSplit l).MemIs m := .ite h.refuseSplit h

theorem State.MemIs.failRequest {l} (h : s.MemIs m) : (s.failRequest l).MemIs m := .ite h.failLane h

theorem State.MemIs.debugLane {l} (h : s.MemIs m) : (s.debugLane l).MemIs m :=
  .ite h (.ite h h.endSplit.modLane.setLane.wrBit.frame.raise)

theorem State.MemIs.offLane {l} (h : s.MemIs m) : (s.offLane l).MemIs m := h.endSplit.wrBit.setLane.modLane

theorem State.MemIs.reintFail {result} (h : s.MemIs m) : (s.reintFail result).MemIs m := h.wrFld.wrFld

theorem State.MemIs.fioChanged {old} (h : s.MemIs m) : (s.fioChanged old).MemIs m :=
  .foldl (.foldl h fun _ _ h' => .ite h'.setTab h') fun _ _ h' => .ite h' h'.wr

theorem State.MemIs.setSig {i x} (h : s.MemIs m) : (s.setSig i x).MemIs m := h.frame

theorem State.MemIs.stationSeen {st} (h : s.MemIs m) : (s.stationSeen st).MemIs m := h.wrBit

theorem State.MemIs.sigUpdate {i v} (h : s.MemIs m) : (s.sigUpdate i v).MemIs m := .when h.setSig fun _ h' => h'.stationSeen

theorem State.MemIs.rxSignals {kind num d} (h : s.MemIs m) : (s.rxSignals kind num d).MemIs m :=
  .foldl h fun _ _ h' => .ite h'.sigUpdate h'

theorem State.MemIs.setTabBytes {p ix n d} (h : s.MemIs m) : (s.setTabBytes p ix n d).MemIs m := .foldl h fun _ _ h' => h'.setTab

theorem State.MemIs.setObjReady {n o b} (h : s.MemIs m) : (s.setObjReady n o b).MemIs m := h.wrBit

theorem State.MemIs.completeObj {n o} (h : s.MemIs m) : (s.completeObj n o).MemIs m := h.modCan.setObjReady

theorem State.MemIs.putCan {i x} (h : s.MemIs m) : (s.putCan i x).MemIs m := .ite h.accessFault h.setTabBytes

theorem State.MemIs.putMvb {i x} (h : s.MemIs m) : (s.putMvb i x).MemIs m := h.setTabBytes

theorem State.MemIs.putDs {i x} (h : s.MemIs m) : (s.putDs i x).MemIs m := h.frame

theorem State.MemIs.putView {up i x} (h : s.MemIs m) : (s.putView up i x).MemIs m := h.modView

theorem State.MemIs.substOutputs (h : s.MemIs m) : s.substOutputs.MemIs m := by
  unfold State.substOutputs
  extract_lets _ _ s₁ s₂ s₃ _ s₄ s₅
  have h₁ : s₁.MemIs m := .foldl h fun _ _ h' => h'.putCan
  have h₂ : s₂.MemIs m := .ite h₁ (.foldl h₁ fun _ _ h' => h'.putMvb)
  have h₃ : s₃.MemIs m := .foldl h₂ fun _ _ h' => h'.putDs
  have h₄ : s₄.MemIs m := h₃.frame
  have h₅ : s₅.MemIs m := .foldl h₄ fun _ _ h' => h'.putView
  exact .foldl h₅ fun _ _ h' => h'.wrBit

theorem State.MemIs.sendSubst (h : s.MemIs m) : s.sendSubst.MemIs m := .ite h h.substOutputs

theorem State.MemIs.putMoving (h : s.MemIs m) : s.putMoving.MemIs m := by
  unfold State.putMoving
  split
  · exact h
  · exact h.wrBit

theorem State.MemIs.commitOut (h : s.MemIs m) : s.commitOut.MemIs m := by
  unfold State.commitOut
  split
  · exact h
  · split
    · exact h.putMoving
    · extract_lets _ s₁ _ s₂ s₃ s₄ s₅
      have h₁ : s₁.MemIs m := .foldl h fun _ _ h' => h'.putCan
      have h₂ : s₂.MemIs m := .foldl h₁ fun _ _ h' => .ite h' h'.completeObj
      have h₃ : s₃.MemIs m := .ite h₂ (.foldl h₂ fun _ _ h' => h'.putMvb)
      have h₄ : s₄.MemIs m := .ite (.foldl h₃ fun _ _ h' => h'.putDs) h₃
      have h₅ : s₅.MemIs m := .foldl h₄ fun _ _ h' => h'.putView
      exact h₅.putMoving

theorem State.MemIs.staleStation {st} (h : s.MemIs m) : (s.staleStation st).MemIs m := .foldl h fun _ _ h' => h'.setSig

theorem State.MemIs.setTt {n x} (h : s.MemIs m) : (s.setTt n x).MemIs m := h.wrFld

theorem State.MemIs.ttErr {n code p1} (h : s.MemIs m) : (s.ttErr n code p1).MemIs m := h.raise

theorem State.MemIs.applySchedule {n} (h : s.MemIs m) : (s.applySchedule n).MemIs m :=
  .ite h (.ite h.applyShadows h.dropShadows.accessFault.ttErr)

theorem State.MemIs.scheduleNow {n} (h : s.MemIs m) : (s.scheduleNow n).MemIs m := .ite h h.applySchedule

theorem State.MemIs.startFrame {n b ws} (h : s.MemIs m) : (s.startFrame n b ws).MemIs m := h.modCan

theorem State.MemIs.canStop {n} (h : s.MemIs m) : (s.canStop n).MemIs m := h.wrBit.wr.modCan.scheduleNow

theorem State.MemIs.ttListen {n} (h : s.MemIs m) : (s.ttListen n).MemIs m := h.setTt.modCan.scheduleNow

theorem State.MemIs.canIntegrate {n} (h : s.MemIs m) : (s.canIntegrate n).MemIs m := .ite h (.ite h.wrBit.ttListen h.wrBit)

theorem State.MemIs.setErrCnt {n tec rec} (h : s.MemIs m) : (s.setErrCnt n tec rec).MemIs m :=
  .ite h.wr (.ite h.wr.wrFld.raise.sat16.wrBit.modCan h.wr.wrFld.raise.wrBit)

theorem State.MemIs.txOk {n} (h : s.MemIs m) : (s.txOk n).MemIs m := h.setErrCnt

theorem State.MemIs.rxOk {n} (h : s.MemIs m) : (s.rxOk n).MemIs m := .ite h (.ite h.setErrCnt h.setErrCnt.draw)

theorem State.MemIs.rxPush {n q pair f sof} (h : s.MemIs m) : (s.rxPush n q pair f sof).MemIs m :=
  .ite (.ite h.sat16 h.sat16hi) (.when h.modCan fun _ h' => h'.raise)

/-- The body is put in for the constant, not unfolded in place: the kernel would then evaluate the match on the filter it searches. -/
theorem State.MemIs.canReceive {n f sof} (h : s.MemIs m) : (s.canReceive n f sof).MemIs m := by
  generalize body : @State.canReceive = receive
  delta State.canReceive at body
  subst body
  beta_reduce
  extract_lets s₁
  have h₁ : s₁.MemIs m := h.capture.inc32.rxOk
  split
  · exact h₁.sat16
  · exact .ite h₁.rxSignals.rxPush (.ite h₁.rxSignals.rxPush h₁.rxSignals)

theorem State.MemIs.inhibitMaster {n} (h : s.MemIs m) : (s.inhibitMaster n).MemIs m := .ite h.wrBit.ttErr.setTt h.wrBit.ttErr

theorem State.MemIs.ownIdSeen {n f} (h : s.MemIs m) : (s.ownIdSeen n f).MemIs m := .ite h.inhibitMaster h

theorem State.MemIs.basicCycle {n cc} (h : s.MemIs m) : (s.basicCycle n cc).MemIs m := .ite h.wrFld.applySchedule h.wrFld

theorem State.MemIs.setOffset {n mrm mark} (h : s.MemIs m) : (s.setOffset n mrm mark).MemIs m := h.wr

theorem State.MemIs.setPeriod {n p} (h : s.MemIs m) : (s.setPeriod n p).MemIs m := h.modCan.wr

theorem State.MemIs.trimPeriod {n sof mrm} (h : s.MemIs m) : (s.trimPeriod n sof mrm).MemIs m := by
  unfold State.trimPeriod
  extract_lets _
  split
  · exact h.setPeriod
  · split
    · exact h
    · extract_lets _
      exact .ite h h.setPeriod

theorem State.MemIs.observe {n cc onGuard} (h : s.MemIs m) : (s.observe n cc onGuard).MemIs m := by
  unfold State.observe
  split
  · exact .ite h.modCan h
  · exact .ite h.modCan.ttErr (.ite h.modCan.setTt h.modCan)

theorem State.MemIs.reference {n f sof elapsed} (h : s.MemIs m) : (s.reference n f sof elapsed).MemIs m := by
  unfold State.reference
  extract_lets _ _ _ _ _ _ _ _ _ s₁ s₂ _ s₃ s₄ s₅ s₆ s₇ s₈
  have h₁ : s₁.MemIs m := h.wr.wrFld
  have h₂ : s₂.MemIs m := h₁.modCan
  have h₃ : s₃.MemIs m := .when h₂ fun _ h' => h'.wrBit
  have h₄ : s₄.MemIs m := h₂.wrBit
  have h₅ : s₅.MemIs m := .when h₄ fun _ h' => h'.ttErr
  have h₆ : s₆.MemIs m := h₅.setOffset.trimPeriod
  have h₇ : s₇.MemIs m := .ite (.ite h₂.setTt.modCan.setOffset h₂) (.ite h₃.observe.setOffset (.ite
      (.when h₆ fun _ h' => h'.tbMeasure) h₂))
  have h₈ : s₈.MemIs m := h₇.modCan
  exact h₈.basicCycle

theorem State.MemIs.becomeMaster {n} (h : s.MemIs m) : (s.becomeMaster n).MemIs m := h.modCan.wr.setPeriod.wrBit.setTt

theorem State.MemIs.ownReference {n ntu cc} (h : s.MemIs m) : (s.ownReference n ntu cc).MemIs m :=
  h.capture.inc32.txOk.modCan.modCan.wr.wrFld.basicCycle

theorem State.MemIs.refMissing {n} (h : s.MemIs m) : (s.refMissing n).MemIs m := by
  unfold State.refMissing
  exact .ite h (.ite (.ite h.wrFld.sat16.ttErr.modCan.basicCycle.modCan.ttErr h.wrFld.sat16.ttErr.modCan.basicCycle)
      (.ite h.wrFld.sat16.ttErr.modCan.basicCycle.ttListen.ttErr h.wrFld.sat16.ttErr.modCan.basicCycle))

theorem State.MemIs.txDone {n b sofNs} (h : s.MemIs m) : (s.txDone n b sofNs).MemIs m := by
  unfold State.txDone
  extract_lets _ _ s₁ s₂ _ _ _ s₃ s₄ s₅
  have h₁ : s₁.MemIs m := .ite h h.startFrame
  have h₂ : s₂.MemIs m := h₁.capture.inc32.txOk
  have h₃ : s₃.MemIs m := .ite (.ite h₂ h₂.setObjReady) h₂.wrBit
  have h₄ : s₄.MemIs m := h₃.modCan
  have h₅ : s₅.MemIs m := .when h₄ fun _ h' => h'.raise
  exact .ite h (.ite h₅.canStop h₅)

theorem State.MemIs.captureErred {n} (h : s.MemIs m) : (s.captureErred n).MemIs m := .ite h.capture.draw h

theorem State.MemIs.frameError {n own b fl tec rec} (h : s.MemIs m) : (s.frameError n own b fl tec rec).MemIs m := by
  unfold State.frameError
  split
  · exact h
  · extract_lets _ s₁ _ _ _ s₂ s₃ s₄ s₅ s₆
    have h₁ : s₁.MemIs m := h.captureErred
    have h₂ : s₂.MemIs m := h₁.modCan
    have h₃ : s₃.MemIs m := .when h₂ fun _ h' => h'.wr.raise
    have h₄ : s₄.MemIs m := .when h₃ fun _ h' => h'.inhibitMaster
    have h₅ : s₅.MemIs m := by
      unfold s₅
      split
      · exact h₁
      · split
        · exact .ite h₄.wrBit.modCan h₄
        · exact h₄
    have h₆ : s₆.MemIs m := h₅.setErrCnt
    exact .ite h₆.canStop h₆

theorem State.MemIs.exclusiveWindow {n w busIdle} (h : s.MemIs m) : (s.exclusiveWindow n w busIdle).MemIs m :=
  .ite h (.ite h.sat16 (.ite h (.ite h.sat16hi.ttErr (.ite h.startFrame h.sat16.startFrame))))

theorem State.MemIs.arbitratingWindow {n w} (h : s.MemIs m) : (s.arbitratingWindow n w).MemIs m := by
  unfold State.arbitratingWindow
  split
  · exact h
  · extract_lets _ s₁
    have h₁ : s₁.MemIs m := h.modCan
    split
    · exact h₁
    · exact h₁.startFrame

theorem State.MemIs.lateFrame {n f sof} (h : s.MemIs m) : (s.lateFrame n f sof).MemIs m := .ite h.modCan.canReceive h

theorem State.MemIs.mvbErr {code} (h : s.MemIs m) : (s.mvbErr code).MemIs m := h.raise

theorem State.MemIs.mvbCalm (h : s.MemIs m) : s.mvbCalm.MemIs m := h.frame

theorem State.MemIs.setMvbRole {r} (h : s.MemIs m) : (s.setMvbRole r).MemIs m :=
  .ite h.wrFld.frame.raise (.ite h.wrFld.frame.mvbCalm.raise h.wrFld.frame)

theorem State.MemIs.mvbCfg (h : s.MemIs m) : s.mvbCfg.MemIs m := .ite (.ite h.setMvbRole h) (.ite h.setMvbRole h)

theorem State.MemIs.mvbLine {b valid other} (h : s.MemIs m) : (s.mvbLine b valid other).MemIs m := by
  unfold State.mvbLine
  extract_lets _ _ _ _ _ _ s₁ s₂ s₃
  have h₁ : s₁.MemIs m := h.frame
  have h₂ : s₂.MemIs m := .when h₁ fun _ h' => .ite h'.sat16hi h'.sat16
  have h₃ : s₃.MemIs m := .when h₂ fun _ h' => h'.wrBit
  exact .when h₃ fun _ h' => h'.wrBit

theorem State.MemIs.mvbLines {a b} (h : s.MemIs m) : (s.mvbLines a b).MemIs m := by
  unfold State.mvbLines
  extract_lets s₁ _ _ s₂ _ s₃ _
  have h₁ : s₁.MemIs m := h.mvbLine.mvbLine
  have h₂ : s₂.MemIs m := h₁.mvbErr
  have h₃ : s₃.MemIs m := h₁.frame
  exact .ite (.ite h₁ h₂.frame) (.ite h₃.wrBit.raise h₃)

theorem State.MemIs.portStamp {p} (h : s.MemIs m) : (s.portStamp p).MemIs m := h.setTab

theorem State.MemIs.mvbForeign (h : s.MemIs m) : s.mvbForeign.MemIs m := h.frame.setMvbRole.mvbErr

theorem State.MemIs.mvbAnswer {d} (h : s.MemIs m) : (s.mvbAnswer d).MemIs m := h.frame

theorem State.MemIs.mvbMaster {port fc own} (h : s.MemIs m) : (s.mvbMaster port fc own).MemIs m := by
  unfold State.mvbMaster
  extract_lets s₁ _ s₂ s₃ _ s₄ _
  have h₁ : s₁.MemIs m := .ite h (.ite h.mvbForeign (.when h fun _ h' => h'.mvbCalm))
  have h₂ : s₂.MemIs m := h₁.frame
  have h₃ : s₃.MemIs m := .when h₂ fun _ h' => h'.inc32.frame
  have h₄ : s₄.MemIs m := h₃.frame
  exact .ite h₄ (.ite (.ite h₄.mvbAnswer h₄) (.foldl h₄ fun _ _ h' => .when h'.portStamp.mvbAnswer fun _ h'' =>
      h''.raise))

theorem State.MemIs.mvbSlave {d} (h : s.MemIs m) : (s.mvbSlave d).MemIs m := by
  unfold State.mvbSlave
  split
  · exact h
  · extract_lets _ s₁ _
    have h₁ : s₁.MemIs m := h.frame
    exact .ite h₁.mvbErr (.foldl h₁ fun _ _ h' => .when h'.setTabBytes.portStamp.rxSignals fun _ h'' => h''.raise)

theorem State.MemIs.mvbFrame {a b} (h : s.MemIs m) : (s.mvbFrame a b).MemIs m := by
  unfold State.mvbFrame
  extract_lets _ _ _ _ _ s₁ _
  have h₁ : s₁.MemIs m := h.mvbLines
  split
  · exact h₁.mvbForeign
  · split
    · exact h₁.mvbErr
    · exact h₁.mvbMaster
    · exact h₁.mvbSlave

theorem State.MemIs.applyPolls (h : s.MemIs m) : s.applyPolls.MemIs m :=
  .ite h (.ite h.dropShadows.accessFault.mvbErr h.draw.applyShadows.wr)

theorem State.MemIs.toBasicPeriod (h : s.MemIs m) : s.toBasicPeriod.MemIs m := h.advanceTo.frame

theorem State.MemIs.basicPeriod (h : s.MemIs m) : s.basicPeriod.MemIs m := by
  unfold State.basicPeriod
  split
  · exact h
  · extract_lets s₁ _ s₂ s₃ s₄ _
    have h₁ : s₁.MemIs m := h.toBasicPeriod
    have h₂ : s₂.MemIs m := h₁.wrFld
    have h₃ : s₃.MemIs m := .ite h₂.applyPolls h₂
    have h₄ : s₄.MemIs m := .ite h₃.setMvbRole h₃
    exact .ite h₄.frame h₄

theorem State.MemIs.portCount {n c k} (h : s.MemIs m) : (s.portCount n c k).MemIs m := h.setTab.setTab

theorem State.MemIs.sendFrame {e} (h : s.MemIs m) : (s.sendFrame e).MemIs m := h.portCount.portCount.frame

theorem State.MemIs.enqueue {e} (h : s.MemIs m) : (s.enqueue e).MemIs m := .ite h.sendFrame h.frame

theorem State.MemIs.drainPort {n} (h : s.MemIs m) : (s.drainPort n).MemIs m := .foldl h.frame fun _ _ h' => h'.sendFrame

theorem State.MemIs.gateBoundary {n} (h : s.MemIs m) : (s.gateBoundary n).MemIs m :=
  .ite h (.ite h.applyShadows h.dropShadows.raise)

theorem State.MemIs.deliverCpu {n f ingress} (h : s.MemIs m) : (s.deliverCpu n f ingress).MemIs m :=
  .when (.when h.frame.portCount.portCount fun _ h' => h'.raise) fun _ h' => h'.raise

theorem State.MemIs.emitOn {n o f correct ingress egressDelay} (h : s.MemIs m) :
    (s.emitOn n o f correct ingress egressDelay).MemIs m := by
  unfold State.emitOn
  extract_lets _ _ _ s₁ _ _ _ _ _ s₂ _
  have h₁ : s₁.MemIs m := .when h fun _ h' => h'.capture
  have h₂ : s₂.MemIs m := h₁.inc32.wr
  exact .ite h₁.setTab.setTab.setTab.enqueue (.ite h₁.enqueue (.ite h₁.sat16.enqueue h₂.enqueue))

theorem State.MemIs.learn {mac n} (h : s.MemIs m) : (s.learn mac n).MemIs m := .ite h h.frame.wr

theorem State.MemIs.popTx (h : s.MemIs m) : s.popTx.MemIs m := by
  unfold State.popTx
  split
  · exact h
  · exact h.frame

theorem State.MemIs.ethFrame {n f egressDelay} (h : s.MemIs m) : (s.ethFrame n f egressDelay).MemIs m := by
  unfold State.ethFrame
  split
  · exact h
  · extract_lets s₁ s₂ _ s₃ s₄ rule
    have h₁ : s₁.MemIs m := .ite h.popTx h
    have h₂ : s₂.MemIs m := h₁.portCount.portCount.learn
    have h₃ : s₃.MemIs m := .when h₂ fun _ h' => h'.capture
    have h₄ : s₄.MemIs m := .when h₃ fun _ h' => h'.raise
    split
    · exact h₁.portCount
    · split
      · exact h₁.portCount
      · split
        · exact h₁.sat16
        · split
          · exact h₄
          · clear_value rule
            split
            · exact h₄
            · exact h₄.deliverCpu
            · exact .foldl h₄ fun _ _ h' => .ite h'.deliverCpu h'.emitOn

theorem State.MemIs.outSeq {k} (h : s.MemIs m) : (s.outSeq k).MemIs m := .ite h h.frame.wr.raise

theorem State.MemIs.gateNext {n} (h : s.MemIs m) : (s.gateNext n).MemIs m := .ite h.advanceTo.gateBoundary.frame h.advanceTo.frame

theorem State.MemIs.offsetsStale (h : s.MemIs m) : s.offsetsStale.MemIs m := h.frame

theorem State.MemIs.camCheckFail {c code} (h : s.MemIs m) : (s.camCheckFail c code).MemIs m := .ite h.camBad h.camErr

theorem State.MemIs.camStop {c} (h : s.MemIs m) : (s.camStop c).MemIs m := .ite h h.setCam.modCam.i2cAbort

theorem State.MemIs.camRetime {c} (h : s.MemIs m) : (s.camRetime c).MemIs m :=
  .ite h (.offsetsStale (.applyShadows (.foldl h fun _ _ h' => .ite h'.modView h')))

theorem State.MemIs.camLinking {c} (h : s.MemIs m) : (s.camLinking c).MemIs m := by
  unfold State.camLinking
  exact .ite (.modCam (.setCam (.wrFld (.camRetime (.ite h h.applyShadows.offsetsStale))))) h.camErr.camStop

theorem State.MemIs.writeSlot {c y} (h : s.MemIs m) : (s.writeSlot c y).MemIs m := h.modCam

theorem State.MemIs.startSlot {c y} (h : s.MemIs m) : (s.startSlot c y).MemIs m := h.modCam

theorem State.MemIs.lineZero {c t} (h : s.MemIs m) : (s.lineZero c t).MemIs m := h.wr.modCam

theorem State.MemIs.stampLine {c y t good} (h : s.MemIs m) : (s.stampLine c y t good).MemIs m :=
  .foldl h fun _ _ h' => .ite h'.modCam h'

theorem State.MemIs.takeLine {c y px} (h : s.MemIs m) : (s.takeLine c y px).MemIs m :=
  .ite (.startSlot (.ite h.modCam.writeSlot h.modCam)) (.ite h.modCam.writeSlot h.modCam)

theorem State.MemIs.camLine {c y px full t} (h : s.MemIs m) : (s.camLine c y px full t).MemIs m := by
  unfold State.camLine
  split
  · exact h
  · extract_lets s₁
    have h₁ : s₁.MemIs m := .ite h.lineZero h
    exact .ite h₁.stampLine (.ite h₁.camBad.stampLine (.ite h₁.camBad.stampLine
        (.ite h₁.camBad.stampLine h₁.takeLine.stampLine)))

theorem State.MemIs.camFrameStart {c no} (h : s.MemIs m) : (s.camFrameStart c no).MemIs m := by
  unfold State.camFrameStart
  exact .ite h (.modCam (.when (.capture (.wr (.wr (.applyShadows
      (.when h fun _ h' => h'.camBad))))) fun _ h' => h'.setCam))

theorem State.MemIs.camFrameEnd {c} (h : s.MemIs m) : (s.camFrameEnd c).MemIs m := by
  unfold State.camFrameEnd
  extract_lets _ s₁ s₂ s₃ s₄
  have h₁ : s₁.MemIs m := .when h fun _ h' => h'.camBad
  have h₂ : s₂.MemIs m := .foldl h₁ fun _ _ h' => h'.startSlot.writeSlot
  have h₃ : s₃.MemIs m := .ite h₁ h₂.inc32
  have h₄ : s₄.MemIs m := h₃.wr
  exact h₄.modCam

theorem State.MemIs.embLine {c d} (h : s.MemIs m) : (s.embLine c d).MemIs m := .modCam (.foldl h fun _ _ h' => h'.setTab)

theorem State.MemIs.camPacket {c vc dt hdr crcOk d} (h : s.MemIs m) : (s.camPacket c vc dt hdr crcOk d).MemIs m := by
  unfold State.camPacket
  extract_lets _ s₁
  have h₁ : s₁.MemIs m := .when h fun _ h' => h'.sat16
  exact .ite h (.ite h₁.camCheckFail (.ite h₁.sat16 (.ite h₁ (.ite h₁.sat16 (.ite h₁.sat16 (.ite h₁.camCheckFail
      (.ite h₁.embLine h₁)))))))

theorem State.MemIs.i2cComplete {c ack answered d} (h : s.MemIs m) : (s.i2cComplete c ack answered d).MemIs m :=
  .ite h (.ite h.wr.wr.wr h.wr)

theorem State.MemIs.watchTo {v st} (h : s.MemIs m) : (s.watchTo v st).MemIs m :=
  .showVerdict (.when h.setWatch.modWatch fun _ h' => h'.raise)

theorem State.MemIs.watchFrame {v} (h : s.MemIs m) : (s.watchFrame v).MemIs m := by
  unfold State.watchFrame
  extract_lets _ _ s₁ _ s₂ s₃
  have h₁ : s₁.MemIs m := h.modWatch
  have h₂ : s₂.MemIs m := h₁.wr
  have h₃ : s₃.MemIs m := .when h₂ fun _ h' => h'.setWatch
  exact .ite h₁ (.ite (.ite h₃.wr.showVerdict (.ite h₃.watchTo h₃.showVerdict)) h₃.showVerdict)

theorem State.MemIs.judgeCam {c missing} (h : s.MemIs m) : (s.judgeCam c missing).MemIs m := by
  unfold State.judgeCam
  extract_lets _ _ _ _ s₁
  have h₁ : s₁.MemIs m := .foldl h fun _ _ h' => h'.judgeView
  exact .ite h₁ h₁.modCam

theorem State.MemIs.reportIn {d r} (h : s.MemIs m) : (s.reportIn d r).MemIs m := by
  unfold State.reportIn
  exact .ite h (.ite h.sat16 (.showVerdict (.modWatch (.foldl h.modDsp.wr.wr fun _ _ h' => h'.setTab))))

theorem State.MemIs.historyLost (h : s.MemIs m) : s.historyLost.MemIs m := by
  unfold State.historyLost
  extract_lets s₁
  have h₁ : s₁.MemIs m := h.raise
  exact .foldl h₁ fun _ _ h' => .ite h'.modDsp (.ite h'.modDsp.modWatch.setWatch h'.modDsp.modWatch.watchFailed)

theorem State.MemIs.judgeReport {d n} (h : s.MemIs m) : (s.judgeReport d n).MemIs m := by
  unfold State.judgeReport
  split
  · exact h.watchFrame
  · extract_lets _ s₁ s₂ _ s₃ s₄
    have h₁ : s₁.MemIs m := h.modDsp
    have h₂ : s₂.MemIs m := h₁.sat16hi.modDsp
    have h₃ : s₃.MemIs m := h₁.modWatch
    have h₄ : s₄.MemIs m := by
      unfold s₄
      split
      · exact .ite h₂.modWatch.raise.watchFail h₂
      · split
        · exact h₁.modWatch.sat16.raise.watchFail
        · split
          · exact h₃.modWatch
          · extract_lets _ s₅
            have h₅ : s₅.MemIs m := h₃.modWatch.sat16.wr
            exact h₅.raise.watchFail
    exact h₄.watchFrame

theorem State.MemIs.metaCheck {d syncOk reader frame} (h : s.MemIs m) : (s.metaCheck d syncOk reader frame).MemIs m := by
  unfold State.metaCheck
  split
  · exact h
  · extract_lets _ _ s₁ s₂ first _ s₃ s₄ s₅
    have h₁ : s₁.MemIs m := .foldl h fun _ _ h' => h'.setTab.setTab
    have h₂ : s₂.MemIs m := h₁.modDsp
    have h₃ : s₃.MemIs m := h₂.modWatch
    have h₄ : s₄.MemIs m := by
      unfold s₄
      clear_value first
      split
      · exact h₃
      · extract_lets _
        exact h₃.sat16.wr.raise
    have h₅ : s₅.MemIs m := .when h₄ fun _ h' => h'.sat16.raise
    exact .ite h₂ (.ite h₅.watchFail h₅.showVerdict)

theorem State.MemIs.watchRelease {v} (h : s.MemIs m) : (s.watchRelease v).MemIs m := .ite h.watchTo h

theorem State.MemIs.applyBank {v} (h : s.MemIs m) : (s.applyBank v).MemIs m :=
  .ite h (.raise (.wr (.wrBit (.foldl h fun _ _ h' => h'.wr))))

theorem State.MemIs.viewCommit {v k} (h : s.MemIs m) : (s.viewCommit v k).MemIs m := .ite h h.modView.wr

theorem State.MemIs.setView {v st} (h : s.MemIs m) : (s.setView v st).MemIs m := .ite h.wrFld.watchTo h.wrFld

theorem State.MemIs.watchCfg {v changed} (h : s.MemIs m) : (s.watchCfg v changed).MemIs m :=
  .ite (.ite h h.watchTo) (.ite h.watchTo (.ite h.watchTo h))

theorem State.MemIs.takeGlyphs {v} (h : s.MemIs m) : (s.takeGlyphs v).MemIs m := .applyShadows (.foldl h fun _ _ h' => h'.modView)

theorem State.MemIs.viewTake {v} (h : s.MemIs m) : (s.viewTake v).MemIs m := h.applyShadows.applyShadows.applyShadows.modView

theorem State.MemIs.viewDrop {v} (h : s.MemIs m) : (s.viewDrop v).MemIs m := h.dropShadows.dropShadows.dropShadows.modView

theorem State.MemIs.viewConfigure {v} (h : s.MemIs m) : (s.viewConfigure v).MemIs m := by
  unfold State.viewConfigure
  extract_lets _ _ s₁
  have h₁ : s₁.MemIs m := h.viewTake.wrFld
  split
  · exact h
  · split
    · exact h.viewTake.setView
    · split
      · exact h
      · split
        · extract_lets s₂
          have h₂ : s₂.MemIs m := h.viewDrop.wrFld.raise
          exact .ite h₂.setView h₂
        · exact .ite h₁.setView h₁

theorem State.MemIs.viewFrame {v} (h : s.MemIs m) : (s.viewFrame v).MemIs m := by
  unfold State.viewFrame
  exact .ite h (.watchCfg (.applyBank (.modView (.ite h.wrBit.takeGlyphs.viewConfigure.setView
      (.ite h.wrBit.takeGlyphs.viewConfigure.setView h.wrBit.takeGlyphs.viewConfigure)))))

theorem State.MemIs.setDsp {d st} (h : s.MemIs m) : (s.setDsp d st).MemIs m := by
  unfold State.setDsp
  extract_lets _ s₁ s₂ s₃
  have h₁ : s₁.MemIs m := h.wrFld
  have h₂ : s₂.MemIs m := .when h₁ fun _ h' => h'.wrFld
  have h₃ : s₃.MemIs m := .when h₂ fun _ h' => h'.wrBit
  exact .ite h₃.raise (.ite h₃.raise h₃)

theorem State.MemIs.dspTrain {d} (h : s.MemIs m) : (s.dspTrain d).MemIs m := h.applyShadows.offsetsStale.modDsp.setDsp

theorem State.MemIs.dspStart {d} (h : s.MemIs m) : (s.dspStart d).MemIs m :=
  .ite h (.ite h.applyShadows (.ite h.applyShadows.dspTrain h.applyShadows.raise))

theorem State.MemIs.dspRetrain {d} (h : s.MemIs m) : (s.dspRetrain d).MemIs m := .ite h.dspTrain h.setDsp.raise

theorem State.MemIs.dspStop {d} (h : s.MemIs m) : (s.dspStop d).MemIs m := .ite h h.setDsp

theorem State.MemIs.frameIndex {d ofs} (h : s.MemIs m) : (s.frameIndex d ofs).MemIs m := h.modDsp

theorem State.MemIs.dspStrobe {d} (h : s.MemIs m) : (s.dspStrobe d).MemIs m := by
  unfold State.dspStrobe
  extract_lets _ _ s₁
  have h₁ : s₁.MemIs m := h.fire.frameIndex
  split
  · exact h₁
  · extract_lets _
    exact .ite h.fire.frameIndex h.advanceTo.strobeFor.frameIndex.modDsp

theorem State.MemIs.dspFrame {d} (h : s.MemIs m) : (s.dspFrame d).MemIs m := by
  unfold State.dspFrame
  exact .ite h (.ite h.dspStrobe.capture.applyShadows.dspStop
      (.ite h.dspStrobe.capture.applyShadows.wrBit h.dspStrobe.capture.applyShadows.wrBit.inc32.modDsp))

theorem State.MemIs.lostPixels {v ecc} (h : s.MemIs m) : (s.lostPixels v ecc).MemIs m := .foldl h fun _ _ h' => h'.modCam

theorem State.MemIs.lineEcc {e} (h : s.MemIs m) : (s.lineEcc e).MemIs m := h.sat16.raise

theorem State.MemIs.addMeta {d line} (h : s.MemIs m) : (s.addMeta d line).MemIs m := .ite h.modDsp h

theorem State.MemIs.emitLine {v line ecc} (h : s.MemIs m) : (s.emitLine v line ecc).MemIs m := by
  unfold State.emitLine
  extract_lets _ _ _ s₁ s₂ _ _ _ s₃ s₄ _ s₅
  have h₁ : s₁.MemIs m := .when h fun _ h' => h'.modView
  have h₂ : s₂.MemIs m := h₁.lostPixels
  have h₃ : s₃.MemIs m := .when h₁ fun _ h' => h'.sat16
  have h₄ : s₄.MemIs m := .ite h₃ (.foldl h₃ fun _ _ h' => h'.lineEcc)
  have h₅ : s₅.MemIs m := h₄.modDsp
  exact .ite h h₅.addMeta

theorem State.MemIs.measureLatency {v} (h : s.MemIs m) : (s.measureLatency v).MemIs m := by
  unfold State.measureLatency
  extract_lets _ _ _ _
  split
  · exact h
  · split
    · extract_lets _ s₁
      have h₁ : s₁.MemIs m := h.wr.wr
      exact .ite h₁.modWatch.sat16.raise.watchFail h₁.modWatch.showVerdict
    · exact h
    · exact .ite h.modWatch.sat16.raise.watchFail h.modWatch.showVerdict

theorem State.MemIs.boxRun {n} (h : s.MemIs m) : (s.boxRun n).MemIs m := h.modBox.frame

theorem State.MemIs.setUpd {x} (h : s.MemIs m) : (s.setUpd x).MemIs m := .ite h h.wrFld.raise

theorem State.MemIs.updBoundary (h : s.MemIs m) : s.updBoundary.MemIs m := .ite h h.applyShadows

theorem State.MemIs.updEnd (h : s.MemIs m) : s.updEnd.MemIs m := h.frame.wr.wr.setUpd.updBoundary

theorem State.MemIs.setSpare {x} (h : s.MemIs m) : (s.setSpare x).MemIs m := h.frame

theorem State.MemIs.updDrop (h : s.MemIs m) : s.updDrop.MemIs m := h.setSpare.updEnd

theorem State.MemIs.updRefuse {reason code} (h : s.MemIs m) : (s.updRefuse reason code).MemIs m := h.wr.raise

theorem State.MemIs.applyForces {id} (h : s.MemIs m) : (s.applyForces id).MemIs m := .foldl h fun _ _ h' => h'.setImgBits

theorem State.MemIs.commitVoted (h : s.MemIs m) : s.commitVoted.MemIs m :=
  .commitOut (.refresh (.frame (.ite h.applyForces.substitute h.applyForces.copyImage)))

theorem State.MemIs.setRoleOut {b} (h : s.MemIs m) : (s.setRoleOut b).MemIs m := h.wrBit.refresh

theorem State.MemIs.setRole {r} (h : s.MemIs m) : (s.setRole r).MemIs m := h.wrFld

theorem State.MemIs.leaveRole (h : s.MemIs m) : s.leaveRole.MemIs m := h.setRole.wr.frame.setRoleOut

theorem State.MemIs.sendHeartbeat {f} (h : s.MemIs m) : (s.sendHeartbeat f).MemIs m :=
  .ite h (.foldl h fun _ _ h' => .ite h'.enqueue h')

theorem State.MemIs.partnerFrame {f} (h : s.MemIs m) : (s.partnerFrame f).MemIs m := by
  unfold State.partnerFrame
  extract_lets s₁ s₂ _ _ s₃ s₄ s₅ _ s₆
  have h₁ : s₁.MemIs m := h.wrFld
  have h₂ : s₂.MemIs m := h₁.wrFld
  have h₃ : s₃.MemIs m := h₂.wr.wr
  have h₄ : s₄.MemIs m := .when h₃ fun _ h' => h'.raise
  have h₅ : s₅.MemIs m := .when h₄ fun _ h' => h'.frame
  have h₆ : s₆.MemIs m := h₅.frame
  exact .ite h₆.updDrop.updRefuse h₆

theorem State.MemIs.takeMirror {f} (h : s.MemIs m) : (s.takeMirror f).MemIs m := .ite h h.clearImage.putImage.frame.wr

theorem State.MemIs.compareDigest {f} (h : s.MemIs m) : (s.compareDigest f).MemIs m := .when h.frame fun _ h' => h'.sat16

theorem State.MemIs.selcyFrame {f} (h : s.MemIs m) : (s.selcyFrame f).MemIs m := by
  unfold State.selcyFrame
  exact .ite h (.ite h.sat16 (.ite h.wrBit (.ite h.partnerFrame.frame.compareDigest.capture.takeMirror.tbMeasure
      h.partnerFrame.frame.compareDigest.capture)))

theorem State.MemIs.ethHeartbeat {f} (h : s.MemIs m) : (s.ethHeartbeat f).MemIs m := .ite h (.ite h.wrBit h.partnerFrame.frame)

theorem State.MemIs.takeRole {trig} (h : s.MemIs m) : (s.takeRole trig).MemIs m := by
  unfold State.takeRole
  extract_lets _ s₁ s₂ _ s₃ s₄ s₅
  have h₁ : s₁.MemIs m := h.setRole.wrBit
  have h₂ : s₂.MemIs m := h₁.wr.wr
  have h₃ : s₃.MemIs m := h₂.frame
  have h₄ : s₄.MemIs m := h₃.sat16.raise
  have h₅ : s₅.MemIs m := .ite h₄.copyImage.commitVoted.wr h₄.copyImage.commitVoted
  exact h₅.setRoleOut

theorem State.MemIs.endTry (h : s.MemIs m) : s.endTry.MemIs m := by
  unfold State.endTry
  split
  · exact .ite h.frame.wrBit h
  · exact h

theorem State.MemIs.startYield (h : s.MemIs m) : s.startYield.MemIs m := h.frame

theorem State.MemIs.alarmRecord {source resp} (h : s.MemIs m) : (s.alarmRecord source resp).MemIs m :=
  .ringPut (.ite h.draw.frame.frame h.draw.frame)

theorem State.MemIs.recExport {n} (h : s.MemIs m) : (s.recExport n).MemIs m :=
  .ite h.boxDone (.ite h.boxDone (.ite h.frame.boxDone h.frame.boxDone))

theorem State.MemIs.recClear {n} (h : s.MemIs m) : (s.recClear n).MemIs m :=
  .ite h.boxDone (.ite h.boxDone (.ite h.boxDone h.frame.draw.accept.boxDone))

theorem State.MemIs.martSet {n} (h : s.MemIs m) : (s.martSet n).MemIs m :=
  .ite h.boxDone (.ite h.frame.boxDone (.ite h.frame.boxDone (.ite h.boxDone h.frame.boxDone)))

theorem State.MemIs.setAttr {slot w} (h : s.MemIs m) : (s.setAttr slot w).MemIs m := .ite h.frame h.frame

theorem State.MemIs.opEnd {op err outLen} (h : s.MemIs m) : (s.opEnd op err outLen).MemIs m := h.frame.wr.inc32.raise

theorem State.MemIs.opDone {out} (h : s.MemIs m) : (s.opDone out).MemIs m := by
  unfold State.opDone
  split
  · exact h
  · extract_lets _ s₁ _
    have h₁ : s₁.MemIs m := h.frame
    split
    · exact h₁.opEnd
    · extract_lets _ s₂ s₃
      have h₂ : s₂.MemIs m := .foldl h₁ fun _ _ h' => h'.wr
      have h₃ : s₃.MemIs m := .ite h₂.setAttr.draw (.ite h₂.setAttr.draw (.ite h₂.setAttr.draw (.ite h₂.setAttr h₂)))
      exact h₃.opEnd

theorem State.MemIs.lockTack (h : s.MemIs m) : s.lockTack.MemIs m := h.wrBit.raise

theorem State.MemIs.zeroWin (h : s.MemIs m) : s.zeroWin.MemIs m := h.frame

theorem State.MemIs.zeroKeys (h : s.MemIs m) : s.zeroKeys.MemIs m := h.frame

theorem State.MemIs.erase {source resp} (h : s.MemIs m) : (s.erase source resp).MemIs m := by
  unfold State.erase
  extract_lets s₁ s₂ s₃ _ _ _ s₄
  have h₁ : s₁.MemIs m := h.lockTack
  have h₂ : s₂.MemIs m := by
    unfold s₂
    split
    · exact h₁.zeroWin.opEnd
    · exact h₁.zeroWin
  have h₃ : s₃.MemIs m := h₂.alarmRecord.zeroKeys
  have h₄ : s₄.MemIs m := h₃.frame
  exact h₄.raise

theorem State.MemIs.spookDemand (h : s.MemIs m) : s.spookDemand.MemIs m := h.frame.lineCauses

theorem State.MemIs.spookOne {k} (h : s.MemIs m) : (s.spookOne k).MemIs m :=
  .ite h.sat16 (.ite h.sat16.wrBit.wr.wr.frame h.sat16.wrBit.wr.wr.raise)

theorem State.MemIs.spookFire {ks} (h : s.MemIs m) : (s.spookFire ks).MemIs m := by
  unfold State.spookFire
  extract_lets _ erasing _ s₁
  have h₁ : s₁.MemIs m := .spookDemand (.foldl h fun _ _ h' => h'.spookOne)
  split
  · exact h₁
  · clear_value erasing
    split
    · exact h₁.erase
    · exact .ite h₁.lockTack h₁

theorem State.MemIs.getChallenge {n} (h : s.MemIs m) : (s.getChallenge n).MemIs m := .ite h.boxDone h.frame.boxDone

theorem State.MemIs.zeroize {n} (h : s.MemIs m) : (s.zeroize n).MemIs m := .ite h.boxDone h.erase.boxDone

theorem State.MemIs.reintRefuse {result} (h : s.MemIs m) : (s.reintRefuse result).MemIs m := h.wrFld

theorem State.MemIs.reintStart {target donor reload} (h : s.MemIs m) : (s.reintStart target donor reload).1.MemIs m := by
  unfold State.reintStart
  extract_lets st
  split
  · exact h.reintRefuse
  · split
    · exact h.reintRefuse
    · split
      · exact h.reintRefuse
      · split
        · exact h.reintRefuse
        · exact .frame (.modLane (.wrBit (.wr (.wr h))))

theorem State.MemIs.bootDone {l hashOk} (h : s.MemIs m) : (s.bootDone l hashOk).MemIs m := by
  unfold State.bootDone
  exact .ite h (.ite (.ite h.modLane h.failLane) (.ite h.modLane.failLane.reintFollow h.setLane.wrFld.frame))

theorem State.MemIs.syncTimeout (h : s.MemIs m) : s.syncTimeout.MemIs m := .ite h.failLane.reintFail h

theorem State.MemIs.autoReint {l} (h : s.MemIs m) : (s.autoReint l).MemIs m := .ite h.reintStart.modLane h

theorem State.MemIs.putContents {ts sel} (h : s.MemIs m) : (s.putContents ts sel).MemIs m :=
  .foldl h.clearTs fun _ _ h' => h'.setT3

theorem State.MemIs.putDeferring {ts sel} (h : s.MemIs m) : (s.putDeferring ts sel).MemIs m :=
  .foldl h.putContents fun _ _ h' => h'.setKey.setShadow

theorem State.MemIs.leaveFaults (h : s.MemIs m) : s.leaveFaults.MemIs m := h.frame

theorem State.MemIs.startUnits (h : s.MemIs m) : s.startUnits.MemIs m := by
  unfold State.startUnits
  extract_lets s₁ s₂ s₃
  have h₁ : s₁.MemIs m := .foldl h fun _ _ h' => .ite h'.camLinking h'
  have h₂ : s₂.MemIs m := .foldl h₁ fun _ _ h' => .ite h'.dspStart h'
  have h₃ : s₃.MemIs m := .foldl h₂ fun _ _ h' => .ite h'.modCan h'
  exact .ite h₃ h₃.mvbCfg

theorem State.MemIs.takeSet {n src imm ts} (h : s.MemIs m) : (s.takeSet n src imm ts).MemIs m := by
  unfold State.takeSet
  extract_lets _ _ s₁ s₂ _ s₃ s₄ s₅ s₆ s₇ s₈ s₉ s₁₀ s₁₁
  have h₁ : s₁.MemIs m := .fioChanged (.ite h.putDeferring h.putContents)
  have h₂ : s₂.MemIs m := h₁.leaveFaults
  have h₃ : s₃.MemIs m := h₂.frame
  have h₄ : s₄.MemIs m := h₃.wr
  have h₅ : s₅.MemIs m := h₄.wrBit.wrBit.offsetsStale
  have h₆ : s₆.MemIs m := .frame h₅
  have h₇ : s₇.MemIs m := .foldl h₆ fun _ _ h' => h'.wrBit
  have h₈ : s₈.MemIs m := .ite h₇.setLink h₇
  have h₉ : s₉.MemIs m := .ite h₈ h₈.substOutputs
  have h₁₀ : s₁₀.MemIs m := h₉.startUnits.tbSelect
  have h₁₁ : s₁₁.MemIs m := .ite h₁₀.substitute h₁₀
  exact h₁₁.refresh.raise

theorem State.MemIs.refuseSet {reason} (h : s.MemIs m) : (s.refuseSet reason).MemIs m := h.wrFld.raise

theorem State.MemIs.noSet {n src} (h : s.MemIs m) : (s.noSet n src).MemIs m := h.clearTs.wr.wrBit.wrBit

theorem State.MemIs.updService (h : s.MemIs m) : s.updService.MemIs m := .ite h.wr h

theorem State.MemIs.bootService (h : s.MemIs m) : s.bootService.MemIs m := by
  unfold State.bootService
  split
  · exact h.frame
  · extract_lets _ _ s₁
    have h₁ : s₁.MemIs m := h.frame
    exact .when h₁ fun _ h' => h'.raise

theorem State.MemIs.setPhase {n} (h : s.MemIs m) : (s.setPhase n).MemIs m := h.wrFld

theorem State.MemIs.showRes {boot} (h : s.MemIs m) : (s.showRes boot).MemIs m := h.wrBit

theorem State.MemIs.fioTestStarts (h : s.MemIs m) : s.fioTestStarts.MemIs m := .ite h.setLink h

theorem State.MemIs.xlinkTestStarts (h : s.MemIs m) : s.xlinkTestStarts.MemIs m := .ite h.wrBit.raise h

theorem State.MemIs.cutRun (h : s.MemIs m) : s.cutRun.MemIs m := .ite h.frame.wrFld.showRes h

theorem State.MemIs.startRun {run blocks} (h : s.MemIs m) : (s.startRun run blocks).MemIs m :=
  h.frame.wr.wr.wrFld.wrFld.xlinkTestStarts.fioTestStarts

theorem State.MemIs.bistRun {n} (h : s.MemIs m) : (s.bistRun n).MemIs m :=
  .ite h.boxDone (.ite h.boxDone (.ite h.boxDone (.ite h.boxDone h.startRun.boxRun)))

theorem State.MemIs.rotate (h : s.MemIs m) : s.rotate.MemIs m := .ite h h.failRequest.frame.startRun

theorem State.MemIs.vendorRecord (h : s.MemIs m) : s.vendorRecord.MemIs m := h.frame.accept

theorem State.MemIs.profGuard {n f} (h : s.MemIs m) (hf : ∀ t, t.MemIs m → (f t).MemIs m) : (s.profGuard n f).MemIs m :=
  .ite h.boxDone (.ite h.boxDone (hf s h))

theorem State.MemIs.profStore {n} (h : s.MemIs m) : (s.profStore n).MemIs m :=
  .ite h.frame.boxDone (.boxDone (.when h fun _ h' => h'.vendorRecord))

theorem State.MemIs.profNow {n} (h : s.MemIs m) : (s.profNow n).MemIs m :=
  .ite h.boxDone (.ite h.takeSet.updService.boxDone (.boxDone (.when h.refuseSet fun _ h' => h'.vendorRecord)))

theorem State.MemIs.hobbled {n code reason} (h : s.MemIs m) : (s.hobbled n code reason).MemIs m := h.updRefuse.boxDone

theorem State.MemIs.updOpen {n} (h : s.MemIs m) : (s.updOpen n).MemIs m := by
  unfold State.updOpen
  extract_lets _ _ s₁ _ s₂ s₃ s₄ s₅
  have h₁ : s₁.MemIs m := h.draw
  have h₂ : s₂.MemIs m := h₁.setSpare
  have h₃ : s₃.MemIs m := h₂.frame
  have h₄ : s₄.MemIs m := h₃.wr.wr.wr
  have h₅ : s₅.MemIs m := h₄.wrFld.setUpd
  exact .ite h.boxDone (.ite h.updRefuse.boxDone (.ite h.hobbled (.ite h.boxDone h₅.boxDone)))

theorem State.MemIs.updSession {n f} (h : s.MemIs m) (hf : ∀ t, t.MemIs m → (f t).MemIs m) :
    (s.updSession n f).MemIs m := .ite (hf s h) h.boxDone

theorem State.MemIs.updTouch (h : s.MemIs m) : s.updTouch.MemIs m := h.frame

theorem State.MemIs.updWrite {n} (h : s.MemIs m) : (s.updWrite n).MemIs m :=
  .ite h.boxDone h.frame.updTouch.setSpare.setUpd.wr.boxDone

theorem State.MemIs.updVerify {n comps} (h : s.MemIs m) : (s.updVerify n comps).MemIs m := by
  unfold State.updVerify
  extract_lets s₁ _ _ s₂
  have h₁ : s₁.MemIs m := h.updTouch
  have h₂ : s₂.MemIs m := h₁.setSpare.setUpd
  split
  · exact h₁.boxDone
  · exact h₂.boxDone

theorem State.MemIs.startPause {n} (h : s.MemIs m) : (s.startPause n).MemIs m := h.frame.boxDone.setUpd.wr.wr.updBoundary

theorem State.MemIs.updActivate {n} (h : s.MemIs m) : (s.updActivate n).MemIs m :=
  .ite h.hobbled (.ite h.updTouch.startYield.frame.boxRun h.updTouch.startPause)

theorem State.MemIs.coresRestart (h : s.MemIs m) : s.coresRestart.MemIs m :=
  .frame (.foldl (.foldl h fun _ _ h' => h'.boxDone) fun _ _ h' => h'.freeSems)

theorem State.MemIs.pauseLoad (h : s.MemIs m) : s.pauseLoad.MemIs m := .ite (.ite h.takeSet h.refuseSet) h

theorem State.MemIs.pauseService {ok} (h : s.MemIs m) : (s.pauseService ok).MemIs m := .ite h.bootService h.frame.raise

theorem State.MemIs.servicePause {fwOk serviceOk ms} (h : s.MemIs m) : (s.servicePause fwOk serviceOk ms).MemIs m := by
  unfold State.servicePause
  exact .ite h (.ite h.coresRestart.wr.raise.frame.pauseService.sat16.wrBit.setUpd.raise.updService
      h.coresRestart.wr.pauseLoad.pauseService.frame.setUpd.updService)

theorem State.MemIs.updConfirm {n} (h : s.MemIs m) : (s.updConfirm n).MemIs m := .ite h.hobbled h.frame.setUpd.boxDone

theorem State.MemIs.updAbort {n} (h : s.MemIs m) : (s.updAbort n).MemIs m :=
  .ite h.frame.boxDone (.updSession h fun _ h' => h'.updDrop.boxDone)

theorem State.MemIs.ownerClear {n} (h : s.MemIs m) : (s.ownerClear n).MemIs m := by
  unfold State.ownerClear
  split
  · exact h.boxDone
  · exact .ite h.frame.boxDone h.boxDone

theorem State.MemIs.ocSet {st result} (h : s.MemIs m) : (s.ocSet st result).MemIs m := h.wrFld.wrFld

theorem State.MemIs.ocChecked {sigOk hashOk listBytes} (h : s.MemIs m) : (s.ocChecked sigOk hashOk listBytes).MemIs m :=
  .ite h (.ite h.ocSet (.ite h.ocSet (.ite h.ocSet h.ocSet)))

theorem State.MemIs.wakeBy {code} (h : s.MemIs m) : (s.wakeBy code).MemIs m := .ite h h.frame.wrBit.wrFld

theorem State.MemIs.gaitAccept {t} (h : s.MemIs m) : (s.gaitAccept t).MemIs m := h.frame.wrBit.wrFld

theorem State.MemIs.gaitSet {n} (h : s.MemIs m) : (s.gaitSet n).MemIs m :=
  .ite h.boxDone (.ite h.boxDone (.ite h.boxDone (.ite h.boxDone (.ite (.ite h.boxDone h.wakeBy.boxDone)
    (.ite h.boxDone (.ite h.wrFld.boxDone h.gaitAccept.boxDone))))))

theorem State.MemIs.takeVote {v} (h : s.MemIs m) : (s.takeVote v).MemIs m := h.clearImage.putImage.putImage

theorem State.MemIs.slack {ds} (h : s.MemIs m) : (s.slack ds).MemIs m := h.wr.wrBit

theorem State.MemIs.laneLate {l} (h : s.MemIs m) : (s.laneLate l).MemIs m := h.sat16.modLane.raise

theorem State.MemIs.laneDisagrees {l w} (h : s.MemIs m) : (s.laneDisagrees l w).MemIs m := h.sat16.wr.modLane.raise

theorem State.MemIs.failRule (h : s.MemIs m) : s.failRule.MemIs m := .foldl h fun _ _ h' => .ite h'.modLane.failLane h'

theorem State.MemIs.vote {present} (h : s.MemIs m) : (s.vote present).MemIs m := by
  unfold State.vote
  extract_lets k mask v limp two s₁ s₂ s₃ clean _ s₄ s₅ s₆
  have h₁ : s₁.MemIs m := .ite h.slack h
  have h₂ : s₂.MemIs m := .ite h₁.takeVote h₁
  have h₃ : s₃.MemIs m := .ite h₂ h₂.sat16
  have h₄ : s₄.MemIs m := h₃.frame
  have h₅ : s₅.MemIs m := .when h₄ fun _ h' => h'.safeCause
  have h₆ : s₆.MemIs m := .foldl h₅ fun l t h' => by
    split
    · exact h'.laneDisagrees
    · exact .ite h'.modLane h'
  exact h₆.failRule.raise

theorem State.MemIs.atDeadline (h : s.MemIs m) : s.atDeadline.MemIs m := by
  unfold State.atDeadline
  exact .oneCycle (fun _ h' => .ite h' (.ite h'.voterUpdate.wrFld.frame (.ite
      (.ite h'.voterUpdate.wrFld.frame h'.voterUpdate.wrFld.frame.sat16.wr.raise) (.reintFollow (.vote
      (.foldl h'.voterUpdate.wrFld fun _ _ h'' => h''.laneLate)))))) h

theorem State.MemIs.fioApply {sel} (h : s.MemIs m) : (s.fioApply sel).MemIs m := .ite h h.applyShadows.fioChanged

theorem State.MemIs.discard {p sel} (h : s.MemIs m) : (s.discard p sel).MemIs m := h.dropShadows.accessFault

theorem State.MemIs.stopBoundary (h : s.MemIs m) : s.stopBoundary.MemIs m := by
  unfold State.stopBoundary
  extract_lets _ _ s₁ _ s₂ s₃ _
  have h₁ : s₁.MemIs m := .ite h.discard h
  have h₂ : s₂.MemIs m := .ite h₁ h₁.discard
  have h₃ : s₃.MemIs m := .ite (.ite h₂.discard h₂) h₁
  exact .applyShadows (.when h₃.applyShadows.applyShadows fun _ h' => h'.sendSubst)

theorem State.MemIs.tickBoundary (h : s.MemIs m) : s.tickBoundary.MemIs m := .ite h.stopBoundary.fioApply h.fioApply

theorem State.MemIs.dropIo {l f} (h : s.MemIs m) : (s.dropIo l f).MemIs m := h.modLane

theorem State.MemIs.laneSafe {l rel demand} (h : s.MemIs m) : (s.laneSafe l rel demand).MemIs m := .ite h.wrBit.lineCauses h

theorem State.MemIs.duplexYield {n} (h : s.MemIs m) : (s.duplexYield n).MemIs m := .ite h.boxDone h.startYield.boxRun.frame

theorem State.MemIs.refuse {i addr cause} (h : s.MemIs m) : (s.refuse i addr cause).MemIs m :=
  .busError (.ite h.sat16.error h.accessFault)

theorem State.MemIs.refuseWrite {i addr cause} (h : s.MemIs m) : (s.refuseWrite i addr cause).MemIs m :=
  .ite h.refuse.sat16.frame h.refuse

theorem State.MemIs.laneLoadFault {i} (h : s.MemIs m) : (s.laneLoadFault i).MemIs m := by
  unfold State.laneLoadFault
  split
  · exact .ite h.laneTrap h
  · exact h

theorem State.MemIs.kpExpire {p} (h : s.MemIs m) : (s.kpExpire p).MemIs m := by
  unfold State.kpExpire
  split
  · exact h
  · exact h.kpDrop.kpFail

theorem State.MemIs.boundary {p inst} (h : s.MemIs m) : (s.boundary p inst).MemIs m :=
  .ite (.ite h.tickBoundary.refresh h) (.ite h.applySchedule (.ite h.applyPolls (.ite h.gateBoundary
    (.ite h.applyShadows (.ite h.viewConfigure (.ite h.applyShadows (.ite h.viewConfigure
    (.ite h.updBoundary h))))))))

theorem State.MemIs.setSlot {k} (h : s.MemIs m) : (s.setSlot k).MemIs m := h.frame

theorem State.MemIs.vwSplit {k} (h : s.MemIs m) : (s.vwSplit k).MemIs m := by
  unfold State.vwSplit
  split
  · exact .ite h.setSlot h.setSlot.vwError
  · exact h.setSlot

theorem State.MemIs.vwTimeout (h : s.MemIs m) : s.vwTimeout.MemIs m := by
  unfold State.vwTimeout
  extract_lets _
  split
  · exact h
  · exact .vwSettle (.ite h.vwSplit h.vwDrop)

end Sys2Proof.Machine
end

section
set_option Elab.async false -- one proof after the other: each further worker thread takes its stack from the check's memory
/-! SUPPORT. The rows that store no byte (R146). -/

namespace Sys2Proof.Machine

variable {s u : State} {c : Instr}

/-! ### The rows of the families whose frame says so -/

theorem sameBytes_of_fieldRow (row : fieldRow c = true) : Leaves c s fun t => SameBytes s t := fun t ran =>
  (fieldAndTimeFrame.1 c s row t ran).2.2

theorem sameBytes_of_timeRow (row : timeRow c = true) : Leaves c s fun t => SameBytes s t := fun t ran =>
  (fieldAndTimeFrame.2 c s row t ran).2.2

theorem sameBytes_of_answerRow (row : answerRow c = true) : Leaves c s fun t => SameBytes s t := fun t ran =>
  (mailboxRecorderAndPinFrame.1 c s row t ran).2

theorem sameBytes_of_recorderRow (row : recorderRow c = true) : Leaves c s fun t => SameBytes s t := fun t ran =>
  (mailboxRecorderAndPinFrame.2.1 c s row t ran).2.2

theorem sameBytes_of_pinRow (row : pinRow c = true) : Leaves c s fun t => SameBytes s t := fun t ran =>
  (mailboxRecorderAndPinFrame.2.2 c s row t ran).2

namespace State.MemIs

/-- A byte is what the cells of memory hold. -/
theorem sameBytes (h : u.MemIs s.mem) : SameBytes s u := fun a => by rw [State.byte, State.byte, h.mem]

/-- A row whose answer has the cells of memory as they were. -/
theorem leaves (row : exec c s = Machine.answer s u) (h : u.MemIs s.mem) : Leaves c s fun t => SameBytes s t :=
  leaves_of row (h.frame (s := u)).sameBytes

/-! ### The rows that branch on more than a condition -/

theorem leaves_canInitWatchExpiry {n lostTo} : Leaves (.canInitWatchExpiry n lostTo) s fun t => SameBytes s t := by
  have h : s.MemIs s.mem := ⟨rfl⟩
  refine leaves rfl ?_
  split
  · exact h
  · split
    · exact h.ttListen
    · split
      · exact h
      · split
        · exact h.ownReference.becomeMaster
        · exact h.setTt.modCan

theorem leaves_canMasterReferenceSend {n lostTo} : Leaves (.canMasterReferenceSend n lostTo) s fun t => SameBytes s t := by
  have h : s.MemIs s.mem := ⟨rfl⟩
  refine leaves rfl ?_
  split
  · exact h
  · split
    · exact h.ownReference
    · exact h.setTt

theorem leaves_ethAddressAgeing {mac} : Leaves (.ethAddressAgeing mac) s fun t => SameBytes s t := by
  have h : s.MemIs s.mem := ⟨rfl⟩
  refine leaves rfl ?_
  extract_lets aged _ _
  have h₁ : aged.MemIs s.mem := by
    unfold aged
    split
    · exact h
    · exact h.advanceTo
  exact .ite h₁ h₁.frame.wr

theorem leaves_ethGateChange {port waited} : Leaves (.ethGateChange port waited) s fun t => SameBytes s t := by
  have h : s.MemIs s.mem := ⟨rfl⟩
  refine leaves rfl ?_
  split
  · exact h
  · extract_lets _ drained _
    have h₁ : drained.MemIs s.mem := h.gateNext.drainPort
    split
    · split
      · exact h₁
      · exact h₁.frame.portCount.raise
    · exact h₁

theorem leaves_roleInChange {asserted} : Leaves (.roleInChange asserted) s fun t => SameBytes s t := by
  have h : s.MemIs s.mem := ⟨rfl⟩
  refine leaves rfl ?_
  extract_lets ended shown told
  have h₁ : shown.MemIs s.mem := h.endTry.wrBit.refresh
  have h₂ : told.MemIs s.mem := h₁.sat16.raise
  refine .ite (.ite (.ite h₂.leaveRole h₂) h₁) ?_
  split
  · exact .ite h₁.takeRole h₁
  · exact h₁

theorem leaves_bootPhaseOverrun {phase} : Leaves (.bootPhaseOverrun phase) s fun t => SameBytes s t := by
  have h : s.MemIs s.mem := ⟨rfl⟩
  refine leaves rfl ?_
  extract_lets _ _ _ _ cut _ _ off known
  have h₁ : cut.MemIs s.mem := .foldl h.cutRun fun _ _ h' => h'.offLane
  have h₂ : off.MemIs s.mem := h₁.frame
  have h₃ : known.MemIs s.mem := .ite h₂.noSet.refresh h₂
  exact .ite h h₃.setPhase.wr

/-! ### Every row -/

theorem leaves_storesNothing (row : storesNothing c = true) : Leaves c s fun t => SameBytes s t := by
  have h : s.MemIs s.mem := ⟨rfl⟩
  cases c with
  | mboxCommandComplete | ping | getId | profileQuery | gaitQuery | bistResult | updStatus
    | ownerLockQuery | recRead | timeSetWall | duplexRoleQuery | duplexRoleSetInhibit | duplexRoleClearInhibit =>
      exact sameBytes_of_answerRow rfl
  | logicInReturn | holdupCharged | movingFilterMoving | movingFilterStationary | usbVbusChange =>
      exact sameBytes_of_pinRow rfl
  | ppsIn | tbWrap | tbMeasurement | refSourceTimeout | tbCapture =>
      exact sameBytes_of_timeRow rfl
  | isoLinkFrame | fieldSideLinkTimeout | linkSyncTimeout | couplerCheckDone | inputSample | fieldCounterEdge | foShort
    | foOvertemp | foOpenLoad | foReadback | outputSwitchOff | fieldWarn | fieldNormal | fieldSag
    | fieldLost | fieldOk | ilkCrcCheck | foDriverCooled =>
      exact sameBytes_of_fieldRow rfl
  | recordAccept | martingaleRefill | martingaleSecondEnd | recFlush | recFlushInterval | recExportTimeout =>
      exact sameBytes_of_recorderRow rfl
  | keypairExpiry => exact leaves rfl h.kpExpire
  | boundaryApply => exact leaves rfl (.ite h.boundary h)
  | eventOccurrence => exact leaves rfl (.ite h h.occur)
  | votedWriteTimeout => exact leaves rfl h.vwTimeout
  | profileSelectStore => exact leaves rfl (.serve h (.profGuard h fun _ h' => h'.profStore))
  | profileSelectImmediate => exact leaves rfl (.serve h (.profGuard h fun _ h' => h'.profNow))
  | profileSelectRevoke => exact leaves rfl (.serve h (.profGuard h fun _ h' => h'.frame.boxDone))
  | gaitSet => exact leaves rfl (.serve h h.gaitSet)
  | bistRun => exact leaves rfl (.serve h h.bistRun)
  | updOpen => exact leaves rfl (.serve h h.updOpen)
  | updWrite => exact leaves rfl (.serve h (.updSession h fun _ h' => h'.updWrite))
  | updVerify => exact leaves rfl (.serve h (.updSession h fun _ h' => h'.updVerify))
  | updActivate => exact leaves rfl (.serve h (.updSession h fun _ h' => h'.updActivate))
  | updConfirm => exact leaves rfl (.serve h h.updConfirm)
  | updAbort => exact leaves rfl (.serve h h.updAbort)
  | ownerLockSet => exact leaves rfl (.serve h h.frame.boxDone)
  | ownerLockClear => exact leaves rfl (.serve h h.ownerClear)
  | recExport => exact leaves rfl (.serve h h.recExport)
  | recClearStudbook => exact leaves rfl (.serve h h.recClear)
  | martingaleSet => exact leaves rfl (.serve h h.martSet)
  | getChallenge => exact leaves rfl (.serve h h.getChallenge)
  | zeroize => exact leaves rfl (.serve h h.zeroize)
  | duplexYield => exact leaves rfl (.serve h h.duplexYield)
  | logicLow => exact leaves rfl (.ite h.wr.raise h)
  | safeNFilterExpiry => exact leaves rfl h.frame.lineCauses
  | wakeNWake => exact leaves rfl h.wakeBy
  | secondMark => exact leaves rfl (.ite (.frame (.ite h h.secondMarkNow)) (.wr (.frame (.ite h h.secondMarkNow))))
  | monoTimeSave | fwatchVerdictRead => exact leaves rfl h.frame
  | collectDeadline => exact leaves rfl h.atDeadline
  | laneSafeWrite => exact leaves rfl h.dropIo.laneSafe
  | autoReintStart => exact leaves rfl h.autoReint
  | laneBootDone => exact leaves rfl h.bootDone
  | laneBootTimeout | laneClockCheck => exact leaves rfl (.ite h.failLane.reintFollow h)
  | syncTimeout => exact leaves rfl h.syncTimeout
  | laneWindowFull => exact leaves rfl (.ite h h.modLane)
  | laneSramScrub => exact leaves rfl (.ite h h.laneEcc.reintFollow)
  | debugRequest => exact leaves rfl h.debugLane.reintFollow
  | holdTimeout => exact leaves rfl (.ite h.frame.raise h)
  | ocCheckDone => exact leaves rfl h.ocChecked
  | stationLost => exact leaves rfl (.ite h.setTab.staleStation.wrBit.raise h)
  | mapCrcCheck => exact leaves rfl (.ite (.ite h.wr h.wr.raise.frame) (.ite (.ite h.wr h.wr.raise.frame) h.wr))
  | camLinkTrained => exact leaves rfl (.ite h.setCam h)
  | camLinkTrainTimeout | dspTrainTimeout => exact leaves rfl (.ite h.sat16 h)
  | camLinkLost => exact leaves rfl (.ite h.camBad.setCam.i2cAbort.camLinking h)
  | camPacket => exact leaves rfl h.camPacket
  | camFrameStart => exact leaves rfl h.camFrameStart
  | camLineArrival => exact leaves rfl h.camLine
  | camFrameEnd => exact leaves rfl (.ite h h.camFrameEnd.judgeCam)
  | camFrameStartMissing => exact leaves rfl (.ite h (.ite h.camErr.judgeCam h.camErr))
  | cameraSyncStrobe => exact leaves rfl (.ite h (.ite h.fire.modCam h.fire))
  | i2cDone => exact leaves rfl h.i2cComplete
  | pcommit => exact leaves rfl h.viewCommit
  | viewFrameStart => exact leaves rfl h.viewFrame
  | dspEnable => exact leaves rfl h.dspStart
  | dspLinkTrained => exact leaves rfl (.ite h (.wrBit (.wrBit (.ite h.setDsp h))))
  | dspLinkLost => exact leaves rfl (.ite h.sat16.dspRetrain h)
  | displayFrameStart => exact leaves rfl h.dspFrame
  | dcsSent => exact leaves rfl (.ite h.wrBit.modDsp h)
  | offsetComputeDone => exact leaves rfl (.ite h (.ite h.modView h.wr.wr.modView))
  | refOutEmission => exact leaves rfl h.measureLatency
  | dofsChange => exact leaves rfl (.ite h (.ite h.raise h.setShadow.applyShadows.offsetsStale.modDsp))
  | metadataLineCheck => exact leaves rfl h.metaCheck
  | displayReportReceived => exact leaves rfl h.reportIn
  | reportJudgement => exact leaves rfl (.judgeReport (.when h fun _ h' => h'.historyLost))
  | fwatchRelease => exact leaves rfl h.watchRelease
  | canIntegrated => exact leaves rfl h.canIntegrate
  | canTxDone => exact leaves rfl h.txDone
  | canFrameError => exact leaves rfl h.frameError
  | canBusoffRecovered => exact leaves rfl (.ite h.setErrCnt h)
  | canReferenceMissing => exact leaves rfl h.refMissing
  | canBackupReferenceSend => exact leaves rfl (.ite h h.ownReference.becomeMaster)
  | canExclusiveWindow => exact leaves rfl h.exclusiveWindow
  | canArbitratingWindow => exact leaves rfl h.arbitratingWindow
  | canWakePattern => exact leaves rfl (.ite h.wakeBy h)
  | mvbFrameReceived => exact leaves rfl (.ite h.mvbFrame h)
  | mvbBasicPeriod => exact leaves rfl h.basicPeriod
  | mvbPollMiss => exact leaves rfl (.ite h.sat16.raise.frame h)
  | mvbSilenceExpiry | mvbCollisionReset => exact leaves rfl (.ite h.advanceTo.frame h)
  | ethFrameReceived => exact leaves rfl h.ethFrame
  | ethLink => exact leaves rfl (.ite h h.wr.raise)
  | outSeqWrite => exact leaves rfl h.outSeq
  | xlinkFrameSend => exact leaves rfl (.ite h h.advanceTo.frame.wr.sendHeartbeat)
  | xlinkFrameReceived => exact leaves rfl h.selcyFrame
  | ethHeartbeatReceived => exact leaves rfl h.ethHeartbeat
  | xlinkUp | xlinkDown => exact leaves rfl (.ite h.wrBit.raise h)
  | roleHoldTimeout => exact leaves rfl (.ite h (.ite h.advanceTo.leaveRole h.advanceTo.setRoleOut))
  | laneRotation => exact leaves rfl h.rotate.reintFollow
  | drbgReseed => exact leaves rfl (.ite h.frame h.wrBit)
  | spookTrigger => exact leaves rfl (.ite h.wr h.wr.spookFire)
  | otpRecheck => exact leaves rfl (.ite h.frame h.frame.spookFire)
  | debugChallengeExpiry => exact leaves rfl (.ite h h.advanceTo.frame)
  | updSessionTimeout => exact leaves rfl (.ite h.advanceTo.updDrop h)
  | updServicePause => exact leaves rfl h.servicePause
  | mramRefresh => exact leaves rfl (.ite h (.ite h.frame h.frame.recError))
  | rtcAlarmWake => exact leaves rfl (.ite h.frame.wakeBy h)
  | fieldInputWakeSample => exact leaves rfl (.ite (.ite h.frame.wakeBy h.frame) h)
  | displayLineEmission => exact leaves rfl h.emitLine
  | bridleTimeout => exact leaves rfl (.ite h (.ite h (.ite h.refuse.laneLoadFault (.ite h h.refuseWrite))))
  | tackOpDone => exact leaves rfl h.opDone
  | canFrameReceived =>
    exact leaves rfl (.ite h.lateFrame (.ite h.capture (.ownIdSeen (.when h.canReceive fun _ h' => h'.sat16hi))))
  | canReferenceReceived =>
    exact leaves rfl (.ite h.lateFrame (.ite h.capture (.ite (.ite h.capture h.canReceive)
      (.ite (.sat16hi (.ite h.capture h.canReceive)) (.reference (.ownIdSeen (.ite h.capture h.canReceive)))))))
  | canInitWatchExpiry => exact leaves_canInitWatchExpiry
  | canMasterReferenceSend => exact leaves_canMasterReferenceSend
  | ethAddressAgeing => exact leaves_ethAddressAgeing
  | ethGateChange => exact leaves_ethGateChange
  | roleInChange => exact leaves_roleInChange
  | bootPhaseOverrun => exact leaves_bootPhaseOverrun
  | _ => cases row

end State.MemIs

end Sys2Proof.Machine
end

section
set_option Elab.async false -- one proof after the other: each further worker thread takes its stack from the check's memory
/-! SUPPORT. The rows that store bytes: DMA, the PCIe link and the host's accesses (R371 to R376). -/

namespace Sys2Proof.Machine

variable {s t u : State} {R : Nat → Prop}

/-! ### Bytes outside a region -/

/-- Every byte outside `R` is as it was. -/
def Stores (R : Nat → Prop) (s t : State) : Prop := ∀ a, ¬R a → t.byte a = s.byte a

namespace Stores

theorem refl : Stores R s s := fun _ _ => rfl

theorem mem (h : Stores R s t) (same : u.MemIs t.mem) : Stores R s u := fun a out =>
  (same.sameBytes a).trans (h a out)

theorem ite {c : Prop} {_ : Decidable c} {x y : State} (hx : Stores R s x) (hy : Stores R s y) : Stores R s (if c then x else y) := by
  split
  · exact hx
  · exact hy

theorem setBytes {at_ : Nat} {bs : List Byte} (h : Stores R s t) (room : ∀ a, at_ ≤ a → a < at_ + bs.length → R a) :
    Stores R s (t.setBytes at_ bs) := fun a out => by
  rw [byte_setBytes_ne _ _ _ _ (by by_contra inside; exact out (room a (by omega) (by omega))), h a out]

/-- A row whose answer differs outside `R` in no byte. -/
theorem leaves {c : Instr} (row : exec c s = answer s u) (h : Stores R s u) : Leaves c s fun t => ∀ a, ¬R a → t.byte a = s.byte a :=
  leaves_of row (h.mem (State.MemIs.frame ⟨rfl⟩))

end Stores

/-- Storing bytes changes memory alone. -/
theorem setBytes_rest (bs : List Byte) (a : Nat) : s.setBytes a bs = { s with mem := (s.setBytes a bs).mem } := by
  induction bs generalizing s a with
  | nil => rfl
  | cons b bs ih => rw [State.setBytes, ih]; rfl

theorem setBytes_regs {a : Nat} {bs : List Byte} : (s.setBytes a bs).regs = s.regs := by rw [setBytes_rest]

theorem setBytes_net {a : Nat} {bs : List Byte} : (s.setBytes a bs).net = s.net := by rw [setBytes_rest]

theorem length_bytesOf (w : Word) : (bytesOf w).length = 4 := rfl

/-! ### The words of a descriptor ring -/

/-- The words that a halt of a channel and the counters of completions change. -/
def HaltWords (k : Nat) : Prop := k = rk 0x23 0x50 ∨ ∃ c < 8, k = rk 0x22 (dmaOff c 0x18)

theorem not_haltWords_ring {c o : Nat} (hc : c < 8) (ho : o < 0x14) : ¬HaltWords (rk 0x22 (dmaOff c o)) := by
  rintro (h | ⟨d, hd, h⟩)
  all_goals
    unfold rk dmaOff at h
    omega

theorem not_haltWords_link : ¬HaltWords (rk 0x23 0x44) := by
  rintro (h | ⟨d, hd, h⟩)
  · exact absurd h (by decide)
  · unfold rk dmaOff at h
    omega

theorem descMem_of_words {c : Nat} (same : ∀ o < 0x14, t.dmaWord c o = s.dmaWord c o) : t.descMem c = s.descMem c := by
  have ring : t.ringHost c = s.ringHost c := by rw [State.ringHost, same 0 (by decide), State.ringHost]
  have head : t.dmaHead c = s.dmaHead c := by
    rw [State.dmaHead, State.rf, ← State.dmaWord, same 0xC (by decide)]
    rfl
  rw [State.descMem, ring, State.descAddr, same 0 (by decide), same 4 (by decide), same 8 (by decide), head]
  rfl

theorem descMem_congr {c : Nat} (regs : t.regs = s.regs) : t.descMem c = s.descMem c :=
  descMem_of_words fun _ _ => rd_congr regs _ _

theorem descMem_sameBut {c : Nat} (hc : c < 8) (same : SameBut HaltWords s t) : t.descMem c = s.descMem c :=
  descMem_of_words fun o ho =>
    same.rd (by decide) (by unfold dmaOff; omega) (by unfold dmaOff; omega) (not_haltWords_ring hc ho)

/-! ### Halts -/

/-- Word 7 of the descriptor of channel `c`. -/
def WrittenBack (s : State) (c a : Nat) : Prop := s.descMem c + 28 ≤ a ∧ a < s.descMem c + 32

/-- Word 7 of the descriptor takes in the result. -/
theorem Stores.dmaBack {c err n : Nat} (h : Stores R s t) (ring : t.descMem c = s.descMem c) (room : ∀ a, WrittenBack s c a → R a) :
    Stores R s (t.dmaBack c err n) :=
  h.setBytes fun a lo hi => room a ⟨ring ▸ lo, by rw [length_bytesOf, ring] at hi; omega⟩

/-- Channels halt at most, on the descriptors of `s`. -/
structure Halts (R : Nat → Prop) (s t : State) : Prop extends SameBut HaltWords s t where
  stores : Stores R s t

namespace Halts

theorem refl : Halts R s s := ⟨.refl, .refl⟩

/-- The channel's STAT says that it halts, and why. -/
theorem halted {c err : Nat} {p0 p1 p2 : Word} (h : Halts R s t) (hc : c < 8) :
    Halts R s (((t.setDma c 3).wrFld 0x22 (dmaOff c 0x18) 8 4 err).raise 223 p0 p1 p2) :=
  have stat : HaltWords (rk 0x22 (dmaOff c 0x18)) := .inr ⟨c, hc, rfl⟩
  have halts : SameBut HaltWords s (t.setDma c 3) := h.toSameBut.wrFld stat
  ⟨(halts.wrFld stat).raise, h.stores.mem (.raise (.wrFld (.wrFld ⟨rfl⟩)))⟩

theorem dmaHalt {c err : Nat} (h : Halts R s t) (hc : c < 8) (room : ∀ a, WrittenBack s c a → R a) : Halts R s (t.dmaHalt c err) := by
  unfold State.dmaHalt
  refine halted ?_ hc
  unfold State.when
  split
  · have back : Halts R s (t.dmaBack c err (fld (Config.freeWord t.freeIx) 0 24)) :=
      ⟨h.toSameBut.regs setBytes_regs, h.stores.dmaBack (descMem_sameBut hc h.toSameBut) room⟩
    exact ⟨back.toSameBut.regs (draw_regs _), back.stores.mem (State.MemIs.draw ⟨rfl⟩)⟩
  · exact h

end Halts

/-! ### The PCIe link -/

/-- While the link is down a message waits. -/
theorem State.MemIs.msixRaise_down {v : Nat} {m : List Host.Cell} (h : s.MemIs m) (down : s.rb 0x23 0x44 0 = false) :
    (s.msixRaise v).MemIs m := by
  rw [State.msixRaise, down, Bool.not_false, Bool.or_true, if_pos rfl]
  exact h.frame

/-- A message stores its word at its vector's address. -/
theorem Stores.msixRaise {v : Nat} (h : Stores R s t) (room : ∀ a, hostMem (t.vec v).addr ≤ a → a < hostMem (t.vec v).addr + 4 → R a) :
    Stores R s (t.msixRaise v) :=
  .ite (h.mem (State.MemIs.frame ⟨rfl⟩)) ((h.setBytes fun a lo hi => room a lo (by rwa [length_bytesOf] at hi)).mem (State.MemIs.frame ⟨rfl⟩))

theorem State.MemIs.setPcieLink {w : Nat} {m : List Host.Cell} (h : s.MemIs m) : (s.setPcieLink w).MemIs m := h.wr.draw

theorem setPcieLink_rd {w p o : Nat} (h : rk 0x23 0x44 ≠ rk p o) : (s.setPcieLink w).rd p o = s.rd p o :=
  rd_wr_ne _ _ _ _ _ _ h

theorem setPcieLink_net {w : Nat} : (s.setPcieLink w).net = s.net :=
  (onlyRegsInlet_wr s 0x23 0x44 (w32 (w + 0x100 * fld (Config.freeWord s.freeIx) 0 8))).net_eq

theorem setPcieLink_zero_down : (s.setPcieLink 0).rb 0x23 0x44 0 = false := by
  have word : (s.setPcieLink 0).rd 0x23 0x44 = w32 (0 + 0x100 * fld (Config.freeWord s.freeIx) 0 8) := rd_wr_self _ _ _ _
  rw [State.rb, word, Nat.zero_add, bit, w32, BitVec.getLsbD_ofNat]
  simp [Nat.testBit, Nat.mul_mod]

theorem setPcieLink_descMem {w c : Nat} (hc : c < 8) : (s.setPcieLink w).descMem c = s.descMem c :=
  descMem_of_words fun o ho => setPcieLink_rd (by unfold rk dmaOff; omega)

/-- The loss of the link ends what moves over PCIe. -/
theorem pcieDown_stores : Stores (fun a => ∃ c : Fin 8, WrittenBack s c.val a) s s.pcieDown := by
  unfold State.pcieDown
  extract_lets hit ended
  have down : Stores (fun a => ∃ c : Fin 8, WrittenBack s c.val a) s (s.setPcieLink 0) := Stores.refl.mem (State.MemIs.setPcieLink ⟨rfl⟩)
  have halts : Halts (fun a => ∃ c : Fin 8, WrittenBack s c.val a) (s.setPcieLink 0) ended :=
    List.foldlRecOn hit _ .refl fun t h c hit =>
      have hc : c < 8 := List.mem_range.1 (List.mem_filter.1 hit).1
      h.dmaHalt hc fun a back => ⟨⟨c, hc⟩, by rwa [WrittenBack, setPcieLink_descMem hc] at back⟩
  have stays : (ended.raise 224 0 0 0).rb 0x23 0x44 0 = false := by
    rw [halts.toSameBut.raise.rb (hq := not_haltWords_link)]
    exact setPcieLink_zero_down
  exact .ite .refl (Stores.mem (fun a out => (halts.stores a out).trans (down a out)) (.msixRaise_down (.raise ⟨rfl⟩) stays))

theorem pcieLinkUp_stores {gen width : Nat} :
    Stores (fun a => hostMem (s.vec 8).addr ≤ a ∧ a < hostMem (s.vec 8).addr + 4) s (s.pcieLinkUp gen width) := by
  unfold State.pcieLinkUp
  extract_lets up
  have net : (up.raise 224 1 (up.rd 0x23 0x44) 0).net = s.net := by
    rw [(onlyRegsInlet_raise ..).net_eq]
    exact setPcieLink_net
  have vec : (up.raise 224 1 (up.rd 0x23 0x44) 0).vec 8 = s.vec 8 := by rw [State.vec, net, State.vec]
  exact .ite .refl (.msixRaise (Stores.refl.mem (.raise (.setPcieLink ⟨rfl⟩))) fun a lo hi => by rw [vec] at lo hi; exact ⟨lo, hi⟩)

/-! ### A descriptor -/

/-- What the source gives is taken from queues that are no registers, no vectors and no memory. -/
structure OnlyTaken (s t : State) : Prop where
  regs : t.regs = s.regs
  msix : t.net.msix = s.net.msix
  mem : t.mem = s.mem

namespace OnlyTaken

theorem trans (h : OnlyTaken s t) (g : OnlyTaken t u) : OnlyTaken s u :=
  ⟨g.regs.trans h.regs, g.msix.trans h.msix, g.mem.trans h.mem⟩

theorem fetchRec {e : Export} : OnlyTaken s (s.fetchRec e).1 := by
  unfold State.fetchRec
  extract_lets lost
  cases lost with
  | nil => cases e.recs <;> exact ⟨rfl, rfl, rfl⟩
  | cons => exact ⟨rfl, rfl, rfl⟩

theorem expPop : OnlyTaken s s.expPop.1 := by
  unfold State.expPop
  split
  · exact ⟨rfl, rfl, rfl⟩
  · next e _ =>
    have fetched : OnlyTaken s (if e.words.isEmpty then s.fetchRec e else (s, e.words, e.recs)).1 := by
      split
      · exact fetchRec
      · exact ⟨rfl, rfl, rfl⟩
    generalize (if e.words.isEmpty then s.fetchRec e else (s, e.words, e.recs)) = next at fetched ⊢
    obtain ⟨t, words, recs⟩ := next
    cases words <;> exact fetched.trans ⟨rfl, rfl, rfl⟩

theorem popWords (n : Nat) : OnlyTaken s (s.popWords n).1 := by
  induction n generalizing s with
  | zero => exact ⟨rfl, rfl, rfl⟩
  | succ n ih => exact expPop.trans ih

theorem dmaSource {d : List Word} {given : List Byte} : OnlyTaken s (s.dmaSource d given).1 := by
  unfold State.dmaSource
  extract_lets n q f
  split_ifs
  · exact ⟨rfl, rfl, rfl⟩
  · exact ⟨rfl, rfl, rfl⟩
  · exact ⟨rfl, rfl, rfl⟩
  · exact popWords _
  · exact ⟨rfl, rfl, rfl⟩
  · exact ⟨rfl, rfl, rfl⟩

end OnlyTaken

/-- The source gives LEN bytes at most. -/
theorem dmaSource_length {d : List Word} {given : List Byte} : (s.dmaSource d given).2.1.length ≤ dLen d := by
  unfold State.dmaSource
  extract_lets n q f
  split_ifs
  · simp [State.bytes, n]
  · simp [State.bytes, n]
  · exact List.length_take_le ..
  · exact List.length_take_le ..
  · exact List.length_take_le ..
  · exact List.length_take_le ..

/-- Where a descriptor `d` of channel `c` stores: its data, word 7, and the message that it asks for. -/
def DescriptorBytes (s : State) (c : Nat) (d : List Word) (a : Nat) : Prop :=
  WrittenBack s c a ∨ (∃ base, dmaTarget d = some base ∧ base ≤ a ∧ a < base + dLen d) ∨
    (bit (d.getD 5 0) 0 = true ∧ hostMem (s.vec c).addr ≤ a ∧ a < hostMem (s.vec c).addr + 4)

theorem dmaDest_rest {c : Nat} {d : List Word} {bs : List Byte} :
    (s.dmaDest c d bs).regs = s.regs ∧ (s.dmaDest c d bs).net.msix = s.net.msix := by
  unfold State.dmaDest
  extract_lets q f
  split_ifs
  · exact ⟨setBytes_regs, by rw [setBytes_net]⟩
  · exact ⟨setBytes_regs, by rw [setBytes_net]⟩
  · exact ⟨setBytes_regs, by rw [setBytes_net]⟩
  · exact ⟨rfl, rfl⟩
  · exact ⟨rfl, rfl⟩

/-- The data go where the descriptor says. -/
theorem Stores.dmaDest {c : Nat} {d : List Word} {bs : List Byte} (h : Stores R s t) (len : bs.length ≤ dLen d)
    (room : ∀ a base, dmaTarget d = some base → base ≤ a → a < base + dLen d → R a) : Stores R s (t.dmaDest c d bs) := by
  unfold State.dmaDest
  extract_lets q f
  have stored : ∀ base, dmaTarget d = some base → Stores R s (t.setBytes base bs) := fun base target =>
    h.setBytes fun a lo hi => room a base target lo (by omega)
  split_ifs with sram host net chained
  · exact stored _ (by rw [dmaTarget, if_pos sram])
  · exact stored _ (by rw [dmaTarget, if_neg sram, if_pos host])
  · exact stored _ (by rw [dmaTarget, if_neg sram, if_neg host, if_pos net])
  · exact h.mem (State.MemIs.frame ⟨rfl⟩)
  · exact h.mem (State.MemIs.frame ⟨rfl⟩)

/-- The channel's HEAD, counter and STAT after a descriptor. -/
def State.dmaCounted (s : State) (c : Nat) (cut : Bool) : State :=
  ((s.when cut (fun t => t.wrFld 0x22 (dmaOff c 0x18) 8 4 5)).dmaAdvance c).inc32 0x22 (dmaOff c 0x1C)

theorem onlyRegsInlet_dmaCounted {c : Nat} {cut : Bool} : OnlyRegsInlet s (s.dmaCounted c cut) := by
  have told : OnlyRegsInlet s (s.when cut fun t => t.wrFld 0x22 (dmaOff c 0x18) 8 4 5) := by
    unfold State.when
    split
    · exact onlyRegsInlet_wrFld ..
    · exact OnlyRegsInlet.rfl' s
  exact (told.trans' (onlyRegsInlet_wrFld ..)).trans' (onlyRegsInlet_wr ..)

theorem State.MemIs.dmaFollow {c : Nat} {m : List Host.Cell} (h : s.MemIs m) : (s.dmaFollow c).MemIs m :=
  .ite h.wrFld (.ite h.wrFld h)

/-- What follows the data of a descriptor stores word 7 and the message. -/
theorem descriptor_stores {c : Nat} {d : List Word} {bs : List Byte} {cut : Bool} (only : OnlyTaken s t) (len : bs.length ≤ dLen d) :
    Stores (DescriptorBytes s c d) s
      (((((t.dmaDest c d bs).dmaBack c (if cut then 5 else 0) bs.length).dmaCounted c cut).when (bit (d.getD 5 0) 0) fun t =>
        (t.raise 222 (w32 c) (d.getD 6 0) 0).msixRaise c).dmaFollow c) := by
  obtain ⟨regs, msix⟩ : (t.dmaDest c d bs).regs = t.regs ∧ (t.dmaDest c d bs).net.msix = t.net.msix := dmaDest_rest
  have data : Stores (DescriptorBytes s c d) s (t.dmaDest c d bs) :=
    (Stores.refl.mem ⟨only.mem⟩).dmaDest len fun a base target lo hi => .inr (.inl ⟨base, target, lo, hi⟩)
  generalize t.dmaDest c d bs = moved at regs msix data ⊢
  have word7 : Stores (DescriptorBytes s c d) s (moved.dmaBack c (if cut then 5 else 0) bs.length) :=
    data.dmaBack (descMem_congr (regs.trans only.regs)) fun _ => .inl
  have net : (moved.dmaBack c (if cut then 5 else 0) bs.length).net = moved.net := setBytes_net
  generalize moved.dmaBack c (if cut then 5 else 0) bs.length = written at word7 net ⊢
  have counted : Stores (DescriptorBytes s c d) s (written.dmaCounted c cut) := word7.mem ⟨onlyRegsInlet_dmaCounted.mem_eq⟩
  have vec : ((written.dmaCounted c cut).raise 222 (w32 c) (d.getD 6 0) 0).vec c = s.vec c := by
    rw [State.vec, (onlyRegsInlet_raise ..).net_eq, onlyRegsInlet_dmaCounted.net_eq, net, msix, only.msix, State.vec]
  refine Stores.mem ?_ (State.MemIs.dmaFollow ⟨rfl⟩)
  unfold State.when
  split
  · next asks => exact (counted.mem (.raise ⟨rfl⟩)).msixRaise fun a lo hi => .inr (.inr ⟨asks, vec ▸ lo, vec ▸ hi⟩)
  · exact counted

theorem dmaDone_stores {c met : Nat} {host : List Word} {given : List Byte} (hc : c < 8) :
    Stores (DescriptorBytes s c (s.descWords c host)) s (s.dmaDone c host given met) := by
  have back : ∀ a, WrittenBack s c a → DescriptorBytes s c (s.descWords c host) a := fun _ => .inl
  unfold State.dmaDone
  extract_lets d err
  refine .ite .refl (.ite (Halts.dmaHalt ?_ hc back).stores (.ite (Halts.dmaHalt .refl hc back).stores (.ite .refl ?_)))
  · exact ⟨SameBut.refl.wr (.inl rfl), Stores.refl.mem (.sat16 ⟨rfl⟩)⟩
  · have only : OnlyTaken s (s.dmaSource d given).1 := .dmaSource
    have len : (s.dmaSource d given).2.1.length ≤ dLen d := dmaSource_length
    generalize s.dmaSource d given = source at only len ⊢
    obtain ⟨t, bs, cut⟩ := source
    exact descriptor_stores only len

/-- A write through BAR2 stores into the bytes that it addresses (R376). -/
theorem pcieInbound_barSram_stores {addr n : Nat} {ws : List Word} :
    Stores (fun a => sramMem addr ≤ a ∧ a < sramMem addr + n) s (s.pcieInbound .barSram addr n (some ws)) := by
  refine .ite .refl (.ite .refl (.ite (Stores.refl.setBytes fun a lo hi => ⟨lo, ?_⟩) (Stores.refl.mem (.sat16 ⟨rfl⟩))))
  have len : ((wordsBytes ws).take n).length ≤ n := List.length_take_le ..
  omega

end Sys2Proof.Machine
end

section
set_option Elab.async false -- one proof after the other: each further worker thread takes its stack from the check's memory
open Sys2Proof Sys2Proof.Machine

/-- Settles O59: the rows that store nothing leave the cells of memory as they were; each of the others stores where `Stores` says. -/
theorem memoryFrame : Obligations.MemoryFrame := by
  unfold Obligations.MemoryFrame
  refine ⟨fun c s row => State.MemIs.leaves_storesNothing row, fun ch host given met s => ?_, fun gen width s => ?_, fun ch s => ?_, fun s => ?_,
    fun addr n ws s _ => ?_⟩
  · intro t ran a word7 data message
    refine Stores.leaves (R := DescriptorBytes s ch.val (s.descWords ch.val host)) rfl (.ite (dmaDone_stores ch.isLt) .refl) t ran a ?_
    rintro (back | ⟨base, target, lo, hi⟩ | ⟨asks, lo, hi⟩)
    · exact word7 back
    · exact data base target ⟨lo, hi⟩
    · exact message asks ⟨lo, hi⟩
  · exact Stores.leaves rfl pcieLinkUp_stores
  · have counted : Halts (WrittenBack s ch.val) s (s.sat16hi 0x23 0x50) :=
      ⟨SameBut.refl.wr (.inl rfl), Stores.refl.mem (.sat16hi ⟨rfl⟩)⟩
    exact Stores.leaves rfl (.ite .refl (counted.dmaHalt ch.isLt fun _ => id).stores)
  · intro t ran a word7
    exact Stores.leaves rfl pcieDown_stores t ran a fun ⟨ch, back⟩ => word7 ch back
  · exact Stores.leaves rfl (pcieInbound_barSram_stores.mem (.reintFollow ⟨rfl⟩))
end
